-- ==== Sys2Proof/Word.lean ====
section
/-! DEFINITION. The 16-bit word of the exchange memory and of the host port (R155, R172), and its plainest arithmetic. -/
namespace Sys2Proof

/-- One word of exchange memory: every host access is a whole 16-bit word (R155). -/
abbrev Word := BitVec 16

/-- An unsigned 16-bit field (R172). -/
def word (n : Nat) : Word := BitVec.ofNat 16 n

/-- A signed field: two's complement (R172). -/
def signedWord (i : Int) : Word := BitVec.ofInt 16 i

/-- The low half of a 32-bit quantity, which lies at the lower offset (R172). -/
def lowHalf (c : BitVec 32) : Word := c.extractLsb' 0 16

/-- The high half of a 32-bit quantity (R172). -/
def highHalf (c : BitVec 32) : Word := c.extractLsb' 16 16

/-- A packed word: the field named low in bits 0 to 7, the field named high in bits 8 to 15 (R172). -/
def packed (low high : Nat) : Word := word (low % 256 + 256 * (high % 256))

end Sys2Proof
end

