-- ==== Sys2Proof/Config.lean ====
section
/-! DEFINITION. What an implementation fixes, and the values the manual leaves open (free values: constants without a body). -/
namespace Sys2Proof

/-- FREE VALUE. What a word of an EEPROM page reads as while the internal write of that page has not ended
(R165, R169 and R171 say nothing about such a read): nothing constrains it. The first argument is the counter
`State.freeReads`, fresh at every image read, the second the EEPROM word address. Log entry 10. -/
opaque Config.eepromWordInFlight : Nat → Nat → Word

/-- Words of exchange memory (R155). -/
def Config.xmemWords : Nat := 8192

/-- Words of the 8 KiB serial EEPROM (chapter 11). -/
def Config.eepromWords : Nat := 4096

end Sys2Proof
end

