-- ==== Sys2Proof/Syntax.lean ====
section
/-! DEFINITION. The commands of the controller: one constructor of `Instr` per row of spec/opcode_table.json, and the names their operands use. -/
namespace Sys2Proof

/-- The two causes of a cold reset: power-on, and a low level on RESET# (00_scope.md, Resets). -/
inductive ResetCause where
  | powerOn
  | pinLow
  deriving DecidableEq, Repr

/-- A host-port address whose writes are ignored: IDENT (8192), STATE (8193), or the word address 8199 + n (R155, R157). -/
inductive IgnoredAddress where
  | ident
  | state
  | above (n : Nat)
  deriving DecidableEq, Repr

/-- The word address an `IgnoredAddress` stands for (R157). -/
def IgnoredAddress.address : IgnoredAddress → Nat
  | .ident => 8192
  | .state => 8193
  | .above n => 8199 + n

/-- The eight parameter words of an order slot (section 12.2). -/
structure Params where
  p0 : Word
  p1 : Word
  p2 : Word
  p3 : Word
  p4 : Word
  p5 : Word
  p6 : Word
  p7 : Word
  deriving DecidableEq, Repr

/-- An order as the order unit reads it once, at the take (R144, R146): notify, tag and the eight params. -/
structure Order where
  notify : BitVec 8
  tag : Word
  par : Params
  deriving DecidableEq, Repr

/-- The two wheel channels of the governor (R40). -/
inductive Wheel where
  | a
  | b
  deriving DecidableEq, Repr

/-- The three arm records (chapter 4). -/
inductive Arm where
  | left
  | right
  | main
  deriving DecidableEq, Repr

/-- The side arms: those with a swing sensor (chapter 4). -/
inductive Side where
  | left
  | right
  deriving DecidableEq, Repr

/-- The arm record of a side arm. -/
def Side.arm : Side → Arm
  | .left => .left
  | .right => .right

/-- The ten capture channels (section 8.1). -/
inductive Channel where
  | wheelA
  | wheelB
  | engine
  | lBrush
  | rBrush
  | mBrush
  | flow
  | lSwing
  | rSwing
  | tank
  deriving DecidableEq, Repr

/-- The eight debounced inputs (section 8.3). -/
inductive Input where
  | lUp
  | rUp
  | mUp
  | lDown
  | rDown
  | mDown
  | operator
  | wp
  deriving DecidableEq, Repr

/-- The nine PWM outputs (section 8.2). -/
inductive PwmOut where
  | travelFwd
  | travelRev
  | lPress
  | rPress
  | mPress
  | lMotor
  | rMotor
  | mMotor
  | waterPump
  deriving DecidableEq, Repr

/-- The commands: one constructor per row of spec/opcode_table.json, in the table's order. `us` is the instant of a
capture event, in µs after the last millisecond (log entry 12); an `Order` operand is the order as read at the take
(log entry 3). -/
inductive Instr where
  /-- COLD_RESET (R21) -/
  | coldReset (cause : ResetCause)
  /-- RESTART (R22, R159): a host write to word 8197 -/
  | restart (value : Word)
  /-- WAKE (R17, R159): a host write to word 8198 -/
  | wake (value : Word)
  /-- CHECK (R158): a host write to word 8196 -/
  | check (value : Word)
  /-- INT_PENDING (R157): a host write to word 8194 -/
  | intPending (value : Word)
  /-- INT_ENABLE (R157): a host write to word 8195 -/
  | intEnable (value : Word)
  /-- IGNORED_REGISTER_WRITE (R157) -/
  | ignoredRegisterWrite (address : IgnoredAddress) (value : Word)
  /-- HOST_MEMORY_WRITE (R155): word address 0 to 8191 -/
  | hostMemoryWrite (address : BitVec 13) (value : Word)
  /-- STRIP_SCAN_EXPIRY (R145) -/
  | stripScanExpiry
  /-- REFUSED_KIND (R146): a taken slot whose kind code is not in the table -/
  | refusedKind (kind : BitVec 8) (order : Order)
  /-- SELECT_PROFILE (R18): p0 index -/
  | selectProfile (order : Order)
  /-- ENGAGE (R6) -/
  | engage (order : Order)
  /-- DISENGAGE (R13) -/
  | disengage (order : Order)
  /-- PARK (R15) -/
  | park (order : Order)
  /-- SET_PACE (R47): p0 speed, p1 direction, p2 wait flag, p3 timeout -/
  | setPace (order : Order)
  /-- STOP (R49) -/
  | stop (order : Order)
  /-- SET_ARM (R84): p0 arm, p1 requested state -/
  | setArm (order : Order)
  /-- SET_WATER (R106): p0 dose mode, p1 dose, p2 mask-valid flag, p3 mask -/
  | setWater (order : Order)
  /-- CLEAR_FAULT (R126): p0 which, p1 clear-exclusions flag -/
  | clearFault (order : Order)
  /-- CANCEL (R151): p0 tag -/
  | cancel (order : Order)
  /-- SET_TRACE (R162): p0 enable, p1 source, p2 interval -/
  | setTrace (order : Order)
  /-- LOAD_CALIBRATION (R168) -/
  | loadCalibration (order : Order)
  /-- STORE_CALIBRATION (R169) -/
  | storeCalibration (order : Order)
  /-- FETCH_CALIBRATION (R170) -/
  | fetchCalibration (order : Order)
  /-- STARTUP_LOAD_DONE (R167) -/
  | startupLoadDone
  /-- STORE_PAGE_TRANSFER_DONE (R169) -/
  | storePageTransferDone
  /-- STORE_PAGE_READY (R169) -/
  | storePageReady
  /-- STORE_PAGE_TIMEOUT (R169) -/
  | storePageTimeout
  /-- FETCH_READ_DONE (R170) -/
  | fetchReadDone
  /-- MODE_CHECK (R1) -/
  | modeCheck
  /-- SETTLE_TIMER_EXPIRY (R10) -/
  | settleTimerExpiry
  /-- ENGAGE_BUDGET_EXPIRY (R11) -/
  | engageBudgetExpiry
  /-- TRAVEL_STEP (R39) -/
  | travelStep
  /-- WHEEL_DISAGREE_TIMEOUT (R41) -/
  | wheelDisagreeTimeout
  /-- WHEEL_LOSS_TIMEOUT (R42) -/
  | wheelLossTimeout (wheel : Wheel)
  /-- WHEEL_READMISSION (R43) -/
  | wheelReadmission (wheel : Wheel)
  /-- WHEEL_SILENCE_TIMEOUT (R44) -/
  | wheelSilenceTimeout
  /-- NEUTRAL_DWELL_ELAPSED (R52) -/
  | neutralDwellElapsed
  /-- OVERSPEED_TIMEOUT (R58) -/
  | overspeedTimeout
  /-- OPERATOR_ABSENT_TIMEOUT (R59) -/
  | operatorAbsentTimeout
  /-- PACE_ARRIVAL (R48) -/
  | paceArrival
  /-- PACE_TIMEOUT (R48) -/
  | paceTimeout
  /-- STOP_TIMEOUT (R49) -/
  | stopTimeout
  /-- ARM_STEP (R63) -/
  | armStep
  /-- ARM_STUCK_TIMEOUT (R82) -/
  | armStuckTimeout (arm : Arm)
  /-- ANGLE_LOSS_TIMEOUT (R80) -/
  | angleLossTimeout (side : Side)
  /-- DEFLECT_LONG_TIMEOUT (R67) -/
  | deflectLongTimeout (side : Side)
  /-- DEFLECT_RETURN (R67) -/
  | deflectReturn (side : Side)
  /-- HOVER_REACHED (R68) -/
  | hoverReached (side : Side)
  /-- SPIN_UP_COMPLETE (R76) -/
  | spinUpComplete (arm : Arm)
  /-- BRUSH_STALL_TIMEOUT (R78) -/
  | brushStallTimeout (arm : Arm)
  /-- BRUSH_SILENCE_TIMEOUT (R79) -/
  | brushSilenceTimeout (arm : Arm)
  /-- OUT_RAISE_END (R71) -/
  | outRaiseEnd (arm : Arm)
  /-- SET_ARM_TIMEOUT (R85) -/
  | setArmTimeout (arm : Arm)
  /-- WATER_STEP (R90) -/
  | waterStep
  /-- PRIME_HELD (R96) -/
  | primeHeld
  /-- PRIME_TIMEOUT (R96) -/
  | primeTimeout
  /-- DRY_RUN_TIMEOUT (R103) -/
  | dryRunTimeout
  /-- FLOW_LOSS_TIMEOUT (R102) -/
  | flowLossTimeout
  /-- TANK_LOSS_TIMEOUT (R105) -/
  | tankLossTimeout
  /-- LOAD_STEP (R109) -/
  | loadStep
  /-- FLOOR_TIMER_EXPIRY (R113) -/
  | floorTimerExpiry
  /-- RECOVERY_TIMER_EXPIRY (R113) -/
  | recoveryTimerExpiry
  /-- ENGINE_LOSS_TIMEOUT (R114) -/
  | engineLossTimeout
  /-- HOST_CHECK_EXPIRY (R158) -/
  | hostCheckExpiry
  /-- STATUS_PUBLICATION (R160) -/
  | statusPublication
  /-- TRACE_PERIOD_EXPIRY (R140) -/
  | tracePeriodExpiry
  /-- CAPTURE_RAW_CHANGE (R132): the raw level after the change, and its instant -/
  | captureRawChange (channel : Channel) (level : Bool) (us : Nat)
  /-- CAPTURE_EDGE_ACCEPTED (R132, R133): judged at the instant `us` -/
  | captureEdgeAccepted (channel : Channel) (us : Nat)
  /-- CAPTURE_TIMEOUT (R133): judged at the instant `us` -/
  | captureTimeout (channel : Channel) (us : Nat)
  /-- DEBOUNCE_RAW_CHANGE (R137): the raw level after the change -/
  | debounceRawChange (input : Input) (level : Bool)
  /-- DEBOUNCE_SETTLED (R137) -/
  | debounceSettled (input : Input)
  /-- PWM_PERIOD_START (R135) -/
  | pwmPeriodStart (output : PwmOut)
  /-- RESET_RELEASE (R21) -/
  | resetRelease
  deriving DecidableEq, Repr

end Sys2Proof
end

