-- ==== Sys2Proof/WellFormed.lean ====
section
/-! DEFINITION. Which terms of `Instr` spell a command: the address range of an ignored write, the kind codes that are unknown, and an instant within one millisecond. -/
namespace Sys2Proof

/-- An ignored address that the fourteen address lines ADDR1 to ADDR14 can carry (section 12.9): at most 16383. -/
def IgnoredAddress.wf (a : IgnoredAddress) : Bool := decide (a.address < 16384)

/-- A kind code the dispatch table of R146 does not hold. -/
def unknownKind (k : BitVec 8) : Bool := k.toNat == 0 || decide (14 < k.toNat)

/-- An instant after the last millisecond and before the next. -/
def instantWf (us : Nat) : Bool := decide (us < 1000)

/-- The terms that are commands. -/
def Instr.wf : Instr → Bool
  | .ignoredRegisterWrite a _ => a.wf
  | .refusedKind k _ => unknownKind k
  | .captureRawChange _ _ us => instantWf us
  | .captureEdgeAccepted _ us => instantWf us
  | .captureTimeout _ us => instantWf us
  | _ => true

end Sys2Proof
end

