-- ==== Sys2Proof/Decode.lean ====
section
/-! DEFINITION. The command that a word spells by the bits of spec/opcode_table.json. Every row of that table has an empty list of fields and no fixed bits: commands reach this controller through its registers, its slots, its pins and its timers, and no word spells one. -/
namespace Sys2Proof

/-- No row of the opcode table gives bits, so no word of any length spells a command. -/
def decodeTableWord (_nbits _w : Nat) : Option Instr := none

end Sys2Proof
end

