-- ==== Sys2Proof/Machine/Types.lean ====
section
/-! DEFINITION. The named values and the records of every block: modes, states, codes (chapters 1 to 11). Plain data. -/
namespace Sys2Proof.Machine

/-! ### Timers -/

/-- A timer that follows a condition (R1, R39, R63, R90, R109): `none` is "clear", `some t` has counted t ms since the
first step at which the condition held. Log entry 14. -/
abbrev Timer := Option Nat

/-! ### Mode controller (chapter 1) -/

/-- The seven modes (section 1.1). -/
inductive Mode where
  | starting
  | transport
  | engaging
  | sweeping
  | disengaging
  | safe
  | parked
  deriving DecidableEq, Repr

/-- The mode code (section 1.1). -/
def Mode.code : Mode → Nat
  | .starting => 0
  | .transport => 1
  | .engaging => 2
  | .sweeping => 3
  | .disengaging => 4
  | .safe => 5
  | .parked => 6

/-- The engage phase (section 1.1). -/
inductive Phase where
  | none
  | slowing
  | priming
  | lowering
  | settling
  deriving DecidableEq, Repr

/-- The engage phase code (section 1.1). -/
def Phase.code : Phase → Nat
  | .none => 0
  | .slowing => 1
  | .priming => 2
  | .lowering => 3
  | .settling => 4

/-- Progress of a wake (section 1.1, R17). -/
inductive WakeState where
  | none
  | dormant
  | waking
  deriving DecidableEq, Repr

/-- A set of arms: the commanded arm set (R9). -/
structure ArmSet where
  left : Bool
  right : Bool
  main : Bool
  deriving DecidableEq, Repr

/-- The active profile: the nineteen fields of section 1.6, arms_selected as its two flags. -/
structure Profile where
  transportMax : Nat
  sweepMax : Nat
  engageLimit : Nat
  limpSpeed : Nat
  dryCrawl : Nat
  accel : Nat
  decel : Nat
  emergencyDecel : Nat
  dose : Nat
  sprayMinSpeed : Nat
  selectLeft : Bool
  selectRight : Bool
  downPressureL : Nat
  downPressureR : Nat
  downPressureM : Nat
  brushSpeedL : Nat
  brushSpeedR : Nat
  brushSpeedM : Nat
  ratedEngineSpeed : Nat
  hostCheckWindow : Nat
  deriving DecidableEq, Repr

/-- The mode controller's state (section 1.1). `startupComplete` is the STATE register's bit 3 (R173). -/
structure ModeControl where
  mode : Mode
  reason : Nat
  phase : Phase
  commanded : ArmSet
  settle : Timer
  budget : Nat
  haltLatch : Bool
  safeStopped : Bool
  wake : WakeState
  wakeTime : BitVec 32
  restartPending : Bool
  profile : Profile
  startupComplete : Bool
  deriving DecidableEq, Repr

/-! ### Travel governor (chapter 3) -/

/-- The direction of a pace request (R46, R47). -/
inductive Direction where
  | neutral
  | forward
  | reverse
  deriving DecidableEq, Repr

/-- The sign c had before it last became 0 (R52), and the request sign (R46). -/
inductive Sign where
  | none
  | positive
  | negative
  deriving DecidableEq, Repr

/-- The governor's use of a wheel channel (R40). -/
inductive WheelState where
  | inUse
  | noSignal
  | lost
  deriving DecidableEq, Repr

/-- The wheel channel state code (section 3.1). -/
def WheelState.code : WheelState → Nat
  | .inUse => 0
  | .noSignal => 1
  | .lost => 2

/-- Which value set the target (R34). -/
inductive Limiter where
  | request
  | mode
  | water
  | load
  deriving DecidableEq, Repr

/-- The limiter code (R34). -/
def Limiter.code : Limiter → Nat
  | .request => 0
  | .mode => 1
  | .water => 2
  | .load => 3

/-- The kind of a waiting TRAVEL order (R50). -/
inductive TravelKind where
  | setPace
  | stop
  deriving DecidableEq, Repr

/-- The governor's waiting order (section 3.1); the slot is what its completion notice carries (R149). -/
structure TravelWait where
  kind : TravelKind
  slot : Nat
  tag : Word
  takeTime : BitVec 32
  timeout : Nat
  clampCount : Nat
  arrival : Timer
  deriving DecidableEq, Repr

/-- The governor's state (section 3.1). -/
structure Governor where
  reqSpeed : Nat
  reqDir : Direction
  c : Int
  lastSign : Sign
  dwell : Nat
  reversePending : Bool
  trim : Int
  vAct : Nat
  chanA : WheelState
  chanB : WheelState
  lossA : Timer
  lossB : Timer
  readmitA : Nat
  readmitB : Nat
  disagree : Timer
  silence : Timer
  overspeed : Timer
  operator : Timer
  waiting : Option TravelWait
  vT : Nat
  limiter : Limiter
  vW : Nat
  vL : Nat
  deriving DecidableEq, Repr

/-! ### Fault kinds (chapter 7) -/

/-- The fifteen fault kinds (section 7.1). -/
inductive FaultKind where
  | hostSilent
  | wheelSensorsLost
  | operatorAbsent
  | overspeed
  | engineSpeedLost
  | wheelSensorDisagree
  | armStuck
  | armAngleLost
  | armDeflectLong
  | brushStall
  | waterDry
  | tankSensorLost
  | flowSensorLost
  | tankEmpty
  | calibrationDefaulted
  deriving DecidableEq, Repr

/-- The rank, which is the kind's code (section 7.1). -/
def FaultKind.rank : FaultKind → Nat
  | .hostSilent => 1
  | .wheelSensorsLost => 2
  | .operatorAbsent => 3
  | .overspeed => 4
  | .engineSpeedLost => 5
  | .wheelSensorDisagree => 6
  | .armStuck => 7
  | .armAngleLost => 8
  | .armDeflectLong => 9
  | .brushStall => 10
  | .waterDry => 11
  | .tankSensorLost => 12
  | .flowSensorLost => 13
  | .tankEmpty => 14
  | .calibrationDefaulted => 15

/-- The reaction classes (section 7.1). -/
inductive FaultClass where
  | note
  | derate
  | armOut
  | waterOut
  | stopWork
  | haltTravel
  deriving DecidableEq, Repr

/-- The class code (section 7.1). -/
def FaultClass.code : FaultClass → Nat
  | .note => 0
  | .derate => 1
  | .armOut => 2
  | .waterOut => 3
  | .stopWork => 4
  | .haltTravel => 5

/-- The class of each kind (section 7.1). -/
def FaultKind.cls : FaultKind → FaultClass
  | .hostSilent => .stopWork
  | .wheelSensorsLost => .haltTravel
  | .operatorAbsent => .haltTravel
  | .overspeed => .stopWork
  | .engineSpeedLost => .derate
  | .wheelSensorDisagree => .derate
  | .armStuck => .armOut
  | .armAngleLost => .armOut
  | .armDeflectLong => .armOut
  | .brushStall => .armOut
  | .waterDry => .waterOut
  | .tankSensorLost => .waterOut
  | .flowSensorLost => .derate
  | .tankEmpty => .note
  | .calibrationDefaulted => .note

/-- The two severe kinds: ranks 1 and 2 (R120). -/
def FaultKind.severe : FaultKind → Bool
  | .hostSilent => true
  | .wheelSensorsLost => true
  | _ => false

/-- Where a report comes from: the block code and index of section 7.1. -/
inductive Source where
  | gov (channel : Option Wheel)
  | armc (arm : Arm)
  | watc
  | loadm
  | call
  | host
  deriving DecidableEq, Repr

/-- The arm index (section 7.1). -/
def armIndex : Arm → Nat
  | .left => 0
  | .right => 1
  | .main => 2

/-- The source block code (section 7.1). -/
def Source.block : Source → Nat
  | .gov _ => 1
  | .armc _ => 2
  | .watc => 3
  | .loadm => 4
  | .call => 5
  | .host => 6

/-- The source index; 255 is "none" (section 7.1). -/
def Source.index : Source → Nat
  | .gov (some .a) => 0
  | .gov (some .b) => 1
  | .gov none => 255
  | .armc a => armIndex a
  | _ => 255

/-- A fault report: kind, source and detail (R118). -/
structure Report where
  kind : FaultKind
  source : Source
  detail : Nat
  deriving DecidableEq, Repr

/-- A fault record of eight fields (R119); kind 0 is an empty record (section 12.6). The source is its block code and its index. -/
structure FaultRecord where
  kind : Nat
  cls : Nat
  sourceBlock : Nat
  sourceIndex : Nat
  mode : Nat
  tag : Word
  time : BitVec 32
  vAct : Nat
  detail : Nat
  deriving DecidableEq, Repr

/-- One record with its hold, held count and held bitmap (section 7.2). -/
structure RecordHold where
  record : FaultRecord
  hold : Bool
  count : Nat
  bitmap : BitVec 16
  deriving DecidableEq, Repr

/-- The latched exclusions (section 7.2). -/
structure Exclusions where
  left : Bool
  right : Bool
  main : Bool
  water : Bool
  deriving DecidableEq, Repr

/-- The fault unit's state (section 7.2). `active` has bit k set while kind k is present. -/
structure FaultUnit where
  primary : RecordHold
  severe : RecordHold
  total : Nat
  active : BitVec 16
  exclusions : Exclusions
  deriving DecidableEq, Repr

/-! ### Brush arms (chapter 4) -/

/-- The arm states (section 4.1). -/
inductive ArmState where
  | stowed
  | lowering
  | working
  | deflected
  | lifting
  | hover
  | raising
  | out
  deriving DecidableEq, Repr

/-- The arm state code (section 4.1). -/
def ArmState.code : ArmState → Nat
  | .stowed => 0
  | .lowering => 1
  | .working => 2
  | .deflected => 3
  | .lifting => 4
  | .hover => 5
  | .raising => 6
  | .out => 7

/-- The requested states (section 4.1). -/
inductive ReqState where
  | stowed
  | working
  | hover
  deriving DecidableEq, Repr

/-- The requested state code (section 4.1). -/
def ReqState.code : ReqState → Nat
  | .stowed => 0
  | .working => 2
  | .hover => 5

/-- A waiting SET_ARM (section 4.1); the slot is what its completion notice carries (R149). -/
structure ArmWait where
  slot : Nat
  tag : Word
  takeTime : BitVec 32
  req : ReqState
  deriving DecidableEq, Repr

/-- One arm record (section 4.1), with its published down-pressure duty (R74, R81). -/
structure ArmRecord where
  state : ArmState
  req : ReqState
  stateTimer : Nat
  hover : Timer
  ret : Timer
  deflection : Nat
  swing : Nat
  angleLoss : Timer
  reach : Nat
  target : Nat
  measured : Nat
  trim : Int
  spinUp : Nat
  stall : Timer
  silence : Timer
  cause : Option FaultKind
  causePresent : Bool
  waiting : Option ArmWait
  press : Nat
  deriving DecidableEq, Repr

/-- The arm controller: the three records and the swept width W (R30). -/
structure ArmControl where
  left : ArmRecord
  right : ArmRecord
  main : ArmRecord
  width : Nat
  deriving DecidableEq, Repr

/-! ### Water controller (chapter 5) -/

/-- The prime status (section 5.1). -/
inductive PrimeStatus where
  | idle
  | running
  | primed
  | dry
  deriving DecidableEq, Repr

/-- The water controller's state (section 5.1). -/
structure WaterControl where
  level : Nat
  levelKnown : Bool
  tankEmpty : Bool
  tankLoss : Timer
  waterOut : Bool
  qAvail : Nat
  override : Option Nat
  qDem : Nat
  qCmd : Nat
  qMeas : Nat
  prime : PrimeStatus
  primeTimer : Nat
  primeHold : Timer
  mask : BitVec 8
  openSet : BitVec 8
  trim : Int
  duty : Nat
  dryRun : Timer
  flowLoss : Timer
  flowLossFlag : Bool
  dryReport : Bool
  deriving DecidableEq, Repr

/-! ### Load manager (chapter 6) -/

/-- The load manager's state (section 6.1). -/
structure LoadManager where
  n : Nat
  droop : Nat
  lRaw : Nat
  load : Nat
  scale : Nat
  floor : Timer
  recovery : Timer
  engineLoss : Timer
  engineLossFlag : Bool
  deriving DecidableEq, Repr

/-! ### Timing array (chapter 8) -/

/-- The capture channel states (section 8.1). -/
inductive ChannelState where
  | noSignal
  | acquiring
  | valid
  | outOfRange
  deriving DecidableEq, Repr

/-- One capture channel (section 8.1): state, qualifying count, the instants (µs) of the last accepted rising and falling
edges, and the value; and what the noise filter of R132 needs: the accepted level, the raw level at the pin, and the
instant of the raw change that began it. -/
structure Capture where
  state : ChannelState
  count : Nat
  rise : Nat
  fall : Nat
  value : Nat
  level : Bool
  raw : Bool
  rawTime : Nat
  deriving DecidableEq, Repr

/-- The ten capture channels (section 8.1). -/
structure Captures where
  wheelA : Capture
  wheelB : Capture
  engine : Capture
  lBrush : Capture
  rBrush : Capture
  mBrush : Capture
  flow : Capture
  lSwing : Capture
  rSwing : Capture
  tank : Capture
  deriving DecidableEq, Repr

/-- One debounced input (R137): debounced level, raw level at the pin, stability timer in ms. -/
structure Debounced where
  level : Bool
  raw : Bool
  stable : Nat
  deriving DecidableEq, Repr

/-- The eight debounced inputs (section 8.3). -/
structure Inputs where
  lUp : Debounced
  rUp : Debounced
  mUp : Debounced
  lDown : Debounced
  rDown : Debounced
  mDown : Debounced
  operator : Debounced
  wp : Debounced
  deriving DecidableEq, Repr

/-- One PWM output (R135): the duty last handed to it, the duty of the period in progress, in ‰, and the instant (µs) at which
that period began. -/
structure Pwm where
  held : Nat
  applied : Nat
  start : Nat
  deriving DecidableEq, Repr

/-- The outputs (section 8.2): nine PWM outputs, six valves, and the nozzle groups (bit k drives NOZk). -/
structure Outputs where
  travelFwd : Pwm
  travelRev : Pwm
  lPress : Pwm
  rPress : Pwm
  mPress : Pwm
  lMotor : Pwm
  rMotor : Pwm
  mMotor : Pwm
  waterPump : Pwm
  lRaise : Bool
  lLower : Bool
  rRaise : Bool
  rLower : Bool
  mRaise : Bool
  mLower : Bool
  nozzles : BitVec 8
  deriving DecidableEq, Repr

/-- The source of trace events (R140). -/
inductive TraceSource where
  | period
  | distance
  deriving DecidableEq, Repr

/-- The trace event source (R140): settings, period timer (ms), distance accumulator (µm), pending interval. -/
structure Trace where
  enabled : Bool
  source : TraceSource
  interval : Nat
  periodTimer : Nat
  accumulator : Nat
  pendingInterval : Option Nat
  deriving DecidableEq, Repr

/-- The timing array (chapter 8): the millisecond clock (R138), the instant in µs on which edges are timed (R132), whether
the step timers and whether the strip-scan and publication events run (R139, R142). -/
structure TimingArray where
  clock : BitVec 32
  micros : Nat
  stepsRunning : Bool
  stripRunning : Bool
  captures : Captures
  inputs : Inputs
  outputs : Outputs
  trace : Trace
  deriving DecidableEq, Repr

/-! ### Order unit (chapter 9) -/

/-- The targets of orders (R146). -/
inductive Target where
  | travel
  | armLeft
  | armRight
  | armMain
  | mode
  | store
  deriving DecidableEq, Repr

/-- The target of an arm (R146). -/
def armTarget : Arm → Target
  | .left => .armLeft
  | .right => .armRight
  | .main => .armMain

/-- An open-orders entry (R148), with the notify value and the depth noted at the take (R149). -/
structure Entry where
  slot : Nat
  kind : Nat
  tag : Word
  target : Target
  takeTime : BitVec 32
  params : Params
  notify : BitVec 8
  depth : Nat
  deriving DecidableEq, Repr

/-- The order unit's state (chapter 9). -/
structure OrderUnit where
  cursor : Nat
  entries : List Entry
  orphans : Nat
  stall : Bool
  deriving DecidableEq, Repr

/-- What the order unit notes at a take (R146): the slot, its contents, the take time and the depth. -/
structure Take where
  slot : Nat
  kind : Nat
  order : Order
  time : BitVec 32
  depth : Nat
  deriving DecidableEq, Repr

/-! ### Host port, publisher, trace writer (chapter 10) -/

/-- The host check state (R158). -/
inductive CheckState where
  | disarmed
  | awaitFirst
  | awaitSecond
  deriving DecidableEq, Repr

/-- The host check state code (R158). -/
def CheckState.code : CheckState → Nat
  | .disarmed => 0
  | .awaitFirst => 1
  | .awaitSecond => 2

/-- The interrupt causes (R157), by their bit (R173). -/
inductive Cause where
  | orderDone
  | faultRec
  | severeRec
  | modeChange
  | traceHalf
  | started
  | stripStall
  deriving DecidableEq, Repr

/-- The bit of a cause (R173). -/
def Cause.bit : Cause → BitVec 7
  | .orderDone => 0x01
  | .faultRec => 0x02
  | .severeRec => 0x04
  | .modeChange => 0x08
  | .traceHalf => 0x10
  | .started => 0x20
  | .stripStall => 0x40

/-- The host port (R157, R158): pending and enable sets, host check state, window timer (running while the check is armed)
and the window length in force. -/
structure HostPort where
  pendingSet : BitVec 7
  enableSet : BitVec 7
  check : CheckState
  window : Timer
  windowLength : Nat
  deriving DecidableEq, Repr

/-- The status publisher's head count (R160) and the trace writer's record count (R161). -/
structure Publisher where
  headCount : BitVec 16
  traceCount : BitVec 32
  deriving DecidableEq, Repr

/-! ### Calibration loader and EEPROM (chapter 11) -/

/-- Where the working calibration came from (chapter 11). -/
inductive CalStatus where
  | defaults
  | fromStore
  | fromHost
  deriving DecidableEq, Repr

/-- The calibration status code (chapter 11). -/
def CalStatus.code : CalStatus → Nat
  | .defaults => 0
  | .fromStore => 1
  | .fromHost => 2

/-- What the loader is doing on the SPI link (chapter 11). -/
inductive CalOp where
  | idle
  | loading
  | storing
  | fetching
  deriving DecidableEq, Repr

/-- The loader's state (chapter 11): the working calibration (512 words), its status, the load-done flag, the operation, the
image buffer (515 words), the page index, the page timer (running while a page is polled), the time in ms since the read or page
transfer in progress began (R166), and the slot and take time its completion notice carries (R149). -/
structure CalLoader where
  working : List Word
  status : CalStatus
  loadDone : Bool
  op : CalOp
  buffer : List Word
  page : Nat
  pageTimer : Timer
  link : Timer
  order : Option (Nat × BitVec 32)
  deriving DecidableEq, Repr

end Sys2Proof.Machine
end

