-- ==== Sys2Proof/Machine/Memory.lean ====
section
/-! DEFINITION. Addressed storage in one canonical form: exchange memory (unlisted words read 0, R155) and the EEPROM (unlisted words read 0xFFFF, R165). -/
namespace Sys2Proof.Machine

/-- Addressed 16-bit words, addresses strictly rising, none equal to the value an unlisted address reads as. The unit is the
word, since every access is one whole word (R155); log entry 9. -/
abbrev Memory := List (Nat × Word)

/-- The word at an address; `d` is what an unlisted address reads as. -/
def Memory.read (d : Word) : Memory → Nat → Word
  | [], _ => d
  | (k, v) :: m, a => if k = a then v else Memory.read d m a

/-- Write one word, keeping the canonical form: writing the value an unlisted address reads as removes the entry. -/
def Memory.write (d : Word) : Memory → Nat → Word → Memory
  | [], a, v => if v = d then [] else [(a, v)]
  | (k, w) :: m, a, v =>
    if a < k then (if v = d then (k, w) :: m else (a, v) :: (k, w) :: m)
    else if a = k then (if v = d then m else (a, v) :: m)
    else (k, w) :: Memory.write d m a v

/-- Write consecutive words from an address on, in ascending order. -/
def Memory.writeList (d : Word) (m : Memory) (a : Nat) : List Word → Memory
  | [] => m
  | v :: vs => Memory.writeList d (Memory.write d m a v) (a + 1) vs

/-- `count` consecutive words from an address on. -/
def Memory.readList (d : Word) (m : Memory) (a count : Nat) : List Word :=
  (List.range count).map fun i => Memory.read d m (a + i)

/-- The addresses of a memory rise strictly from `low` on. -/
def Memory.rising (low : Nat) : Memory → Bool
  | [] => true
  | (k, _) :: m => decide (low ≤ k) && Memory.rising (k + 1) m

/-- The canonical form: addresses strictly rising and below `size`, no entry equal to `d`. -/
def Memory.wf (d : Word) (size : Nat) (m : Memory) : Bool :=
  Memory.rising 0 m && m.all fun cell => decide (cell.1 < size) && decide (cell.2 ≠ d)

end Sys2Proof.Machine
end

