-- ==== Sys2Proof/Machine/Defaults.lean ====
section
/-! DEFINITION. The tables of defaults: profile 0 (section 1.6) and the built-in calibration (R164, section 12.4), and the layout of the regions (R155). -/
namespace Sys2Proof.Machine

/-- The first word of the strip slot n (section 12.2). -/
def slotBase (n : Nat) : Nat := 16 * n

/-- The first word of profile record p (section 12.3). -/
def profileBase (p : Nat) : Nat := 512 + 128 * p

/-- The first word of the calibration area (section 12.4). -/
def calibrationBase : Nat := 1024

/-- The first word of the status page (section 12.5). -/
def statusBase : Nat := 1536

/-- The first word of the fault area (section 12.6). -/
def faultBase : Nat := 1792

/-- The first word of trace record i (section 12.7). -/
def traceBase (i : Nat) : Nat := 2048 + 32 * i

/-- Profile 0's default (section 1.6). -/
def defaultProfile : Profile where
  transportMax := 8000
  sweepMax := 3500
  engageLimit := 1500
  limpSpeed := 800
  dryCrawl := 0
  accel := 600
  decel := 1000
  emergencyDecel := 4000
  dose := 600
  sprayMinSpeed := 300
  selectLeft := true
  selectRight := true
  downPressureL := 20
  downPressureR := 20
  downPressureM := 30
  brushSpeedL := 90
  brushSpeedR := 90
  brushSpeedM := 120
  ratedEngineSpeed := 2400
  hostCheckWindow := 500

/-- The words of a profile record's offsets 0 to 18 (section 12.3). -/
def profileWords (p : Profile) : List Word :=
  [p.transportMax, p.sweepMax, p.engageLimit, p.limpSpeed, p.dryCrawl, p.accel, p.decel, p.emergencyDecel, p.dose,
    p.sprayMinSpeed, (if p.selectLeft then 1 else 0) + (if p.selectRight then 2 else 0), p.downPressureL,
    p.downPressureR, p.downPressureM, p.brushSpeedL, p.brushSpeedR, p.brushSpeedM, p.ratedEngineSpeed,
    p.hostCheckWindow].map word

/-- A curve occupies sixteen words: x0, y0 to x7, y7 (section 12.4). -/
def curveWords (points : List (Nat × Nat)) : List Word :=
  points.flatMap fun p => [word p.1, word p.2]

/-- The default travel curve (R164). -/
def defaultTravelCurve : List (Nat × Nat) :=
  [(0, 400), (500, 500), (1000, 600), (2000, 780), (4000, 1000), (6000, 1200), (9000, 1450), (12000, 1700)]

/-- The default pump curve (R164). -/
def defaultPumpCurve : List (Nat × Nat) :=
  [(0, 0), (500, 180), (1000, 260), (2000, 380), (4000, 560), (8000, 760), (12000, 880), (20000, 1000)]

/-- The default reach tables L and R (R164). -/
def defaultReachTable : List (Nat × Nat) :=
  [(0, 800), (150, 740), (300, 600), (450, 420), (600, 250), (750, 100), (850, 30), (900, 0)]

/-- The default pressure curve (R164). -/
def defaultPressureCurve : List (Nat × Nat) :=
  [(0, 0), (5, 100), (10, 170), (20, 320), (30, 460), (40, 600), (50, 740), (60, 880)]

/-- The default side brush curve (R164). -/
def defaultSideBrushCurve : List (Nat × Nat) :=
  [(0, 0), (30, 150), (60, 260), (90, 370), (120, 480), (150, 590), (180, 700), (200, 780)]

/-- The default main brush curve (R164). -/
def defaultMainBrushCurve : List (Nat × Nat) :=
  [(0, 0), (40, 150), (80, 280), (120, 400), (160, 520), (200, 640), (230, 730), (250, 800)]

/-- The 131 words that fields occupy, at their defaults (section 12.4). -/
def defaultCalibrationFields : List Word :=
  [word 12000, word 12000, word 500] ++ curveWords defaultTravelCurve ++ [word 2400, word 1800, word 64]
    ++ curveWords defaultPumpCurve ++ [word 12000, word 1500, word 2000, word 48, word 150, word 30]
    ++ curveWords defaultReachTable ++ curveWords defaultReachTable ++ [word 250, word 40]
    ++ curveWords defaultPressureCurve ++ curveWords defaultSideBrushCurve ++ curveWords defaultMainBrushCurve
    ++ [word 6, word 32, word 3, word 40, word 120]

/-- The built-in default calibration: 512 words, those no field occupies 0 (section 12.4). -/
def defaultCalibration : List Word := defaultCalibrationFields ++ List.replicate 381 (word 0)

/-- Exchange memory at cold reset: cleared, then the profile 0 defaults written into record 0 (R21, R155). -/
def resetMemory : Memory := Memory.writeList (word 0) [] (profileBase 0) (profileWords defaultProfile)

end Sys2Proof.Machine
end

