-- ==== Sys2Proof/Machine/State.lean ====
section
/-! DEFINITION. The state of the controller: every block's registers, the exchange memory, the EEPROM behind the SPI link, the pins, and the queue of waiting commands; and the state right after cold reset. -/
namespace Sys2Proof.Machine

/-- Why the machine would stop with a fault. The manual gives every command an effect in every state and calls nothing
undefined or unpredictable, so NO command raises a fault and the type has no constructor (safe). -/
inductive Fault where
  deriving DecidableEq, Repr

/-- Why a command would have no meaning. -/
inductive Refusal where
  /-- Raised only by an arm of `exec` that rejects its command by name because the model gives it no meaning yet (safe);
  no arm does. -/
  | notModelled (mnemonic : String)
  deriving DecidableEq, Repr

/-- The serial EEPROM (chapter 11): whether a device is fitted, whether it works, so that its internal writes end in time (R166),
its 4096 words (an unlisted word reads 0xFFFF, as an erased device reads), the words whose internal write has not ended, with the
word address of the first (R169, R171), and the time in ms since that write began at the end of its transfer (R166). -/
structure Eeprom where
  fitted : Bool
  works : Bool
  cells : Memory
  inFlight : Option (Nat × List Word)
  writeTime : Timer
  deriving DecidableEq, Repr

/-- The state of the controller. `pending` is the model's queue of waiting commands, first in, first out; `resetHeld` says
RESET# is low (section 12.9); `freeReads` is the model's own counter for the free value of log entry 10. -/
structure State where
  pending : List Instr
  resetHeld : Bool
  xmem : Memory
  port : HostPort
  publisher : Publisher
  orders : OrderUnit
  modc : ModeControl
  gov : Governor
  armc : ArmControl
  watc : WaterControl
  loadm : LoadManager
  faults : FaultUnit
  cal : CalLoader
  tma : TimingArray
  eeprom : Eeprom
  freeReads : Nat
  deriving DecidableEq, Repr

/-! ### The reset value of each block -/

/-- The mode controller at cold reset (R21). -/
def resetModeControl : ModeControl where
  mode := .starting
  reason := 16
  phase := .none
  commanded := ⟨false, false, false⟩
  settle := none
  budget := 0
  haltLatch := false
  safeStopped := false
  wake := .none
  wakeTime := 0
  restartPending := false
  profile := defaultProfile
  startupComplete := false

/-- The governor at cold reset (R62, R37). -/
def resetGovernor : Governor where
  reqSpeed := 0
  reqDir := .neutral
  c := 0
  lastSign := .none
  dwell := 0
  reversePending := false
  trim := 0
  vAct := 0
  chanA := .inUse
  chanB := .inUse
  lossA := none
  lossB := none
  readmitA := 0
  readmitB := 0
  disagree := none
  silence := none
  overspeed := none
  operator := none
  waiting := none
  vT := 0
  limiter := .request
  vW := 15000
  vL := 0

/-- An arm record at cold reset (R88). -/
def resetArmRecord : ArmRecord where
  state := .stowed
  req := .stowed
  stateTimer := 0
  hover := none
  ret := none
  deflection := 0
  swing := 0
  angleLoss := none
  reach := 0
  target := 0
  measured := 0
  trim := 0
  spinUp := 0
  stall := none
  silence := none
  cause := none
  causePresent := false
  waiting := none
  press := 0

/-- The arm controller at cold reset (R88, R37). -/
def resetArmControl : ArmControl where
  left := resetArmRecord
  right := resetArmRecord
  main := resetArmRecord
  width := 0

/-- The water controller at cold reset (R108). -/
def resetWaterControl : WaterControl where
  level := 0
  levelKnown := false
  tankEmpty := false
  tankLoss := none
  waterOut := false
  qAvail := 0
  override := none
  qDem := 0
  qCmd := 0
  qMeas := 0
  prime := .idle
  primeTimer := 0
  primeHold := none
  mask := 0xFF
  openSet := 0
  trim := 0
  duty := 0
  dryRun := none
  flowLoss := none
  flowLossFlag := false
  dryReport := false

/-- The load manager at cold reset (R117). -/
def resetLoadManager : LoadManager where
  n := 0
  droop := 0
  lRaw := 1000
  load := 1000
  scale := 1000
  floor := none
  recovery := none
  engineLoss := none
  engineLossFlag := false

/-- An empty fault record (R131). -/
def emptyFaultRecord : FaultRecord where
  kind := 0
  cls := 0
  sourceBlock := 0
  sourceIndex := 0
  mode := 0
  tag := 0
  time := 0
  vAct := 0
  detail := 0

/-- A record with its hold clear (R131). -/
def emptyRecordHold : RecordHold where
  record := emptyFaultRecord
  hold := false
  count := 0
  bitmap := 0

/-- The fault unit at cold reset (R131). -/
def resetFaultUnit : FaultUnit where
  primary := emptyRecordHold
  severe := emptyRecordHold
  total := 0
  active := 0
  exclusions := ⟨false, false, false, false⟩

/-- A capture channel at cold reset and at the first wake source, its pin at the level `raw` (R142, R143). The accepted
level starts at the pin's level (log entry 13); `now` is the instant in µs. -/
def resetCapture (raw : Bool) (now : Nat) : Capture where
  state := .noSignal
  count := 0
  rise := now
  fall := now
  value := 0
  level := raw
  raw := raw
  rawTime := now

/-- The ten capture channels at cold reset and at the first wake source, their pins as they stand (R142, R143). -/
def resetCaptures (k : Captures) (now : Nat) : Captures where
  wheelA := resetCapture k.wheelA.raw now
  wheelB := resetCapture k.wheelB.raw now
  engine := resetCapture k.engine.raw now
  lBrush := resetCapture k.lBrush.raw now
  rBrush := resetCapture k.rBrush.raw now
  mBrush := resetCapture k.mBrush.raw now
  flow := resetCapture k.flow.raw now
  lSwing := resetCapture k.lSwing.raw now
  rSwing := resetCapture k.rSwing.raw now
  tank := resetCapture k.tank.raw now

/-- The ten capture channels with every pin low. -/
def lowCaptures : Captures where
  wheelA := resetCapture false 0
  wheelB := resetCapture false 0
  engine := resetCapture false 0
  lBrush := resetCapture false 0
  rBrush := resetCapture false 0
  mBrush := resetCapture false 0
  flow := resetCapture false 0
  lSwing := resetCapture false 0
  rSwing := resetCapture false 0
  tank := resetCapture false 0

/-- A debounced input at cold reset, its pin at the level `raw` (R137, R143). -/
def resetDebounced (raw : Bool) : Debounced where
  level := false
  raw := raw
  stable := 0

/-- The eight debounced inputs at cold reset, their pins as they stand (R137, R143). -/
def resetInputs (i : Inputs) : Inputs where
  lUp := resetDebounced i.lUp.raw
  rUp := resetDebounced i.rUp.raw
  mUp := resetDebounced i.mUp.raw
  lDown := resetDebounced i.lDown.raw
  rDown := resetDebounced i.rDown.raw
  mDown := resetDebounced i.mDown.raw
  operator := resetDebounced i.operator.raw
  wp := resetDebounced i.wp.raw

/-- The eight debounced inputs with every pin low. -/
def lowInputs : Inputs where
  lUp := resetDebounced false
  rUp := resetDebounced false
  mUp := resetDebounced false
  lDown := resetDebounced false
  rDown := resetDebounced false
  mDown := resetDebounced false
  operator := resetDebounced false
  wp := resetDebounced false

/-- Outputs off (R136): every duty 0, every period in progress ended low, every switched output inactive. -/
def outputsAllOff : Outputs where
  travelFwd := ⟨0, 0, 0⟩
  travelRev := ⟨0, 0, 0⟩
  lPress := ⟨0, 0, 0⟩
  rPress := ⟨0, 0, 0⟩
  mPress := ⟨0, 0, 0⟩
  lMotor := ⟨0, 0, 0⟩
  rMotor := ⟨0, 0, 0⟩
  mMotor := ⟨0, 0, 0⟩
  waterPump := ⟨0, 0, 0⟩
  lRaise := false
  lLower := false
  rRaise := false
  rLower := false
  mRaise := false
  mLower := false
  nozzles := 0

/-- The trace event source at cold reset (R143); the source and interval of a disabled source, PERIOD and 0, and its pending interval,
none, are DESIGN CHOICE (log entry 8). -/
def resetTrace : Trace where
  enabled := false
  source := .period
  interval := 0
  periodTimer := 0
  accumulator := 0
  pendingInterval := none

/-- The timing array at cold reset, its pins as they stand (R143). -/
def resetTimingArray (k : Captures) (i : Inputs) : TimingArray where
  clock := 0
  micros := 0
  stepsRunning := true
  stripRunning := true
  captures := resetCaptures k 0
  inputs := resetInputs i
  outputs := outputsAllOff
  trace := resetTrace

/-- The order unit at cold reset (R154). -/
def resetOrderUnit : OrderUnit where
  cursor := 0
  entries := []
  orphans := 0
  stall := false

/-- The host port at cold reset (R163); the window length of a disarmed check is DESIGN CHOICE 0 (log entry 8). -/
def resetHostPort : HostPort where
  pendingSet := 0
  enableSet := 0
  check := .disarmed
  window := none
  windowLength := 0

/-- The status publisher and the trace writer at cold reset (R163). -/
def resetPublisher : Publisher where
  headCount := 0
  traceCount := 0

/-- The calibration loader at cold reset (R167, R171), its start-up read begun; the buffer's contents and the page index are DESIGN CHOICE 0 (log entry 8). -/
def resetCalLoader : CalLoader where
  working := defaultCalibration
  status := .defaults
  loadDone := false
  op := .loading
  buffer := List.replicate 515 (word 0)
  page := 0
  pageTimer := none
  link := some 0
  order := none

/-- The cold-reset state (R21 and each chapter's reset table) of a machine whose queue, pins, EEPROM and free counter stand
as given, RESET# held low or not. -/
def coldState (pending : List Instr) (held : Bool) (k : Captures) (i : Inputs) (e : Eeprom) (free : Nat) : State where
  pending := pending
  resetHeld := held
  xmem := resetMemory
  port := resetHostPort
  publisher := resetPublisher
  orders := resetOrderUnit
  modc := resetModeControl
  gov := resetGovernor
  armc := resetArmControl
  watc := resetWaterControl
  loadm := resetLoadManager
  faults := resetFaultUnit
  cal := resetCalLoader
  tma := resetTimingArray k i
  eeprom := e
  freeReads := free

/-- The machine right after reset: the cold-reset state with RESET# high, an empty queue, every pin low, and an erased EEPROM
fitted that works (log entries 7, 8 and 41). -/
def State.reset : State :=
  coldState [] false lowCaptures lowInputs { fitted := true, works := true, cells := [], inFlight := none, writeTime := none } 0

/-! ### One update per block -/

/-- Replace the queue. -/
def State.setPending (s : State) (x : List Instr) : State := { s with pending := x }
/-- Replace the level of RESET#. -/
def State.setResetHeld (s : State) (x : Bool) : State := { s with resetHeld := x }
/-- Replace exchange memory. -/
def State.setXmem (s : State) (x : Memory) : State := { s with xmem := x }
/-- Replace the host port. -/
def State.setPort (s : State) (x : HostPort) : State := { s with port := x }
/-- Replace the publisher and trace writer. -/
def State.setPublisher (s : State) (x : Publisher) : State := { s with publisher := x }
/-- Replace the order unit. -/
def State.setOrders (s : State) (x : OrderUnit) : State := { s with orders := x }
/-- Replace the mode controller. -/
def State.setModc (s : State) (x : ModeControl) : State := { s with modc := x }
/-- Replace the governor. -/
def State.setGov (s : State) (x : Governor) : State := { s with gov := x }
/-- Replace the arm controller. -/
def State.setArmc (s : State) (x : ArmControl) : State := { s with armc := x }
/-- Replace the water controller. -/
def State.setWatc (s : State) (x : WaterControl) : State := { s with watc := x }
/-- Replace the load manager. -/
def State.setLoadm (s : State) (x : LoadManager) : State := { s with loadm := x }
/-- Replace the fault unit. -/
def State.setFaults (s : State) (x : FaultUnit) : State := { s with faults := x }
/-- Replace the calibration loader. -/
def State.setCal (s : State) (x : CalLoader) : State := { s with cal := x }
/-- Replace the timing array. -/
def State.setTma (s : State) (x : TimingArray) : State := { s with tma := x }
/-- Replace the EEPROM. -/
def State.setEeprom (s : State) (x : Eeprom) : State := { s with eeprom := x }
/-- Replace the free counter. -/
def State.setFreeReads (s : State) (x : Nat) : State := { s with freeReads := x }

end Sys2Proof.Machine
end

