-- ==== Sys2Proof/Machine/Operands.lean ====
section
/-! DEFINITION. What a command or a job reads: the channels, inputs, outputs and arm records by name, the words of the working calibration and of exchange memory, the order in a slot, and the integer arithmetic of chapter 2. -/
namespace Sys2Proof.Machine

/-! ### Banks: one reader and one writer each -/

/-- A capture channel by name. -/
def Captures.get (k : Captures) : Channel → Capture
  | .wheelA => k.wheelA
  | .wheelB => k.wheelB
  | .engine => k.engine
  | .lBrush => k.lBrush
  | .rBrush => k.rBrush
  | .mBrush => k.mBrush
  | .flow => k.flow
  | .lSwing => k.lSwing
  | .rSwing => k.rSwing
  | .tank => k.tank

/-- Replace a capture channel. -/
def Captures.set (k : Captures) (ch : Channel) (x : Capture) : Captures :=
  match ch with
  | .wheelA => { k with wheelA := x }
  | .wheelB => { k with wheelB := x }
  | .engine => { k with engine := x }
  | .lBrush => { k with lBrush := x }
  | .rBrush => { k with rBrush := x }
  | .mBrush => { k with mBrush := x }
  | .flow => { k with flow := x }
  | .lSwing => { k with lSwing := x }
  | .rSwing => { k with rSwing := x }
  | .tank => { k with tank := x }

/-- A debounced input by name. -/
def Inputs.get (k : Inputs) : Input → Debounced
  | .lUp => k.lUp
  | .rUp => k.rUp
  | .mUp => k.mUp
  | .lDown => k.lDown
  | .rDown => k.rDown
  | .mDown => k.mDown
  | .operator => k.operator
  | .wp => k.wp

/-- Replace a debounced input. -/
def Inputs.set (k : Inputs) (i : Input) (x : Debounced) : Inputs :=
  match i with
  | .lUp => { k with lUp := x }
  | .rUp => { k with rUp := x }
  | .mUp => { k with mUp := x }
  | .lDown => { k with lDown := x }
  | .rDown => { k with rDown := x }
  | .mDown => { k with mDown := x }
  | .operator => { k with operator := x }
  | .wp => { k with wp := x }

/-- A PWM output by name. -/
def Outputs.get (k : Outputs) : PwmOut → Pwm
  | .travelFwd => k.travelFwd
  | .travelRev => k.travelRev
  | .lPress => k.lPress
  | .rPress => k.rPress
  | .mPress => k.mPress
  | .lMotor => k.lMotor
  | .rMotor => k.rMotor
  | .mMotor => k.mMotor
  | .waterPump => k.waterPump

/-- Replace a PWM output. -/
def Outputs.set (k : Outputs) (o : PwmOut) (x : Pwm) : Outputs :=
  match o with
  | .travelFwd => { k with travelFwd := x }
  | .travelRev => { k with travelRev := x }
  | .lPress => { k with lPress := x }
  | .rPress => { k with rPress := x }
  | .mPress => { k with mPress := x }
  | .lMotor => { k with lMotor := x }
  | .rMotor => { k with rMotor := x }
  | .mMotor => { k with mMotor := x }
  | .waterPump => { k with waterPump := x }

/-- An arm record by name. -/
def ArmControl.get (k : ArmControl) : Arm → ArmRecord
  | .left => k.left
  | .right => k.right
  | .main => k.main

/-- Replace an arm record. -/
def ArmControl.set (k : ArmControl) (a : Arm) (x : ArmRecord) : ArmControl :=
  match a with
  | .left => { k with left := x }
  | .right => { k with right := x }
  | .main => { k with main := x }

/-- Membership of an arm in a set of arms. -/
def ArmSet.has (k : ArmSet) : Arm → Bool
  | .left => k.left
  | .right => k.right
  | .main => k.main

/-- The exclusion of an arm (section 7.2). -/
def Exclusions.arm (k : Exclusions) : Arm → Bool
  | .left => k.left
  | .right => k.right
  | .main => k.main

/-- Set or clear the exclusion of an arm. -/
def Exclusions.setArm (k : Exclusions) (a : Arm) (x : Bool) : Exclusions :=
  match a with
  | .left => { k with left := x }
  | .right => { k with right := x }
  | .main => { k with main := x }

/-- The arm record of an arm. -/
def State.arm (s : State) (a : Arm) : ArmRecord := s.armc.get a

/-- A debounced level as it stands (R137). -/
def State.input (s : State) (i : Input) : Bool := (s.tma.inputs.get i).level

/-- The UP input of an arm. -/
def upInput : Arm → Input
  | .left => .lUp
  | .right => .rUp
  | .main => .mUp

/-- The DOWN input of an arm. -/
def downInput : Arm → Input
  | .left => .lDown
  | .right => .rDown
  | .main => .mDown

/-- The brush channel of an arm. -/
def brushChannel : Arm → Channel
  | .left => .lBrush
  | .right => .rBrush
  | .main => .mBrush

/-- The swing channel of a side arm. -/
def swingChannel : Side → Channel
  | .left => .lSwing
  | .right => .rSwing

/-- The side of a side arm; MAIN has none. -/
def armSide : Arm → Option Side
  | .left => some .left
  | .right => some .right
  | .main => none

/-- The wheel sensor channel. -/
def wheelChannel : Wheel → Channel
  | .a => .wheelA
  | .b => .wheelB

/-! ### Rounding (00_scope.md, Conventions) -/

/-- The nearest integer to num / den, an exact half away from zero; den positive. -/
def roundDiv (num den : Int) : Int :=
  if 0 ≤ num then (2 * num + den) / (2 * den) else -((2 * (-num) + den) / (2 * den))

/-- Clamped to lo to hi. -/
def clampInt (lo hi x : Int) : Int := max lo (min hi x)

/-- Clamped to lo to hi. -/
def clampNat (lo hi x : Nat) : Nat := max lo (min hi x)

/-- Every converted quantity saturates at 65535 (R24). -/
def sat16 (n : Nat) : Nat := min 65535 n

/-! ### The working calibration (section 12.4) -/

/-- A word of the working calibration. -/
def State.calWord (s : State) (i : Nat) : Nat := (s.cal.working.getD i 0).toNat

/-- wheel_um_per_pulse of a wheel channel. -/
def State.umPerPulse (s : State) : Wheel → Nat
  | .a => s.calWord 0
  | .b => s.calWord 1

/-- wheel_timeout, ms. -/
def State.wheelTimeout (s : State) : Nat := s.calWord 2
/-- i_full, mA. -/
def State.iFull (s : State) : Nat := s.calWord 19
/-- i_max, mA. -/
def State.iMax (s : State) : Nat := s.calWord 20
/-- k_trim. -/
def State.kTrim (s : State) : Nat := s.calWord 21
/-- q_pump, ml/min. -/
def State.qPump (s : State) : Nat := s.calWord 38
/-- prime_flow, ml/min. -/
def State.primeFlow (s : State) : Nat := s.calWord 39
/-- flow_pulses_per_litre. -/
def State.pulsesPerLitre (s : State) : Nat := s.calWord 40
/-- k_flow. -/
def State.kFlow (s : State) : Nat := s.calWord 41
/-- tank_low, 0.1 %. -/
def State.tankLow (s : State) : Nat := s.calWord 42
/-- tank_empty, 0.1 %. -/
def State.tankEmptyLevel (s : State) : Nat := s.calWord 43
/-- deflect_threshold, 0.1°. -/
def State.deflectThreshold (s : State) : Nat := s.calWord 76
/-- deflect_hysteresis, 0.1°. -/
def State.deflectHysteresis (s : State) : Nat := s.calWord 77
/-- brush_pulses_per_rev. -/
def State.brushPulses (s : State) : Nat := s.calWord 126
/-- k_brush. -/
def State.kBrush (s : State) : Nat := s.calWord 127
/-- engine_pulses_per_rev. -/
def State.enginePulses (s : State) : Nat := s.calWord 128
/-- d1, ‰. -/
def State.d1 (s : State) : Nat := s.calWord 129
/-- d2, ‰. -/
def State.d2 (s : State) : Nat := s.calWord 130

/-- The eight points of the curve whose first word is `base` (section 12.4). -/
def State.curve (s : State) (base : Nat) : List (Nat × Nat) :=
  (List.range 8).map fun k => (s.calWord (base + 2 * k), s.calWord (base + 2 * k + 1))

/-- The first word of the travel curve. -/
def travelCurveBase : Nat := 3
/-- The first word of the pump curve. -/
def pumpCurveBase : Nat := 22
/-- The first word of a side arm's reach table. -/
def reachTableBase : Side → Nat
  | .left => 44
  | .right => 60
/-- The first word of the pressure curve. -/
def pressureCurveBase : Nat := 78
/-- The first word of an arm's brush curve: the side brush curve or the main brush curve. -/
def brushCurveBase : Arm → Nat
  | .main => 110
  | _ => 94

/-! ### Curves (R23) -/

/-- The value between two points: the exact interpolated value, rounded whole (R23). -/
def interpolate (p q : Nat × Nat) (x : Nat) : Nat :=
  (roundDiv ((p.2 : Int) * ((q.1 : Int) - p.1) + ((x : Int) - p.1) * ((q.2 : Int) - p.2)) ((q.1 : Int) - p.1)).toNat

/-- A curve at an argument beyond its first point: the first segment whose end lies above x, or the last point's y (R23). -/
def evalFrom : List (Nat × Nat) → Nat → Nat
  | [], _ => 0
  | [p], _ => p.2
  | p :: q :: rest, x => if x < q.1 then interpolate p q x else evalFrom (q :: rest) x

/-- A curve at an argument (R23). -/
def evalCurve (points : List (Nat × Nat)) (x : Nat) : Nat :=
  match points with
  | [] => 0
  | p :: rest => if x ≤ p.1 then p.2 else evalFrom (p :: rest) x

/-- The curve whose first word is `base`, at an argument. -/
def State.evalAt (s : State) (base x : Nat) : Nat := evalCurve (s.curve base) x

/-! ### Sensor conversions (R24 to R29) -/

/-- A channel as a job reads it: state and value together, the value 0 in NO_SIGNAL and ACQUIRING (R134). -/
def State.channel (s : State) (ch : Channel) : ChannelState × Nat :=
  let k := s.tma.captures.get ch
  match k.state with
  | .noSignal => (.noSignal, 0)
  | .acquiring => (.acquiring, 0)
  | st => (st, k.value)

/-- Whether a channel is VALID. -/
def State.valid (s : State) (ch : Channel) : Bool := decide ((s.channel ch).1 = .valid)

/-- The channel state as a fault detail: 0 NO_SIGNAL, 1 ACQUIRING, 2 OUT_OF_RANGE (R80, R105, R114). -/
def lossDetail : ChannelState → Nat
  | .noSignal => 0
  | .acquiring => 1
  | _ => 2

/-- The speed of a wheel channel, mm/s (R25); 0 while it is not VALID (R24). -/
def State.wheelSpeed (s : State) (w : Wheel) : Nat :=
  if s.valid (wheelChannel w) then sat16 (s.umPerPulse w * 1000 / (s.channel (wheelChannel w)).2) else 0

/-- The measured flow, ml/min (R26). -/
def State.measuredFlow (s : State) : Nat :=
  if s.valid .flow then sat16 (60000000000 / ((s.channel .flow).2 * s.pulsesPerLitre)) else 0

/-- The engine speed, rpm (R27). -/
def State.engineSpeed (s : State) : Nat :=
  if s.valid .engine then sat16 (60000000 / ((s.channel .engine).2 * s.enginePulses)) else 0

/-- The brush speed of an arm, rpm (R27). -/
def State.brushSpeed (s : State) (a : Arm) : Nat :=
  if s.valid (brushChannel a) then sat16 (60000000 / ((s.channel (brushChannel a)).2 * s.brushPulses)) else 0

/-- The tank level of a duty, 0.1 % (R28). -/
def levelOfDuty (duty : Nat) : Nat := min 1000 ((duty - 100) * 1000 / 800)

/-- The swing angle of a duty, 0.1° (R29). -/
def angleOfDuty (duty : Nat) : Nat := duty - 50

/-! ### Published quantities -/

/-- The dose in force D: the override while one is set, else the profile dose (R94). -/
def State.dose (s : State) : Nat := s.watc.override.getD s.modc.profile.dose

/-- The water-available flag (R93). -/
def State.waterAvailable (s : State) : Bool := decide (0 < s.watc.qAvail)

/-- The reverse state: c < 0, or the reverse-pending flag (section 3.1, R54). -/
def State.reverseState (s : State) : Bool := decide (s.gov.c < 0) || s.gov.reversePending

/-- The flow demand: D × v × W × 3 / 5,000,000, rounded half up, saturating (R31). -/
def flowDemand (dose v width : Nat) : Nat := sat16 ((2 * (dose * v * width * 3) + 5000000) / 10000000)

/-- All three UP inputs active (R17, R21, R22). -/
def State.allUp (s : State) : Bool := s.input .lUp && s.input .rUp && s.input .mUp

/-- An arm is STOWED or OUT (R5, R14, R15). -/
def stowedOrOut (r : ArmRecord) : Bool := decide (r.state = .stowed) || decide (r.state = .out)

/-- Every arm is STOWED or OUT. -/
def State.allStowedOrOut (s : State) : Bool :=
  stowedOrOut s.armc.left && stowedOrOut s.armc.right && stowedOrOut s.armc.main

/-- Standstill: c = 0 and v_act = 0 (section 1.6 of the introduction). -/
def State.standstill (s : State) : Bool := decide (s.gov.c = 0) && decide (s.gov.vAct = 0)

/-- Milliseconds since a clock reading, modulo 2^32 (R138). -/
def State.since (s : State) (t : BitVec 32) : Nat := (s.tma.clock - t).toNat

/-! ### Exchange memory and order slots (sections 12.2 to 12.4) -/

/-- A word of exchange memory. -/
def State.xread (s : State) (a : Nat) : Word := Memory.read (word 0) s.xmem a

/-- The owner word of a slot (section 12.2). -/
def State.owner (s : State) (slot : Nat) : Word := s.xread (slotBase slot)

/-- The owner values (R144). -/
def ownerFree : Word := word 0
/-- POSTED. -/
def ownerPosted : Word := word 1
/-- TAKEN. -/
def ownerTaken : Word := word 2
/-- DONE. -/
def ownerDone : Word := word 3

/-- The kind code of a slot: the low half of its word 1 (section 12.2). -/
def State.slotKind (s : State) (slot : Nat) : Nat := (s.xread (slotBase slot + 1)).toNat % 256

/-- The order in a slot, as the order unit reads it at the take (R146). -/
def State.slotOrder (s : State) (slot : Nat) : Order :=
  let b := slotBase slot
  { notify := (s.xread (b + 1)).extractLsb' 8 8
    tag := s.xread (b + 2)
    par :=
      { p0 := s.xread (b + 3), p1 := s.xread (b + 4), p2 := s.xread (b + 5), p3 := s.xread (b + 6)
        p4 := s.xread (b + 7), p5 := s.xread (b + 8), p6 := s.xread (b + 9), p7 := s.xread (b + 10) } }

/-- An entry of the open-orders list names this slot (R145). -/
def State.slotNamed (s : State) (slot : Nat) : Bool := s.orders.entries.any fun e => decide (e.slot = slot)

/-- The open order on a target, if any (R146). -/
def State.openOn (s : State) (t : Target) : Option Entry := s.orders.entries.find? fun e => decide (e.target = t)

/-- The 512 words of the calibration area, each read as it stands (R168). -/
def State.areaWords (s : State) : List Word := Memory.readList (word 0) s.xmem calibrationBase 512

/-- The first nineteen words of a profile record (R18). -/
def State.profileRecord (s : State) (index : Nat) : List Word := Memory.readList (word 0) s.xmem (profileBase index) 19

/-! ### The EEPROM (R165, R169) -/

/-- Whether the EEPROM's status byte has bit 0 set: a write in progress, or no device fitted (R169). -/
def Eeprom.busy (e : Eeprom) : Bool := !e.fitted || e.inFlight.isSome

/-- Whether an EEPROM word belongs to the page whose internal write has not ended. -/
def Eeprom.inFlightAt (e : Eeprom) (a : Nat) : Bool :=
  match e.inFlight with
  | none => false
  | some (base, words) => decide (base ≤ a) && decide (a < base + words.length)

/-- A word of the EEPROM: 0xFFFF with no device fitted (R165), a free value while the internal write of its page has not
ended (log entry 10), else the stored word. -/
def Eeprom.word (e : Eeprom) (free a : Nat) : Word :=
  if !e.fitted then 0xFFFF
  else if e.inFlightAt a then Config.eepromWordInFlight free a
  else Memory.read 0xFFFF e.cells a

/-- The 515 words of the image (section 11.2). -/
def Eeprom.image (e : Eeprom) (free : Nat) : List Word := (List.range 515).map fun a => e.word free a

end Sys2Proof.Machine
end

