-- ==== Sys2Proof/Machine/Flags.lean ====
section
/-! DEFINITION. Every flag computation: timers, interrupt causes and INT#, the STATE register and the other reads of the control window, the bit sets of the fault area and the status page, and the mode ceiling. -/
namespace Sys2Proof.Machine

/-! ### Timers (R1, R39, R63, R90, R109) -/

/-- One step of a timer that follows a condition: set to 0 at the first step at which it holds, advanced by `period` at each
later one (to at most `limit`), cleared at the first step at which it fails. -/
def timerFollow (limit period : Nat) (cond : Bool) (t : Timer) : Timer :=
  if cond then
    match t with
    | none => some 0
    | some v => some (min limit (v + period))
  else none

/-- The timer stands at its limit or above. -/
def timerAt (limit : Nat) : Timer → Bool
  | none => false
  | some v => decide (limit ≤ v)

/-- The step at which the timer reaches its limit: it stands there after the step and did not before. -/
def timerReached (limit : Nat) (before after : Timer) : Bool := timerAt limit after && !timerAt limit before

/-- The next step at which the condition holds takes the timer to its limit. -/
def timerDue (limit period : Nat) (t : Timer) : Bool := timerReached limit t (timerFollow limit period true t)

/-- The step at which a plain count reaches its limit. -/
def countReached (limit before after : Nat) : Bool := decide (limit ≤ after) && decide (before < limit)

/-! ### Interrupts (R157) -/

/-- Add a cause to the pending set; adding a cause that is already pending leaves it pending once. -/
def HostPort.raise (p : HostPort) (c : Cause) : HostPort := { p with pendingSet := p.pendingSet ||| c.bit }

/-- INT# is low while the pending set and the enable set share a cause (R157), and high while RESET# is low (section 12.9). -/
def State.intLow (s : State) : Bool := !s.resetHeld && decide (s.port.pendingSet &&& s.port.enableSet ≠ 0)

/-! ### Bit sets -/

/-- A flag as a 0 or 1. -/
def bit01 (b : Bool) : Nat := if b then 1 else 0

/-- The bit of a fault kind in the active-condition set and the held bitmaps: bit k for kind k (section 12.6). -/
def kindBit (k : FaultKind) : BitVec 16 := BitVec.twoPow 16 k.rank

/-- A kind is in the active-condition set (R122). -/
def State.isActive (s : State) (k : FaultKind) : Bool := s.faults.active.getLsbD k.rank

/-- Some kind of class HALT_TRAVEL is present (R3). -/
def State.haltActive (s : State) : Bool := s.isActive .wheelSensorsLost || s.isActive .operatorAbsent

/-- Some kind of class STOP_WORK or HALT_TRAVEL is present (R5). -/
def State.stopActive (s : State) : Bool := s.haltActive || s.isActive .hostSilent || s.isActive .overspeed

/-- The latched exclusions as a word: bit 0 LEFT, 1 RIGHT, 2 MAIN, 3 WATER (section 12.5). -/
def exclusionWord (x : Exclusions) : Word := word (bit01 x.left + 2 * bit01 x.right + 4 * bit01 x.main + 8 * bit01 x.water)

/-! ### The mode ceiling (R3) -/

/-- The mode ceiling, mm/s (R3). -/
def State.ceiling (s : State) : Nat :=
  match s.modc.mode with
  | .starting => 0
  | .transport => s.modc.profile.transportMax
  | .engaging => s.modc.profile.engageLimit
  | .sweeping => s.modc.profile.sweepMax
  | .disengaging => s.modc.profile.engageLimit
  | .safe =>
    if !s.modc.safeStopped then 0
    else if s.modc.haltLatch || s.haltActive then 0
    else s.modc.profile.limpSpeed
  | .parked => 0

/-! ### The control window (R157, R173) -/

/-- The STATE register, composed at the read (R173). -/
def State.stateRegister (s : State) : Word :=
  word (s.modc.mode.code + 8 * bit01 s.modc.startupComplete + 16 * bit01 (decide (s.modc.wake = .dormant))
    + 32 * bit01 s.faults.primary.hold + 64 * bit01 s.faults.severe.hold + 128 * bit01 s.orders.stall
    + 256 * s.cal.status.code)

/-- What a host read of a word address returns; `none` while RESET# is low, when the host port does not respond (R155, R157,
section 12.9). A read changes nothing, and the opcode table has no row for it (log entry 26). -/
def State.hostRead (s : State) (a : Nat) : Option Word :=
  if s.resetHeld then none
  else if a < 8192 then some (s.xread a)
  else if a = 8192 then some 0x0C24
  else if a = 8193 then some s.stateRegister
  else if a = 8194 then some (s.port.pendingSet.setWidth 16)
  else if a = 8195 then some (s.port.enableSet.setWidth 16)
  else if a = 8196 then some (word s.port.check.code)
  else some 0

end Sys2Proof.Machine
end

