-- ==== Sys2Proof/Machine/Ops.lean ====
section
/-! DEFINITION. The named operations the commands share: writes to exchange memory, completions and the open-orders list (chapter 9), outputs (R135, R136), fault reports, conditions and reactions (chapter 7), the mode-change notices and the change of mode (R2). -/
namespace Sys2Proof.Machine

/-! ### Writes -/

/-- Write one word of exchange memory; there are 8192 (R155). -/
def xwrite (a : Nat) (v : Word) (s : State) : State :=
  if a < Config.xmemWords then s.setXmem (Memory.write (word 0) s.xmem a v) else s

/-- Write consecutive words of exchange memory in ascending order (R172). -/
def xwriteList (a : Nat) (vs : List Word) (s : State) : State :=
  match vs with
  | [] => s
  | v :: rest => xwriteList (a + 1) rest (xwrite a v s)

/-- Raise an interrupt cause (R157). -/
def raiseCause (c : Cause) (s : State) : State := s.setPort (s.port.raise c)

/-- Raise an interrupt cause if a condition holds. -/
def raiseIf (b : Bool) (c : Cause) (s : State) : State := if b then raiseCause c s else s

/-! ### Completions (R147 to R150, R153) -/

/-- The result codes (R153). -/
inductive Result where
  | ok
  | clamped
  | refusedKind
  | refusedRange
  | refusedMode
  | refusedBusy
  | refusedProtected
  | cancelled
  | superseded
  | timedOut
  | failed
  | restarted
  | notFound
  deriving DecidableEq, Repr

/-- The result code (R153). -/
def Result.code : Result → Nat
  | .ok => 0
  | .clamped => 1
  | .refusedKind => 2
  | .refusedRange => 3
  | .refusedMode => 4
  | .refusedBusy => 5
  | .refusedProtected => 6
  | .cancelled => 7
  | .superseded => 8
  | .timedOut => 9
  | .failed => 10
  | .restarted => 11
  | .notFound => 12

/-- The result half of a slot: result and depth, detail, done_time, elapsed (section 12.2). -/
def resultWords (r : Result) (detail depth : Nat) (done : BitVec 32) (elapsed : Nat) : List Word :=
  [packed r.code depth, word detail, lowHalf done, highHalf done, word (sat16 elapsed)]

/-- Write a slot's result words and then owner DONE, and raise ORDER_DONE if notify is 1 (R147, R149). -/
def writeResult (slot : Nat) (notify : BitVec 8) (r : Result) (detail depth elapsed : Nat) (s : State) : State :=
  raiseIf (decide (notify = 1)) .orderDone
    (xwrite (slotBase slot) ownerDone
      (xwriteList (slotBase slot + 11) (resultWords r detail depth s.tma.clock elapsed) s))

/-- Count an orphan: 0 to 255, saturating (R147, R149). -/
def countOrphan (s : State) : State := s.setOrders { s.orders with orphans := min 255 (s.orders.orphans + 1) }

/-- Complete an order at dispatch (R147): written back if the owner is POSTED, else an orphan. -/
def completeNow (t : Take) (r : Result) (detail : Nat) (s : State) : State :=
  if s.owner t.slot = ownerPosted then writeResult t.slot t.order.notify r detail t.depth 0 s else countOrphan s

/-- Take an entry out of the open-orders list; the stall flag clears if it was set for the entry's slot (R149, R152). -/
def removeEntry (e : Entry) (s : State) : State :=
  s.setOrders { s.orders with
    entries := s.orders.entries.filter fun x => decide (x ≠ e)
    stall := s.orders.stall && decide (s.orders.cursor ≠ e.slot) }

/-- End an open order (R149): written back if its slot is still TAKEN, else an orphan; the entry is removed either way. -/
def endEntry (e : Entry) (r : Result) (detail : Nat) (s : State) : State :=
  removeEntry e
    (if s.owner e.slot = ownerTaken then
      writeResult e.slot e.notify r detail e.depth (s.since e.takeTime) s
    else countOrphan s)

/-- Take a completion notice (R149): the entry on the target with the same slot and take time ends; with no such entry the
notice is discarded. -/
def completionNotice (target : Target) (slot : Nat) (time : BitVec 32) (r : Result) (detail : Nat) (s : State) : State :=
  match s.orders.entries.find? fun e => decide (e.target = target ∧ e.slot = slot ∧ e.takeTime = time) with
  | some e => endEntry e r detail s
  | none => s

/-- End the open order on target MODE if it is of one of these kinds: the mode controller's completions (R4, R10 to R14). -/
def completeMode (kinds : List Nat) (r : Result) (detail : Nat) (s : State) : State :=
  match s.openOn .mode with
  | some e => if kinds.contains e.kind then completionNotice .mode e.slot e.takeTime r detail s else s
  | none => s

/-- Supersede the open order on a target (R150). -/
def supersede (target : Target) (t : Take) (s : State) : State :=
  match s.openOn target with
  | some e => endEntry e .superseded t.slot s
  | none => s

/-- Open a timed order (R148): the entry enters the list, oldest first, and the slot's owner becomes TAKEN. -/
def openEntry (target : Target) (t : Take) (s : State) : State :=
  xwrite (slotBase t.slot) ownerTaken
    (s.setOrders { s.orders with
      entries := s.orders.entries ++
        [{ slot := t.slot, kind := t.kind, tag := t.order.tag, target := target, takeTime := t.time,
           params := t.order.par, notify := t.order.notify, depth := t.depth }] })

/-! ### Outputs (R135, R136) -/

/-- Replace the outputs. -/
def setOutputs (o : Outputs) (s : State) : State := s.setTma { s.tma with outputs := o }

/-- Outputs off (R136). -/
def outputsOff (s : State) : State := setOutputs outputsAllOff s

/-- Hand an arm's four outputs, together (R73, R135). -/
def handArm (a : Arm) (lower raise : Bool) (press motor : Nat) (s : State) : State :=
  let o := s.tma.outputs
  match a with
  | .left =>
    setOutputs
      { o with
        lLower := lower
        lRaise := raise
        lPress := { o.lPress with held := press }
        lMotor := { o.lMotor with held := motor } } s
  | .right =>
    setOutputs
      { o with
        rLower := lower
        rRaise := raise
        rPress := { o.rPress with held := press }
        rMotor := { o.rMotor with held := motor } } s
  | .main =>
    setOutputs
      { o with
        mLower := lower
        mRaise := raise
        mPress := { o.mPress with held := press }
        mMotor := { o.mMotor with held := motor } } s

/-- The lower valve of a state (R73). -/
def lowerValve (r : ArmRecord) : Bool := decide (r.state = .lowering)

/-- The raise valve of a state (R73): in OUT, on while the state timer is below 4000 ms. -/
def raiseValve (r : ArmRecord) : Bool :=
  match r.state with
  | .lifting => true
  | .raising => true
  | .out => decide (r.stateTimer < 4000)
  | _ => false

/-- Hand the outputs that follow from a record's state (R73), with its motor duty. -/
def handRecord (a : Arm) (motor : Nat) (s : State) : State :=
  handArm a (lowerValve (s.arm a)) (raiseValve (s.arm a)) (s.arm a).press motor s

/-- Hand WATER_PUMP and NOZ0 to NOZ7 together (R90, R135). -/
def handWater (s : State) : State :=
  let o := s.tma.outputs
  setOutputs { o with nozzles := s.watc.openSet, waterPump := { o.waterPump with held := s.watc.duty } } s

/-- Hand the two travel solenoid duties together (R57). -/
def handTravel (fwd rev : Nat) (s : State) : State :=
  let o := s.tma.outputs
  setOutputs { o with travelFwd := { o.travelFwd with held := fwd }, travelRev := { o.travelRev with held := rev } } s

/-! ### Fault area (R121, section 12.6) -/

/-- A fault record's nine words (section 12.6). -/
def recordWords (r : FaultRecord) : List Word :=
  [word r.kind, word r.cls, packed r.sourceBlock r.sourceIndex, word r.mode, r.tag, lowHalf r.time, highHalf r.time,
    word r.vAct, word r.detail]

/-- The offset of a record's hold word in the fault area: primary 0, severe 16 (section 12.6). -/
def holdOffset (severe : Bool) : Nat := if severe then 16 else 0

/-- The record that serves severe or non-severe kinds (R120). -/
def FaultUnit.served (f : FaultUnit) (severe : Bool) : RecordHold := if severe then f.severe else f.primary

/-- Replace the record that serves severe or non-severe kinds. -/
def FaultUnit.setServed (f : FaultUnit) (severe : Bool) (r : RecordHold) : FaultUnit :=
  if severe then { f with severe := r } else { f with primary := r }

/-- Write the total fault count (R121). Its word is written at every report, also where the count stands at 65535, which R121 leaves
open (DESIGN CHOICE, log entry 42). -/
def setTotal (n : Nat) (s : State) : State := xwrite (faultBase + 32) (word n) (s.setFaults { s.faults with total := n })

/-- Replace the active-condition set, and its word (R121, R122). -/
def setActive (a : BitVec 16) (s : State) : State := xwrite (faultBase + 33) a (s.setFaults { s.faults with active := a })

/-- Replace the latched exclusions, and their word (R121, R125, R128). -/
def setExclusions (x : Exclusions) (s : State) : State :=
  xwrite (faultBase + 34) (exclusionWord x) (s.setFaults { s.faults with exclusions := x })

/-- Write a fault into a clear record: the fields first, then the hold; the cause after the hold word (R120, R121). -/
def writeRecord (severe : Bool) (rec : FaultRecord) (s : State) : State :=
  raiseCause (if severe then .severeRec else .faultRec)
    (xwrite (faultBase + holdOffset severe) (word 1)
      (xwriteList (faultBase + holdOffset severe + 3) (recordWords rec)
        (s.setFaults (s.faults.setServed severe { s.faults.served severe with record := rec, hold := true }))))

/-- Count a fault behind a set hold: the count word, then the bitmap word (R120, R121). -/
def countFault (severe : Bool) (k : FaultKind) (s : State) : State :=
  let h := s.faults.served severe
  let count := min 255 (h.count + 1)
  let bitmap := h.bitmap ||| kindBit k
  xwrite (faultBase + holdOffset severe + 2) bitmap
    (xwrite (faultBase + holdOffset severe + 1) (word count)
      (s.setFaults (s.faults.setServed severe { h with count := count, bitmap := bitmap })))

/-- Release a hold: the count and bitmap words are written as 0, then the hold word; a clear hold is left clear (R127, R121). -/
def releaseHold (severe : Bool) (s : State) : State :=
  if (s.faults.served severe).hold then
    xwrite (faultBase + holdOffset severe) (word 0)
      (xwriteList (faultBase + holdOffset severe + 1) [word 0, word 0]
        (s.setFaults (s.faults.setServed severe { s.faults.served severe with hold := false, count := 0, bitmap := 0 })))
  else s

/-! ### Taking a report (R118 to R122, R125) -/

/-- The target whose open order gives a fault its tag (R119). -/
def Source.target : Source → Option Target
  | .gov _ => some .travel
  | .armc a => some (armTarget a)
  | _ => none

/-- The tag of the open order on the faulting job's target, or 0 (R119). -/
def faultTag (src : Source) (s : State) : Word :=
  match src.target with
  | none => 0
  | some t => match s.openOn t with
    | none => 0
    | some e => e.tag

/-- Complete a report into a record of eight fields (R119). -/
def completeRecord (r : Report) (s : State) : FaultRecord where
  kind := r.kind.rank
  cls := r.kind.cls.code
  sourceBlock := r.source.block
  sourceIndex := r.source.index
  mode := s.modc.mode.code
  tag := faultTag r.source s
  time := s.tma.clock
  vAct := s.gov.vAct
  detail := r.detail

/-- Record or count a completed fault (R120). -/
def recordOrCount (r : Report) (s : State) : State :=
  if (s.faults.served r.kind.severe).hold then countFault r.kind.severe r.kind s
  else writeRecord r.kind.severe (completeRecord r s) s

/-- Set the latched exclusion that a report's class calls for (R125). The word is written also where the exclusion is set already,
which R121 leaves open (DESIGN CHOICE, log entry 42). -/
def latchExclusion (r : Report) (s : State) : State :=
  match r.kind.cls, r.source with
  | .armOut, .armc a => setExclusions (s.faults.exclusions.setArm a true) s
  | .waterOut, _ => setExclusions { s.faults.exclusions with water := true } s
  | _, _ => s

/-- Take one report (R118): complete and record or count it, add the total, add the condition, latch the exclusion. -/
def takeReport (r : Report) (s : State) : State :=
  let s1 := recordOrCount r s
  let s2 := setTotal (min 65535 (s1.faults.total + 1)) s1
  let s3 := if s2.isActive r.kind then s2 else setActive (s2.faults.active ||| kindBit r.kind) s2
  latchExclusion r s3

/-- Take a condition end (R122): the kind leaves the set; a kind not in the set leaves it unchanged. -/
def conditionEnd (k : FaultKind) (s : State) : State :=
  if s.isActive k then setActive (s.faults.active &&& ~~~(kindBit k)) s else s

/-- Take a condition end if a test holds. -/
def endIf (b : Bool) (k : FaultKind) (s : State) : State := if b then conditionEnd k s else s

/-! ### Arm records at notices (R70 to R72, R83, R86, R87) -/

/-- Replace an arm record. -/
def setArm (a : Arm) (r : ArmRecord) (s : State) : State := s.setArmc (s.armc.set a r)

/-- A record enters a state: the state timer is 0 and the timers of single states are at rest (R64, R66 to R68). -/
def enterState (st : ArmState) (r : ArmRecord) : ArmRecord :=
  { r with state := st, stateTimer := 0, hover := none, ret := none, deflection := 0 }

/-- A record enters RAISING: drives and pressure off, motor timers and trim 0 (R70, R86). -/
def enterRaising (r : ArmRecord) : ArmRecord :=
  { enterState .raising r with spinUp := 0, stall := none, silence := none, trim := 0, press := 0 }

/-- A record enters OUT for a kind, its reach 0 from then on (R71, R29); the waiting order is dropped here and completed by
`failWaiting`. -/
def enterOut (k : FaultKind) (r : ArmRecord) : ArmRecord :=
  { enterState .out r with
    cause := some k, causePresent := true, req := .stowed, press := 0, trim := 0, spinUp := 0, stall := none,
    silence := none, waiting := none, reach := 0 }

/-- The swept width (R30). -/
def sweptWidth (k : ArmControl) : Nat := (if k.main.state = .working then 1400 else 0) + k.left.reach + k.right.reach

/-- Publish the swept width of the records as they stand (R30, R81). -/
def publishWidth (s : State) : State := s.setArmc { s.armc with width := sweptWidth s.armc }

/-- Replace an arm record between arm steps, W following at once (R71, R81). -/
def setArmAndWidth (a : Arm) (r : ArmRecord) (s : State) : State := publishWidth (setArm a r s)

/-- Send the completion notice of a record's waiting order, FAILED with a detail (R71, R86). -/
def failWaiting (a : Arm) (w : Option ArmWait) (detail : Nat) (s : State) : State :=
  match w with
  | none => s
  | some w => completionNotice (armTarget a) w.slot w.takeTime .failed detail s

/-- An ARM_OUT reaction notice (R71, R124): the record enters OUT, or is found there. -/
def armOutNotice (a : Arm) (k : FaultKind) (s : State) : State :=
  if (s.arm a).state = .out then s
  else failWaiting a (s.arm a).waiting k.rank (handRecord a 0 (setArmAndWidth a (enterOut k (s.arm a)) s))

/-- A record in OUT whose flag for this kind is set (R83). -/
def flagFor (k : FaultKind) (r : ArmRecord) : Bool := decide (r.cause = some k) && r.causePresent

/-- No record has an exclusion cause of this kind with its flag set (R83). -/
def noFlagFor (k : FaultKind) (s : State) : Bool :=
  !(flagFor k s.armc.left || flagFor k s.armc.right || flagFor k s.armc.main)

/-- The arm controller sends the condition end of a kind if no flag of it remains (R83). -/
def armConditionEnd (k : FaultKind) (s : State) : State := endIf (noFlagFor k s) k s

/-- The kinds whose condition ends with the OUT raise (R83). -/
def endsWithRaise (r : ArmRecord) : Bool := decide (r.cause = some .armStuck) || decide (r.cause = some .brushStall)

/-- Clear an ARM_STUCK or BRUSH_STALL cause-present flag (R83). -/
def clearRaiseFlag (r : ArmRecord) : ArmRecord := if endsWithRaise r then { r with causePresent := false } else r

/-- Entry to PARKED (R86): a record in OUT with its raise running has its state timer set to 4000 ms and its flag cleared. -/
def parkRecord (r : ArmRecord) : ArmRecord :=
  if r.state = .out ∧ r.stateTimer < 4000 then clearRaiseFlag { r with stateTimer := 4000 } else r

/-- The entry to DISENGAGING or SAFE (R86): a record not in STOWED, RAISING or OUT enters RAISING. -/
def raiseRecord (r : ArmRecord) : ArmRecord :=
  match r.state with
  | .stowed => r
  | .raising => r
  | .out => r
  | _ => enterRaising r

/-- The switch derivation of one record (R87). -/
def deriveRecord (up : Bool) (r : ArmRecord) : ArmRecord :=
  match r.state with
  | .out => r
  | _ => { enterRaising r with state := if up then .stowed else .raising, req := .stowed }

/-- Apply a function to each of the three records. -/
def mapArms (f : Arm → ArmRecord → ArmRecord) (s : State) : State :=
  s.setArmc { s.armc with left := f .left s.armc.left, right := f .right s.armc.right, main := f .main s.armc.main }

/-- Hand the outputs of the three records, their motors off (R73, R86). -/
def handArmsOff (s : State) : State := handRecord .main 0 (handRecord .right 0 (handRecord .left 0 s))

/-- The switch derivation (R87). -/
def deriveArms (s : State) : State := handArmsOff (mapArms (fun a r => deriveRecord (s.input (upInput a)) r) s)

/-- What a mode-change notice does with one record's waiting SET_ARM (R86): on PARKED it becomes none; on any other notice a
STOWED request stays waiting and another is completed FAILED with the mode reason. -/
def noticeWaiting (new : Mode) (a : Arm) (s : State) : State :=
  match (s.arm a).waiting with
  | none => s
  | some w =>
    if new = .parked then setArm a { s.arm a with waiting := none } s
    else if w.req = .stowed then s
    else failWaiting a (some w) s.modc.reason (setArm a { s.arm a with waiting := none } s)

/-! ### Mode-change notices (R61, R86, R107, R116) -/

/-- The governor at a mode-change notice (R61). -/
def govNotice (new : Mode) (s : State) : State :=
  match new with
  | .safe =>
    let s1 := s.setGov { s.gov with reqSpeed := 0, reqDir := .neutral, reversePending := false }
    match s.gov.waiting with
    | some w =>
      if w.kind = .setPace then
        completionNotice .travel w.slot w.takeTime .failed s.modc.reason (s1.setGov { s1.gov with waiting := none })
      else s1
    | none => s1
  | .parked => s.setGov { s.gov with waiting := none }
  | _ => s

/-- The arm controller at a mode-change notice (R86). -/
def armNotice (prev new : Mode) (s : State) : State :=
  let derive : Bool := (decide (new = .transport) || decide (new = .disengaging)) &&
    (decide (prev = .starting) || decide (prev = .parked))
  let s1 := if derive then deriveArms s else s
  let s2 :=
    match new with
    | .disengaging => handArmsOff (mapArms (fun _ r => raiseRecord r) s1)
    | .safe => handArmsOff (mapArms (fun _ r => raiseRecord r) s1)
    | .parked =>
      armConditionEnd .brushStall (armConditionEnd .armStuck (handArmsOff (mapArms (fun _ r => parkRecord r) s1)))
    | _ => s1
  noticeWaiting new .main (noticeWaiting new .right (noticeWaiting new .left s2))

/-- The water controller stops the spray: Q_cmd, groups, pump, trim, dry-run and flow-loss timers (R104, R107). -/
def stopSpray (w : WaterControl) : WaterControl :=
  { w with qCmd := 0, openSet := 0, duty := 0, trim := 0, dryRun := none, flowLoss := none }

/-- Prime status IDLE, prime timers 0 (R107). -/
def primeIdle (w : WaterControl) : WaterControl := { w with prime := .idle, primeTimer := 0, primeHold := none }

/-- The water controller at a mode-change notice (R107). -/
def waterNotice (new : Mode) (s : State) : State :=
  match new with
  | .engaging => s.setWatc (primeIdle s.watc)
  | .sweeping => s
  | .starting => s
  | _ => handWater (s.setWatc (primeIdle (stopSpray s.watc)))

/-- The load manager at a mode-change notice (R116). -/
def loadNotice (new : Mode) (s : State) : State :=
  if new = .parked then
    endIf s.loadm.engineLossFlag .engineSpeedLost
      (s.setLoadm { s.loadm with
        load := 1000, scale := 1000, floor := none, recovery := none, engineLoss := none, engineLossFlag := false })
  else s

/-- The mode-change notice to the four jobs, in the order of R2. -/
def sendNotices (prev new : Mode) (s : State) : State :=
  loadNotice new (waterNotice new (armNotice prev new (govNotice new s)))

/-- Set the requested state of all three records to STOWED (R2). -/
def stowRequests (s : State) : State := mapArms (fun _ r => { r with req := .stowed }) s

/-- The modes whose entry stows the requests and empties the commanded arm set (R2). -/
def stowsOnEntry : Mode → Bool
  | .transport => true
  | .disengaging => true
  | .safe => true
  | .parked => true
  | _ => false

/-- A change of mode, carried out whole (R2). -/
def changeMode (new : Mode) (reason : Nat) (s : State) : State :=
  let prev := s.modc.mode
  let s1 := s.setModc { s.modc with
    mode := new
    reason := reason
    phase := if new = .engaging then .slowing else .none
    settle := none
    budget := 0
    commanded := if stowsOnEntry new then ⟨false, false, false⟩ else s.modc.commanded
    startupComplete := s.modc.startupComplete || decide (prev = .starting) }
  let s2 := if stowsOnEntry new then stowRequests s1 else s1
  raiseCause (if prev = .starting then .started else .modeChange) (sendNotices prev new s2)

/-! ### Reactions (R4, R104, R124) -/

/-- The mode controller at a STOP_WORK or HALT_TRAVEL notice (R4). Kind 2 is ENGAGE, kind 3 DISENGAGE (R146). -/
def enterSafe (k : FaultKind) (halt : Bool) (s : State) : State :=
  match s.modc.mode with
  | .safe => s.setModc { s.modc with haltLatch := s.modc.haltLatch || halt }
  | .starting => s
  | .parked => s
  | _ =>
    let s1 := changeMode .safe k.rank s
    completeMode [2, 3] .failed k.rank
      (s1.setModc { s1.modc with safeStopped := false, haltLatch := s1.modc.haltLatch || halt })

/-- The water controller at a WATER_OUT notice (R104). -/
def waterOutNotice (s : State) : State :=
  if s.watc.waterOut then s
  else
    handWater (s.setWatc { stopSpray s.watc with
      waterOut := true, qAvail := 0, prime := if s.watc.prime = .running then .dry else s.watc.prime })

/-- The reaction notice of one report (R124). -/
def react (r : Report) (s : State) : State :=
  match r.kind.cls, r.source with
  | .armOut, .armc a => armOutNotice a r.kind s
  | .waterOut, _ => waterOutNotice s
  | .stopWork, _ => enterSafe r.kind false s
  | .haltTravel, _ => enterSafe r.kind true s
  | _, _ => s

/-- Take the reports of a batch one after another (R118). -/
def takeReports : List Report → State → State
  | [], s => s
  | r :: rest, s => takeReports rest (takeReport r s)

/-- Send the reaction notices of a batch, one for each report, in its order (R118, R124). -/
def reactAll : List Report → State → State
  | [], s => s
  | r :: rest, s => reactAll rest (react r s)

/-- A batch (R118): every report is taken before any reaction is sent. -/
def reportBatch (rs : List Report) (s : State) : State := reactAll rs (takeReports rs s)

/-! ### Commands -/

/-- While RESET# is low nothing but the pins moves (section 12.9): a command has no effect (log entry 6). -/
def live (f : State → State) (s : State) : Host.Outcome State Fault Refusal :=
  .next (if s.resetHeld then s else f s)

/-- A job's step event, or an expiry judged at one: it exists only while the step timers run (R139, log entry 5). -/
def atStep (f : State → State) (s : State) : Host.Outcome State Fault Refusal :=
  live (fun s => if s.tma.stepsRunning then f s else s) s

end Sys2Proof.Machine
end

