-- ==== Sys2Proof/Machine/Publish.lean ====
section
/-! DEFINITION. The status publisher (R160, section 12.5), the trace writer and the trace event source (R140, R161, section 12.7). -/
namespace Sys2Proof.Machine

/-- An arm block of the status page: seven words (section 12.5). -/
def armBlock (r : ArmRecord) (swing reach : Nat) : List Word :=
  [word r.state.code, word r.req.code, word swing, word reach, word r.target, word r.measured, word r.press]

/-- The words of the status page's offsets 0 to 57, head_count first (section 12.5). -/
def statusFields (head : Word) (s : State) : List Word :=
  [head, word s.modc.mode.code, word s.modc.reason, word s.modc.phase.code, word s.gov.vAct, signedWord s.gov.c,
    word s.gov.vT, word s.gov.limiter.code, word s.gov.vW, word s.gov.vL, word s.armc.width, word s.dose, word s.watc.qDem,
    word s.watc.qCmd, word s.watc.qMeas, word s.watc.qAvail, word s.watc.level, word s.loadm.load, word s.loadm.scale,
    word s.loadm.n]
    ++ armBlock s.armc.left s.armc.left.swing s.armc.left.reach
    ++ armBlock s.armc.right s.armc.right.swing s.armc.right.reach
    ++ armBlock s.armc.main 0 0
    ++ [s.watc.openSet.setWidth 16, s.watc.mask.setWidth 16, word s.gov.chanA.code, word s.gov.chanB.code, s.faults.active,
    exclusionWord s.faults.exclusions, word (bit01 s.faults.primary.hold + 2 * bit01 s.faults.severe.hold),
    word s.cal.status.code, word s.orders.cursor, word (bit01 s.orders.stall), word s.orders.orphans,
    word s.orders.entries.length, lowHalf s.publisher.traceCount, highHalf s.publisher.traceCount,
    word (bit01 s.tma.trace.enabled), lowHalf s.tma.clock, highHalf s.tma.clock]

/-- A publication (R160): head_count up by one, the page written in ascending offset, tail_count equal to head_count. -/
def publish (s : State) : State :=
  let head : Word := s.publisher.headCount + 1
  xwriteList statusBase (statusFields head s ++ List.replicate 197 (word 0) ++ [head])
    (s.setPublisher { s.publisher with headCount := head })

/-- A trace record's 32 words (section 12.7). -/
def traceWords (s : State) : List Word :=
  [lowHalf s.tma.clock, highHalf s.tma.clock, word s.modc.mode.code, word s.gov.vT, word s.gov.limiter.code,
    signedWord s.gov.c, word s.gov.vAct, word s.armc.width, word s.watc.qCmd, word s.watc.qMeas, word s.loadm.load,
    word s.loadm.n, word s.armc.left.state.code, word s.armc.right.state.code, word s.armc.main.state.code]
    ++ List.replicate 17 (word 0)

/-- The trace writer takes an event (R161): the record, the count, and TRACE_HALF at each multiple of 16. -/
def writeTrace (s : State) : State :=
  let count := s.publisher.traceCount + 1
  raiseIf (decide (count.toNat % 16 = 0)) .traceHalf
    (xwriteList (traceBase (s.publisher.traceCount.toNat % 32)) (traceWords s)
      (s.setPublisher { s.publisher with traceCount := count }))

/-- Replace the trace event source. -/
def setTrace (t : Trace) (s : State) : State := s.setTma { s.tma with trace := t }

/-- At each event, a pending interval becomes the interval in force (R140). -/
def takePendingInterval (t : Trace) : Trace :=
  { t with interval := t.pendingInterval.getD t.interval, pendingInterval := none }

/-- The trace event source runs while it is enabled and the mode is not PARKED (R140, R142). R142 is read as holding it through all of PARKED,
the waking time included (DEDUCED, log entry 33). -/
def State.traceRuns (s : State) : Bool := s.tma.trace.enabled && decide (s.modc.mode ≠ .parked)

/-- The distance counter at an accepted rising edge of the counted wheel channel (R141). -/
def countDistance (w : Wheel) (s : State) : State :=
  let counted : Wheel := if s.gov.chanA = .lost then .b else .a
  if s.traceRuns && decide (s.tma.trace.source = .distance) && decide (w = counted) then
    let t := s.tma.trace
    let sum := t.accumulator + s.umPerPulse w
    if t.interval * 1000 ≤ sum then
      writeTrace (setTrace (takePendingInterval { t with accumulator := sum - t.interval * 1000 }) s)
    else setTrace { t with accumulator := sum } s
  else s

/-- The settings SET_TRACE hands over, taken according to the settings held (R140). A source that restarts under another source drops
the interval left pending under the old one, on which R140 is silent (DESIGN CHOICE, log entry 38). -/
def takeTraceSettings (enable : Bool) (source : TraceSource) (interval : Nat) (t : Trace) : Trace :=
  if !enable then
    if t.enabled then { t with enabled := false, periodTimer := 0, accumulator := 0, pendingInterval := none } else t
  else if t.enabled && decide (t.source = source) then { t with pendingInterval := some interval }
  else
    { enabled := true, source := source, interval := interval, periodTimer := 0, accumulator := 0, pendingInterval := none }

end Sys2Proof.Machine
end

