-- ==== Sys2Proof/Machine/Calibration.lean ====
section
/-! DEFINITION. The calibration loader (chapter 11): validation, the stored image, the start-up load, the page writes and the fetch. -/
namespace Sys2Proof.Machine

/-! ### Validation (R164) -/

/-- A word's value lies in a range. -/
def within (lo hi x : Nat) : Bool := decide (lo ≤ x) && decide (x ≤ hi)

/-- The check of word `i` of the curve at `base`: an x within the curve's range and above the x before it (x0 = 0), or a y
within its range (R164). -/
def curveWordOk (w : Nat → Nat) (base xMax yMax i : Nat) : Bool :=
  let k := i - base
  if k % 2 = 0 then
    within 0 xMax (w i) && (if k = 0 then decide (w i = 0) else decide (w (i - 2) < w i))
  else within 0 yMax (w i)

/-- The check of one calibration word, cross-field conditions at the later of their two fields (R164, section 12.4). -/
def calWordOk (w : Nat → Nat) (i : Nat) : Bool :=
  if i < 2 then within 1000 50000 (w i)
  else if i = 2 then within 100 2000 (w i)
  else if i < 19 then curveWordOk w 3 12000 2000 i
  else if i = 19 then within 500 4000 (w i)
  else if i = 20 then within 0 2000 (w i) && decide (w i ≤ w 19)
  else if i = 21 then within 0 255 (w i)
  else if i < 38 then curveWordOk w 22 20000 1000 i
  else if i = 38 then within 0 20000 (w i)
  else if i = 39 then within 0 20000 (w i) && decide (w i ≤ w 38)
  else if i = 40 then within 100 10000 (w i)
  else if i = 41 then within 0 255 (w i)
  else if i = 42 then within 0 1000 (w i)
  else if i = 43 then within 0 1000 (w i) && decide (w i ≤ w 42)
  else if i < 60 then curveWordOk w 44 900 800 i
  else if i < 76 then curveWordOk w 60 900 800 i
  else if i = 76 then within 0 900 (w i)
  else if i = 77 then within 0 200 (w i)
  else if i < 94 then curveWordOk w 78 60 1000 i
  else if i < 110 then curveWordOk w 94 200 1000 i
  else if i < 126 then curveWordOk w 110 250 1000 i
  else if i = 126 then within 1 60 (w i)
  else if i = 127 then within 0 255 (w i)
  else if i = 128 then within 1 200 (w i)
  else if i = 129 then within 10 299 (w i)
  else if i = 130 then within 0 300 (w i) && decide (w 129 + 1 ≤ w i)
  else true

/-- The word index of the first bad word of a calibration set, if any (R164). -/
def firstBadWord (ws : List Word) : Option Nat :=
  (List.range 131).find? fun i => !calWordOk (fun k => (ws.getD k 0).toNat) i

/-! ### The stored image (section 11.2, R165) -/

/-- The outcome of reading an image (R165). -/
inductive ImageOutcome where
  | valid
  | absent
  | unrecognised
  | corrupt
  deriving DecidableEq, Repr

/-- The outcome code (R165). -/
def ImageOutcome.code : ImageOutcome → Nat
  | .valid => 0
  | .absent => 1
  | .unrecognised => 2
  | .corrupt => 3

/-- The 16-bit sum of a list of words. -/
def sum16 : List Word → Word
  | [] => 0
  | w :: ws => w + sum16 ws

/-- Words 2 to 513 of an image: the 512 calibration words (section 11.2). -/
def imageCalibration (image : List Word) : List Word := (image.drop 2).take 512

/-- The outcome of reading an image (R165). -/
def classifyImage (image : List Word) : ImageOutcome :=
  if image.getD 0 0 = 0xFFFF then .absent
  else if image.getD 0 0 ≠ 0x0A51 then .unrecognised
  else if image.getD 1 0 ≠ word 512 ∨ sum16 image ≠ 0 ∨ (firstBadWord (imageCalibration image)).isSome then .corrupt
  else .valid

/-- The image of a calibration: signature, length, the 512 words, and the checksum that makes the 16-bit sum 0 (section 11.2). -/
def buildImage (cal : List Word) : List Word :=
  let body := [(0x0A51 : Word), word 512] ++ cal
  body ++ [-(sum16 body)]

/-- Read an image into the loader (R165): for ABSENT and UNRECOGNISED the loader stops after word 0, else the buffer holds the
515 words. The free counter moves on (log entry 10). -/
def readImage (s : State) : ImageOutcome × List Word := (classifyImage (s.eeprom.image s.freeReads), s.eeprom.image s.freeReads)

/-- The buffer after a read with this outcome (R165). -/
def bufferAfter (o : ImageOutcome) (image old : List Word) : List Word :=
  match o with
  | .absent => old
  | .unrecognised => old
  | _ => image

/-- Write the 512 words into the calibration area (R167, R170). -/
def writeArea (ws : List Word) (s : State) : State := xwriteList calibrationBase ws s

/-- A wheel channel whose last accepted rising edge is already as old as the timeout in force goes to NO_SIGNAL (R134). -/
def expireWheel (timeoutMs now : Nat) (k : Capture) : Capture :=
  if k.state ≠ .noSignal ∧ timeoutMs * 1000 ≤ now - k.rise then { k with state := .noSignal, value := 0, count := 0 } else k

/-- A new wheel_timeout applies to the expiry judgement at once (R134). -/
def applyWheelTimeout (s : State) : State :=
  let k := s.tma.captures
  s.setTma { s.tma with captures :=
    { k with
      wheelA := expireWheel s.wheelTimeout s.tma.micros k.wheelA
      wheelB := expireWheel s.wheelTimeout s.tma.micros k.wheelB } }

/-! ### Start-up (R167) -/

/-- The start-up read ends (R167): the stored image or the defaults are installed, CALIBRATION_DEFAULTED is reported on the
defaults, the load-done flag is set and the operation is IDLE. FAULT_REC is raised with the record, at this report, and not with
STARTED at the end of STARTING: R120 and R121 give the one instant, R123 and R157's last paragraph can be read as the other (DESIGN
CHOICE, log entry 48). -/
def startupLoad (s : State) : State :=
  if s.cal.op = .loading then
    let o := (readImage s).1
    let image := (readImage s).2
    let s1 := s.setFreeReads (s.freeReads + 1)
    let s2 :=
      if o = .valid then
        applyWheelTimeout
          (writeArea (imageCalibration image)
            (s1.setCal { s.cal with working := imageCalibration image, status := .fromStore, buffer := image }))
      else
        reportBatch [{ kind := .calibrationDefaulted, source := .call, detail := o.code }]
          (writeArea defaultCalibration
            (s1.setCal { s.cal with
              working := defaultCalibration, status := .defaults, buffer := bufferAfter o image s.cal.buffer }))
    s2.setCal { s2.cal with loadDone := true, op := .idle, link := none }
  else s

/-! ### Storing (R169) -/

/-- The EEPROM page that page write `index` writes: 0, 1 to 32, and 0 again as index 33 (R169). -/
def pageOfWrite (index : Nat) : Nat := if index = 33 then 0 else index

/-- The words a page write sends: those of the page, the length word 0 in the first write of page 0 (R169). -/
def pageWords (buffer : List Word) (index : Nat) : List Word :=
  let ws := (buffer.drop (16 * pageOfWrite index)).take 16
  if index = 0 then ws.set 1 (word 0) else ws

/-- End the loader's operation and send the completion notice of its order (R149, R169, R170). -/
def finishStore (r : Result) (detail : Nat) (s : State) : State :=
  let s1 := s.setCal { s.cal with op := .idle, pageTimer := none, link := none, order := none }
  match s.cal.order with
  | some (slot, time) => completionNotice .store slot time r detail s1
  | none => s1

/-- A page transfer of a store ends (R169): the device's internal write begins, the page timer starts and the status is polled. The
page timer counts whole ticks of the clock from here, R169 giving it no resolution and the command no instant within its millisecond, so
it reaches its 10 ms between 9 and 10 ms after the end of the transfer (DESIGN CHOICE, log entry 50). -/
def pageTransferDone (s : State) : State :=
  if s.cal.op = .storing ∧ s.cal.pageTimer = none then
    (s.setEeprom { s.eeprom with
      inFlight := some (16 * pageOfWrite s.cal.page, pageWords s.cal.buffer s.cal.page)
      writeTime := some 0 }).setCal
      { s.cal with pageTimer := some 0, link := none }
  else s

/-- The device's internal write ends: the page holds the words sent, and the status reports ready (R166, R169, R171). -/
def Eeprom.ready (e : Eeprom) : Eeprom :=
  match e.inFlight with
  | none => e
  | some (base, ws) => { e with cells := Memory.writeList 0xFFFF e.cells base ws, inFlight := none, writeTime := none }

/-- The EEPROM reports ready (R169): a store that polls goes on to its next page or completes OK after the last; without a
store polling, only the device changes (R171, log entry 34). -/
def pageReady (s : State) : State :=
  let s1 := s.setEeprom s.eeprom.ready
  if s.cal.op = .storing ∧ s.cal.pageTimer ≠ none then
    if 33 ≤ s.cal.page then finishStore .ok 0 s1
    else s1.setCal { s.cal with page := s.cal.page + 1, pageTimer := none, link := some 0 }
  else s1

/-- The page timer reaches 10 ms and the page is not ready (R169): FAILED with the page index. -/
def pageTimeout (s : State) : State :=
  if s.cal.op = .storing ∧ timerAt 10 s.cal.pageTimer then finishStore .failed s.cal.page s else s

/-! ### Fetching (R170) -/

/-- The fetch read ends (R170): a VALID image goes into the calibration area and the order completes OK; any other outcome
leaves the area and completes FAILED with the outcome code. -/
def fetchDone (s : State) : State :=
  if s.cal.op = .fetching then
    let o := (readImage s).1
    let image := (readImage s).2
    let s1 := (s.setFreeReads (s.freeReads + 1)).setCal { s.cal with buffer := bufferAfter o image s.cal.buffer }
    if o = .valid then finishStore .ok 0 (writeArea (imageCalibration image) s1)
    else finishStore .failed o.code s1
  else s

/-! ### The commands -/

/-- STARTUP_LOAD_DONE (R167). -/
def execStartupLoadDone (s : State) : Host.Outcome State Fault Refusal := live startupLoad s

/-- STORE_PAGE_TRANSFER_DONE (R169). -/
def execStorePageTransferDone (s : State) : Host.Outcome State Fault Refusal := live pageTransferDone s

/-- STORE_PAGE_READY (R169). -/
def execStorePageReady (s : State) : Host.Outcome State Fault Refusal := live pageReady s

/-- STORE_PAGE_TIMEOUT (R169). -/
def execStorePageTimeout (s : State) : Host.Outcome State Fault Refusal := live pageTimeout s

/-- FETCH_READ_DONE (R170). -/
def execFetchReadDone (s : State) : Host.Outcome State Fault Refusal := live fetchDone s

end Sys2Proof.Machine
end

