-- ==== Sys2Proof/Machine/Orders.lean ====
section
/-! DEFINITION. The order unit's scan and take (R145, R146, R152), the dispatch of every order kind by its owning block, and the commands of the order strip. -/
namespace Sys2Proof.Machine

/-! ### Pieces that several dispatches share -/

/-- The host check becomes DISARMED, its timer stopped (R158). -/
def disarmCheck (s : State) : State := s.setPort { s.port with check := .disarmed, window := none }

/-- The request sign (R46). -/
def requestSign (dir : Direction) (speed : Nat) : Sign :=
  if speed = 0 then .none
  else match dir with
    | .neutral => .none
    | .forward => .positive
    | .reverse => .negative

/-- Replace the pace request (R46): the reverse-pending flag clears unless the new request sign is negative. -/
def replaceRequest (speed : Nat) (dir : Direction) (s : State) : State :=
  s.setGov { s.gov with
    reqSpeed := speed
    reqDir := dir
    reversePending := s.gov.reversePending && decide (requestSign dir speed = .negative) }

/-- Replace the governor's waiting order (R50). -/
def setTravelWait (w : Option TravelWait) (s : State) : State := s.setGov { s.gov with waiting := w }

/-- Complete at dispatch an accepted order that claims a target: the older order is superseded first (R147, R150). -/
def completeOn (target : Target) (t : Take) (r : Result) (detail : Nat) (effect : State → State) (s : State) : State :=
  completeNow t r detail (effect (supersede target t s))

/-- Accept an order as open: the older order is superseded, the owning block acts, the entry opens (R148, R150). -/
def acceptOpen (target : Target) (t : Take) (effect : State → State) (s : State) : State :=
  openEntry target t (effect (supersede target t s))

/-- Water is unavailable with dry_crawl 0 and D above 0 (R6, R12). -/
def State.waterGone (s : State) : Bool :=
  !s.waterAvailable && decide (s.modc.profile.dryCrawl = 0) && decide (0 < s.dose)

/-! ### SELECT_PROFILE (R18, R19) -/

/-- The two passes of R19 over the nineteen words read. -/
def correctProfile (ws : List Word) : Profile :=
  let f := fun i lo hi => clampNat lo hi (ws.getD i 0).toNat
  let transportMax := f 0 0 12000
  let sweepMax := min (f 1 0 6000) transportMax
  { transportMax := transportMax
    sweepMax := sweepMax
    engageLimit := min (f 2 0 3000) sweepMax
    limpSpeed := min (f 3 0 1500) transportMax
    dryCrawl := f 4 0 2000
    accel := f 5 100 2000
    decel := f 6 100 3000
    emergencyDecel := f 7 2000 6000
    dose := f 8 0 5000
    sprayMinSpeed := f 9 0 1000
    selectLeft := (ws.getD 10 0).getLsbD 0
    selectRight := (ws.getD 10 0).getLsbD 1
    downPressureL := f 11 0 60
    downPressureR := f 12 0 60
    downPressureM := f 13 0 60
    brushSpeedL := f 14 0 200
    brushSpeedR := f 15 0 200
    brushSpeedM := f 16 0 250
    ratedEngineSpeed := f 17 1200 3600
    hostCheckWindow := f 18 100 2000 }

/-- The number of fields R19 changed; arms_selected (offset 10) never counts. -/
def changedFields (ws : List Word) : Nat :=
  ((List.range 19).filter fun i =>
    decide (i ≠ 10) && decide ((profileWords (correctProfile ws)).getD i 0 ≠ ws.getD i 0)).length

/-- SELECT_PROFILE at dispatch (R18). -/
def dispatchSelectProfile (t : Take) (s : State) : State :=
  let index := t.order.par.p0.toNat
  if 3 < index then completeNow t .refusedRange 0 s
  else if s.modc.mode = .engaging ∨ s.modc.mode = .disengaging then completeNow t .refusedMode 17 s
  else
    let ws := s.profileRecord index
    let n := changedFields ws
    completeNow t (if n = 0 then .ok else .clamped) n
      ((s.setModc { s.modc with profile := correctProfile ws }).setWatc { s.watc with override := none })

/-! ### The MODE orders (R6, R13, R15, R16) -/

/-- ENGAGE at dispatch (R6). -/
def dispatchEngage (t : Take) (s : State) : State :=
  match s.modc.mode with
  | .transport =>
    if s.armc.main.state = .out then completeNow t .refusedMode 18 s
    else if s.waterGone then completeNow t .refusedMode 19 s
    else acceptOpen .mode t (changeMode .engaging 18) s
  | .engaging => acceptOpen .mode t id s
  | .disengaging => acceptOpen .mode t (changeMode .engaging 18) s
  | .sweeping => completeNow t .refusedMode 16 s
  | _ => completeNow t .refusedMode 17 s

/-- DISENGAGE at dispatch (R13). -/
def dispatchDisengage (t : Take) (s : State) : State :=
  match s.modc.mode with
  | .engaging => acceptOpen .mode t (changeMode .disengaging 19) s
  | .sweeping => acceptOpen .mode t (changeMode .disengaging 19) s
  | .disengaging => acceptOpen .mode t id s
  | .transport => completeOn .mode t .ok 0 id s
  | _ => completeNow t .refusedMode 17 s

/-- Stages 3 to 6 of the entry to PARKED (R16): outputs off, the last publication, the events stopped, the check disarmed.
Stage 2 is the scan's own end (R145). -/
def sleepStages (s : State) : State :=
  let s1 := publish (outputsOff s)
  disarmCheck (s1.setTma { s1.tma with stepsRunning := false, stripRunning := false })

/-- Entering PARKED (R16). -/
def enterParked (s : State) : State :=
  let s1 := changeMode .parked 20 s
  sleepStages (s1.setModc { s1.modc with wake := .dormant, restartPending := false })

/-- PARK at dispatch (R15): the completion is written before PARKED is entered. -/
def dispatchPark (t : Take) (s : State) : State :=
  if s.modc.mode ≠ .transport then completeNow t .refusedMode 17 s
  else if !s.standstill then completeNow t .refusedMode 20 s
  else if !s.allStowedOrOut then completeNow t .refusedMode 21 s
  else if s.orders.entries.length ≠ 0 then completeNow t .refusedBusy s.orders.entries.length s
  else if s.cal.op ≠ .idle then completeNow t .refusedBusy 0 s
  else enterParked (completeNow t .ok 0 s)

/-! ### The TRAVEL orders (R47, R49) -/

/-- The direction a direction word names (R47). -/
def directionOf : Nat → Option Direction
  | 0 => some .neutral
  | 1 => some .forward
  | 2 => some .reverse
  | _ => none

/-- SET_PACE at dispatch (R47). -/
def dispatchSetPace (t : Take) (s : State) : State :=
  let speedWord := t.order.par.p0.toNat
  let waitWord := t.order.par.p2.toNat
  let timeWord := t.order.par.p3.toNat
  match directionOf t.order.par.p1.toNat with
  | none => completeNow t .refusedRange 1 s
  | some dir =>
    if 1 < waitWord then completeNow t .refusedRange 2 s
    else if dir = .reverse ∧ (s.modc.mode = .engaging ∨ s.modc.mode = .disengaging) then completeNow t .refusedMode 0 s
    else
      let speed := min 12000 speedWord
      let time := clampNat 100 60000 timeWord
      let nSpeed := bit01 (decide (speed ≠ speedWord))
      if waitWord = 0 then
        completeOn .travel t (if nSpeed = 0 then .ok else .clamped) nSpeed
          (fun s => setTravelWait none (replaceRequest speed dir s)) s
      else
        acceptOpen .travel t
          (fun s => setTravelWait
            (some { kind := .setPace, slot := t.slot, tag := t.order.tag, takeTime := t.time, timeout := time,
                    clampCount := nSpeed + bit01 (decide (time ≠ timeWord)), arrival := none })
            (replaceRequest speed dir s)) s

/-- STOP at dispatch (R49). -/
def dispatchStop (t : Take) (s : State) : State :=
  acceptOpen .travel t
    (fun s => setTravelWait
      (some { kind := .stop, slot := t.slot, tag := t.order.tag, takeTime := t.time, timeout := 20000,
              clampCount := 0, arrival := none })
      (replaceRequest 0 .neutral s)) s

/-! ### SET_ARM (R84) -/

/-- The arm an arm word names (R84). -/
def armOf : Nat → Option Arm
  | 0 => some .left
  | 1 => some .right
  | 2 => some .main
  | _ => none

/-- The requested state a state word names (R84). -/
def reqOf : Nat → Option ReqState
  | 0 => some .stowed
  | 2 => some .working
  | 5 => some .hover
  | _ => none

/-- SET_ARM at dispatch (R84). -/
def dispatchSetArm (t : Take) (s : State) : State :=
  match armOf t.order.par.p0.toNat with
  | none => completeNow t .refusedRange 1 s
  | some a =>
    match reqOf t.order.par.p1.toNat with
    | none => completeNow t .refusedRange 2 s
    | some req =>
      if req = .hover ∧ a = .main then completeNow t .refusedRange 3 s
      else if s.modc.mode ≠ .sweeping then completeNow t .refusedMode 0 s
      else if (s.arm a).state = .out then completeNow t .refusedMode 1 s
      else
        acceptOpen (armTarget a) t
          (fun s => setArm a { s.arm a with
            req := req
            waiting := some { slot := t.slot, tag := t.order.tag, takeTime := t.time, req := req } } s) s

/-! ### SET_WATER (R106) -/

/-- The dose override a SET_WATER leaves (R106). -/
def newOverride (doseMode dose : Nat) : Option Nat := if doseMode = 1 then some (min 5000 dose) else none

/-- SET_WATER at dispatch (R106). -/
def dispatchSetWater (t : Take) (s : State) : State :=
  let doseMode := t.order.par.p0.toNat
  let dose := t.order.par.p1.toNat
  let maskFlag := t.order.par.p2.toNat
  let mask := t.order.par.p3
  if 1 < doseMode then completeNow t .refusedRange 1 s
  else if 1 < maskFlag then completeNow t .refusedRange 2 s
  else if maskFlag = 1 ∧ 255 < mask.toNat then completeNow t .refusedRange 3 s
  else
    let n := bit01 (decide (doseMode = 1 ∧ 5000 < dose))
    completeNow t (if n = 0 then .ok else .clamped) n
      (s.setWatc { s.watc with
        override := newOverride doseMode dose
        mask := if maskFlag = 1 then mask.setWidth 8 else s.watc.mask })

/-! ### CLEAR_FAULT (R126 to R129) -/

/-- Release the holds that `which` names (R127). -/
def releaseHolds (which : Nat) (s : State) : State :=
  let s1 := if which = 1 then s else releaseHold false s
  if which = 0 then s1 else releaseHold true s1

/-- Some hold that `which` names is set (R127, R129). -/
def namedHoldSet (which : Nat) (s : State) : Bool :=
  (decide (which ≠ 1) && s.faults.primary.hold) || (decide (which ≠ 0) && s.faults.severe.hold)

/-- The arm record at the release of its exclusion (R72). -/
def releasedRecord (up : Bool) (r : ArmRecord) : ArmRecord :=
  { enterState (if up then .stowed else .raising) r with cause := none, causePresent := false, req := .stowed }

/-- Release an arm's exclusion if its cause-present flag is clear (R128, R72). -/
def releaseArm (a : Arm) (s : State) : State :=
  if s.faults.exclusions.arm a && !(s.arm a).causePresent then
    let s1 := setExclusions (s.faults.exclusions.setArm a false) s
    handRecord a 0 (setArm a (releasedRecord (s1.input (upInput a)) (s1.arm a)) s1)
  else s

/-- Release the WATER_OUT exclusion if neither of its conditions is present (R128). -/
def releaseWater (s : State) : State :=
  if s.faults.exclusions.water && !s.isActive .waterDry && !s.isActive .tankSensorLost then
    let s1 := setExclusions { s.faults.exclusions with water := false } s
    s1.setWatc { s1.watc with waterOut := false }
  else s

/-- The release of exclusions, in the order LEFT, RIGHT, MAIN, WATER (R128). -/
def releaseExclusions (s : State) : State := releaseWater (releaseArm .main (releaseArm .right (releaseArm .left s)))

/-- Some latched exclusion is set (R129). -/
def Exclusions.any (x : Exclusions) : Bool := x.left || x.right || x.main || x.water

/-- The attempt to leave SAFE would succeed (R5, R129). -/
def State.canLeaveSafe (s : State) : Bool :=
  decide (s.modc.mode = .safe) && s.standstill && !s.stopActive && s.allStowedOrOut

/-- The attempt to leave SAFE (R5). -/
def leaveSafe (s : State) : State :=
  if s.canLeaveSafe then
    let s1 := changeMode .transport 25 s
    s1.setModc { s1.modc with haltLatch := false, safeStopped := false }
  else s

/-- CLEAR_FAULT at dispatch (R126 to R129). -/
def dispatchClearFault (t : Take) (s : State) : State :=
  let which := t.order.par.p0.toNat
  let flag := t.order.par.p1.toNat
  if 2 < which then completeNow t .refusedRange 1 s
  else if 1 < flag then completeNow t .refusedRange 2 s
  else
    let held := namedHoldSet which s
    let s1 := releaseHolds which s
    let s2 := if flag = 1 then releaseExclusions s1 else s1
    completeNow t .ok (bit01 s2.canLeaveSafe + 2 * bit01 s2.faults.exclusions.any + 4 * bit01 held) (leaveSafe s2)

/-! ### CANCEL (R151) -/

/-- End each entry of a list, in its order, with one result and detail (R151, R154). -/
def endEntries (r : Result) (detail : Nat) : List Entry → State → State
  | [], s => s
  | e :: rest, s => endEntries r detail rest (endEntry e r detail s)

/-- The open orders with a tag, oldest first (R151). -/
def State.tagged (s : State) (tag : Word) : List Entry := s.orders.entries.filter fun e => decide (e.tag = tag)

/-- CANCEL at dispatch (R151). -/
def dispatchCancel (t : Take) (s : State) : State :=
  let found := s.tagged t.order.par.p0
  completeNow t (if found.length = 0 then .notFound else .ok) found.length (endEntries .cancelled t.slot found s)

/-! ### SET_TRACE (R162, R140) -/

/-- The clamped trace interval (R162). -/
def clampInterval (source : TraceSource) (interval : Nat) : Nat :=
  match source with
  | .period => clampNat 10 1000 interval
  | .distance => clampNat 50 5000 interval

/-- SET_TRACE at dispatch (R162, R140). -/
def dispatchSetTrace (t : Take) (s : State) : State :=
  let enable := t.order.par.p0.toNat
  let sourceWord := t.order.par.p1.toNat
  let interval := t.order.par.p2.toNat
  if 1 < enable then completeNow t .refusedRange 1 s
  else if enable = 1 ∧ 1 < sourceWord then completeNow t .refusedRange 2 s
  else if enable = 0 then completeNow t .ok 0 (setTrace (takeTraceSettings false .period 0 s.tma.trace) s)
  else
    let source : TraceSource := if sourceWord = 0 then .period else .distance
    let clamped := clampInterval source interval
    let n := bit01 (decide (clamped ≠ interval))
    completeNow t (if n = 0 then .ok else .clamped) n (setTrace (takeTraceSettings true source clamped s.tma.trace) s)

/-! ### The calibration orders (R168 to R170) -/

/-- The four trims that a LOAD_CALIBRATION sets to 0 (R168). -/
def clearTrims (s : State) : State :=
  mapArms (fun _ r => { r with trim := 0 })
    ((s.setGov { s.gov with trim := 0 }).setWatc { s.watc with trim := 0 })

/-- Install the words of the calibration area (R168, R134). -/
def installArea (s : State) : State :=
  let s1 := clearTrims (s.setCal { s.cal with working := s.areaWords, status := .fromHost })
  applyWheelTimeout (endIf (decide (s.cal.status = .defaults)) .calibrationDefaulted s1)

/-- LOAD_CALIBRATION at dispatch (R168). -/
def dispatchLoadCalibration (t : Take) (s : State) : State :=
  if !((decide (s.modc.mode = .transport) || decide (s.modc.mode = .safe)) && s.standstill) then
    completeNow t .refusedMode 0 s
  else if s.cal.op = .fetching then completeNow t .refusedBusy 33 s
  else
    match firstBadWord s.areaWords with
    | some i => completeNow t .refusedRange i s
    | none => completeNow t .ok 0 (installArea s)

/-- The loader takes up a store (R169): the image is built from the working calibration alone. The table of R155 says that the
calibration area is read at STORE_CALIBRATION, and no rule says what is read there or what it does; nothing of the area is read here
(DESIGN CHOICE, log entry 49). -/
def beginStore (t : Take) (s : State) : State :=
  s.setCal { s.cal with
    op := .storing, buffer := buildImage s.cal.working, page := 0, pageTimer := none, link := some 0,
    order := some (t.slot, t.time) }

/-- STORE_CALIBRATION at dispatch; with an order on STORE open it is refused at the take (R146, R169). -/
def dispatchStoreCalibration (t : Take) (s : State) : State :=
  match s.openOn .store with
  | some e => completeNow t .refusedBusy e.slot s
  | none =>
    if s.input .wp then completeNow t .refusedProtected 0 s
    else if s.cal.op ≠ .idle then completeNow t .refusedBusy 33 s
    else if s.eeprom.busy then completeNow t .refusedBusy 32 s
    else openEntry .store t (beginStore t s)

/-- The loader takes up a fetch (R170). -/
def beginFetch (t : Take) (s : State) : State :=
  s.setCal { s.cal with op := .fetching, link := some 0, order := some (t.slot, t.time) }

/-- FETCH_CALIBRATION at dispatch; with an order on STORE open it is refused at the take (R146, R170). -/
def dispatchFetchCalibration (t : Take) (s : State) : State :=
  match s.openOn .store with
  | some e => completeNow t .refusedBusy e.slot s
  | none =>
    if s.cal.op ≠ .idle then completeNow t .refusedBusy 33 s
    else if s.eeprom.busy then completeNow t .refusedBusy 32 s
    else openEntry .store t (beginFetch t s)

/-! ### The take and the scan (R145, R146, R152) -/

/-- A kind code the table does not hold completes at once (R146). -/
def dispatchUnknown (t : Take) (s : State) : State := completeNow t .refusedKind t.kind s

/-- The dispatch table (R146). -/
def dispatchKind (t : Take) (s : State) : State :=
  match t.kind with
  | 1 => dispatchSelectProfile t s
  | 2 => dispatchEngage t s
  | 3 => dispatchDisengage t s
  | 4 => dispatchPark t s
  | 5 => dispatchSetPace t s
  | 6 => dispatchStop t s
  | 7 => dispatchSetArm t s
  | 8 => dispatchSetWater t s
  | 9 => dispatchClearFault t s
  | 10 => dispatchCancel t s
  | 11 => dispatchSetTrace t s
  | 12 => dispatchLoadCalibration t s
  | 13 => dispatchStoreCalibration t s
  | 14 => dispatchFetchCalibration t s
  | _ => dispatchUnknown t s

/-- What the order unit notes at a take (R146, step 1). -/
def noteTake (kind : Nat) (order : Order) (s : State) : Take where
  slot := s.orders.cursor
  kind := kind
  order := order
  time := s.tma.clock
  depth := s.orders.entries.length

/-- The cursor advances by 1, from 31 to 0 (R145). -/
def advanceCursor (s : State) : State := s.setOrders { s.orders with cursor := (s.orders.cursor + 1) % 32 }

/-- Take the slot at the cursor and dispatch its order (R146). -/
def takeSlot (dispatch : Take → State → State) (kind : Nat) (order : Order) (s : State) : State :=
  dispatch (noteTake kind order s) (advanceCursor s)

/-- The scan stalls (R152). -/
def stallScan (s : State) : State :=
  raiseIf (!s.orders.stall) .stripStall (s.setOrders { s.orders with stall := true })

/-- The strip is scanned in every mode except STARTING and PARKED (R145). -/
def State.scanned (s : State) : Bool := decide (s.modc.mode ≠ .starting) && decide (s.modc.mode ≠ .parked)

/-- A scan that may still take `n` slots (R145). -/
def scan : Nat → State → State
  | 0, s => s
  | n + 1, s =>
    let c := s.orders.cursor
    if s.owner c ≠ ownerPosted then s
    else if s.slotNamed c then stallScan s
    else
      let s1 := takeSlot dispatchKind (s.slotKind c) (s.slotOrder c) s
      if s1.modc.mode = .parked then s1 else scan n s1

/-- An order command: the take of the slot at the cursor with its contents as read (log entry 3). A mode that is not scanned
takes nothing; a slot that an entry names is not taken, and stalls the scan if it is POSTED (R145). -/
def orderCommand (dispatch : Take → State → State) (kind : Nat) (order : Order) (s : State) :
    Host.Outcome State Fault Refusal :=
  live (fun s =>
    if s.scanned then
      if s.slotNamed s.orders.cursor then
        if s.owner s.orders.cursor = ownerPosted then stallScan s else s
      else takeSlot dispatch kind order s
    else s) s

/-! ### The commands -/

/-- STRIP_SCAN_EXPIRY (R145). -/
def execStripScanExpiry (s : State) : Host.Outcome State Fault Refusal :=
  live (fun s => if s.tma.stripRunning && s.scanned then scan 8 s else s) s

/-- REFUSED_KIND (R146). -/
def execRefusedKind (kind : BitVec 8) (o : Order) (s : State) : Host.Outcome State Fault Refusal :=
  orderCommand dispatchUnknown kind.toNat o s

/-- SELECT_PROFILE (R18). -/
def execSelectProfile (o : Order) (s : State) : Host.Outcome State Fault Refusal := orderCommand dispatchSelectProfile 1 o s

/-- ENGAGE (R6). -/
def execEngage (o : Order) (s : State) : Host.Outcome State Fault Refusal := orderCommand dispatchEngage 2 o s

/-- DISENGAGE (R13). -/
def execDisengage (o : Order) (s : State) : Host.Outcome State Fault Refusal := orderCommand dispatchDisengage 3 o s

/-- PARK (R15). -/
def execPark (o : Order) (s : State) : Host.Outcome State Fault Refusal := orderCommand dispatchPark 4 o s

/-- SET_PACE (R47). -/
def execSetPace (o : Order) (s : State) : Host.Outcome State Fault Refusal := orderCommand dispatchSetPace 5 o s

/-- STOP (R49). -/
def execStop (o : Order) (s : State) : Host.Outcome State Fault Refusal := orderCommand dispatchStop 6 o s

/-- SET_ARM (R84). -/
def execSetArm (o : Order) (s : State) : Host.Outcome State Fault Refusal := orderCommand dispatchSetArm 7 o s

/-- SET_WATER (R106). -/
def execSetWater (o : Order) (s : State) : Host.Outcome State Fault Refusal := orderCommand dispatchSetWater 8 o s

/-- CLEAR_FAULT (R126). -/
def execClearFault (o : Order) (s : State) : Host.Outcome State Fault Refusal := orderCommand dispatchClearFault 9 o s

/-- CANCEL (R151). -/
def execCancel (o : Order) (s : State) : Host.Outcome State Fault Refusal := orderCommand dispatchCancel 10 o s

/-- SET_TRACE (R162). -/
def execSetTrace (o : Order) (s : State) : Host.Outcome State Fault Refusal := orderCommand dispatchSetTrace 11 o s

/-- LOAD_CALIBRATION (R168). -/
def execLoadCalibration (o : Order) (s : State) : Host.Outcome State Fault Refusal := orderCommand dispatchLoadCalibration 12 o s

/-- STORE_CALIBRATION (R169). -/
def execStoreCalibration (o : Order) (s : State) : Host.Outcome State Fault Refusal := orderCommand dispatchStoreCalibration 13 o s

/-- FETCH_CALIBRATION (R170). -/
def execFetchCalibration (o : Order) (s : State) : Host.Outcome State Fault Refusal := orderCommand dispatchFetchCalibration 14 o s

end Sys2Proof.Machine
end

