-- ==== Sys2Proof/Machine/HostPort.lean ====
section
/-! DEFINITION. The resets and the host port: the restart (R22 and each chapter's reset table), the wake sources (R17), the cold reset (R21), the control window (R157 to R159), the host's memory writes (R155) and the status publication (R160). -/
namespace Sys2Proof.Machine

/-! ### The restart (R22; log entry 24) -/

/-- The governor at a restart (R62). -/
def restartGovernor (g : Governor) : Governor :=
  { resetGovernor with vAct := g.vAct, vT := g.vT, limiter := g.limiter, vW := g.vW, vL := g.vL }

/-- An arm record at a restart, before the switch derivation (R88, R83). -/
def restartRecord (r : ArmRecord) : ArmRecord :=
  let base := { r with
    req := .stowed, hover := none, ret := none, deflection := 0, angleLoss := none, trim := 0, spinUp := 0,
    stall := none, silence := none, waiting := none, press := 0 }
  match r.state with
  | .out => clearRaiseFlag { base with stateTimer := 4000 }
  | _ => { base with stateTimer := 0 }

/-- The water controller at a restart (R108); the tank-loss timer counts anew, also for a sender that stays lost (log entry 45). -/
def restartWater (w : WaterControl) : WaterControl := { primeIdle (stopSpray w) with tankLoss := none }

/-- The load manager at a restart (R117). -/
def restartLoad (l : LoadManager) : LoadManager :=
  { l with load := 1000, scale := 1000, floor := none, recovery := none, engineLoss := none, engineLossFlag := false }

/-- The loader at a restart (R171): IDLE, its buffer discarded (zeros, log entry 8). -/
def restartCal (c : CalLoader) : CalLoader :=
  { c with op := .idle, buffer := List.replicate 515 (word 0), page := 0, pageTimer := none, link := none, order := none }

/-- The trace event source at a restart (R143). -/
def restartTrace (t : Trace) : Trace :=
  { t with enabled := false, periodTimer := 0, accumulator := 0, pendingInterval := none }

/-- The order unit at a restart (R154): every entry ended RESTARTED, oldest first; cursor 0; stall flag clear. -/
def restartOrders (s : State) : State :=
  let s1 := endEntries .restarted 0 s.orders.entries s
  s1.setOrders { s1.orders with cursor := 0, entries := [], stall := false }

/-- The blocks' own restart states, and the condition ends that fall at the restart itself (R131). -/
def restartBlocks (s : State) : State :=
  let s1 := s.setCal (restartCal s.cal)
  let s2 := s1.setGov (restartGovernor s1.gov)
  let s3 := s2.setWatc (restartWater s2.watc)
  let s4 := endIf s3.loadm.engineLossFlag .engineSpeedLost (s3.setLoadm (restartLoad s3.loadm))
  let s5 := armConditionEnd .brushStall (armConditionEnd .armStuck (deriveArms (mapArms (fun _ r => restartRecord r) s4)))
  let s6 := conditionEnd .hostSilent (disarmCheck s5)
  setTrace (restartTrace s6.tma.trace) s6

/-- The mode after a restart (R22). -/
def restartMode (s : State) : Mode :=
  match s.modc.mode with
  | .safe => .safe
  | _ => if s.allUp then .transport else .disengaging

/-- The mode controller at a restart (R22, R17), the strip scan and the publication resuming if it ends PARKED. -/
def restartModc (s : State) : State :=
  let keep := decide (s.modc.mode = .safe)
  let s1 := s.setModc { s.modc with
    mode := restartMode s
    reason := if keep then s.modc.reason else 27
    haltLatch := keep && s.modc.haltLatch
    safeStopped := false
    phase := .none
    commanded := ⟨false, false, false⟩
    settle := none
    budget := 0
    wake := .none
    restartPending := false }
  s1.setTma { s1.tma with stripRunning := true }

/-- The restart (R22): outputs off, open orders ended, every block at its restart state, the notice sent even when the mode is
unchanged, and MODE_CHANGE when it differs. -/
def doRestart (s : State) : State :=
  let prev := s.modc.mode
  let s1 := restartModc (restartBlocks (restartOrders (outputsOff s)))
  raiseIf (decide (s1.modc.mode ≠ prev)) .modeChange (sendNotices prev s1.modc.mode (stowRequests s1))

/-! ### Waking (R17, R137, R142) -/

/-- A frozen input takes its raw level at the first wake source (R137). -/
def thawInput (d : Debounced) : Debounced := { d with level := d.raw, stable := 0 }

/-- The frozen inputs, all but OPERATOR (R137). -/
def thawInputs (i : Inputs) : Inputs :=
  { i with
    lUp := thawInput i.lUp
    rUp := thawInput i.rUp
    mUp := thawInput i.mUp
    lDown := thawInput i.lDown
    rDown := thawInput i.rDown
    mDown := thawInput i.mDown
    wp := thawInput i.wp }

/-- The controller sleeps: PARKED and DORMANT (R17). -/
def State.dormant (s : State) : Bool := decide (s.modc.wake = .dormant)

/-- A wake source (R17): while DORMANT it starts WAKING, a restart request with the restart-pending flag set; in any other
state it does nothing here. The tank-loss timer starts from 0 (log entry 25), also for a sender that stays lost (log entry 45). -/
def wakeSource (restart : Bool) (s : State) : State :=
  if s.dormant then
    let s1 := s.setModc { s.modc with wake := .waking, wakeTime := s.tma.clock, restartPending := restart }
    let s2 := s1.setTma { s1.tma with
      stepsRunning := true
      captures := resetCaptures s1.tma.captures s1.tma.micros
      inputs := thawInputs s1.tma.inputs }
    s2.setWatc { s2.watc with tankLoss := none }
  else s

/-- A restart request: a write of 0x00A5 to RESTART, treated according to the mode (R159). -/
def restartRequest (s : State) : State :=
  match s.modc.mode with
  | .starting => s
  | .parked =>
    if s.dormant then wakeSource true s else s.setModc { s.modc with restartPending := true }
  | _ => doRestart s

/-! ### The control window (R157 to R159) -/

/-- A write to RESTART; any value but 0x00A5 is ignored (R159). -/
def writeRestart (v : Word) (s : State) : State := if v = 0x00A5 then restartRequest s else s

/-- A complete check pair (R158): the window restarts at 0 with the active profile's length; HOST_SILENT ends. The window is counted in
whole clock ticks after the pair: R158 gives it no resolution (DESIGN CHOICE, log entry 47). -/
def completePair (s : State) : State :=
  conditionEnd .hostSilent
    (s.setPort { s.port with check := .awaitFirst, window := some 0, windowLength := s.modc.profile.hostCheckWindow })

/-- A write to CHECK (R158); ignored while PARKED. -/
def writeCheck (v : Word) (s : State) : State :=
  if s.modc.mode = .parked then s
  else if v = 0x00C3 then s.setPort { s.port with check := .awaitSecond }
  else
    match s.port.check with
    | .disarmed => s
    | .awaitFirst => s
    | .awaitSecond =>
      if v = 0x003C then completePair s
      else s.setPort { s.port with check := if s.port.window.isSome then .awaitFirst else .disarmed }

/-- A write to INT_PENDING removes each cause whose bit is 1 (R157). -/
def writePending (v : Word) (s : State) : State :=
  s.setPort { s.port with pendingSet := s.port.pendingSet &&& ~~~(v.setWidth 7) }

/-- A write to INT_ENABLE replaces the enable set (R157). -/
def writeEnable (v : Word) (s : State) : State := s.setPort { s.port with enableSet := v.setWidth 7 }

/-- The host check window expires (R158): HOST_SILENT with the window length, then DISARMED. -/
def checkExpiry (s : State) : State :=
  if timerAt s.port.windowLength s.port.window then
    reportBatch [{ kind := .hostSilent, source := .host, detail := s.port.windowLength }] (disarmCheck s)
  else s

/-! ### Cold reset (R21) -/

/-- The cold reset: every block at its cold-reset state, exchange memory cleared and the profile defaults written; the EEPROM
is not on the chip, and the pins stand as they stand. -/
def coldReset (cause : ResetCause) (s : State) : State :=
  coldState s.pending (decide (cause = .pinLow)) s.tma.captures s.tma.inputs s.eeprom s.freeReads

/-- RESET# goes high (section 12.9): STARTING begins, the capture channels measuring from their pins as they stand. -/
def releaseReset (s : State) : State :=
  if s.resetHeld then
    (s.setResetHeld false).setTma { s.tma with captures := resetCaptures s.tma.captures s.tma.micros }
  else s

/-! ### The commands -/

/-- COLD_RESET (R21). -/
def execColdReset (cause : ResetCause) (s : State) : Host.Outcome State Fault Refusal := .next (coldReset cause s)

/-- RESET_RELEASE (R21, section 12.9). -/
def execResetRelease (s : State) : Host.Outcome State Fault Refusal := .next (releaseReset s)

/-- RESTART (R22, R159). -/
def execRestart (v : Word) (s : State) : Host.Outcome State Fault Refusal := live (writeRestart v) s

/-- WAKE (R17, R159): any value. -/
def execWake (_v : Word) (s : State) : Host.Outcome State Fault Refusal := live (wakeSource false) s

/-- CHECK (R158). -/
def execCheck (v : Word) (s : State) : Host.Outcome State Fault Refusal := live (writeCheck v) s

/-- INT_PENDING (R157). -/
def execIntPending (v : Word) (s : State) : Host.Outcome State Fault Refusal := live (writePending v) s

/-- INT_ENABLE (R157). -/
def execIntEnable (v : Word) (s : State) : Host.Outcome State Fault Refusal := live (writeEnable v) s

/-- IGNORED_REGISTER_WRITE (R157): the write is ignored. -/
def execIgnoredRegisterWrite (_a : IgnoredAddress) (_v : Word) (s : State) : Host.Outcome State Fault Refusal := .next s

/-- HOST_MEMORY_WRITE (R155). -/
def execHostMemoryWrite (a : BitVec 13) (v : Word) (s : State) : Host.Outcome State Fault Refusal :=
  live (xwrite a.toNat v) s

/-- HOST_CHECK_EXPIRY (R158). -/
def execHostCheckExpiry (s : State) : Host.Outcome State Fault Refusal := live checkExpiry s

/-- STATUS_PUBLICATION (R160): it runs except from the entry to PARKED to the end of the wake (R139). -/
def execStatusPublication (s : State) : Host.Outcome State Fault Refusal :=
  live (fun s => if s.tma.stripRunning then publish s else s) s

end Sys2Proof.Machine
end

