-- ==== Sys2Proof/Machine/ModeControl.lean ====
section
/-! DEFINITION. The mode check (R1) and the two expiries judged at it (R10, R11). -/
namespace Sys2Proof.Machine

/-! ### Engaging (R7 to R12) -/

/-- Replace the engage phase. -/
def setPhase (p : Phase) (s : State) : State := s.setModc { s.modc with phase := p }

/-- Set a record's requested state to WORKING if its arm is in the commanded set (R9). -/
def commandArm (k : ArmSet) (a : Arm) (r : ArmRecord) : ArmRecord := if k.has a then { r with req := .working } else r

/-- The commanded arm set formed on entering LOWERING (R9). -/
def State.formArmSet (s : State) : ArmSet where
  left := s.modc.profile.selectLeft && decide (s.armc.left.state ≠ .out)
  right := s.modc.profile.selectRight && decide (s.armc.right.state ≠ .out)
  main := true

/-- Entering LOWERING (R9). -/
def enterLowering (s : State) : State :=
  mapArms (commandArm s.formArmSet) (s.setModc { s.modc with phase := .lowering, commanded := s.formArmSet })

/-- The commanded set without the side arms found OUT (R9, R10). -/
def State.remainingArms (s : State) : ArmSet where
  left := s.modc.commanded.left && decide (s.armc.left.state ≠ .out)
  right := s.modc.commanded.right && decide (s.armc.right.state ≠ .out)
  main := s.modc.commanded.main

/-- Every arm of a set satisfies a test of its record. -/
def State.everyArm (s : State) (k : ArmSet) (test : ArmRecord → Bool) : Bool :=
  (!k.left || test s.armc.left) && (!k.right || test s.armc.right) && (!k.main || test s.armc.main)

/-- The arm is in WORKING. -/
def isWorking (r : ArmRecord) : Bool := decide (r.state = .working)

/-- The arm is in WORKING and its brush at 80 % of its target or more (R10). -/
def isSettled (r : ArmRecord) : Bool := isWorking r && decide (8 * r.target ≤ r.measured * 10)

/-- The settling condition at this check (R10). -/
def State.settled (s : State) : Bool := s.everyArm s.remainingArms isSettled

/-- SWEEPING is reached (R10). -/
def reachSweeping (s : State) : State := completeMode [2] .ok 0 (changeMode .sweeping 21 s)

/-- Phase SLOWING (R7). -/
def slowingCheck (s : State) : State :=
  if s.gov.vAct ≤ s.modc.profile.engageLimit then
    let s1 := s.setModc { s.modc with budget := 0 }
    if 0 < s.dose ∧ s.waterAvailable then setPhase .priming s1 else enterLowering s1
  else s

/-- Phase PRIMING (R8). -/
def primingCheck (s : State) : State :=
  if !s.waterAvailable || decide (s.watc.prime = .primed) || decide (s.dose = 0) then enterLowering s else s

/-- Phase LOWERING (R9); SETTLING begins, its timer judged, at the check that ends it (R10). -/
def loweringCheck (s : State) : State :=
  let s1 := s.setModc { s.modc with commanded := s.remainingArms }
  if s.everyArm s.remainingArms isWorking then
    s1.setModc { s1.modc with phase := .settling, settle := timerFollow 300 10 s.settled none }
  else s1

/-- Phase SETTLING (R10). -/
def settlingCheck (s : State) : State :=
  let timer := timerFollow 300 10 s.settled s.modc.settle
  let s1 := s.setModc { s.modc with commanded := s.remainingArms, settle := timer }
  if timerAt 300 timer then reachSweeping s1 else s1

/-- Phase progress (R11, second check). -/
def phaseProgress (s : State) : State :=
  match s.modc.phase with
  | .slowing => slowingCheck s
  | .priming => primingCheck s
  | .lowering => loweringCheck s
  | .settling => settlingCheck s
  | .none => s

/-- The engage budget has run out (R11). -/
def budgetExpired (s : State) : State :=
  changeMode .disengaging 22 (completeMode [2] .timedOut (32 + s.modc.phase.code) s)

/-- SLOWING has ended: the budget timer runs (R11). -/
def Phase.pastSlowing : Phase → Bool
  | .priming => true
  | .lowering => true
  | .settling => true
  | _ => false

/-- The budget test (R11, third check); `before` is the phase at the start of the check. -/
def budgetTest (before : Phase) (s : State) : State :=
  if s.modc.mode = .engaging ∧ before.pastSlowing then
    let s1 := s.setModc { s.modc with budget := s.modc.budget + 10 }
    if 12000 ≤ s1.modc.budget then budgetExpired s1 else s1
  else s

/-- The main broom is out (R12, first test). -/
def State.mainOut (s : State) : Bool := decide (s.armc.main.state = .out)

/-- Work ends by R12 for a mode reason; an open ENGAGE completes FAILED with a detail. -/
def endWork (reason detail : Nat) (s : State) : State := completeMode [2] .failed detail (changeMode .disengaging reason s)

/-- A mode check in ENGAGING (R11). -/
def engagingCheck (s : State) : State :=
  if s.mainOut then endWork 23 18 s
  else if s.waterGone then endWork 24 19 s
  else budgetTest s.modc.phase (phaseProgress s)

/-- A mode check in SWEEPING (R12). -/
def sweepingCheck (s : State) : State :=
  if s.mainOut then endWork 23 18 s
  else if s.waterGone then endWork 24 19 s
  else s

/-! ### The other modes (R1, R14, R17, R21) -/

/-- TRANSPORT if all three UP inputs are active, DISENGAGING otherwise (R17, R21). -/
def State.modeFromSwitches (s : State) : Mode := if s.allUp then .transport else .disengaging

/-- The end of STARTING (R21). -/
def startingCheck (s : State) : State :=
  if s.cal.loadDone ∧ 50 ≤ s.tma.clock.toNat then changeMode s.modeFromSwitches 17 s else s

/-- The end of DISENGAGING (R14). -/
def disengagingCheck (s : State) : State :=
  if s.allStowedOrOut then completeMode [3] .ok 0 (changeMode .transport 28 s) else s

/-- The safe-stopped flag (R1). -/
def safeCheck (s : State) : State := if s.standstill then s.setModc { s.modc with safeStopped := true } else s

/-- The end of a wake without a restart (R17). -/
def endWake (s : State) : State :=
  let s1 := changeMode s.modeFromSwitches 26 s
  let s2 := s1.setModc { s1.modc with wake := .none, restartPending := false }
  disarmCheck (s2.setTma { s2.tma with stripRunning := true })

/-- A mode check while WAKING (R17). -/
def wakingCheck (s : State) : State :=
  if s.modc.wake = .waking ∧ 20 ≤ s.since s.modc.wakeTime then
    if s.modc.restartPending then doRestart s else endWake s
  else s

/-- A mode check (R1). -/
def modeCheck (s : State) : State :=
  match s.modc.mode with
  | .starting => startingCheck s
  | .transport => s
  | .engaging => engagingCheck s
  | .sweeping => sweepingCheck s
  | .disengaging => disengagingCheck s
  | .safe => safeCheck s
  | .parked => wakingCheck s

/-! ### The expiries (log entry 4) -/

/-- A check in ENGAGING that neither test of R12 ends. -/
def State.engagesOn (s : State) : Bool := decide (s.modc.mode = .engaging) && !s.mainOut && !s.waterGone

/-- The settle timer reaches 300 ms at this check (R10). -/
def settleExpiry (s : State) : State :=
  if s.engagesOn && decide (s.modc.phase = .settling) && s.settled && timerDue 300 10 s.modc.settle then
    reachSweeping (s.setModc { s.modc with commanded := s.remainingArms })
  else s

/-- The engage budget timer reaches 12000 ms at this check, whose phase progress comes first (R11). -/
def budgetExpiry (s : State) : State :=
  if s.engagesOn && s.modc.phase.pastSlowing && countReached 12000 s.modc.budget (s.modc.budget + 10) then
    budgetTest s.modc.phase (phaseProgress s)
  else s

/-! ### The commands -/

/-- MODE_CHECK (R1). -/
def execModeCheck (s : State) : Host.Outcome State Fault Refusal := atStep modeCheck s

/-- SETTLE_TIMER_EXPIRY (R10). -/
def execSettleTimerExpiry (s : State) : Host.Outcome State Fault Refusal := atStep settleExpiry s

/-- ENGAGE_BUDGET_EXPIRY (R11). -/
def execEngageBudgetExpiry (s : State) : Host.Outcome State Fault Refusal := atStep budgetExpiry s

end Sys2Proof.Machine
end

