-- ==== Sys2Proof/Machine/Travel.lean ====
section
/-! DEFINITION. The travel step in its eight stages (R39 to R60), and the expiries and completions judged at it. -/
namespace Sys2Proof.Machine

/-! ### Stage 1: wheel sensing (R40 to R44) -/

/-- The governor's state of a wheel channel. -/
def Governor.chan (g : Governor) : Wheel → WheelState
  | .a => g.chanA
  | .b => g.chanB

/-- The loss timer of a wheel channel. -/
def Governor.loss (g : Governor) : Wheel → Timer
  | .a => g.lossA
  | .b => g.lossB

/-- The re-admission count of a wheel channel. -/
def Governor.readmit (g : Governor) : Wheel → Nat
  | .a => g.readmitA
  | .b => g.readmitB

/-- Replace a wheel channel's state, loss timer and re-admission count. -/
def Governor.setWheel (g : Governor) (w : Wheel) (st : WheelState) (loss : Timer) (readmit : Nat) : Governor :=
  match w with
  | .a => { g with chanA := st, lossA := loss, readmitA := readmit }
  | .b => { g with chanB := st, lossB := loss, readmitB := readmit }

/-- The other wheel. -/
def otherWheel : Wheel → Wheel
  | .a => .b
  | .b => .a

/-- A channel's state by the timing array's report; a LOST channel stays LOST here (R40). -/
def State.reportedWheel (s : State) (w : Wheel) : WheelState :=
  if s.gov.chan w = .lost then .lost else if s.valid (wheelChannel w) then .inUse else .noSignal

/-- Two wheel speeds agree (R41). -/
def speedsAgree (va vb : Nat) : Bool :=
  let diff := max va vb - min va vb
  decide (diff ≤ 100) || decide (diff * 100 ≤ 15 * max va vb)

/-- The LOST channel gives an agreeing reading (R43); `other` is the other channel's state. -/
def State.readmits (s : State) (w : Wheel) (other : WheelState) : Bool :=
  s.valid (wheelChannel w) &&
    (decide (other ≠ .inUse) || speedsAgree (s.wheelSpeed w) (s.wheelSpeed (otherWheel w)))

/-- One channel at stage 1, before the loss test: the report of R40 and the re-admission of R43. -/
def wheelReport (w : Wheel) (s : State) : State :=
  let st := s.reportedWheel w
  if st = .lost then
    if s.readmits w (s.reportedWheel (otherWheel w)) then
      if 1 ≤ s.gov.readmit w then s.setGov (s.gov.setWheel w .inUse none 0)
      else s.setGov (s.gov.setWheel w .lost none (s.gov.readmit w + 1))
    else s.setGov (s.gov.setWheel w .lost none 0)
  else s.setGov (s.gov.setWheel w st (s.gov.loss w) (s.gov.readmit w))

/-- The reports of both channels (R40, R43). -/
def travelReport (s : State) : State := wheelReport .b (wheelReport .a s)

/-- The loss condition of a channel (R42). -/
def State.lossHolds (s : State) (w : Wheel) : Bool :=
  decide (s.gov.chan w = .noSignal) && decide (s.gov.chan (otherWheel w) = .inUse) && decide (s.gov.c ≠ 0)

/-- One channel's loss test (R42). -/
def wheelLoss (w : Wheel) (s : State) : State :=
  let timer := timerFollow 500 10 (s.lossHolds w) (s.gov.loss w)
  if timerAt 500 timer then s.setGov (s.gov.setWheel w .lost none 0)
  else s.setGov (s.gov.setWheel w (s.gov.chan w) timer (s.gov.readmit w))

/-- Both channels in use (R41). -/
def State.bothInUse (s : State) : Bool := decide (s.gov.chanA = .inUse) && decide (s.gov.chanB = .inUse)

/-- No channel in use (R44). -/
def State.noneInUse (s : State) : Bool := decide (s.gov.chanA ≠ .inUse) && decide (s.gov.chanB ≠ .inUse)

/-- Both channels in use, their speeds disagreeing (R41). -/
def State.disagreeHolds (s : State) : Bool := s.bothInUse && !speedsAgree (s.wheelSpeed .a) (s.wheelSpeed .b)

/-- No channel in use while the command is above 300 mm/s (R44; log entry 15). -/
def State.silenceHolds (s : State) : Bool := s.noneInUse && decide (300 < s.gov.c.natAbs)

/-- v_act from the channels in use (R40, R41). -/
def State.formedSpeed (s : State) : Nat :=
  let va := s.wheelSpeed .a
  let vb := s.wheelSpeed .b
  match decide (s.gov.chanA = .inUse), decide (s.gov.chanB = .inUse) with
  | true, true => if speedsAgree va vb then (va + vb) / 2 else max va vb
  | true, false => va
  | false, true => vb
  | false, false => 0

/-- Stage 1 (R40 to R44). -/
def travelSense (s : State) : State :=
  let s1 := wheelLoss .b (wheelLoss .a (travelReport s))
  s1.setGov { s1.gov with
    vAct := s1.formedSpeed
    disagree := timerFollow 1000 10 s1.disagreeHolds s1.gov.disagree
    silence := timerFollow 1000 10 s1.silenceHolds s1.gov.silence }

/-! ### Stage 2: limits and target (R32 to R34) -/

/-- The water-limited speed (R32). -/
def State.waterLimit (s : State) : Nat :=
  if s.modc.mode = .engaging ∨ s.modc.mode = .sweeping then
    if s.dose = 0 ∨ s.armc.width = 0 then 15000
    else if s.waterAvailable then min 15000 (s.watc.qAvail * 5000000 / (3 * s.dose * s.armc.width))
    else s.modc.profile.dryCrawl
  else 15000

/-- The load-limited speed (R33). -/
def State.loadLimit (s : State) : Nat := s.ceiling * s.loadm.load / 1000

/-- The requested speed (R34). -/
def State.requested (s : State) : Nat := if s.gov.reqDir = .neutral then 0 else s.gov.reqSpeed

/-- The target speed and its limiter, ties going to the first in the order of R34. -/
def selectTarget (request ceiling vW vL : Nat) : Nat × Limiter :=
  let v := min request (min ceiling (min vW vL))
  (v, if request = v then .request else if ceiling = v then .mode else if vW = v then .water else .load)

/-- Stage 2 (R32 to R34). -/
def travelLimits (s : State) : State :=
  let target := selectTarget s.requested s.ceiling s.waterLimit s.loadLimit
  s.setGov { s.gov with vW := s.waterLimit, vL := s.loadLimit, vT := target.1, limiter := target.2 }

/-! ### Stages 3 to 5: direction, ramp, reverse state (R51 to R55) -/

/-- The sign of a command. -/
def signOf (c : Int) : Sign := if 0 < c then .positive else if c < 0 then .negative else .none

/-- A speed with a sign. -/
def withSign (v : Nat) : Sign → Int
  | .positive => v
  | .negative => -(v : Int)
  | .none => 0

/-- A side arm forbids leaving zero in reverse (R53). -/
def forbidsReverse (r : ArmRecord) : Bool :=
  match r.state with
  | .lowering => true
  | .working => true
  | .deflected => true
  | .lifting => true
  | _ => false

/-- The gate of R52 and R53 for a request sign. -/
def State.gateOpen (s : State) (sign : Sign) : Bool :=
  (decide (sign = s.gov.lastSign) || decide (300 ≤ s.gov.dwell)) &&
    (decide (sign ≠ .negative) || !(forbidsReverse s.armc.left || forbidsReverse s.armc.right))

/-- The governor's request sign (R46). -/
def State.sign (s : State) : Sign := requestSign s.gov.reqDir s.gov.reqSpeed

/-- The signed target (R51). -/
def State.signedTarget (s : State) : Int :=
  if s.gov.c ≠ 0 then (if s.sign = signOf s.gov.c then withSign s.gov.vT s.sign else 0)
  else if s.sign = .none then 0
  else if s.gateOpen s.sign then withSign s.gov.vT s.sign
  else 0

/-- Stage 3: the dwell timer of a step that starts with c = 0 (R52). -/
def travelDwell (s : State) : State :=
  if s.gov.c = 0 then s.setGov { s.gov with dwell := min 65535 (s.gov.dwell + 10) } else s

/-- The ramp steps in force: up, and down by the halt latch (R55). -/
def State.rampUp (s : State) : Nat := max 1 (s.modc.profile.accel / 100)

/-- The down step, or the emergency step under the halt latch (R55). -/
def State.rampDown (s : State) : Nat :=
  if s.modc.haltLatch then s.modc.profile.emergencyDecel / 100 else max 1 (s.modc.profile.decel / 100)

/-- One step of the ramp (R55). -/
def rampToward (up down : Nat) (c target : Int) : Int :=
  let step : Nat := if c.natAbs < target.natAbs then up else down
  if (target - c).natAbs ≤ step then target else if c < target then c + step else c - step

/-- Stage 4: the new command (R55). -/
def travelRamp (target : Int) (s : State) : State :=
  s.setGov { s.gov with c := rampToward s.rampUp s.rampDown s.gov.c target }

/-- The reverse-pending flag after a step (R54). -/
def nextReversePending (c : Int) (sign : Sign) (old : Bool) : Bool :=
  if c = 0 ∧ sign = .negative then true
  else if c < 0 then false
  else if sign ≠ .negative then false
  else old

/-- Stage 5 (R52, R54); `c0` is the command at the start of the step. -/
def travelReverse (c0 : Int) (s : State) : State :=
  let g := s.gov
  let stopped := decide (c0 ≠ 0) && decide (g.c = 0)
  s.setGov { g with
    dwell := if stopped then 0 else g.dwell
    lastSign := if stopped then signOf c0 else g.lastSign
    reversePending := nextReversePending g.c s.sign g.reversePending }

/-! ### Stage 6: output (R56, R57) -/

/-- The travel trim (R56). -/
def State.nextTravelTrim (s : State) : Int :=
  if s.gov.c = 0 then 0
  else if s.noneInUse then 0
  else clampInt (-200) 200 (s.gov.trim + roundDiv (((s.gov.c.natAbs : Int) - s.gov.vAct) * s.kTrim) 1024)

/-- The solenoid duty (R57). -/
def State.travelDuty (s : State) : Nat :=
  if s.gov.c = 0 then 0
  else
    let current := clampInt 0 s.iMax ((s.evalAt travelCurveBase s.gov.c.natAbs : Int) + s.gov.trim)
    (clampInt 0 1000 (roundDiv (current * 1000) s.iFull)).toNat

/-- Stage 6 (R56, R57). -/
def travelOutput (s : State) : State :=
  let s1 := s.setGov { s.gov with trim := s.nextTravelTrim }
  handTravel (if 0 < s1.gov.c then s1.travelDuty else 0) (if s1.gov.c < 0 then s1.travelDuty else 0) s1

/-! ### Stage 7: supervision (R58 to R60, R45) -/

/-- The overspeed threshold (R58). -/
def overspeedThreshold (c : Int) : Nat := max (c.natAbs * 12 / 10) (c.natAbs + 500)

/-- The overspeed condition (R58). -/
def State.overspeedHolds (s : State) : Bool := decide (overspeedThreshold s.gov.c < s.gov.vAct)

/-- The operator condition (R59). -/
def State.operatorHolds (s : State) : Bool :=
  !s.input .operator &&
    (decide (s.gov.c ≠ 0) || decide (s.modc.mode = .engaging) || decide (s.modc.mode = .sweeping))

/-- The two timers of stage 7 (R58, R59). -/
def travelWatch (s : State) : State :=
  s.setGov { s.gov with
    overspeed := timerFollow 1000 10 s.overspeedHolds s.gov.overspeed
    operator := timerFollow 1000 10 s.operatorHolds s.gov.operator }

/-- The reports of the governor's kinds (R60). -/
def wheelsLostReport : Report := { kind := .wheelSensorsLost, source := .gov none, detail := 0 }
/-- OPERATOR_ABSENT (R59, R60). -/
def operatorReport : Report := { kind := .operatorAbsent, source := .gov none, detail := 0 }
/-- OVERSPEED (R58, R60). -/
def overspeedReport (v : Nat) : Report := { kind := .overspeed, source := .gov none, detail := sat16 v }
/-- WHEEL_SENSOR_DISAGREE with both channels in use (R41, R60). -/
def disagreeReport : Report := { kind := .wheelSensorDisagree, source := .gov none, detail := 0 }
/-- WHEEL_SENSOR_DISAGREE with a channel lost (R42, R60). -/
def lossReport (w : Wheel) : Report :=
  { kind := .wheelSensorDisagree, source := .gov (some w), detail := match w with | .a => 1 | .b => 2 }

/-- A report if a test holds. -/
def reportIf (b : Bool) (r : Report) : List Report := if b then [r] else []

/-- A channel was marked LOST between two governor states (R42). -/
def becameLost (w : Wheel) (g0 g : Governor) : Bool := decide (g0.chan w ≠ .lost) && decide (g.chan w = .lost)

/-- The reports of one travel step, in rank order (R60); `g0` is the governor at the start of the step. -/
def travelReports (g0 : Governor) (s : State) : List Report :=
  reportIf (timerReached 1000 g0.silence s.gov.silence) wheelsLostReport
    ++ reportIf (timerReached 1000 g0.operator s.gov.operator) operatorReport
    ++ reportIf (timerReached 1000 g0.overspeed s.gov.overspeed) (overspeedReport s.gov.vAct)
    ++ reportIf (timerReached 1000 g0.disagree s.gov.disagree) disagreeReport
    ++ reportIf (becameLost .a g0 s.gov) (lossReport .a)
    ++ reportIf (becameLost .b g0 s.gov) (lossReport .b)

/-- WHEEL_SENSOR_DISAGREE is over (R45). -/
def Governor.disagreeOver (g : Governor) : Bool :=
  decide (g.chanA ≠ .lost) && decide (g.chanB ≠ .lost) && !timerAt 1000 g.disagree

/-- The condition ends of one travel step (R45, R58, R59), judged on the governor `g` of this step (log entry 35). -/
def travelEnds (lostNow : Bool) (g : Governor) (seated overspeeding : Bool) (s : State) : State :=
  let s1 := endIf (!lostNow && (decide (g.chanA = .inUse) || decide (g.chanB = .inUse) || decide (g.c = 0))) .wheelSensorsLost s
  let s2 := endIf seated .operatorAbsent s1
  let s3 := endIf (!overspeeding) .overspeed s2
  endIf g.disagreeOver .wheelSensorDisagree s3

/-- Stage 7 after the two timers (R60, R45): the reports are taken and the condition ends sent; the reactions follow after
stage 8, since they are applied to the governor from its next travel step (R60, log entry 16). -/
def travelSupervise (g0 : Governor) (s : State) : State :=
  travelEnds (timerReached 1000 g0.silence s.gov.silence) s.gov (s.input .operator) s.overspeedHolds
    (takeReports (travelReports g0 s) s)

/-! ### Stage 8: the waiting order (R48 to R50) -/

/-- The governor's own completion of its waiting order (R50). -/
def endTravelWait (r : Result) (detail : Nat) (s : State) : State :=
  match s.gov.waiting with
  | some w => completionNotice .travel w.slot w.takeTime r detail (setTravelWait none s)
  | none => s

/-- The arrival condition (R48). -/
def State.arrivalHolds (s : State) (target : Int) : Bool :=
  (decide (s.gov.vT = 0) || decide (target ≠ 0)) &&
    decide (((s.gov.vAct : Int) - s.gov.vT).natAbs ≤ max 50 (3 * s.gov.vT / 100))

/-- A waiting SET_PACE arrives, with the limiter of this step (R48). -/
def arrive (limiter : Limiter) (w : TravelWait) (s : State) : State :=
  if w.clampCount = 0 then endTravelWait .ok limiter.code s else endTravelWait .clamped w.clampCount s

/-- A waiting SET_PACE at stage 8 (R48). -/
def paceTest (target : Int) (w : TravelWait) (s : State) : State :=
  let timer := timerFollow 500 10 (s.arrivalHolds target) w.arrival
  if timerAt 500 timer then arrive s.gov.limiter w s
  else if w.timeout ≤ s.since w.takeTime then endTravelWait .timedOut s.gov.limiter.code s
  else setTravelWait (some { w with arrival := timer }) s

/-- A waiting STOP at stage 8, judged on the state `now` with the command and v_act of this step (R49). -/
def stopTest (now : State) (w : TravelWait) (s : State) : State :=
  if now.standstill then endTravelWait .ok 0 s
  else if 20000 ≤ s.since w.takeTime then endTravelWait .timedOut now.gov.vAct s
  else s

/-- Stage 8 (R48, R49). -/
def travelWaiting (target : Int) (s : State) : State :=
  match s.gov.waiting with
  | none => s
  | some w => match w.kind with
    | .setPace => paceTest target w s
    | .stop => stopTest s w s

/-! ### The travel step -/

/-- Stages 1 to 3 as far as the dwell timer. -/
def travelApproach (s : State) : State := travelDwell (travelLimits (travelSense s))

/-- Stages 4 to 6 toward a signed target. -/
def travelMove (target : Int) (s : State) : State := travelOutput (travelReverse s.gov.c (travelRamp target s))

/-- Stages 1 to 6. -/
def travelDrive (s : State) : State := travelMove (travelApproach s).signedTarget (travelApproach s)

/-- The travel step (R39). -/
def travelStep (s : State) : State :=
  let s1 := travelApproach s
  let s2 := travelWatch (travelDrive s)
  reactAll (travelReports s.gov s2) (travelWaiting s1.signedTarget (travelSupervise s.gov s2))

/-! ### The expiries (log entry 4)

Each is judged on what the stages before its test form at that step: `travelReport` and `travelSense` in stage 1, `travelApproach` up
to the signed target, `travelDrive` up to the output. A report carries the v_act of that step (R60). -/

/-- The governor with a v_act formed at this step. -/
def State.withSpeed (s now : State) (g : Governor) : State := s.setGov { g with vAct := now.gov.vAct }

/-- WHEEL_DISAGREE_TIMEOUT (R41). -/
def disagreeTimeout (s : State) : State :=
  if (travelSense s).disagreeHolds && timerDue 1000 10 s.gov.disagree then
    reportBatch [disagreeReport] (s.withSpeed (travelSense s) { s.gov with disagree := some 1000 })
  else s

/-- WHEEL_LOSS_TIMEOUT (R42). -/
def lossTimeout (w : Wheel) (s : State) : State :=
  if (travelReport s).lossHolds w && timerDue 500 10 (s.gov.loss w) then
    reportBatch [lossReport w] (s.withSpeed (travelSense s) (s.gov.setWheel w .lost none 0))
  else s

/-- WHEEL_READMISSION (R43): the second agreeing reading. -/
def readmission (w : Wheel) (s : State) : State :=
  if decide (s.gov.chan w = .lost) && decide ((travelReport s).gov.chan w = .inUse) then
    s.withSpeed (travelSense s) (s.gov.setWheel w .inUse none 0)
  else s

/-- WHEEL_SILENCE_TIMEOUT (R44). -/
def silenceTimeout (s : State) : State :=
  if (travelSense s).silenceHolds && timerDue 1000 10 s.gov.silence then
    reportBatch [wheelsLostReport] (s.withSpeed (travelSense s) { s.gov with silence := some 1000 })
  else s

/-- NEUTRAL_DWELL_ELAPSED (R52). -/
def dwellElapsed (s : State) : State :=
  if s.gov.c = 0 ∧ s.gov.dwell < 300 ∧ 300 ≤ s.gov.dwell + 10 then s.setGov { s.gov with dwell := s.gov.dwell + 10 } else s

/-- OVERSPEED_TIMEOUT (R58). -/
def overspeedTimeout (s : State) : State :=
  if (travelDrive s).overspeedHolds && timerDue 1000 10 s.gov.overspeed then
    reportBatch [overspeedReport (travelDrive s).gov.vAct] (s.withSpeed (travelDrive s) { s.gov with overspeed := some 1000 })
  else s

/-- OPERATOR_ABSENT_TIMEOUT (R59). -/
def operatorTimeout (s : State) : State :=
  if (travelDrive s).operatorHolds && timerDue 1000 10 s.gov.operator then
    reportBatch [operatorReport] (s.withSpeed (travelDrive s) { s.gov with operator := some 1000 })
  else s

/-- The arrival timer of a waiting SET_PACE reaches 500 ms at this step (R48). -/
def State.arrivalDue (s : State) (w : TravelWait) : Bool :=
  (travelDrive s).arrivalHolds (travelApproach s).signedTarget && timerDue 500 10 w.arrival

/-- PACE_ARRIVAL (R48). -/
def paceArrival (s : State) : State :=
  match s.gov.waiting with
  | some w => if decide (w.kind = .setPace) && s.arrivalDue w then arrive (travelDrive s).gov.limiter w s else s
  | none => s

/-- PACE_TIMEOUT (R48): with no arrival at this step. -/
def paceTimeout (s : State) : State :=
  match s.gov.waiting with
  | some w =>
    if decide (w.kind = .setPace) && !s.arrivalDue w && decide (w.timeout ≤ s.since w.takeTime) then
      endTravelWait .timedOut (travelDrive s).gov.limiter.code s
    else s
  | none => s

/-- STOP_TIMEOUT (R49): at standstill the STOP completes OK all the same. -/
def stopTimeout (s : State) : State :=
  match s.gov.waiting with
  | some w =>
    if decide (w.kind = .stop) && decide (20000 ≤ s.since w.takeTime) then stopTest (travelDrive s) w s else s
  | none => s

/-! ### The commands -/

/-- TRAVEL_STEP (R39). -/
def execTravelStep (s : State) : Host.Outcome State Fault Refusal := atStep travelStep s

/-- WHEEL_DISAGREE_TIMEOUT (R41). -/
def execWheelDisagreeTimeout (s : State) : Host.Outcome State Fault Refusal := atStep disagreeTimeout s

/-- WHEEL_LOSS_TIMEOUT (R42). -/
def execWheelLossTimeout (w : Wheel) (s : State) : Host.Outcome State Fault Refusal := atStep (lossTimeout w) s

/-- WHEEL_READMISSION (R43). -/
def execWheelReadmission (w : Wheel) (s : State) : Host.Outcome State Fault Refusal := atStep (readmission w) s

/-- WHEEL_SILENCE_TIMEOUT (R44). -/
def execWheelSilenceTimeout (s : State) : Host.Outcome State Fault Refusal := atStep silenceTimeout s

/-- NEUTRAL_DWELL_ELAPSED (R52). -/
def execNeutralDwellElapsed (s : State) : Host.Outcome State Fault Refusal := atStep dwellElapsed s

/-- OVERSPEED_TIMEOUT (R58). -/
def execOverspeedTimeout (s : State) : Host.Outcome State Fault Refusal := atStep overspeedTimeout s

/-- OPERATOR_ABSENT_TIMEOUT (R59). -/
def execOperatorAbsentTimeout (s : State) : Host.Outcome State Fault Refusal := atStep operatorTimeout s

/-- PACE_ARRIVAL (R48). -/
def execPaceArrival (s : State) : Host.Outcome State Fault Refusal := atStep paceArrival s

/-- PACE_TIMEOUT (R48). -/
def execPaceTimeout (s : State) : Host.Outcome State Fault Refusal := atStep paceTimeout s

/-- STOP_TIMEOUT (R49). -/
def execStopTimeout (s : State) : Host.Outcome State Fault Refusal := atStep stopTimeout s

end Sys2Proof.Machine
end

