-- ==== Sys2Proof/Machine/Arms.lean ====
section
/-! DEFINITION. The arm step in its six stages (R63 to R85), and the expiries and completions judged at it. -/
namespace Sys2Proof.Machine

/-! ### What the arm step reads -/

/-- Rotation is commanded (R76). -/
def rotates (r : ArmRecord) : Bool :=
  match r.state with
  | .lowering => true
  | .working => true
  | .deflected => true
  | .lifting => true
  | .hover => true
  | _ => false

/-- The states in which the swing channel is judged (R80). -/
def judgesSwing (r : ArmRecord) : Bool :=
  match r.state with
  | .lowering => true
  | .working => true
  | .deflected => true
  | .lifting => true
  | _ => false

/-- The mode is ENGAGING or SWEEPING (R65, R69, R70). -/
def State.worksMode (s : State) : Bool := decide (s.modc.mode = .engaging) || decide (s.modc.mode = .sweeping)

/-- A profile brush speed (R75). -/
def Profile.brushSpeed (p : Profile) : Arm → Nat
  | .left => p.brushSpeedL
  | .right => p.brushSpeedR
  | .main => p.brushSpeedM

/-- A profile down-pressure (R74). -/
def Profile.downPressure (p : Profile) : Arm → Nat
  | .left => p.downPressureL
  | .right => p.downPressureR
  | .main => p.downPressureM

/-- The swing channel of an arm is VALID; MAIN has none. -/
def State.swingValid (s : State) (a : Arm) : Bool :=
  match armSide a with
  | some side => s.valid (swingChannel side)
  | none => true

/-- The stored angle after stage 1 (R24, R29). -/
def State.nextSwing (s : State) (a : Arm) (old : Nat) : Nat :=
  match armSide a with
  | some side => if s.valid (swingChannel side) then angleOfDuty (s.channel (swingChannel side)).2 else old
  | none => old

/-- The swing angle is at or below the release level, deflect_threshold − deflect_hysteresis (R67). -/
def State.belowRelease (s : State) (r : ArmRecord) : Bool := decide (r.swing + s.deflectHysteresis ≤ s.deflectThreshold)

/-! ### Stages 1 and 2 (R63, R75) -/

/-- Stages 1 and 2 of one record. -/
def armRead (s : State) (a : Arm) (r : ArmRecord) : ArmRecord :=
  { r with
    swing := s.nextSwing a r.swing
    measured := s.brushSpeed a
    target := s.modc.profile.brushSpeed a * s.loadm.scale / 1000 }

/-- A record with the readings and the target of this step. -/
def State.readArm (s : State) (a : Arm) : ArmRecord := armRead s a (s.arm a)

/-! ### The timers of stage 3 (log entry 17) -/

/-- Spin-up is complete and the brush has a target: the stall tests run (R78, R79). -/
def stallTested (r : ArmRecord) : Bool := rotates r && decide (1500 ≤ r.spinUp) && decide (0 < r.target)

/-- The stall condition (R78). -/
def State.stallHolds (s : State) (a : Arm) (r : ArmRecord) : Bool :=
  stallTested r && s.valid (brushChannel a) && decide (r.measured * 5 < r.target)

/-- The silence condition (R79). -/
def State.silentBrush (s : State) (a : Arm) (r : ArmRecord) : Bool := stallTested r && !s.valid (brushChannel a)

/-- The spin-up timer at an arm step (R76). -/
def nextSpinUp (r : ArmRecord) : Nat := if rotates r then min 1500 (r.spinUp + 10) else r.spinUp

/-- The timers of one record, advanced for the state it holds at the start of the step. -/
def armTimers (s : State) (a : Arm) (r : ArmRecord) : ArmRecord :=
  let r1 := { r with stateTimer := min 65535 (r.stateTimer + 10), spinUp := nextSpinUp r }
  { r1 with
    stall := timerFollow 500 10 (s.stallHolds a r1) r.stall
    silence := timerFollow 1000 10 (s.silentBrush a r1) r.silence
    angleLoss := timerFollow 200 10 (judgesSwing r && !s.swingValid a) r.angleLoss
    hover := if r.state = .lifting then timerFollow 300 10 (!s.input (downInput a)) r.hover else r.hover
    ret := if r.state = .deflected then timerFollow 300 10 (s.belowRelease r1) r.ret else r.ret
    deflection := if r.state = .deflected then min 2000 (r.deflection + 10) else r.deflection }

/-! ### The exclusion tests (R82) -/

/-- The detail of ARM_STUCK for a record at 4000 ms in its state, or none (R82). -/
def State.stuckDetail (s : State) (a : Arm) (r : ArmRecord) : Option Nat :=
  match r.state with
  | .lowering => if s.input (downInput a) then none else some 1
  | .raising => if s.input (upInput a) then none else some 2
  | .lifting => if s.input (downInput a) then some 3 else none
  | _ => none

/-- ARM_STUCK (R82; log entry 18). -/
def State.stuckTest (s : State) (a : Arm) (r0 r : ArmRecord) : Option Nat :=
  if countReached 4000 r0.stateTimer r.stateTimer then s.stuckDetail a r else none

/-- ARM_ANGLE_LOST (R80, R82): the detail is the channel state. -/
def State.angleTest (s : State) (a : Arm) (r0 r : ArmRecord) : Option Nat :=
  match armSide a with
  | some side => if timerReached 200 r0.angleLoss r.angleLoss then some (lossDetail (s.channel (swingChannel side)).1) else none
  | none => none

/-- ARM_DEFLECT_LONG (R67, R82). -/
def deflectTest (r0 r : ArmRecord) : Option Nat :=
  if r.state = .deflected ∧ countReached 2000 r0.deflection r.deflection then some r.swing else none

/-- BRUSH_STALL (R78, R79, R82). -/
def stallTest (r0 r : ArmRecord) : Option Nat :=
  if timerReached 500 r0.stall r.stall then some r.measured
  else if timerReached 1000 r0.silence r.silence then some 65535
  else none

/-- The exclusion test met, if any, in rank order, with its detail (R82); `r0` is the record before its timers advanced. -/
def State.exclusionTest (s : State) (a : Arm) (r0 r : ArmRecord) : Option (FaultKind × Nat) :=
  match s.stuckTest a r0 r, s.angleTest a r0 r, deflectTest r0 r, stallTest r0 r with
  | some d, _, _, _ => some (.armStuck, d)
  | none, some d, _, _ => some (.armAngleLost, d)
  | none, none, some d, _ => some (.armDeflectLong, d)
  | none, none, none, some d => some (.brushStall, d)
  | none, none, none, none => none

/-! ### The transitions (R64 to R71) -/

/-- The motor starts from rest: a record enters LOWERING from STOWED or RAISING (R65, R70, R76). -/
def startLowering (r : ArmRecord) : ArmRecord :=
  { enterState .lowering r with spinUp := 0, stall := none, silence := none, trim := 0 }

/-- A record may go down from STOWED or RAISING (R65, R70). -/
def State.mayLower (s : State) (a : Arm) (r : ArmRecord) : Bool :=
  (decide (r.req = .working) || (decide (r.req = .hover) && (armSide a).isSome)) && s.worksMode
    && ((armSide a).isNone || !s.reverseState)

/-- The stow request applies to these states (R64). -/
def stowable (r : ArmRecord) : Bool := rotates r

/-- The reverse test applies to these states (R64). -/
def reversible (r : ArmRecord) : Bool :=
  match r.state with
  | .lowering => true
  | .working => true
  | .deflected => true
  | _ => false

/-- Progress in LOWERING (R65). -/
def lowerProgress (s : State) (a : Arm) (r : ArmRecord) : ArmRecord :=
  if s.input (downInput a) then
    match r.req with
    | .working => enterState .working r
    | .hover => if (armSide a).isSome then enterState .lifting r else r
    | .stowed => r
  else r

/-- Progress in WORKING (R66); MAIN makes no transition. -/
def workProgress (s : State) (a : Arm) (r : ArmRecord) : ArmRecord :=
  if (armSide a).isNone then r
  else if r.req = .hover then enterState .lifting r
  else if s.deflectThreshold < r.swing then enterState .deflected r
  else r

/-- Progress in DEFLECTED (R67). -/
def deflectProgress (r : ArmRecord) : ArmRecord :=
  if r.req = .hover then enterState .lifting r else if timerAt 300 r.ret then enterState .working r else r

/-- Progress in LIFTING (R68). -/
def liftProgress (r : ArmRecord) : ArmRecord := if timerAt 300 r.hover then enterState .hover r else r

/-- Progress in HOVER (R69). -/
def hoverProgress (s : State) (r : ArmRecord) : ArmRecord :=
  if r.req = .working ∧ ¬s.reverseState ∧ s.worksMode then enterState .lowering r else r

/-- Progress in RAISING (R70). -/
def raiseProgress (s : State) (a : Arm) (r : ArmRecord) : ArmRecord :=
  if s.input (upInput a) then enterState .stowed r else if s.mayLower a r then startLowering r else r

/-- The progress test of a record's state (R64). -/
def progress (s : State) (a : Arm) (r : ArmRecord) : ArmRecord :=
  match r.state with
  | .stowed => if s.mayLower a r then startLowering r else r
  | .lowering => lowerProgress s a r
  | .working => workProgress s a r
  | .deflected => deflectProgress r
  | .lifting => liftProgress r
  | .hover => hoverProgress s r
  | .raising => raiseProgress s a r
  | .out => r

/-- The tests of R64 after the exclusion tests. -/
def transition (s : State) (a : Arm) (r : ArmRecord) : ArmRecord :=
  if r.req = .stowed ∧ stowable r then enterRaising r
  else if (armSide a).isSome ∧ s.reverseState ∧ reversible r then enterState .lifting r
  else progress s a r

/-- The angle-loss timer after the transition: it starts at the step at which its condition first holds (R80, log entry 17). -/
def settleAngle (s : State) (a : Arm) (r : ArmRecord) : ArmRecord :=
  { r with angleLoss := if judgesSwing r && !s.swingValid a then some (r.angleLoss.getD 0) else none }

/-- Whether the condition behind a record's exclusion ends at this step (R83); only for a record in OUT at its start. -/
def State.causeEnds (s : State) (a : Arm) (r0 r : ArmRecord) : Bool :=
  match r.cause with
  | some .armStuck => countReached 4000 r0.stateTimer r.stateTimer
  | some .brushStall => countReached 4000 r0.stateTimer r.stateTimer
  | some .armAngleLost => s.swingValid a
  | some .armDeflectLong => s.swingValid a && s.belowRelease r
  | _ => false

/-- A record in OUT at an arm step (R71, R83; log entry 19). -/
def outStep (s : State) (a : Arm) (r0 r : ArmRecord) : ArmRecord :=
  if s.causeEnds a r0 r then { r with causePresent := false } else r

/-- Stage 3 of one record (R64); `s0` is the state before the timers advanced. -/
def armTransition (s0 : State) (a : Arm) (s : State) : State :=
  let r := s.arm a
  if r.state = .out then setArm a (outStep s a (s0.arm a) r) s
  else
    match s.exclusionTest a (s0.arm a) r with
    | some (k, _) => failWaiting a r.waiting k.rank (setArm a (settleAngle s a (enterOut k r)) s)
    | none => setArm a (settleAngle s a (transition s a r)) s

/-! ### Stages 4 and 5 (R73, R74, R77, R81) -/

/-- The brush trim (R77). -/
def State.nextBrushTrim (s : State) (a : Arm) (r : ArmRecord) : Int :=
  if !rotates r then 0
  else if r.spinUp < 1500 ∨ ¬s.valid (brushChannel a) then 0
  else clampInt (-150) 150 (r.trim + roundDiv (((r.target : Int) - r.measured) * s.kBrush) 256)

/-- The down-pressure duty (R74). -/
def State.pressDuty (s : State) (a : Arm) (r : ArmRecord) : Nat :=
  if r.state = .working then s.evalAt pressureCurveBase (s.modc.profile.downPressure a) else 0

/-- The motor duty (R77). -/
def State.motorDuty (s : State) (a : Arm) (r : ArmRecord) : Nat :=
  if rotates r then (clampInt 0 1000 ((s.evalAt (brushCurveBase a) r.target : Int) + r.trim)).toNat else 0

/-- The reach (R29, R81). -/
def State.reachOf (s : State) (a : Arm) (r : ArmRecord) : Nat :=
  match armSide a with
  | some side => if r.state = .working ∨ r.state = .deflected then s.evalAt (reachTableBase side) r.swing else 0
  | none => 0

/-- Trim, pressure and reach of one record for the state it now holds. -/
def armOutputs (s : State) (a : Arm) (r : ArmRecord) : ArmRecord :=
  { r with trim := s.nextBrushTrim a r, press := s.pressDuty a r, reach := s.reachOf a r }

/-- Hand one arm's outputs (R73). -/
def handWorking (a : Arm) (s : State) : State := handRecord a (s.motorDuty a (s.arm a)) s

/-- Stages 4 and 5. -/
def armPublish (s : State) : State :=
  let s1 := mapArms (armOutputs s) s
  publishWidth (handWorking .main (handWorking .right (handWorking .left s1)))

/-! ### Stage 6 (R82, R83, R85) -/

/-- The report of one arm for one kind, if its exclusion test was met (R82). -/
def armReport (s0 s : State) (k : FaultKind) (a : Arm) : List Report :=
  if (s.arm a).state = .out then []
  else
    match s.exclusionTest a (s0.arm a) (s.arm a) with
    | some (k', d) => reportIf (decide (k' = k)) { kind := k, source := .armc a, detail := d }
    | none => []

/-- The reports of one arm step, by rank and then LEFT, RIGHT, MAIN (R82). -/
def armReports (s0 s : State) : List Report :=
  [FaultKind.armStuck, .armAngleLost, .armDeflectLong, .brushStall].flatMap fun k =>
    armReport s0 s k .left ++ armReport s0 s k .right ++ armReport s0 s k .main

/-- The condition ends of the four arm kinds (R83). -/
def armEnds (s : State) : State :=
  armConditionEnd .brushStall (armConditionEnd .armDeflectLong (armConditionEnd .armAngleLost (armConditionEnd .armStuck s)))

/-- The record's state matches a requested state (R85). -/
def matchesReq (st : ArmState) (req : ReqState) : Bool :=
  match req with
  | .stowed => decide (st = .stowed)
  | .hover => decide (st = .hover)
  | .working => decide (st = .working) || decide (st = .deflected)

/-- The arm controller's own completion of a record's waiting order (R85). -/
def endArmWait (a : Arm) (w : ArmWait) (r : Result) (detail : Nat) (s : State) : State :=
  completionNotice (armTarget a) w.slot w.takeTime r detail (setArm a { s.arm a with waiting := none } s)

/-- The test of one record's waiting order (R85). -/
def armWaiting (a : Arm) (s : State) : State :=
  match (s.arm a).waiting with
  | none => s
  | some w =>
    if matchesReq (s.arm a).state w.req then endArmWait a w .ok 0 s
    else if 8000 ≤ s.since w.takeTime then endArmWait a w .timedOut (s.arm a).state.code s
    else s

/-- Stage 6. -/
def armFinish (reports : List Report) (s : State) : State :=
  armWaiting .main (armWaiting .right (armWaiting .left (armEnds (reportBatch reports s))))

/-! ### The arm step -/

/-- The records with their readings, targets and timers of this step. -/
def armPrepare (s : State) : State := mapArms (armTimers s) (mapArms (armRead s) s)

/-- Stage 3 of the three records. -/
def armTransitions (s0 s : State) : State := armTransition s0 .main (armTransition s0 .right (armTransition s0 .left s))

/-- The arm step (R63). -/
def armStep (s : State) : State :=
  let s1 := armPrepare s
  armFinish (armReports s s1) (armPublish (armTransitions s s1))

/-! ### The expiries (log entry 4) -/

/-- An arm goes OUT for a kind, its record with the readings of this step, is handed its outputs, and is reported (R63, R71, R73,
R82). -/
def excludeArm (a : Arm) (k : FaultKind) (detail : Nat) (s : State) : State :=
  reportBatch [{ kind := k, source := .armc a, detail := detail }]
    (handRecord a 0
      (failWaiting a (s.arm a).waiting k.rank (setArmAndWidth a { enterOut k (s.readArm a) with angleLoss := none } s)))

/-- The record at the next arm step, after its stages 1 and 2 and with its timers advanced (R63; log entry 4). -/
def State.dueRecord (s : State) (a : Arm) : ArmRecord := armTimers s a (s.readArm a)

/-- The exclusion test met at the next arm step, if any, in rank order (R82). -/
def State.dueExclusion (s : State) (a : Arm) : Option (FaultKind × Nat) := s.exclusionTest a (s.arm a) (s.dueRecord a)

/-- Make an arm's exclusion tests at the step at which one of them, `own`, is met: the first in rank order decides (R82). -/
def excludeDue (a : Arm) (own : Bool) (s : State) : State :=
  if own then
    match s.dueExclusion a with
    | some (k, detail) => excludeArm a k detail s
    | none => s
  else s

/-- ARM_STUCK_TIMEOUT (R82). -/
def stuckTimeout (a : Arm) (s : State) : State := excludeDue a (s.stuckTest a (s.arm a) (s.dueRecord a)).isSome s

/-- ANGLE_LOSS_TIMEOUT (R80). -/
def angleTimeout (a : Arm) (s : State) : State := excludeDue a (s.angleTest a (s.arm a) (s.dueRecord a)).isSome s

/-- DEFLECT_LONG_TIMEOUT (R67). -/
def deflectTimeout (a : Arm) (s : State) : State := excludeDue a (deflectTest (s.arm a) (s.dueRecord a)).isSome s

/-- BRUSH_STALL_TIMEOUT (R78). -/
def stallTimeout (a : Arm) (s : State) : State :=
  excludeDue a (timerReached 500 (s.arm a).stall (s.dueRecord a).stall) s

/-- BRUSH_SILENCE_TIMEOUT (R79). -/
def brushSilenceTimeout (a : Arm) (s : State) : State :=
  excludeDue a (timerReached 1000 (s.arm a).silence (s.dueRecord a).silence) s

/-- The motor output of an arm. -/
def motorOutput : Arm → PwmOut
  | .left => .lMotor
  | .right => .rMotor
  | .main => .mMotor

/-- The motor duty an arm's output holds (R135). -/
def State.heldMotor (s : State) (a : Arm) : Nat := (s.tma.outputs.get (motorOutput a)).held

/-- The motor duty of a record that has moved: as it stands while rotation stays commanded, by R77 where it starts (R76). -/
def State.movedMotor (s : State) (a : Arm) (r : ArmRecord) : Nat :=
  if rotates r && rotates (s.arm a) then s.heldMotor a else s.motorDuty a r

/-- The outputs and the reach of a record that has moved: the motor duty by R76, the pressure by R74, the reach by R29 and W by R30. -/
def moveArm (a : Arm) (r : ArmRecord) (s : State) : State :=
  handRecord a (s.movedMotor a r)
    (setArmAndWidth a
      { r with
        press := s.pressDuty a r
        reach := s.reachOf a r
        angleLoss := if judgesSwing r then r.angleLoss else none } s)

/-- The record after the tests of R64 that follow the exclusion tests, its readings and the timers of its progress test those of the
next arm step. -/
def State.dueTransition (s : State) (a : Arm) : ArmRecord :=
  transition s a { s.readArm a with ret := (s.dueRecord a).ret, hover := (s.dueRecord a).hover }

/-- The one transition that R64 gives a record at the next arm step: an exclusion first, then the stow request, the reverse and the
progress test; a record that meets none stays as it is. -/
def timedMove (a : Arm) (s : State) : State :=
  match s.dueExclusion a with
  | some (k, detail) => excludeArm a k detail s
  | none => if (s.dueTransition a).state = (s.arm a).state then s else moveArm a (s.dueTransition a) s

/-- DEFLECT_RETURN (R67). -/
def deflectReturn (a : Arm) (s : State) : State :=
  let r := s.arm a
  if decide (r.state = .deflected) && timerReached 300 r.ret (s.dueRecord a).ret then timedMove a s
  else s

/-- HOVER_REACHED (R68). -/
def hoverReached (a : Arm) (s : State) : State :=
  let r := s.arm a
  if decide (r.state = .lifting) && timerReached 300 r.hover (s.dueRecord a).hover then timedMove a s
  else s

/-- SPIN_UP_COMPLETE (R76). -/
def spinUpComplete (a : Arm) (s : State) : State :=
  let r := s.arm a
  if rotates r && countReached 1500 r.spinUp (r.spinUp + 10) then setArm a { r with spinUp := 1500 } s else s

/-- OUT_RAISE_END (R71, R83). -/
def outRaiseEnd (a : Arm) (s : State) : State :=
  let r := s.arm a
  if decide (r.state = .out) && countReached 4000 r.stateTimer (r.stateTimer + 10) then
    armConditionEnd .brushStall
      (armConditionEnd .armStuck (handRecord a 0 (setArm a (clearRaiseFlag { r with stateTimer := r.stateTimer + 10 }) s)))
  else s

/-- SET_ARM_TIMEOUT (R85): the record makes the transition of this step first (R64), so an exclusion that is due ends the order
FAILED (R71) and a match at this step completes it OK. -/
def setArmTimeout (a : Arm) (s : State) : State :=
  match (s.arm a).waiting with
  | some w => if 8000 ≤ s.since w.takeTime then armWaiting a (timedMove a s) else s
  | none => s

/-! ### The commands -/

/-- ARM_STEP (R63). -/
def execArmStep (s : State) : Host.Outcome State Fault Refusal := atStep armStep s

/-- ARM_STUCK_TIMEOUT (R82). -/
def execArmStuckTimeout (a : Arm) (s : State) : Host.Outcome State Fault Refusal := atStep (stuckTimeout a) s

/-- ANGLE_LOSS_TIMEOUT (R80). -/
def execAngleLossTimeout (side : Side) (s : State) : Host.Outcome State Fault Refusal := atStep (angleTimeout side.arm) s

/-- DEFLECT_LONG_TIMEOUT (R67). -/
def execDeflectLongTimeout (side : Side) (s : State) : Host.Outcome State Fault Refusal := atStep (deflectTimeout side.arm) s

/-- DEFLECT_RETURN (R67). -/
def execDeflectReturn (side : Side) (s : State) : Host.Outcome State Fault Refusal := atStep (deflectReturn side.arm) s

/-- HOVER_REACHED (R68). -/
def execHoverReached (side : Side) (s : State) : Host.Outcome State Fault Refusal := atStep (hoverReached side.arm) s

/-- SPIN_UP_COMPLETE (R76). -/
def execSpinUpComplete (a : Arm) (s : State) : Host.Outcome State Fault Refusal := atStep (spinUpComplete a) s

/-- BRUSH_STALL_TIMEOUT (R78). -/
def execBrushStallTimeout (a : Arm) (s : State) : Host.Outcome State Fault Refusal := atStep (stallTimeout a) s

/-- BRUSH_SILENCE_TIMEOUT (R79). -/
def execBrushSilenceTimeout (a : Arm) (s : State) : Host.Outcome State Fault Refusal := atStep (brushSilenceTimeout a) s

/-- OUT_RAISE_END (R71). -/
def execOutRaiseEnd (a : Arm) (s : State) : Host.Outcome State Fault Refusal := atStep (outRaiseEnd a) s

/-- SET_ARM_TIMEOUT (R85). -/
def execSetArmTimeout (a : Arm) (s : State) : Host.Outcome State Fault Refusal := atStep (setArmTimeout a) s

end Sys2Proof.Machine
end

