-- ==== Sys2Proof/Machine/Water.lean ====
section
/-! DEFINITION. The water step in its six stages (R90 to R105), and the expiries judged at it. -/
namespace Sys2Proof.Machine

/-! ### Stages 1 and 2: tank and supply (R91 to R93) -/

/-- The tank-empty flag after R92. -/
def nextTankEmpty (old : Bool) (level low : Nat) : Bool :=
  if old then !decide (low + 20 < level) else decide (level ≤ low)

/-- The available flow (R93). -/
def State.supply (s : State) : Nat :=
  if s.watc.waterOut then 0
  else if !s.watc.levelKnown then 0
  else if s.watc.tankEmpty then 0
  else if s.watc.level < s.tankLow then s.qPump / 2
  else s.qPump

/-- Stages 1 and 2 but for Qavail (R91, R92). With the TANK channel lost the table of R92 is applied to the level that R91 holds, so
a LOAD_CALIBRATION that changes tank_empty can move the flag then (DESIGN CHOICE, log entry 37). -/
def waterTank (s : State) : State :=
  let valid := s.valid .tank
  let level := if valid then levelOfDuty (s.channel .tank).2 else s.watc.level
  let known := s.watc.levelKnown || valid
  s.setWatc { s.watc with
    level := level
    levelKnown := known
    tankEmpty := if known then nextTankEmpty s.watc.tankEmpty level s.tankEmptyLevel else s.watc.tankEmpty
    tankLoss := timerFollow 1000 20 (!valid) s.watc.tankLoss
    qMeas := s.measuredFlow }

/-- Qavail (R93). -/
def waterSupply (s : State) : State := s.setWatc { s.watc with qAvail := s.supply }

/-! ### Bands and groups (R97 to R100) -/

/-- A band part overlaps group k (R98). -/
def overlaps (k : Nat) (part : Int × Int) : Bool :=
  decide (part.1 < part.2) && decide (part.1 < -1125 + 375 * (k : Int)) && decide (-1500 + 375 * (k : Int) < part.2)

/-- The groups that some part of a band overlaps. -/
def bandGroups (band : List (Int × Int)) : BitVec 8 :=
  (List.range 8).foldl (fun acc k => if band.any (overlaps k) then acc ||| BitVec.twoPow 8 k else acc) 0

/-- The left part of a band. -/
def leftPart (reach : Nat) : Int × Int := (-700 - (reach : Int), -700)

/-- The right part of a band. -/
def rightPart (reach : Nat) : Int × Int := (700, 700 + (reach : Int))

/-- A band part if a test holds. -/
def partIf (b : Bool) (p : Int × Int) : List (Int × Int) := if b then [p] else []

/-- The priming band (R97). -/
def State.primingBand (s : State) : List (Int × Int) :=
  (-700, 700)
    :: partIf (s.modc.profile.selectLeft && decide (s.armc.left.state ≠ .out)) (leftPart (s.evalAt (reachTableBase .left) 0))
    ++ partIf (s.modc.profile.selectRight && decide (s.armc.right.state ≠ .out)) (rightPart (s.evalAt (reachTableBase .right) 0))

/-- A side arm sweeps (R29, R99). -/
def sweeps (r : ArmRecord) : Bool := decide (r.state = .working) || decide (r.state = .deflected)

/-- The swept band outside PRIMING (R99). -/
def State.sweptBand (s : State) : List (Int × Int) :=
  partIf (decide (s.armc.main.state = .working)) (-700, 700)
    ++ partIf (sweeps s.armc.left) (leftPart s.armc.left.reach)
    ++ partIf (sweeps s.armc.right) (rightPart s.armc.right.reach)

/-- The phase is PRIMING. -/
def State.priming (s : State) : Bool := decide (s.modc.phase = .priming)

/-- The band of this step (R99). -/
def State.band (s : State) : List (Int × Int) := if s.priming then s.primingBand else s.sweptBand

/-! ### Stage 3: demand, priming, command (R31, R95, R96) -/

/-- No nozzle group can open at this step (R96, first case). -/
def State.nothingToPrime (s : State) : Bool :=
  decide (min s.primeFlow s.watc.qAvail = 0) || decide (bandGroups s.primingBand &&& s.watc.mask = 0)

/-- The prime-hold condition (R96). -/
def State.primeFlows (s : State) : Bool := decide (s.primeFlow ≤ s.watc.qMeas * 2)

/-- The prime status at a later water step in PRIMING with status RUNNING (R96). -/
def primeRunning (s : State) : WaterControl :=
  let timer := min 5000 (s.watc.primeTimer + 20)
  let hold := timerFollow 200 20 s.primeFlows s.watc.primeHold
  let w := { s.watc with primeTimer := timer, primeHold := hold }
  if s.nothingToPrime then { w with prime := .primed }
  else if timerAt 200 hold then { w with prime := .primed }
  else if 5000 ≤ timer then { w with prime := .dry }
  else w

/-- The prime status at a water step (R96). -/
def waterPrime (s : State) : State :=
  s.setWatc
    (if !s.priming then primeIdle s.watc
    else match s.watc.prime with
      | .idle => { s.watc with prime := .running, primeTimer := 0, primeHold := none }
      | .running => primeRunning s
      | .primed => s.watc
      | .dry => s.watc)

/-- The flow command (R95). -/
def State.flowCommand (s : State) : Nat :=
  let spray := if 0 < s.dose ∧ 0 < s.armc.width ∧ s.modc.profile.sprayMinSpeed ≤ s.gov.vAct then min s.watc.qDem s.watc.qAvail else 0
  match s.modc.mode with
  | .sweeping => spray
  | .engaging =>
    match s.modc.phase with
    | .priming => if s.watc.prime = .running ∨ s.watc.prime = .primed then min s.primeFlow s.watc.qAvail else 0
    | .lowering => spray
    | .settling => spray
    | _ => 0
  | _ => 0

/-- Qdem (R31). -/
def waterDemand (s : State) : State := s.setWatc { s.watc with qDem := flowDemand s.dose s.gov.vAct s.armc.width }

/-- Q_cmd (R95). -/
def waterCommand (s : State) : State := s.setWatc { s.watc with qCmd := s.flowCommand }

/-! ### Stages 4 and 5: groups and pump (R100, R101) -/

/-- The open set (R100). -/
def State.groupsOpen (s : State) : BitVec 8 := if s.watc.qCmd = 0 then 0 else bandGroups s.band &&& s.watc.mask

/-- Stage 4. -/
def waterGroups (s : State) : State := s.setWatc { s.watc with openSet := s.groupsOpen }

/-- The flow trim (R101). -/
def State.nextFlowTrim (s : State) : Int :=
  if s.watc.openSet = 0 then 0
  else if !s.valid .flow || s.watc.flowLossFlag then 0
  else clampInt (-100) 100 (s.watc.trim + roundDiv (((s.watc.qCmd : Int) - s.watc.qMeas) * s.kFlow) 4096)

/-- The pump duty, with the trim of this step (R101). -/
def State.pumpDuty (s : State) : Nat :=
  if s.watc.openSet = 0 then 0
  else (clampInt 0 1000 ((s.evalAt pumpCurveBase s.watc.qCmd : Int) + s.watc.trim)).toNat

/-- Stage 5. -/
def waterPump (s : State) : State :=
  let s1 := s.setWatc { s.watc with trim := s.nextFlowTrim }
  handWater (s1.setWatc { s1.watc with duty := s1.pumpDuty })

/-! ### Stage 6: supervision (R102, R103, R105; log entry 20) -/

/-- The dry-run condition is R103's list. A silent FLOW channel at a Q_cmd below 500, which sets no flow-loss flag, meets it too, and
WATER_DRY is then reported at 3000 ms: R102 and R103 leave this case open (DESIGN CHOICE, log entry 44). -/
def State.dryRunHolds (s : State) : Bool :=
  !s.priming && !s.watc.flowLossFlag && decide (0 < s.watc.duty) && decide (s.watc.qMeas * 10 < s.watc.qCmd)

/-- The flow-loss condition (R102). -/
def State.flowLossHolds (s : State) : Bool := !s.valid .flow && decide (0 < s.watc.duty) && decide (500 ≤ s.watc.qCmd)

/-- WATER_DRY: detail 1 at a prime timeout, 2 at a dry run (R105). -/
def waterDryReport (detail : Nat) : Report := { kind := .waterDry, source := .watc, detail := detail }
/-- TANK_SENSOR_LOST (R105). -/
def tankLostReport (s : State) : Report :=
  { kind := .tankSensorLost, source := .watc, detail := lossDetail (s.channel .tank).1 }
/-- FLOW_SENSOR_LOST (R102). -/
def flowLostReport (s : State) : Report := { kind := .flowSensorLost, source := .watc, detail := s.watc.qCmd }
/-- TANK_EMPTY (R92). -/
def tankEmptyReport (s : State) : Report := { kind := .tankEmpty, source := .watc, detail := s.watc.level }

/-- The timers and flags of stage 6; `w0` is the controller at the start of the step, `primeDry` says the prime timeout fell at it. -/
def waterWatch (w0 : WaterControl) (primeDry : Bool) (s : State) : State :=
  let dryRun := timerFollow 3000 20 s.dryRunHolds s.watc.dryRun
  let flowLoss := timerFollow 1000 20 s.flowLossHolds s.watc.flowLoss
  let dryNow := timerReached 3000 s.watc.dryRun dryRun || primeDry
  let kept := w0.dryReport && decide (0 < s.watc.duty)
  s.setWatc { s.watc with
    dryRun := dryRun
    flowLoss := flowLoss
    flowLossFlag := if s.valid .flow then false else s.watc.flowLossFlag || timerReached 1000 s.watc.flowLoss flowLoss
    dryReport := dryNow || kept }

/-- The reports of one water step, in rank order (R105); `w0` as above, `s` after the timers of stage 6. A sender still lost after a
restart or a wake, which set the tank-loss timer to 0, is reported again at 1000 ms, which R105 and R108 leave open (DESIGN CHOICE, log
entry 45). -/
def waterReports (w0 : WaterControl) (primeDry : Bool) (s : State) : List Report :=
  reportIf primeDry (waterDryReport 1)
    ++ reportIf (timerReached 3000 w0.dryRun s.watc.dryRun) (waterDryReport 2)
    ++ reportIf (timerReached 1000 w0.tankLoss s.watc.tankLoss) (tankLostReport s)
    ++ reportIf (timerReached 1000 w0.flowLoss s.watc.flowLoss) (flowLostReport s)
    ++ reportIf (!w0.tankEmpty && s.watc.tankEmpty) (tankEmptyReport s)

/-- The condition ends of one water step (R92, R102, R105), judged on the controller `w` of this step. -/
def waterEnds (w0 w : WaterControl) (tankValid : Bool) (s : State) : State :=
  let s1 := endIf (w0.dryReport && decide (w.duty = 0)) .waterDry s
  let s2 := endIf tankValid .tankSensorLost s1
  let s3 := endIf (w0.flowLossFlag && !w.flowLossFlag) .flowSensorLost s2
  endIf (w0.tankEmpty && !w.tankEmpty) .tankEmpty s3

/-- Stage 6. -/
def waterSupervise (w0 : WaterControl) (primeDry : Bool) (s : State) : State :=
  let s1 := waterWatch w0 primeDry s
  waterEnds w0 s1.watc (s1.valid .tank) (reportBatch (waterReports w0 primeDry s1) s1)

/-! ### The water step -/

/-- Stages 1 and 2. -/
def waterRead (s : State) : State := waterSupply (waterTank s)

/-- Stages 1 to 5. -/
def waterFlow (s : State) : State :=
  waterPump (waterGroups (waterCommand (waterPrime (waterDemand (waterRead s)))))

/-- The prime timeout fell between two controller states (R96). -/
def primeWentDry (w0 w : WaterControl) : Bool := decide (w0.prime = .running) && decide (w.prime = .dry)

/-- The water step (R90). -/
def waterStep (s : State) : State :=
  let s1 := waterFlow s
  waterSupervise s.watc (primeWentDry s.watc s1.watc) s1

/-! ### The expiries (log entry 4)

Each is judged on what the stages before its test form at that step: `waterRead` for the priming, `waterFlow` for the supervision. -/

/-- Priming runs. -/
def State.primes (s : State) : Bool := s.priming && decide (s.watc.prime = .running)

/-- PRIME_HELD (R96). -/
def primeHeld (s : State) : State :=
  if s.primes && (waterRead s).primeFlows && timerDue 200 20 s.watc.primeHold then
    s.setWatc { s.watc with prime := .primed, primeHold := some 200 }
  else s

/-- PRIME_TIMEOUT (R96, R95): the cases before it not met. -/
def primeTimeout (s : State) : State :=
  if s.primes && !(waterRead s).nothingToPrime && !timerAt 200 (timerFollow 200 20 (waterRead s).primeFlows s.watc.primeHold)
      && countReached 5000 s.watc.primeTimer (s.watc.primeTimer + 20) then
    reportBatch [waterDryReport 1]
      (handWater (s.setWatc { s.watc with
        prime := .dry, primeTimer := 5000, qCmd := 0, openSet := 0, duty := 0, trim := 0, dryReport := true }))
  else s

/-- DRY_RUN_TIMEOUT (R103). -/
def dryRunTimeout (s : State) : State :=
  if (waterFlow s).dryRunHolds && timerDue 3000 20 s.watc.dryRun then
    reportBatch [waterDryReport 2] (s.setWatc { s.watc with dryRun := some 3000, dryReport := true })
  else s

/-- FLOW_LOSS_TIMEOUT (R102). -/
def flowLossTimeout (s : State) : State :=
  if (waterFlow s).flowLossHolds && timerDue 1000 20 s.watc.flowLoss then
    reportBatch [flowLostReport (waterFlow s)] (s.setWatc { s.watc with flowLoss := some 1000, flowLossFlag := true })
  else s

/-- TANK_LOSS_TIMEOUT (R105). -/
def tankLossTimeout (s : State) : State :=
  if !s.valid .tank && timerDue 1000 20 s.watc.tankLoss then
    reportBatch [tankLostReport s] (s.setWatc { s.watc with tankLoss := some 1000 })
  else s

/-! ### The commands -/

/-- WATER_STEP (R90). -/
def execWaterStep (s : State) : Host.Outcome State Fault Refusal := atStep waterStep s

/-- PRIME_HELD (R96). -/
def execPrimeHeld (s : State) : Host.Outcome State Fault Refusal := atStep primeHeld s

/-- PRIME_TIMEOUT (R96). -/
def execPrimeTimeout (s : State) : Host.Outcome State Fault Refusal := atStep primeTimeout s

/-- DRY_RUN_TIMEOUT (R103). -/
def execDryRunTimeout (s : State) : Host.Outcome State Fault Refusal := atStep dryRunTimeout s

/-- FLOW_LOSS_TIMEOUT (R102). -/
def execFlowLossTimeout (s : State) : Host.Outcome State Fault Refusal := atStep flowLossTimeout s

/-- TANK_LOSS_TIMEOUT (R105). -/
def execTankLossTimeout (s : State) : Host.Outcome State Fault Refusal := atStep tankLossTimeout s

end Sys2Proof.Machine
end

