-- ==== Sys2Proof/Machine/Load.lean ====
section
/-! DEFINITION. The load step in its six stages (R109 to R115), and the expiries judged at it. -/
namespace Sys2Proof.Machine

/-- The droop, ‰ (R111). -/
def droopOf (rated n : Nat) : Nat := (rated - n) * 1000 / rated

/-- L_raw (R111). -/
def lRawOf (d1 d2 droop : Nat) : Nat :=
  if droop ≤ d1 then 1000 else if d2 ≤ droop then 300 else 1000 - (droop - d1) * 700 / (d2 - d1)

/-- L after one step toward L_raw (R112). -/
def loadToward (lRaw load : Nat) : Nat := if lRaw ≤ load then lRaw else min lRaw (load + 20)

/-- The engine-loss condition (R114). -/
def State.engineLossHolds (s : State) : Bool :=
  !s.valid .engine && (decide (s.gov.c ≠ 0) || decide (s.modc.mode = .engaging) || decide (s.modc.mode = .sweeping))

/-- Stages 1 and 2 (R110, R114, R115). A loss timer that was cleared with the flag still set and reaches 500 ms again reports
ENGINE_SPEED_LOST again, which R114 leaves open (DESIGN CHOICE, log entry 21). -/
def loadSense (s : State) : State :=
  let timer := timerFollow 500 10 s.engineLossHolds s.loadm.engineLoss
  s.setLoadm { s.loadm with
    n := s.engineSpeed
    engineLoss := timer
    engineLossFlag :=
      if s.valid .engine then false else s.loadm.engineLossFlag || timerReached 500 s.loadm.engineLoss timer }

/-- Stage 3 (R111, R112, R114). -/
def loadFactor (s : State) : State :=
  if s.loadm.engineLossFlag then s.setLoadm { s.loadm with load := 500 }
  else if s.valid .engine then
    let droop := droopOf s.modc.profile.ratedEngineSpeed s.loadm.n
    let lRaw := lRawOf s.d1 s.d2 droop
    s.setLoadm { s.loadm with droop := droop, lRaw := lRaw, load := loadToward lRaw s.loadm.load }
  else s

/-- The brush scale after a load step (R113, R114). -/
def nextScale (l : LoadManager) : LoadManager :=
  if l.engineLossFlag then { l with scale := 1000, floor := none, recovery := none }
  else if l.scale = 1000 then
    let timer := timerFollow 1000 10 (decide (l.load = 300)) l.floor
    if timerAt 1000 timer then { l with scale := 700, floor := none, recovery := none }
    else { l with floor := timer, recovery := none }
  else
    let timer := timerFollow 2000 10 (decide (800 ≤ l.load)) l.recovery
    if timerAt 2000 timer then { l with scale := 1000, floor := none, recovery := none }
    else { l with floor := none, recovery := timer }

/-- Stage 4. -/
def loadScale (s : State) : State := s.setLoadm (nextScale s.loadm)

/-- ENGINE_SPEED_LOST (R114). -/
def engineLostReport (s : State) : Report :=
  { kind := .engineSpeedLost, source := .loadm, detail := lossDetail (s.channel .engine).1 }

/-- Stage 6 (R114, R115); `l0` is the load manager at the start of the step. -/
def loadFinish (l0 : LoadManager) (s : State) : State :=
  endIf (l0.engineLossFlag && !s.loadm.engineLossFlag) .engineSpeedLost
    (reportBatch (reportIf (timerReached 500 l0.engineLoss s.loadm.engineLoss) (engineLostReport s)) s)

/-- Stages 1 to 3. -/
def loadForm (s : State) : State := loadFactor (loadSense s)

/-- The load step (R109). -/
def loadStep (s : State) : State := loadFinish s.loadm (loadScale (loadForm s))

/-! ### The expiries (log entry 4)

The two of the brush scale are judged on L and the engine-loss flag as `loadForm` forms them at that step. -/

/-- FLOOR_TIMER_EXPIRY (R113). -/
def floorExpiry (s : State) : State :=
  if !(loadForm s).loadm.engineLossFlag && decide (s.loadm.scale = 1000) && decide ((loadForm s).loadm.load = 300)
      && timerDue 1000 10 s.loadm.floor then
    s.setLoadm { s.loadm with scale := 700, floor := none }
  else s

/-- RECOVERY_TIMER_EXPIRY (R113). -/
def recoveryExpiry (s : State) : State :=
  if !(loadForm s).loadm.engineLossFlag && decide (s.loadm.scale = 700) && decide (800 ≤ (loadForm s).loadm.load)
      && timerDue 2000 10 s.loadm.recovery then
    s.setLoadm { s.loadm with scale := 1000, recovery := none }
  else s

/-- ENGINE_LOSS_TIMEOUT (R114). -/
def engineLossTimeout (s : State) : State :=
  if s.engineLossHolds && timerDue 500 10 s.loadm.engineLoss then
    reportBatch [engineLostReport s]
      (s.setLoadm { s.loadm with
        engineLoss := some 500, engineLossFlag := true, load := 500, scale := 1000, floor := none, recovery := none })
  else s

/-! ### The commands -/

/-- LOAD_STEP (R109). -/
def execLoadStep (s : State) : Host.Outcome State Fault Refusal := atStep loadStep s

/-- FLOOR_TIMER_EXPIRY (R113). -/
def execFloorTimerExpiry (s : State) : Host.Outcome State Fault Refusal := atStep floorExpiry s

/-- RECOVERY_TIMER_EXPIRY (R113). -/
def execRecoveryTimerExpiry (s : State) : Host.Outcome State Fault Refusal := atStep recoveryExpiry s

/-- ENGINE_LOSS_TIMEOUT (R114). -/
def execEngineLossTimeout (s : State) : Host.Outcome State Fault Refusal := atStep engineLossTimeout s

end Sys2Proof.Machine
end

