-- ==== Sys2Proof/Machine/Timing.lean ====
section
/-! DEFINITION. The timing array's events: the capture channels (R132 to R134), the debounced inputs (R137), the PWM periods (R135) and the period source of trace events (R140). -/
namespace Sys2Proof.Machine

/-! ### Capture channels (R132, R133; log entry 12) -/

/-- The noise filter, µs (section 8.1). -/
def filterTime : Channel → Nat
  | .wheelA => 20
  | .wheelB => 20
  | .engine => 10
  | .lBrush => 50
  | .rBrush => 50
  | .mBrush => 50
  | .flow => 50
  | .lSwing => 5
  | .rSwing => 5
  | .tank => 5

/-- A duty channel (section 8.1). -/
def isDuty : Channel → Bool
  | .lSwing => true
  | .rSwing => true
  | .tank => true
  | _ => false

/-- The timeout, µs (section 8.1, R134). -/
def State.timeoutTime (s : State) (ch : Channel) : Nat :=
  match ch with
  | .wheelA => s.wheelTimeout * 1000
  | .wheelB => s.wheelTimeout * 1000
  | .engine => 500000
  | .lBrush => 1000000
  | .rBrush => 1000000
  | .mBrush => 1000000
  | .flow => 1000000
  | .lSwing => 100000
  | .rSwing => 100000
  | .tank => 100000

/-- The array captures: the step timers run, so the controller does not sleep (R142). -/
def State.captures (s : State) : Bool := s.tma.stepsRunning

/-- Replace a capture channel. -/
def setCapture (ch : Channel) (k : Capture) (s : State) : State :=
  s.setTma { s.tma with captures := s.tma.captures.set ch k }

/-- The instant `us` microseconds after the last millisecond (log entry 12). -/
def State.instant (s : State) (us : Nat) : Nat := s.tma.micros + us

/-- The value of the period an accepted rising edge at instant `t` closes: the period in µs, or its duty in ‰ (R132). -/
def closedValue (ch : Channel) (k : Capture) (t : Nat) : Nat :=
  if isDuty ch then (k.fall - k.rise) * 1000 / (t - k.rise) else t - k.rise

/-- The state a qualified channel takes for a value (R133). -/
def judgedState (ch : Channel) (value : Nat) : ChannelState :=
  if isDuty ch && !(within 50 950 value) then .outOfRange else .valid

/-- A channel that holds a value takes the next one (R133). -/
def qualify (ch : Channel) (k : Capture) (t : Nat) : Capture :=
  { k with state := judgedState ch (closedValue ch k t), value := closedValue ch k t, count := 2 }

/-- The transition of R133 at an accepted rising edge at instant `t`, before the edge's own time is taken. -/
def risingTransition (ch : Channel) (timeout : Nat) (k : Capture) (t : Nat) : Capture :=
  match k.state with
  | .noSignal => { k with state := .acquiring, value := 0, count := 0 }
  | .acquiring =>
    if t - k.rise < timeout then
      if 1 ≤ k.count then qualify ch k t else { k with count := k.count + 1 }
    else { k with count := 0 }
  | .valid => if t - k.rise < timeout then qualify ch k t else { k with state := .acquiring, value := 0, count := 0 }
  | .outOfRange => if t - k.rise < timeout then qualify ch k t else { k with state := .acquiring, value := 0, count := 0 }

/-- Accept an edge to the raw level, timed at the raw change that began it (R132). -/
def acceptedEdge (ch : Channel) (timeout : Nat) (k : Capture) : Capture :=
  if k.raw then { risingTransition ch timeout k k.rawTime with rise := k.rawTime, level := true }
  else { k with fall := k.rawTime, level := false }

/-- The wheel of a channel, for the distance counter. -/
def channelWheel : Channel → Option Wheel
  | .wheelA => some .a
  | .wheelB => some .b
  | _ => none

/-- The distance counter at an accepted edge (R141). A's state and wheel_um_per_pulse are read when the edge is accepted, not at the
raw change that began it (DESIGN CHOICE, log entry 43). -/
def countEdge (ch : Channel) (rising : Bool) (s : State) : State :=
  match channelWheel ch with
  | some w => if rising then countDistance w s else s
  | none => s

/-- Judge the edge that is held at the pin, at instant `now`: it is accepted once it has held for the filter time (R132). -/
def judgeEdge (ch : Channel) (now : Nat) (s : State) : State :=
  let k := s.tma.captures.get ch
  if decide (k.raw ≠ k.level) && decide (k.rawTime + filterTime ch ≤ now) then
    countEdge ch k.raw (setCapture ch (acceptedEdge ch (s.timeoutTime ch) k) s)
  else s

/-- A raw change at a capture pin: a level that has held for the filter time is accepted first, then the new raw level and its
instant are noted (R132, log entry 12); while the controller sleeps (R142) or RESET# is low (section 12.9) only the pin's level is followed
(DEDUCED, log entry 6). -/
def captureRaw (ch : Channel) (level : Bool) (us : Nat) (s : State) : State :=
  if s.captures && !s.resetHeld then
    let s1 := judgeEdge ch (s.instant us) s
    let k := s1.tma.captures.get ch
    if level = k.raw then s1 else setCapture ch { k with raw := level, rawTime := s1.instant us } s1
  else setCapture ch { s.tma.captures.get ch with raw := level } s

/-- A capture timeout at an instant (R133). It counts from the last edge accepted by then: an edge that still waits for its filter time does
not stop it, though its raw change came before (DESIGN CHOICE, log entry 46). -/
def captureExpiry (ch : Channel) (us : Nat) (s : State) : State :=
  let k := s.tma.captures.get ch
  if s.captures && decide (k.state ≠ .noSignal) && decide (k.rise + s.timeoutTime ch ≤ s.instant us) then
    setCapture ch { k with state := .noSignal, value := 0, count := 0 } s
  else s

/-! ### Debounced inputs (R137) -/

/-- Replace a debounced input. -/
def setInput (i : Input) (d : Debounced) (s : State) : State := s.setTma { s.tma with inputs := s.tma.inputs.set i d }

/-- An input is being debounced: while the controller sleeps only OPERATOR is (R142). -/
def State.debounces (s : State) (i : Input) : Bool := s.tma.stepsRunning || decide (i = .operator)

/-- A change of the raw level restarts the stability timer (R137). The 20 ms are counted as whole clock ticks after the change: the
change carries no instant within its millisecond (DESIGN CHOICE, log entry 40). -/
def rawInput (i : Input) (level : Bool) (s : State) : State :=
  let d := s.tma.inputs.get i
  if level = d.raw then s else setInput i { d with raw := level, stable := 0 } s

/-- The raw level has differed from the debounced level and held for 20 ms (R137). -/
def settleDue (d : Debounced) : Bool := decide (d.raw ≠ d.level) && decide (20 ≤ d.stable)

/-- A debounced level takes its raw level; OPERATOR becoming active is a wake source (R137, R17). -/
def settleInput (i : Input) (s : State) : State :=
  let d := s.tma.inputs.get i
  if s.debounces i && settleDue d then
    let s1 := setInput i { d with level := d.raw } s
    if i = .operator ∧ d.raw then wakeSource false s1 else s1
  else s

/-! ### PWM and trace -/

/-- The period of a PWM output, µs (R135, section 8.2). -/
def pwmPeriod : PwmOut → Nat
  | .waterPump => 1000
  | _ => 5000

/-- The period in progress at a PWM output is over (R135). -/
def State.periodOver (s : State) (o : PwmOut) : Bool :=
  decide ((s.tma.outputs.get o).start + pwmPeriod o ≤ s.tma.micros)

/-- A PWM period begins with the duty that stands, at the last millisecond (R135, log entry 23); none begins while the array sleeps
(R142). -/
def beginPeriod (o : PwmOut) (s : State) : State :=
  if s.tma.stepsRunning then
    setOutputs (s.tma.outputs.set o { held := (s.tma.outputs.get o).held, applied := (s.tma.outputs.get o).held, start := s.tma.micros }) s
  else s

/-- The level of a PWM output at instant `t`: high for duty × period / 1000 from the start of its period, then low (R135). -/
def Pwm.levelAt (period : Nat) (p : Pwm) (t : Nat) : Bool := decide ((t - p.start) * 1000 < p.applied * period)

/-- The level at a PWM pin `us` microseconds after the last millisecond (R135). -/
def State.pwmLevel (s : State) (o : PwmOut) (us : Nat) : Bool := (s.tma.outputs.get o).levelAt (pwmPeriod o) (s.tma.micros + us)

/-- The trace period runs out (R140). -/
def tracePeriod (s : State) : State :=
  if s.traceRuns && decide (s.tma.trace.source = .period) && decide (s.tma.trace.interval ≤ s.tma.trace.periodTimer) then
    writeTrace (setTrace (takePendingInterval { s.tma.trace with periodTimer := 0 }) s)
  else s

/-! ### The commands -/

/-- CAPTURE_RAW_CHANGE (R132). -/
def execCaptureRawChange (ch : Channel) (level : Bool) (us : Nat) (s : State) : Host.Outcome State Fault Refusal :=
  .next (captureRaw ch level us s)

/-- CAPTURE_EDGE_ACCEPTED (R132, R133). -/
def execCaptureEdgeAccepted (ch : Channel) (us : Nat) (s : State) : Host.Outcome State Fault Refusal :=
  live (fun s => if s.captures then judgeEdge ch (s.instant us) s else s) s

/-- CAPTURE_TIMEOUT (R133). -/
def execCaptureTimeout (ch : Channel) (us : Nat) (s : State) : Host.Outcome State Fault Refusal := live (captureExpiry ch us) s

/-- DEBOUNCE_RAW_CHANGE (R137). -/
def execDebounceRawChange (i : Input) (level : Bool) (s : State) : Host.Outcome State Fault Refusal := .next (rawInput i level s)

/-- DEBOUNCE_SETTLED (R137). -/
def execDebounceSettled (i : Input) (s : State) : Host.Outcome State Fault Refusal := live (settleInput i) s

/-- PWM_PERIOD_START (R135). -/
def execPwmPeriodStart (o : PwmOut) (s : State) : Host.Outcome State Fault Refusal := live (beginPeriod o) s

/-- TRACE_PERIOD_EXPIRY (R140). -/
def execTracePeriodExpiry (s : State) : Host.Outcome State Fault Refusal := live tracePeriod s

end Sys2Proof.Machine
end

