-- ==== Sys2Proof/Machine/Dispatch.lean ====
section
/-! DEFINITION. The meaning of every command: one arm per constructor of `Instr`, each one direct call of its own meaning. -/
namespace Sys2Proof.Machine

/-- What a command does to everything but the queue. -/
def exec (i : Instr) (s : State) : Host.Outcome State Fault Refusal :=
  match i with
  | .coldReset cause => Sys2Proof.Machine.execColdReset cause s
  | .restart value => Sys2Proof.Machine.execRestart value s
  | .wake value => Sys2Proof.Machine.execWake value s
  | .check value => Sys2Proof.Machine.execCheck value s
  | .intPending value => Sys2Proof.Machine.execIntPending value s
  | .intEnable value => Sys2Proof.Machine.execIntEnable value s
  | .ignoredRegisterWrite address value => Sys2Proof.Machine.execIgnoredRegisterWrite address value s
  | .hostMemoryWrite address value => Sys2Proof.Machine.execHostMemoryWrite address value s
  | .stripScanExpiry => Sys2Proof.Machine.execStripScanExpiry s
  | .refusedKind kind order => Sys2Proof.Machine.execRefusedKind kind order s
  | .selectProfile order => Sys2Proof.Machine.execSelectProfile order s
  | .engage order => Sys2Proof.Machine.execEngage order s
  | .disengage order => Sys2Proof.Machine.execDisengage order s
  | .park order => Sys2Proof.Machine.execPark order s
  | .setPace order => Sys2Proof.Machine.execSetPace order s
  | .stop order => Sys2Proof.Machine.execStop order s
  | .setArm order => Sys2Proof.Machine.execSetArm order s
  | .setWater order => Sys2Proof.Machine.execSetWater order s
  | .clearFault order => Sys2Proof.Machine.execClearFault order s
  | .cancel order => Sys2Proof.Machine.execCancel order s
  | .setTrace order => Sys2Proof.Machine.execSetTrace order s
  | .loadCalibration order => Sys2Proof.Machine.execLoadCalibration order s
  | .storeCalibration order => Sys2Proof.Machine.execStoreCalibration order s
  | .fetchCalibration order => Sys2Proof.Machine.execFetchCalibration order s
  | .startupLoadDone => Sys2Proof.Machine.execStartupLoadDone s
  | .storePageTransferDone => Sys2Proof.Machine.execStorePageTransferDone s
  | .storePageReady => Sys2Proof.Machine.execStorePageReady s
  | .storePageTimeout => Sys2Proof.Machine.execStorePageTimeout s
  | .fetchReadDone => Sys2Proof.Machine.execFetchReadDone s
  | .modeCheck => Sys2Proof.Machine.execModeCheck s
  | .settleTimerExpiry => Sys2Proof.Machine.execSettleTimerExpiry s
  | .engageBudgetExpiry => Sys2Proof.Machine.execEngageBudgetExpiry s
  | .travelStep => Sys2Proof.Machine.execTravelStep s
  | .wheelDisagreeTimeout => Sys2Proof.Machine.execWheelDisagreeTimeout s
  | .wheelLossTimeout wheel => Sys2Proof.Machine.execWheelLossTimeout wheel s
  | .wheelReadmission wheel => Sys2Proof.Machine.execWheelReadmission wheel s
  | .wheelSilenceTimeout => Sys2Proof.Machine.execWheelSilenceTimeout s
  | .neutralDwellElapsed => Sys2Proof.Machine.execNeutralDwellElapsed s
  | .overspeedTimeout => Sys2Proof.Machine.execOverspeedTimeout s
  | .operatorAbsentTimeout => Sys2Proof.Machine.execOperatorAbsentTimeout s
  | .paceArrival => Sys2Proof.Machine.execPaceArrival s
  | .paceTimeout => Sys2Proof.Machine.execPaceTimeout s
  | .stopTimeout => Sys2Proof.Machine.execStopTimeout s
  | .armStep => Sys2Proof.Machine.execArmStep s
  | .armStuckTimeout arm => Sys2Proof.Machine.execArmStuckTimeout arm s
  | .angleLossTimeout side => Sys2Proof.Machine.execAngleLossTimeout side s
  | .deflectLongTimeout side => Sys2Proof.Machine.execDeflectLongTimeout side s
  | .deflectReturn side => Sys2Proof.Machine.execDeflectReturn side s
  | .hoverReached side => Sys2Proof.Machine.execHoverReached side s
  | .spinUpComplete arm => Sys2Proof.Machine.execSpinUpComplete arm s
  | .brushStallTimeout arm => Sys2Proof.Machine.execBrushStallTimeout arm s
  | .brushSilenceTimeout arm => Sys2Proof.Machine.execBrushSilenceTimeout arm s
  | .outRaiseEnd arm => Sys2Proof.Machine.execOutRaiseEnd arm s
  | .setArmTimeout arm => Sys2Proof.Machine.execSetArmTimeout arm s
  | .waterStep => Sys2Proof.Machine.execWaterStep s
  | .primeHeld => Sys2Proof.Machine.execPrimeHeld s
  | .primeTimeout => Sys2Proof.Machine.execPrimeTimeout s
  | .dryRunTimeout => Sys2Proof.Machine.execDryRunTimeout s
  | .flowLossTimeout => Sys2Proof.Machine.execFlowLossTimeout s
  | .tankLossTimeout => Sys2Proof.Machine.execTankLossTimeout s
  | .loadStep => Sys2Proof.Machine.execLoadStep s
  | .floorTimerExpiry => Sys2Proof.Machine.execFloorTimerExpiry s
  | .recoveryTimerExpiry => Sys2Proof.Machine.execRecoveryTimerExpiry s
  | .engineLossTimeout => Sys2Proof.Machine.execEngineLossTimeout s
  | .hostCheckExpiry => Sys2Proof.Machine.execHostCheckExpiry s
  | .statusPublication => Sys2Proof.Machine.execStatusPublication s
  | .tracePeriodExpiry => Sys2Proof.Machine.execTracePeriodExpiry s
  | .captureRawChange channel level us => Sys2Proof.Machine.execCaptureRawChange channel level us s
  | .captureEdgeAccepted channel us => Sys2Proof.Machine.execCaptureEdgeAccepted channel us s
  | .captureTimeout channel us => Sys2Proof.Machine.execCaptureTimeout channel us s
  | .debounceRawChange input level => Sys2Proof.Machine.execDebounceRawChange input level s
  | .debounceSettled input => Sys2Proof.Machine.execDebounceSettled input s
  | .pwmPeriodStart output => Sys2Proof.Machine.execPwmPeriodStart output s
  | .resetRelease => Sys2Proof.Machine.execResetRelease s

end Sys2Proof.Machine
end

