-- ==== Sys2Proof/Machine/Tick.lean ====
section
/-! DEFINITION. One millisecond of the timing array (R138, R139): what `step` does on an empty queue (log entries 1 and 2). The tick advances the clock and the 1 ms timers and puts the events that fall due at this instant into the queue, in a fixed order. -/
namespace Sys2Proof.Machine

/-! ### The timers that advance by 1 each millisecond -/

/-- A stability timer advances, to at most its 20 ms (R137). -/
def tickInput (d : Debounced) : Debounced := { d with stable := min 20 (d.stable + 1) }

/-- The debounced inputs; while the controller sleeps only OPERATOR (R137, R142). -/
def tickInputs (running : Bool) (i : Inputs) : Inputs :=
  if running then
    { lUp := tickInput i.lUp, rUp := tickInput i.rUp, mUp := tickInput i.mUp, lDown := tickInput i.lDown,
      rDown := tickInput i.rDown, mDown := tickInput i.mDown, operator := tickInput i.operator, wp := tickInput i.wp }
  else { i with operator := tickInput i.operator }

/-- A running timer advances by 1. -/
def tickTimer (t : Timer) : Timer := t.map (· + 1)

/-- The trace period timer (R140). -/
def tickTrace (runs : Bool) (t : Trace) : Trace :=
  if runs && decide (t.source = .period) then { t with periodTimer := t.periodTimer + 1 } else t

/-- The clock and the timers, one millisecond on; the check window and the page timer count whole ticks (log entries 47 and 50). -/
def advance (s : State) : State :=
  let t := s.tma
  (((s.setTma { t with
    clock := t.clock + 1
    micros := t.micros + 1000
    inputs := tickInputs t.stepsRunning t.inputs
    trace := tickTrace s.traceRuns t.trace }).setPort { s.port with window := tickTimer s.port.window }).setCal
    { s.cal with pageTimer := tickTimer s.cal.pageTimer, link := tickTimer s.cal.link }).setEeprom
    { s.eeprom with writeTime := tickTimer s.eeprom.writeTime }

/-! ### The events due at an instant -/

/-- A command if a test holds. -/
def eventIf (b : Bool) (c : Instr) : List Instr := if b then [c] else []

/-- The capture channels, in the order of section 8.1. -/
def allChannels : List Channel :=
  [.wheelA, .wheelB, .engine, .lBrush, .rBrush, .mBrush, .flow, .lSwing, .rSwing, .tank]

/-- The debounced inputs, in the order of section 8.3. -/
def allInputs : List Input := [.lUp, .rUp, .mUp, .lDown, .rDown, .mDown, .operator, .wp]

/-- The PWM outputs (section 8.2). -/
def pwmOutputs : List PwmOut :=
  [.travelFwd, .travelRev, .lPress, .rPress, .mPress, .lMotor, .rMotor, .mMotor, .waterPump]

/-- An edge of a channel has held for its filter time (R132). -/
def State.edgeDue (s : State) (ch : Channel) : Bool :=
  let k := s.tma.captures.get ch
  s.captures && decide (k.raw ≠ k.level) && decide (k.rawTime + filterTime ch ≤ s.tma.micros)

/-- A channel's timeout has run out (R133). -/
def State.captureDue (s : State) (ch : Channel) : Bool :=
  let k := s.tma.captures.get ch
  s.captures && decide (k.state ≠ .noSignal) && decide (k.rise + s.timeoutTime ch ≤ s.tma.micros)

/-- The longest a read of the image takes, ms (R166): 1 where the loader stops after word 0, 20 for all 515 words (R165). -/
def State.readBound (s : State) : Nat := if s.eeprom.word s.freeReads 0 = 0x0A51 then 20 else 1

/-- The ends that the SPI link and the device bring about by their bounds (R166). Any shorter duration is the sender's, who may send
the same command earlier; that an end left to the tick falls at its bound is DESIGN CHOICE, log entry 41. -/
def State.linkEvents (s : State) : List Instr :=
  eventIf (decide (s.cal.op = .loading) && timerAt s.readBound s.cal.link) .startupLoadDone
    ++ eventIf (decide (s.cal.op = .fetching) && timerAt s.readBound s.cal.link) .fetchReadDone
    ++ eventIf (decide (s.cal.op = .storing) && decide (s.cal.pageTimer = none) && timerAt 1 s.cal.link) .storePageTransferDone
    ++ eventIf (s.eeprom.works && s.eeprom.inFlight.isSome && timerAt 9 s.eeprom.writeTime) .storePageReady

/-- The events of the inputs and of the 1 ms timers. Of an edge and a timeout that fall due at one tick the edge is taken first (log
entries 2 and 46). The page timeout falls at the tenth tick after its transfer (log entry 50). -/
def State.timerEvents (s : State) : List Instr :=
  (allChannels.flatMap fun ch => eventIf (s.edgeDue ch) (.captureEdgeAccepted ch 0))
    ++ (allChannels.flatMap fun ch => eventIf (s.captureDue ch) (.captureTimeout ch 0))
    ++ (allInputs.flatMap fun i => eventIf (s.debounces i && settleDue (s.tma.inputs.get i)) (.debounceSettled i))
    ++ eventIf (timerAt s.port.windowLength s.port.window) .hostCheckExpiry
    ++ s.linkEvents
    ++ eventIf (decide (s.cal.op = .storing) && timerAt 10 s.cal.pageTimer) .storePageTimeout
    ++ eventIf (s.traceRuns && decide (s.tma.trace.source = .period)
        && decide (s.tma.trace.interval ≤ s.tma.trace.periodTimer)) .tracePeriodExpiry

/-- The clock stands at a multiple of a period (R139). -/
def State.atMultiple (s : State) (n : Nat) : Bool := decide (s.tma.clock.toNat % n = 0)

/-- The periodic events (R139) and the PWM periods, each begun when the one before it is over, none while the array sleeps (R135,
R142; log entry 23). -/
def State.periodicEvents (s : State) : List Instr :=
  (if s.tma.stepsRunning && s.atMultiple 10 then [.travelStep, .armStep, .modeCheck, .loadStep] else [])
    ++ eventIf (s.tma.stepsRunning && s.atMultiple 20) .waterStep
    ++ eventIf (s.tma.stripRunning && s.atMultiple 5) .stripScanExpiry
    ++ eventIf (s.tma.stripRunning && s.atMultiple 20) .statusPublication
    ++ (pwmOutputs.flatMap fun o => eventIf (s.tma.stepsRunning && s.periodOver o) (.pwmPeriodStart o))

/-- One millisecond: nothing while RESET# is low (log entry 6), else the timers advance and the due events wait in the queue. No
periodic event falls at clock 0 itself; the first fall when the clock reaches 5, 10 and 20 (DESIGN CHOICE, log entry 39). -/
def tick (s : State) : State :=
  if s.resetHeld then s
  else
    let s1 := advance s
    s1.setPending (s1.pending ++ (s1.timerEvents ++ s1.periodicEvents))

end Sys2Proof.Machine
end

