-- ==== Sys2Proof/Safety.lean ====
section
/-! DEFINITION. What counts as a safe run, in the terms claims use: which blocks of the state two states share, what a written slot and a recorded fault look like, and the invariants of the machine. -/
namespace Sys2Proof.Machine

/-! ### Frames -/

/-- The fields of `State`, by name. -/
inductive Block where
  | pending
  | resetHeld
  | xmem
  | port
  | publisher
  | orders
  | modc
  | gov
  | armc
  | watc
  | loadm
  | faults
  | cal
  | tma
  | eeprom
  | freeReads
  deriving DecidableEq, Repr

/-- Two states hold the same in one block. -/
def Block.same (s t : State) : Block → Prop
  | .pending => t.pending = s.pending
  | .resetHeld => t.resetHeld = s.resetHeld
  | .xmem => t.xmem = s.xmem
  | .port => t.port = s.port
  | .publisher => t.publisher = s.publisher
  | .orders => t.orders = s.orders
  | .modc => t.modc = s.modc
  | .gov => t.gov = s.gov
  | .armc => t.armc = s.armc
  | .watc => t.watc = s.watc
  | .loadm => t.loadm = s.loadm
  | .faults => t.faults = s.faults
  | .cal => t.cal = s.cal
  | .tma => t.tma = s.tma
  | .eeprom => t.eeprom = s.eeprom
  | .freeReads => t.freeReads = s.freeReads

/-- Two states hold the same in every block but those listed. -/
def SameBut (blocks : List Block) (s t : State) : Prop := ∀ b, b ∈ blocks ∨ b.same s t

/-- Two timing arrays differ at most in the outputs. -/
def OutputsOnly (s t : State) : Prop := t.tma = { s.tma with outputs := t.tma.outputs }

/-- Every word of exchange memory outside a range reads as before. -/
def WordsKept (base count : Nat) (s t : State) : Prop := ∀ a, a < base ∨ base + count ≤ a → t.xread a = s.xread a

/-! ### When a command acts -/

/-- RESET# is high and the step timers run: a job's step event can fall (R139, section 12.9). -/
def State.running (s : State) : Prop := s.resetHeld = false ∧ s.tma.stepsRunning = true

/-- The canonical form of exchange memory. -/
def State.xmemWf (s : State) : Prop := Memory.wf (word 0) Config.xmemWords s.xmem = true

/-- The slot at the cursor can be taken now: RESET# high, the strip scanned, the slot POSTED and named by no entry (R145). -/
def State.takes (s : State) : Prop :=
  s.resetHeld = false ∧ s.scanned = true ∧ s.slotNamed s.orders.cursor = false ∧
    s.owner s.orders.cursor = ownerPosted ∧ s.orders.cursor < 32 ∧ s.xmemWf

/-! ### What a completed or an opened slot looks like -/

/-- A slot holds a whole result and owner DONE (R147, R149, section 12.2). -/
def SlotResult (slot : Nat) (r : Result) (detail depth : Nat) (done : BitVec 32) (elapsed : Nat) (t : State) : Prop :=
  t.owner slot = ownerDone ∧
    t.xread (slotBase slot + 11) = packed r.code depth ∧ t.xread (slotBase slot + 12) = word detail ∧
    t.xread (slotBase slot + 13) = lowHalf done ∧ t.xread (slotBase slot + 14) = highHalf done ∧
    t.xread (slotBase slot + 15) = word (sat16 elapsed)

/-- A word that a completion of a slot does not write: neither its owner word nor a word of its result half (section 12.2). -/
def outsideResult (slot a : Nat) : Prop := a ≠ slotBase slot ∧ (a < slotBase slot + 11 ∨ slotBase slot + 16 ≤ a)

/-- A slot holds a whole result and owner DONE, and every word outside it reads as before (R147, R149). -/
def SlotDone (slot : Nat) (r : Result) (detail depth : Nat) (done : BitVec 32) (elapsed : Nat) (s t : State) : Prop :=
  SlotResult slot r detail depth done elapsed t ∧ ∀ a, outsideResult slot a → t.xread a = s.xread a

/-- The cursor one slot on (R145). -/
def nextCursor (s : State) : Nat := (s.orders.cursor + 1) % 32

/-- The order in the slot at the cursor was taken and completed at dispatch: the slot, the cursor, and ORDER_DONE if notify
is 1 (R147). -/
def DoneAtOnce (notify : BitVec 8) (r : Result) (detail : Nat) (s t : State) : Prop :=
  SlotDone s.orders.cursor r detail s.orders.entries.length s.tma.clock 0 s t ∧
    t.orders = { s.orders with cursor := nextCursor s } ∧
    t.port = if notify = 1 then s.port.raise .orderDone else s.port

/-- The entry that the take of the slot at the cursor opens (R148). -/
def openedEntry (kind : Nat) (target : Target) (o : Order) (s : State) : Entry where
  slot := s.orders.cursor
  kind := kind
  tag := o.tag
  target := target
  takeTime := s.tma.clock
  params := o.par
  notify := o.notify
  depth := s.orders.entries.length

/-- The order in the slot at the cursor was taken with no older order on its target, and is open: the entry last in the list,
the cursor one on, and the slot's owner TAKEN, every other word as before (R148). -/
def Opened (kind : Nat) (target : Target) (o : Order) (s t : State) : Prop :=
  t.owner s.orders.cursor = ownerTaken ∧
    (∀ a, a ≠ slotBase s.orders.cursor → t.xread a = s.xread a) ∧
    t.orders = { s.orders with cursor := nextCursor s, entries := s.orders.entries ++ [openedEntry kind target o s] }

/-- An open order that its owning block can end: in the list, on its target, its slot still TAKEN (R148, R149). -/
def State.openTaken (s : State) (e : Entry) (target : Target) (slot : Nat) (time : BitVec 32) : Prop :=
  e ∈ s.orders.entries ∧ e.target = target ∧ e.slot = slot ∧ e.takeTime = time ∧ s.owner e.slot = ownerTaken ∧
    e.slot < 32 ∧ (s.orders.entries.map fun x => x.target).Nodup ∧ s.xmemWf

/-- The open order leaves the list, every other entry kept; the stall flag clears if it was set for the order's slot (R149, R152). -/
def EntryLeaves (e : Entry) (s t : State) : Prop :=
  (∀ x, x ∈ t.orders.entries ↔ x ∈ s.orders.entries ∧ x ≠ e) ∧ t.orders.cursor = s.orders.cursor ∧
    t.orders.stall = (s.orders.stall && decide (s.orders.cursor ≠ e.slot))

/-- ORDER_DONE is pending after the end of an order if it was before or the order's notify was 1 at the take (R149). -/
def DoneNotified (e : Entry) (s t : State) : Prop :=
  t.port.pendingSet.getLsbD 0 = (s.port.pendingSet.getLsbD 0 || decide (e.notify = 1))

/-- An open order whose slot is still TAKEN ended (R149): its slot written with the clock and the time since the take, its entry
gone, ORDER_DONE raised if notify was 1 at the take. -/
def OrderEnds (e : Entry) (r : Result) (detail : Nat) (s t : State) : Prop :=
  SlotDone e.slot r detail e.depth s.tma.clock (s.since e.takeTime) s t ∧ EntryLeaves e s t ∧ DoneNotified e s t ∧
    t.orders.orphans = s.orders.orphans

/-- An open order whose slot the host has written since the take (R149). -/
def State.openLost (s : State) (e : Entry) (target : Target) (slot : Nat) (time : BitVec 32) : Prop :=
  e ∈ s.orders.entries ∧ e.target = target ∧ e.slot = slot ∧ e.takeTime = time ∧ s.owner e.slot ≠ ownerTaken ∧
    (s.orders.entries.map fun x => x.target).Nodup

/-- An open order ended as an orphan (R149): nothing written to its slot, no ORDER_DONE, the orphan counter one up, its entry gone
all the same. -/
def OrderOrphaned (e : Entry) (s t : State) : Prop :=
  t.xmem = s.xmem ∧ t.port = s.port ∧ EntryLeaves e s t ∧ t.orders.orphans = min 255 (s.orders.orphans + 1)

/-- The three cases of a completion notice (R149): the order ends, it ends as an orphan, or with no such entry the notice is
discarded. -/
def NoticeTaken (target : Target) (slot : Nat) (time : BitVec 32) (r : Result) (detail : Nat) (s t : State) : Prop :=
  (∀ e, s.openTaken e target slot time → OrderEnds e r detail s t) ∧
    (∀ e, s.openLost e target slot time → OrderOrphaned e s t) ∧
    ((∀ e ∈ s.orders.entries, ¬(e.target = target ∧ e.slot = slot ∧ e.takeTime = time)) →
      t.orders = s.orders ∧ t.xmem = s.xmem ∧ t.port = s.port)

/-- The older open order on the target of an accepted one has ended (R150, R149): its slot written SUPERSEDED with the new slot as its
detail if it was still TAKEN, an orphan otherwise; the cursor one on, and the stall flag clear if it was set for the older slot. -/
def Superseded (e : Entry) (s t : State) : Prop :=
  (s.owner e.slot = ownerTaken →
    SlotResult e.slot .superseded s.orders.cursor e.depth s.tma.clock (s.since e.takeTime) t ∧
      t.orders.orphans = s.orders.orphans) ∧
    (s.owner e.slot ≠ ownerTaken → t.orders.orphans = min 255 (s.orders.orphans + 1)) ∧
    t.orders.cursor = nextCursor s ∧ t.orders.stall = (s.orders.stall && decide (nextCursor s ≠ e.slot)) ∧
    t.port = { s.port with pendingSet := t.port.pendingSet }

/-- The order in the slot at the cursor is open in the place of the older order `e` on its target (R148, R150). -/
def OpenedOver (kind : Nat) (target : Target) (o : Order) (e : Entry) (s t : State) : Prop :=
  Superseded e s t ∧ t.owner s.orders.cursor = ownerTaken ∧
    (∀ x, x ∈ t.orders.entries ↔ (x ∈ s.orders.entries ∧ x ≠ e) ∨ x = openedEntry kind target o s) ∧
    t.port.pendingSet.getLsbD 0 =
      (s.port.pendingSet.getLsbD 0 || decide (e.notify = 1 ∧ s.owner e.slot = ownerTaken)) ∧
    ∀ a, a ≠ slotBase s.orders.cursor → (s.owner e.slot = ownerTaken → outsideResult e.slot a) → t.xread a = s.xread a

/-- The order in the slot at the cursor was completed at dispatch in the place of the older order `e` on its target (R147, R150). -/
def DoneOver (notify : BitVec 8) (r : Result) (detail : Nat) (e : Entry) (s t : State) : Prop :=
  Superseded e s t ∧ SlotResult s.orders.cursor r detail s.orders.entries.length s.tma.clock 0 t ∧
    (∀ x, x ∈ t.orders.entries ↔ x ∈ s.orders.entries ∧ x ≠ e) ∧
    t.port.pendingSet.getLsbD 0 =
      (s.port.pendingSet.getLsbD 0 || decide (e.notify = 1 ∧ s.owner e.slot = ownerTaken) || decide (notify = 1)) ∧
    ∀ a, outsideResult s.orders.cursor a → (s.owner e.slot = ownerTaken → outsideResult e.slot a) → t.xread a = s.xread a

/-- Open orders ended together FAILED with one detail (R149), the cursor at `cursor` then, the entries `added` opened by the same
command: the ended entries gone, each whose slot is TAKEN written, ORDER_DONE raised if its notify was 1, each other one an orphan. -/
def FailedTogether (ended : Entry → Bool) (detail cursor : Nat) (added : List Entry) (s t : State) : Prop :=
  t.orders.entries = (s.orders.entries.filter fun e => !ended e) ++ added ∧ t.orders.cursor = cursor ∧
    t.orders.stall = (s.orders.stall && (s.orders.entries.filter ended).all fun e => decide (cursor ≠ e.slot)) ∧
    (∀ lost : Nat, lost = (s.orders.entries.filter fun e => ended e && decide (s.owner e.slot ≠ ownerTaken)).length →
      t.orders.orphans = if lost = 0 then s.orders.orphans else min 255 (s.orders.orphans + lost)) ∧
    t.port.pendingSet.getLsbD 0 = (s.port.pendingSet.getLsbD 0 ||
      s.orders.entries.any fun e => ended e && decide (e.notify = 1) && decide (s.owner e.slot = ownerTaken)) ∧
    ∀ e ∈ s.orders.entries, ended e = true → s.owner e.slot = ownerTaken →
      SlotResult e.slot .failed detail e.depth s.tma.clock (s.since e.takeTime) t

/-- A word that no ended order's completion writes. -/
def outsideEnded (ended : Entry → Bool) (s : State) (a : Nat) : Prop :=
  ∀ e ∈ s.orders.entries, ended e = true → s.owner e.slot = ownerTaken → outsideResult e.slot a

/-- Open orders ended at one command, each with its own result and detail (R149): the ended entries gone and every other one kept, each
whose slot is TAKEN written, ORDER_DONE raised if its notify was 1, each other one an orphan; with none ended the orders stand. -/
def EndedTogether (ends : Entry → Option (Result × Nat)) (s t : State) : Prop :=
  t.orders.entries = (s.orders.entries.filter fun e => (ends e).isNone) ∧ t.orders.cursor = s.orders.cursor ∧
    t.orders.stall = (s.orders.stall &&
      (s.orders.entries.filter fun e => (ends e).isSome).all fun e => decide (s.orders.cursor ≠ e.slot)) ∧
    (∀ lost : Nat,
      lost = (s.orders.entries.filter fun e => (ends e).isSome && decide (s.owner e.slot ≠ ownerTaken)).length →
      t.orders.orphans = if lost = 0 then s.orders.orphans else min 255 (s.orders.orphans + lost)) ∧
    t.port.pendingSet.getLsbD 0 = (s.port.pendingSet.getLsbD 0 ||
      s.orders.entries.any fun e => (ends e).isSome && decide (e.notify = 1) && decide (s.owner e.slot = ownerTaken)) ∧
    ∀ e ∈ s.orders.entries, ∀ r d, ends e = some (r, d) → s.owner e.slot = ownerTaken →
      SlotResult e.slot r d e.depth s.tma.clock (s.since e.takeTime) t

/-- The entry is that of a waiting SET_ARM for WORKING or HOVER, which a mode-change notice fails (R86). -/
def State.failsArm (s : State) (e : Entry) : Bool :=
  [Arm.left, .right, .main].any fun a =>
    decide (e.target = armTarget a) &&
      (s.arm a).waiting.any fun w => decide (w.req ≠ .stowed) && decide (w.slot = e.slot) && decide (w.takeTime = e.takeTime)

/-- The entry is that of a waiting SET_PACE, which the notice to SAFE fails (R61). -/
def State.failsPace (s : State) (e : Entry) : Bool :=
  decide (e.target = .travel) &&
    s.gov.waiting.any fun w => decide (w.kind = .setPace) && decide (w.slot = e.slot) && decide (w.takeTime = e.takeTime)

/-- What a mode-change notice leaves of a waiting SET_ARM (R86): a request for STOWED waits on. -/
def keptArmWait (w : Option ArmWait) : Option ArmWait := w.filter fun w => decide (w.req = .stowed)

/-- What the notice to SAFE leaves of the governor's waiting order (R61): a STOP waits on. -/
def keptTravelWait (w : Option TravelWait) : Option TravelWait := w.filter fun w => decide (w.kind = .stop)

/-- The causes pending besides ORDER_DONE: those from before, and MODE_CHANGE if the mode changed (R2, R157). -/
def CausesKept (changed : Bool) (s t : State) : Prop :=
  ∀ i, i ≠ 0 → t.port.pendingSet.getLsbD i = (s.port.pendingSet.getLsbD i || (changed && decide (i = 3)))

/-- The command that a slot of a kind spells at the take (R146). -/
def slotCommand (kind : Nat) (o : Order) : Instr :=
  match kind with
  | 1 => .selectProfile o
  | 2 => .engage o
  | 3 => .disengage o
  | 4 => .park o
  | 5 => .setPace o
  | 6 => .stop o
  | 7 => .setArm o
  | 8 => .setWater o
  | 9 => .clearFault o
  | 10 => .cancel o
  | 11 => .setTrace o
  | 12 => .loadCalibration o
  | 13 => .storeCalibration o
  | 14 => .fetchCalibration o
  | k => .refusedKind (BitVec.ofNat 8 k) o

/-- A strip scan takes `n` slots in a row (R145, R146): each in a scanned mode, POSTED, named by no entry, and taken as its kind's
command. -/
def ScanRun : Nat → State → State → Prop
  | 0, s, t => t = s
  | n + 1, s, t =>
    s.scanned = true ∧ s.owner s.orders.cursor = ownerPosted ∧ s.slotNamed s.orders.cursor = false ∧
      ∃ m, exec (slotCommand (s.slotKind s.orders.cursor) (s.slotOrder s.orders.cursor)) s = .next m ∧ ScanRun n m t

/-- No arm waits for a SET_ARM that a mode change would fail (R86). -/
def State.calmArms (s : State) : Prop := ∀ a w, (s.arm a).waiting = some w → w.req = .stowed

/-- The report's class stops work: the mode is one from which R4 enters SAFE. -/
def State.atWork (s : State) : Prop :=
  s.modc.mode = .transport ∨ s.modc.mode = .engaging ∨ s.modc.mode = .sweeping ∨ s.modc.mode = .disengaging

/-! ### What a recorded fault looks like -/

/-- The fault unit has taken one report (R118 to R122): the total, the active set, and the record that serves the kind written,
with the tag of the open order on the source's target, or the count behind its set hold; the other record as before. -/
def TookReport (r : Report) (s t : State) : Prop :=
  t.faults.total = min 65535 (s.faults.total + 1) ∧
    t.faults.active = s.faults.active ||| kindBit r.kind ∧
    t.faults.served (!r.kind.severe) = s.faults.served (!r.kind.severe) ∧
    ((s.faults.served r.kind.severe).hold = false →
      (t.faults.served r.kind.severe).hold = true ∧
        (t.faults.served r.kind.severe).record.kind = r.kind.rank ∧
        (t.faults.served r.kind.severe).record.cls = r.kind.cls.code ∧
        (t.faults.served r.kind.severe).record.sourceBlock = r.source.block ∧
        (t.faults.served r.kind.severe).record.sourceIndex = r.source.index ∧
        (t.faults.served r.kind.severe).record.detail = r.detail ∧
        (t.faults.served r.kind.severe).record.time = s.tma.clock ∧
        (t.faults.served r.kind.severe).record.mode = s.modc.mode.code ∧
        (t.faults.served r.kind.severe).record.vAct = t.gov.vAct ∧
        (t.faults.served r.kind.severe).record.tag =
          (match r.source.target.bind s.openOn with
            | some e => e.tag
            | none => 0)) ∧
    ((s.faults.served r.kind.severe).hold = true →
      t.faults.served r.kind.severe =
        { s.faults.served r.kind.severe with
          count := min 255 ((s.faults.served r.kind.severe).count + 1)
          bitmap := (s.faults.served r.kind.severe).bitmap ||| kindBit r.kind })

/-- A report that asks nothing of any block (class NOTE or DERATE): taken, with the exclusions as before, FAULT_REC raised if its
record was written, its words in the fault area, and no other word of exchange memory changed (R118 to R121; the word of the total
at 65535 too, log entry 42). -/
def TookNote (r : Report) (s t : State) : Prop :=
  TookReport r s t ∧ t.faults.exclusions = s.faults.exclusions ∧
    t.port = (if (s.faults.served r.kind.severe).hold then s.port
      else s.port.raise (if r.kind.severe then .severeRec else .faultRec)) ∧
    WordsKept faultBase 35 s t ∧
    (s.xmemWf → t.xread (faultBase + 32) = word t.faults.total ∧
      ((s.faults.served r.kind.severe).hold = false → t.xread (faultBase + holdOffset r.kind.severe) = word 1 ∧
        t.xread (faultBase + holdOffset r.kind.severe + 3) = word r.kind.rank))

/-! ### Outputs by arm -/

/-- The lower valve output of an arm. -/
def Outputs.lower (o : Outputs) : Arm → Bool
  | .left => o.lLower
  | .right => o.rLower
  | .main => o.mLower

/-- The raise valve output of an arm. -/
def Outputs.raise (o : Outputs) : Arm → Bool
  | .left => o.lRaise
  | .right => o.rRaise
  | .main => o.mRaise

/-- The down-pressure output of an arm. -/
def pressOutput : Arm → PwmOut
  | .left => .lPress
  | .right => .rPress
  | .main => .mPress

/-! ### What a travel step judges -/

/-- The arrival timer of a waiting SET_PACE after a travel step toward a signed target (R48). -/
def arrivalAfter (t : State) (target : Int) (w : TravelWait) : Timer :=
  timerFollow 500 10
    ((decide (t.gov.vT = 0) || decide (target ≠ 0)) &&
      decide (((t.gov.vAct : Int) - t.gov.vT).natAbs ≤ max 50 (3 * t.gov.vT / 100))) w.arrival

/-- How stage 8 of a travel step ends the governor's waiting order (R48, R49), `none` where it waits on: a SET_PACE OK with the limiter,
or CLAMPED, as its arrival timer reaches 500 ms, TIMED_OUT with the limiter at its timeout; a STOP OK at standstill, TIMED_OUT with v_act
at 20000 ms. -/
def travelWaitEnd (s t : State) (target : Int) (w : TravelWait) : Option (Result × Nat) :=
  match w.kind with
  | .setPace =>
    if timerAt 500 (arrivalAfter t target w) = true then
      some (if w.clampCount = 0 then (.ok, t.gov.limiter.code) else (.clamped, w.clampCount))
    else if w.timeout ≤ s.since w.takeTime then some (.timedOut, t.gov.limiter.code)
    else none
  | .stop =>
    if t.gov.c = 0 ∧ t.gov.vAct = 0 then some (.ok, 0)
    else if 20000 ≤ s.since w.takeTime then some (.timedOut, t.gov.vAct)
    else none

/-- How a travel step ends an open order: that of the governor's waiting order by stage 8; and where the step's own reports make the mode
SAFE, a SET_PACE and a SET_ARM for WORKING or HOVER that wait on, and an open ENGAGE or DISENGAGE, FAILED with the mode reason
(R4, R61, R86). -/
def travelEntryEnd (s t : State) (target : Int) (e : Entry) : Option (Result × Nat) :=
  ((if e.target = .travel then
      s.gov.waiting.bind fun w => if w.slot = e.slot ∧ w.takeTime = e.takeTime then travelWaitEnd s t target w else none
    else none)).or
    (if t.modc.mode ≠ s.modc.mode ∧
        ((e.target = .mode ∧ (e.kind = 2 ∨ e.kind = 3)) ∨ s.failsPace e = true ∨ s.failsArm e = true) then
      some (.failed, t.modc.reason)
    else none)

/-- A travel step reports nothing: no timer of R41, R44, R58 and R59 reaches its limit and no channel becomes LOST (R42, R60). -/
def TravelReportsNothing (s t : State) : Prop :=
  timerReached 1000 s.gov.silence t.gov.silence = false ∧ timerReached 1000 s.gov.operator t.gov.operator = false ∧
    timerReached 1000 s.gov.overspeed t.gov.overspeed = false ∧ timerReached 1000 s.gov.disagree t.gov.disagree = false ∧
    ∀ w, t.gov.chan w = .lost → s.gov.chan w = .lost

/-- The stopping kind first in rank order of those that a travel step reports, if any (R44, R58 to R60). -/
def firstStop (s t : State) : Option FaultKind :=
  if timerReached 1000 s.gov.silence t.gov.silence then some .wheelSensorsLost
  else if timerReached 1000 s.gov.operator t.gov.operator then some .operatorAbsent
  else if timerReached 1000 s.gov.overspeed t.gov.overspeed then some .overspeed
  else none

/-- A travel step reports a kind of class HALT_TRAVEL (R44, R59). -/
def haltsTravel (s t : State) : Bool :=
  timerReached 1000 s.gov.silence t.gov.silence || timerReached 1000 s.gov.operator t.gov.operator

/-! ### The restart -/

/-- The word of the active-condition set in the fault area is written where the set changed, and stands where it did not (R121). -/
def ActiveWordFollows (s t : State) : Prop :=
  t.xread (faultBase + 33) = if t.faults.active = s.faults.active then s.xread (faultBase + 33) else t.faults.active

/-- What a restart leaves in every block but for the ended orders (R22): each at the value its reset table gives (R62, R88, R108, R117, R131,
R143, R154, R163, R171), the condition ends that fall at the restart (R83, R117, R131, R158), and MODE_CHANGE if the mode differs.
That v_t, the limiter, v_w and v_L stand is log entry 24, the PWM periods' start and the loader's notice slot are log entry 8. -/
def Restarted (s t : State) : Prop :=
  t.modc = { s.modc with
    mode := if s.modc.mode = .safe then .safe else if s.allUp then .transport else .disengaging
    reason := if s.modc.mode = .safe then s.modc.reason else 27
    haltLatch := decide (s.modc.mode = .safe) && s.modc.haltLatch
    safeStopped := false, phase := .none, commanded := ⟨false, false, false⟩, settle := none, budget := 0, wake := .none,
    restartPending := false } ∧
  t.orders = { cursor := 0, entries := [], stall := false, orphans := t.orders.orphans } ∧
  t.port = { s.port with check := .disarmed, window := none, pendingSet := t.port.pendingSet } ∧
  t.port.pendingSet.getLsbD 3 = (s.port.pendingSet.getLsbD 3 || decide (t.modc.mode ≠ s.modc.mode)) ∧
  (∀ i, i ≠ 0 → i ≠ 3 → t.port.pendingSet.getLsbD i = s.port.pendingSet.getLsbD i) ∧
  t.gov = { s.gov with
    reqSpeed := 0, reqDir := .neutral, c := 0, lastSign := .none, dwell := 0, reversePending := false, trim := 0,
    chanA := .inUse, chanB := .inUse, lossA := none, lossB := none, readmitA := 0, readmitB := 0, disagree := none,
    silence := none, overspeed := none, operator := none, waiting := none } ∧
  (∀ a r, r = { s.arm a with
      req := .stowed, hover := none, ret := none, deflection := 0, angleLoss := none, trim := 0, spinUp := 0, stall := none,
      silence := none, waiting := none, press := 0 } →
    ((s.arm a).state = .out → t.arm a = { r with
      stateTimer := 4000
      causePresent := r.causePresent && decide (r.cause ≠ some .armStuck ∧ r.cause ≠ some .brushStall) }) ∧
    ((s.arm a).state ≠ .out → t.arm a = { r with
      stateTimer := 0, state := if s.input (upInput a) then .stowed else .raising })) ∧
  t.armc.width = s.armc.width ∧
  t.watc = { s.watc with
    qCmd := 0, openSet := 0, duty := 0, trim := 0, dryRun := none, flowLoss := none, prime := .idle, primeTimer := 0,
    primeHold := none, tankLoss := none } ∧
  t.loadm = { s.loadm with
    load := 1000, scale := 1000, floor := none, recovery := none, engineLoss := none, engineLossFlag := false } ∧
  t.faults = { s.faults with active := t.faults.active } ∧
  t.isActive .hostSilent = false ∧
  t.isActive .engineSpeedLost = (s.isActive .engineSpeedLost && !s.loadm.engineLossFlag) ∧
  ((∀ a, (s.arm a).state ≠ .out → (s.arm a).causePresent = false) →
    t.isActive .armStuck = false ∧ t.isActive .brushStall = false) ∧
  (∀ k, k ≠ .hostSilent → k ≠ .engineSpeedLost → k ≠ .armStuck → k ≠ .brushStall → t.isActive k = s.isActive k) ∧
  t.cal = { s.cal with
    op := .idle, pageTimer := none, link := none, order := none, buffer := t.cal.buffer, page := t.cal.page } ∧
  t.tma = { s.tma with
    stripRunning := true, outputs := t.tma.outputs
    trace := { s.tma.trace with enabled := false, periodTimer := 0, accumulator := 0, pendingInterval := none } } ∧
  (∀ o, t.tma.outputs.get o = ⟨0, 0, 0⟩) ∧ t.tma.outputs.nozzles = 0 ∧
  (∀ a, t.tma.outputs.lower a = false ∧ t.tma.outputs.raise a = decide ((t.arm a).state = .raising)) ∧
  SameBut [.xmem, .port, .orders, .modc, .gov, .armc, .watc, .loadm, .faults, .cal, .tma] s t

/-- What a restart does with the open orders (R154, R149): each whose slot is TAKEN written RESTARTED, with ORDER_DONE if its notify was 1, each
other one an orphan; and no other word of exchange memory changes but that of the active-condition set (R121). -/
def OrdersRestarted (s t : State) : Prop :=
  (∀ e ∈ s.orders.entries, s.owner e.slot = ownerTaken →
    SlotResult e.slot .restarted 0 e.depth s.tma.clock (s.since e.takeTime) t) ∧
  (∀ lost : Nat, lost = (s.orders.entries.filter fun e => decide (s.owner e.slot ≠ ownerTaken)).length →
    t.orders.orphans = if lost = 0 then s.orders.orphans else min 255 (s.orders.orphans + lost)) ∧
  t.port.pendingSet.getLsbD 0 = (s.port.pendingSet.getLsbD 0 ||
    s.orders.entries.any fun e => decide (e.notify = 1) && decide (s.owner e.slot = ownerTaken)) ∧
  ActiveWordFollows s t ∧
  ∀ a, a ≠ faultBase + 33 → (∀ e ∈ s.orders.entries, s.owner e.slot = ownerTaken → outsideResult e.slot a) →
    t.xread a = s.xread a

/-! ### What ends work -/

/-- The entry to DISENGAGING or SAFE from another mode than STARTING and PARKED at the arms (R2, R86): every request STOWED, an
arm not in STOWED, RAISING or OUT in RAISING, the motors off, a waiting SET_ARM kept only for STOWED. -/
def RaisedArms (s t : State) : Prop :=
  t.armc.width = s.armc.width ∧
  ∀ a, (t.arm a).req = .stowed ∧ (t.arm a).waiting = keptArmWait (s.arm a).waiting ∧
    ((s.arm a).state ≠ .stowed → (s.arm a).state ≠ .raising → (s.arm a).state ≠ .out →
      (t.arm a).state = .raising ∧ (t.arm a).stateTimer = 0 ∧ (t.arm a).trim = 0 ∧ (t.arm a).press = 0 ∧
        t.tma.outputs.raise a = true ∧ t.tma.outputs.lower a = false) ∧
    ((s.arm a).state = .stowed ∨ (s.arm a).state = .raising ∨ (s.arm a).state = .out →
      t.arm a = { s.arm a with req := .stowed, waiting := keptArmWait (s.arm a).waiting }) ∧
    (t.tma.outputs.get (motorOutput a)).held = 0

/-- The water controller has stopped the spray (R107). -/
def SprayStopped (s t : State) : Prop :=
  t.watc = { s.watc with
    qCmd := 0, openSet := 0, duty := 0, trim := 0, dryRun := none, flowLoss := none, prime := .idle, primeTimer := 0,
    primeHold := none } ∧
    t.tma.outputs.waterPump.held = 0 ∧ t.tma.outputs.nozzles = 0

/-- Work ends in DISENGAGING for a mode reason (R2, R86, R107): the arms rise and the spray stops. -/
def WorkEnded (reason : Nat) (s t : State) : Prop :=
  t.modc = { s.modc with
    mode := .disengaging, reason := reason, phase := .none, settle := none, budget := 0,
    commanded := ⟨false, false, false⟩ } ∧
    RaisedArms s t ∧ SprayStopped s t ∧ OutputsOnly s t

/-- The notice that ends STARTING or PARKED at the arms and the water controller (R2, R87, R88, R107): every request STOWED, an arm in OUT
kept, each other one STOWED or RAISING by its UP input with its timers of motion and its trim at rest, every other part of the records and W
as before; the arms' outputs as their states give (R73), the spray off, the travel outputs as before. -/
def SwitchesDerived (s t : State) : Prop :=
  t.armc.width = s.armc.width ∧
  (∀ a,
    ((s.arm a).state = .out → t.arm a = { s.arm a with req := .stowed }) ∧
    ((s.arm a).state ≠ .out → t.arm a = { s.arm a with
      state := if s.input (upInput a) then .stowed else .raising
      req := .stowed, stateTimer := 0, hover := none, ret := none, deflection := 0, spinUp := 0, stall := none, silence := none,
      trim := 0, press := 0 }) ∧
    t.tma.outputs.lower a = false ∧
    t.tma.outputs.raise a =
      decide ((t.arm a).state = .raising ∨ ((t.arm a).state = .out ∧ (t.arm a).stateTimer < 4000)) ∧
    t.tma.outputs.get (pressOutput a) = { s.tma.outputs.get (pressOutput a) with held := (t.arm a).press } ∧
    t.tma.outputs.get (motorOutput a) = { s.tma.outputs.get (motorOutput a) with held := 0 }) ∧
  SprayStopped s t ∧
  t.tma.outputs.waterPump = { s.tma.outputs.waterPump with held := 0 } ∧
  t.tma.outputs.travelFwd = s.tma.outputs.travelFwd ∧ t.tma.outputs.travelRev = s.tma.outputs.travelRev

/-- A STOP_WORK or HALT_TRAVEL reaction in a mode of work (R4, R61, R86, R107): SAFE with the kind's rank as its reason, the
request 0 NEUTRAL, the arms raised and the spray stopped. -/
def EnteredSafe (k : FaultKind) (halt : Bool) (s t : State) : Prop :=
  t.modc = { s.modc with
    mode := .safe, reason := k.rank, phase := .none, settle := none, budget := 0, commanded := ⟨false, false, false⟩,
    haltLatch := s.modc.haltLatch || halt, safeStopped := false } ∧
    t.gov.reqSpeed = 0 ∧ t.gov.reqDir = .neutral ∧ t.gov.reversePending = false ∧ t.gov.c = s.gov.c ∧
    t.port.pendingSet.getLsbD 3 = true ∧ RaisedArms s t ∧ SprayStopped s t ∧ OutputsOnly s t

/-- The swept width is that of the records (R30). -/
def State.widthFollows (t : State) : Prop :=
  t.armc.width = (if t.armc.main.state = .working then 1400 else 0) + t.armc.left.reach + t.armc.right.reach

/-- The exclusion test of a kind is met with a detail at the next arm step, on the readings and the target of that step (R63, R67, R78
to R82; log entries 4 and 17). -/
def ExclusionMet (s : State) (a : Arm) : FaultKind → Nat → Prop
  | .armStuck, d => 3990 ≤ (s.arm a).stateTimer ∧ (s.arm a).stateTimer < 4000 ∧
      (((s.arm a).state = .lowering ∧ s.input (downInput a) = false ∧ d = 1) ∨
        ((s.arm a).state = .raising ∧ s.input (upInput a) = false ∧ d = 2) ∨
        ((s.arm a).state = .lifting ∧ s.input (downInput a) = true ∧ d = 3))
  | .armAngleLost, d => ∃ side : Side, side.arm = a ∧ judgesSwing (s.arm a) = true ∧ s.valid (swingChannel side) = false ∧
      timerDue 200 10 (s.arm a).angleLoss = true ∧ d = lossDetail (s.channel (swingChannel side)).1
  | .armDeflectLong, d => (s.arm a).state = .deflected ∧ 1990 ≤ (s.arm a).deflection ∧ (s.arm a).deflection < 2000 ∧
      d = (s.readArm a).swing
  | .brushStall, d => rotates (s.arm a) = true ∧ 1490 ≤ (s.arm a).spinUp ∧ 0 < (s.readArm a).target ∧
      ((s.valid (brushChannel a) = true ∧ s.brushSpeed a * 5 < (s.readArm a).target ∧ timerDue 500 10 (s.arm a).stall = true ∧
          d = s.brushSpeed a) ∨
        (s.valid (brushChannel a) = false ∧ timerDue 1000 10 (s.arm a).silence = true ∧ d = 65535))
  | _, _ => False

/-- The first exclusion test met, in rank order (R82). -/
def FirstExclusion (s : State) (a : Arm) (k : FaultKind) (d : Nat) : Prop :=
  ExclusionMet s a k d ∧ ∀ k' d', ExclusionMet s a k' d' → k.rank ≤ k'.rank

/-- No exclusion test can be met at the next arm step: every timer of the record is short of its limit by more than a step, or past
it (R67, R78 to R82). -/
def shortOfExclusion (r : ArmRecord) : Prop :=
  (r.stateTimer < 3990 ∨ 4000 ≤ r.stateTimer) ∧ (∀ v, r.angleLoss = some v → v < 190) ∧ r.deflection < 1990 ∧
    (∀ v, r.stall = some v → v < 490) ∧ ∀ v, r.silence = some v → v < 990

/-- An arm may go down from STOWED or RAISING (R65, R70). -/
def State.goesDown (s : State) (a : Arm) : Prop :=
  ((s.arm a).req = .working ∨ ((s.arm a).req = .hover ∧ a ≠ .main)) ∧ (s.modc.mode = .engaging ∨ s.modc.mode = .sweeping) ∧
    (a = .main ∨ s.reverseState = false)

/-- The state `st` is the one that R64 gives an arm at the next arm step where no exclusion test is met, on the readings of that
step (R63 to R70; log entry 4). -/
def NextArmState (s : State) (a : Arm) (st : ArmState) : Prop :=
  if rotates (s.arm a) = true ∧ (s.arm a).req = .stowed then st = .raising
  else if a ≠ .main ∧ s.reverseState = true ∧
      ((s.arm a).state = .lowering ∨ (s.arm a).state = .working ∨ (s.arm a).state = .deflected) then st = .lifting
  else
    match (s.arm a).state with
    | .stowed => (s.goesDown a ∧ st = .lowering) ∨ (¬s.goesDown a ∧ st = .stowed)
    | .lowering =>
      if s.input (downInput a) = true ∧ (s.arm a).req = .working then st = .working
      else if s.input (downInput a) = true ∧ (s.arm a).req = .hover ∧ a ≠ .main then st = .lifting
      else st = .lowering
    | .working =>
      if a = .main then st = .working
      else if (s.arm a).req = .hover then st = .lifting
      else if s.deflectThreshold < (s.readArm a).swing then st = .deflected
      else st = .working
    | .deflected =>
      if (s.arm a).req = .hover then st = .lifting
      else if s.belowRelease (s.readArm a) = true ∧ (timerDue 300 10 (s.arm a).ret || timerAt 300 (s.arm a).ret) = true then st = .working
      else st = .deflected
    | .lifting =>
      if s.input (downInput a) = false ∧ (timerDue 300 10 (s.arm a).hover || timerAt 300 (s.arm a).hover) = true then
        st = .hover
      else st = .lifting
    | .hover =>
      if (s.arm a).req = .working ∧ s.reverseState = false ∧ (s.modc.mode = .engaging ∨ s.modc.mode = .sweeping) then
        st = .lowering
      else st = .hover
    | .raising =>
      if s.input (upInput a) = true then st = .stowed
      else (s.goesDown a ∧ st = .lowering) ∨ (¬s.goesDown a ∧ st = .raising)
    | .out => st = .out

/-- The motor starts from rest or stops at the arm step that leaves a record of state `old` in `st` (R76): its timers are then 0. -/
def motorTurns (old st : ArmState) : Prop :=
  (st = .raising ∧ old ≠ .raising) ∨ (st = .lowering ∧ (old = .stowed ∨ old = .raising))

/-- The timers of a record after an arm step at which no exclusion test is met, `r` the record after it (R64, R67, R68, R76, R78 to R80):
the state timer, the spin-up, the stall and silence timers, the angle-loss timer, and those of LIFTING and DEFLECTED. That they advance
for the state at the start of the step is log entry 17. -/
def ArmTimersFollow (s : State) (a : Arm) (r : ArmRecord) : Prop :=
  let old := s.arm a
  let tested : Prop := rotates old = true ∧ 1490 ≤ old.spinUp ∧ 0 < r.target
  r.stateTimer = (if r.state = old.state then min 65535 (old.stateTimer + 10) else 0) ∧
    (motorTurns old.state r.state → r.spinUp = 0 ∧ r.stall = none ∧ r.silence = none) ∧
    (¬motorTurns old.state r.state →
      r.spinUp = (if rotates old = true then min 1500 (old.spinUp + 10) else old.spinUp) ∧
      (tested ∧ s.valid (brushChannel a) = true ∧ r.measured * 5 < r.target → r.stall = timerFollow 500 10 true old.stall) ∧
      (¬(tested ∧ s.valid (brushChannel a) = true ∧ r.measured * 5 < r.target) → r.stall = none) ∧
      (tested ∧ s.valid (brushChannel a) = false → r.silence = timerFollow 1000 10 true old.silence) ∧
      (¬(tested ∧ s.valid (brushChannel a) = false) → r.silence = none)) ∧
    r.angleLoss = (if judgesSwing r = true ∧ s.swingValid a = false then
      (if judgesSwing old = true then timerFollow 200 10 true old.angleLoss else some 0) else none) ∧
    (r.state ≠ old.state → r.hover = none ∧ r.ret = none ∧ r.deflection = 0) ∧
    (r.state = old.state →
      r.hover = (if old.state = .lifting then timerFollow 300 10 (!s.input (downInput a)) old.hover else old.hover) ∧
      r.ret = (if old.state = .deflected then timerFollow 300 10 (s.belowRelease r) old.ret else old.ret) ∧
      r.deflection = if old.state = .deflected then min 2000 (old.deflection + 10) else old.deflection)

/-- How an arm's waiting order ends at an arm step (R71, R85), `none` where it waits on: FAILED with the kind's rank where the arm has gone
OUT at that step, OK where its state matches the request, TIMED_OUT with its state at 8000 ms. -/
def armWaitEnd (s t : State) (a : Arm) (w : ArmWait) : Option (Result × Nat) :=
  if (t.arm a).state = .out ∧ (s.arm a).state ≠ .out then (t.arm a).cause.map fun k => (.failed, k.rank)
  else if matchesReq (t.arm a).state w.req = true then some (.ok, 0)
  else if 8000 ≤ s.since w.takeTime then some (.timedOut, (t.arm a).state.code)
  else none

/-- How an arm step ends an open order: that of the arm's waiting order with the entry's slot and take time, if there is one. -/
def armEntryEnd (s t : State) (e : Entry) : Option (Result × Nat) :=
  [Arm.left, .right, .main].findSome? fun a =>
    if e.target = armTarget a then
      (s.arm a).waiting.bind fun w => if w.slot = e.slot ∧ w.takeTime = e.takeTime then armWaitEnd s t a w else none
    else none

/-- The cause-present flag of an arm in OUT ends at this arm step (R83): ARM_STUCK and BRUSH_STALL with the OUT raise, ARM_ANGLE_LOST with a
VALID swing channel, ARM_DEFLECT_LONG with a VALID angle at or below the release level. -/
def CauseEndsAt (s : State) (a : Arm) : Prop :=
  (((s.arm a).cause = some .armStuck ∨ (s.arm a).cause = some .brushStall) ∧
      (s.arm a).stateTimer < 4000 ∧ 4000 ≤ (s.arm a).stateTimer + 10) ∨
    ((s.arm a).cause = some .armAngleLost ∧ s.swingValid a = true) ∨
    ((s.arm a).cause = some .armDeflectLong ∧ s.swingValid a = true ∧ s.belowRelease (s.readArm a) = true)

/-- A kind that excludes an arm (section 7.1). -/
def excludesArm (k : FaultKind) : Prop := k = .armStuck ∨ k = .armAngleLost ∨ k = .armDeflectLong ∨ k = .brushStall

/-- A side arm has moved to a state between two arm steps (R64, R67 to R70, R73, R74, R81): its record with the readings of that step, the
reach and the pressure of the new state, W, and its outputs; the other arms as before. -/
def MovedTo (side : Side) (st : ArmState) (s t : State) : Prop :=
  t.arm side.arm = { s.readArm side.arm with
    state := st, stateTimer := 0, hover := none, ret := none, deflection := 0
    press := if st = .working then s.evalAt pressureCurveBase (s.modc.profile.downPressure side.arm) else 0
    reach := if st = .working then s.evalAt (reachTableBase side) (s.readArm side.arm).swing else 0
    angleLoss := if st = .raising ∨ st = .hover then none else (s.arm side.arm).angleLoss
    spinUp := if st = .raising then 0 else (s.arm side.arm).spinUp
    stall := if st = .raising then none else (s.arm side.arm).stall
    silence := if st = .raising then none else (s.arm side.arm).silence
    trim := if st = .raising then 0 else (s.arm side.arm).trim } ∧
    (∀ b, b ≠ side.arm → t.arm b = s.arm b) ∧ t.widthFollows ∧
    t.tma.outputs.lower side.arm = false ∧ t.tma.outputs.raise side.arm = decide (st = .lifting ∨ st = .raising) ∧
    (t.tma.outputs.get (pressOutput side.arm)).held = (t.arm side.arm).press ∧
    (t.tma.outputs.get (motorOutput side.arm)).held =
      (if st = .raising then 0 else (s.tma.outputs.get (motorOutput side.arm)).held) ∧
    OutputsOnly s t

/-- An arm has gone OUT for a kind (R71, R73, R81, R125): its record with the readings of that step and reach 0, W, its outputs and
its exclusion; the other arms as before. -/
def WentOut (a : Arm) (k : FaultKind) (s t : State) : Prop :=
  t.arm a = { s.readArm a with
    state := .out, stateTimer := 0, hover := none, ret := none, deflection := 0, cause := some k, causePresent := true,
    req := .stowed, press := 0, trim := 0, spinUp := 0, stall := none, silence := none, angleLoss := none, waiting := none,
    reach := 0 } ∧
    (∀ b, b ≠ a → t.arm b = s.arm b) ∧ t.widthFollows ∧
    t.faults.exclusions = s.faults.exclusions.setArm a true ∧
    t.tma.outputs.lower a = false ∧ t.tma.outputs.raise a = true ∧
    (t.tma.outputs.get (pressOutput a)).held = 0 ∧ (t.tma.outputs.get (motorOutput a)).held = 0 ∧ OutputsOnly s t

/-- The supply has been withdrawn (R104, R125): water-out, Qavail, Q_cmd, groups and pump 0, running priming DRY, the WATER
exclusion latched. -/
def WentDry (s t : State) : Prop :=
  t.watc.waterOut = true ∧ t.watc.qAvail = 0 ∧ t.watc.qCmd = 0 ∧ t.watc.openSet = 0 ∧ t.watc.duty = 0 ∧ t.watc.trim = 0 ∧
    t.watc.prime ≠ .running ∧ t.watc.override = s.watc.override ∧ t.watc.mask = s.watc.mask ∧
    t.watc.level = s.watc.level ∧ t.watc.qDem = s.watc.qDem ∧
    t.faults.exclusions = { s.faults.exclusions with water := true } ∧
    t.tma.outputs = { s.tma.outputs with nozzles := 0, waterPump := { s.tma.outputs.waterPump with held := 0 } } ∧
    OutputsOnly s t

/-! ### Which commands are bound to the job steps and to RESET# -/

/-- A job's step, or an expiry judged at one: it falls only while the step timers run (R139; log entry 5). -/
def atJobStep : Instr → Bool
  | .modeCheck | .settleTimerExpiry | .engageBudgetExpiry => true
  | .travelStep | .wheelDisagreeTimeout | .wheelLossTimeout _ | .wheelReadmission _ | .wheelSilenceTimeout
  | .neutralDwellElapsed | .overspeedTimeout | .operatorAbsentTimeout | .paceArrival | .paceTimeout | .stopTimeout => true
  | .armStep | .armStuckTimeout _ | .angleLossTimeout _ | .deflectLongTimeout _ | .deflectReturn _ | .hoverReached _
  | .spinUpComplete _ | .brushStallTimeout _ | .brushSilenceTimeout _ | .outRaiseEnd _ | .setArmTimeout _ => true
  | .waterStep | .primeHeld | .primeTimeout | .dryRunTimeout | .flowLossTimeout | .tankLossTimeout => true
  | .loadStep | .floorTimerExpiry | .recoveryTimerExpiry | .engineLossTimeout => true
  | _ => false

/-- The commands that act while RESET# is low: the reset's own, and the pins' raw levels (log entry 6). -/
def actsInReset : Instr → Bool
  | .coldReset _ | .resetRelease | .captureRawChange _ _ _ | .debounceRawChange _ _ => true
  | _ => false

/-! ### Invariants -/

/-- Exchange memory and the EEPROM keep their canonical forms, and no page write leaves the EEPROM. -/
def State.memoryInv (s : State) : Prop :=
  s.xmemWf ∧ Memory.wf 0xFFFF Config.eepromWords s.eeprom.cells = true ∧ s.cal.page ≤ 33 ∧
    (∀ base ws, s.eeprom.inFlight = some (base, ws) → base + ws.length ≤ Config.eepromWords)

/-- The open-orders law (R148): at most one order per target, no two entries on one slot, every slot one of the 32. -/
def State.ordersInv (s : State) : Prop :=
  (s.orders.entries.map fun e => e.target).Nodup ∧ (s.orders.entries.map fun e => e.slot).Nodup ∧
    s.orders.cursor < 32 ∧ ∀ e ∈ s.orders.entries, e.slot < 32

/-- A SET_ARM for WORKING or HOVER waits only in SWEEPING (R84, R86). -/
def State.waitsInv (s : State) : Prop := s.modc.mode = .sweeping ∨ s.calmArms

/-- The interlocks of one arm's outputs: no arm lowers and raises at once (R73), down-pressure only in WORKING (R74), a motor
only while rotation is commanded (R76). -/
def State.armOutputsSafe (s : State) (a : Arm) : Prop :=
  (s.tma.outputs.lower a = false ∨ s.tma.outputs.raise a = false) ∧
    ((s.arm a).press ≠ 0 → (s.arm a).state = .working) ∧
    ((s.tma.outputs.get (pressOutput a)).held ≠ 0 → (s.arm a).state = .working) ∧
    ((s.tma.outputs.get (motorOutput a)).held ≠ 0 → rotates (s.arm a) = true)

/-- The interlocks of the water outputs: no pump without an open group, and none outside ENGAGING and SWEEPING (R101). -/
def State.pumpSafe (s : State) : Prop :=
  (s.watc.duty ≠ 0 → s.watc.openSet ≠ 0 ∧ s.worksMode = true) ∧
    (s.tma.outputs.waterPump.held ≠ 0 → s.tma.outputs.nozzles ≠ 0 ∧ s.worksMode = true)

/-- At most one travel solenoid carries a non-zero duty (R57). -/
def State.travelSafe (s : State) : Prop :=
  s.tma.outputs.travelFwd.held = 0 ∨ s.tma.outputs.travelRev.held = 0

/-- The interlocks of all outputs. -/
def State.outputsInv (s : State) : Prop :=
  s.armOutputsSafe .left ∧ s.armOutputsSafe .right ∧ s.armOutputsSafe .main ∧ s.pumpSafe ∧ s.travelSafe

/-- While the travel command is negative no side arm is in LOWERING, WORKING, DEFLECTED or LIFTING (R53). -/
def State.reverseInv (s : State) : Prop :=
  s.gov.c < 0 → forbidsReverse s.armc.left = false ∧ forbidsReverse s.armc.right = false

/-- The load factor and the brush scale (R112). -/
def State.loadInv (s : State) : Prop :=
  300 ≤ s.loadm.load ∧ s.loadm.load ≤ 1000 ∧ (s.loadm.scale = 700 ∨ s.loadm.scale = 1000)

/-- The latched exclusions and the states they stand for are in step (R125). -/
def State.exclusionInv (s : State) : Prop :=
  (∀ a, s.faults.exclusions.arm a = true → (s.arm a).state = .out) ∧
    (s.faults.exclusions.water = true → s.watc.waterOut = true)

/-- Sleep: a wake state exactly in PARKED, the step timers stopped exactly while dormant, the strip scan and the publication
stopped exactly in PARKED (R16, R17, R139). -/
def State.sleepInv (s : State) : Prop :=
  (s.modc.mode = .parked ↔ s.modc.wake ≠ .none) ∧
    (s.tma.stepsRunning = false ↔ s.modc.wake = .dormant) ∧
    (s.tma.stripRunning = false ↔ s.modc.mode = .parked)

/-- The working calibration is a valid set of 512 words (R164). -/
def State.calibrationInv (s : State) : Prop :=
  s.cal.working.length = 512 ∧ firstBadWord s.cal.working = none

/-- The active profile lies in its ranges and its speeds in order (R19). -/
def Profile.inRange (p : Profile) : Prop :=
  p.transportMax ≤ 12000 ∧ p.sweepMax ≤ p.transportMax ∧ p.sweepMax ≤ 6000 ∧ p.engageLimit ≤ p.sweepMax ∧
    p.engageLimit ≤ 3000 ∧ p.limpSpeed ≤ p.transportMax ∧ p.limpSpeed ≤ 1500 ∧ p.dryCrawl ≤ 2000 ∧
    (100 ≤ p.accel ∧ p.accel ≤ 2000) ∧ (100 ≤ p.decel ∧ p.decel ≤ 3000) ∧
    (2000 ≤ p.emergencyDecel ∧ p.emergencyDecel ≤ 6000) ∧ p.dose ≤ 5000 ∧ p.sprayMinSpeed ≤ 1000 ∧
    p.downPressureL ≤ 60 ∧ p.downPressureR ≤ 60 ∧ p.downPressureM ≤ 60 ∧ p.brushSpeedL ≤ 200 ∧ p.brushSpeedR ≤ 200 ∧
    p.brushSpeedM ≤ 250 ∧ (1200 ≤ p.ratedEngineSpeed ∧ p.ratedEngineSpeed ≤ 3600) ∧
    (100 ≤ p.hostCheckWindow ∧ p.hostCheckWindow ≤ 2000)

end Sys2Proof.Machine
end

