-- ==== Sys2Proof/Certificates/Slice0/Obligations.lean ====
section
/-! DEFINITION. The statements for the provers: the queue and the invariants, the resets and the host port, the orders, the calibration loader, and the steps and expiries of every job. A clause that rests on a choice of the model names its log entry. -/
section SweeperStatements
open Sys2Proof Sys2Proof.Machine

/-! ### The queue -/

/-- A step with a command at the front of the queue executes that command with the queue's rest. -/
def Obligations.StepRunsFrontCommand : Prop :=
  ∀ (c : Instr) (rest : List Instr) (s : State), step (s.setPending (c :: rest)) = exec c (s.setPending rest)

/-- With no command waiting a millisecond passes (R138): the clock advances by 1 with the running 1 ms timers, those of the debounced inputs
(R137), the trace period (R140), the host check (R158), the page, the SPI link and the EEPROM (R166, R169), and exactly the events due at
the new instant wait in the queue, each of the six periodic ones at the multiples of its period (R139); while RESET# is low nothing moves. The
model's choice are: that the empty queue is the tick (log entry 1), the order of the events (2), that RESET# stops the tick (6), the µs base
(12), that each PWM period begins as the one before it ends, R135 giving its length and no phase (23), that the trace timer is held
throughout PARKED (33), that no periodic event falls at clock 0 (39), that the 20 ms of an input, the check window and the 10 ms of a
page are whole ticks (40, 47, 50), the instants of the link's ends (41), and that an edge not yet accepted stops no timeout (46). -/
def Obligations.EmptyQueueIsOneMillisecond : Prop :=
  ∀ s : State, s.pending = [] →
    (s.resetHeld = true → step s = .next s) ∧
    (s.resetHeld = false → ∃ t, step s = .next t ∧
      t.tma = { s.tma with
        clock := s.tma.clock + 1, micros := s.tma.micros + 1000, inputs := t.tma.inputs
        trace := { s.tma.trace with
          periodTimer := s.tma.trace.periodTimer +
            if s.tma.trace.enabled = true ∧ s.modc.mode ≠ .parked ∧ s.tma.trace.source = .period then 1 else 0 } } ∧
      (∀ i, t.tma.inputs.get i = { s.tma.inputs.get i with
        stable := if s.tma.stepsRunning = true ∨ i = .operator then min 20 ((s.tma.inputs.get i).stable + 1)
          else (s.tma.inputs.get i).stable }) ∧
      t.port = { s.port with window := s.port.window.map (· + 1) } ∧
      t.cal = { s.cal with pageTimer := s.cal.pageTimer.map (· + 1), link := s.cal.link.map (· + 1) } ∧
      t.eeprom = { s.eeprom with writeTime := s.eeprom.writeTime.map (· + 1) } ∧
      t.pending = t.timerEvents ++ t.periodicEvents ∧
      (∀ c, c = .travelStep ∨ c = .armStep ∨ c = .modeCheck ∨ c = .loadStep →
        (c ∈ t.pending ↔ s.tma.stepsRunning = true ∧ t.tma.clock.toNat % 10 = 0)) ∧
      (.waterStep ∈ t.pending ↔ s.tma.stepsRunning = true ∧ t.tma.clock.toNat % 20 = 0) ∧
      (.stripScanExpiry ∈ t.pending ↔ s.tma.stripRunning = true ∧ t.tma.clock.toNat % 5 = 0) ∧
      (.statusPublication ∈ t.pending ↔ s.tma.stripRunning = true ∧ t.tma.clock.toNat % 20 = 0) ∧
      (∀ o, .pwmPeriodStart o ∈ t.pending ↔ s.tma.stepsRunning = true ∧
        (s.tma.outputs.get o).start + (if o = .waterPump then 1000 else 5000) ≤ s.tma.micros + 1000) ∧
      (∀ ch us, .captureEdgeAccepted ch us ∈ t.pending ↔ us = 0 ∧ s.tma.stepsRunning = true ∧
        (s.tma.captures.get ch).raw ≠ (s.tma.captures.get ch).level ∧
        (s.tma.captures.get ch).rawTime + filterTime ch ≤ s.tma.micros + 1000) ∧
      (∀ ch us, .captureTimeout ch us ∈ t.pending ↔ us = 0 ∧ s.tma.stepsRunning = true ∧
        (s.tma.captures.get ch).state ≠ .noSignal ∧ (s.tma.captures.get ch).rise + s.timeoutTime ch ≤ s.tma.micros + 1000) ∧
      (∀ i, .debounceSettled i ∈ t.pending ↔ (s.tma.stepsRunning = true ∨ i = .operator) ∧
        (s.tma.inputs.get i).raw ≠ (s.tma.inputs.get i).level ∧ 20 ≤ (t.tma.inputs.get i).stable) ∧
      (.hostCheckExpiry ∈ t.pending ↔ timerAt s.port.windowLength t.port.window = true) ∧
      (.tracePeriodExpiry ∈ t.pending ↔ s.tma.trace.enabled = true ∧ s.modc.mode ≠ .parked ∧ s.tma.trace.source = .period ∧
        s.tma.trace.interval ≤ t.tma.trace.periodTimer) ∧
      (∀ bound : Nat, bound = (if s.eeprom.word s.freeReads 0 = 0x0A51 then 20 else 1) →
        (.startupLoadDone ∈ t.pending ↔ s.cal.op = .loading ∧ timerAt bound t.cal.link = true) ∧
        (.fetchReadDone ∈ t.pending ↔ s.cal.op = .fetching ∧ timerAt bound t.cal.link = true)) ∧
      (.storePageTransferDone ∈ t.pending ↔
        s.cal.op = .storing ∧ s.cal.pageTimer = none ∧ timerAt 1 t.cal.link = true) ∧
      (.storePageReady ∈ t.pending ↔
        s.eeprom.works = true ∧ s.eeprom.inFlight ≠ none ∧ timerAt 9 t.eeprom.writeTime = true) ∧
      (.storePageTimeout ∈ t.pending ↔ s.cal.op = .storing ∧ timerAt 10 t.cal.pageTimer = true) ∧
      SameBut [.pending, .tma, .port, .cal, .eeprom] s t)

/-- Every command completes in every state, and none changes the queue. The queue is the model's own, and that no command touches it, COLD_RESET
included, is the model's choice (log entries 1 and 32). -/
def Obligations.EveryCommandCompletesAndKeepsTheQueue : Prop :=
  ∀ (c : Instr) (s : State), ∃ t, exec c s = .next t ∧ t.pending = s.pending

/-- While RESET# is low only the reset's own commands and the pins' raw levels act (section 12.9, log entry 6), and a job's step or an expiry judged at one acts
only while the step timers run (R139, log entry 5): any other command changes nothing. -/
def Obligations.CommandsWaitOutResetAndSleep : Prop :=
  ∀ (c : Instr) (s : State),
    (s.resetHeld = true → actsInReset c = false → exec c s = .next s) ∧
    (s.tma.stepsRunning = false → atJobStep c = true → exec c s = .next s)

/-! ### Invariants that every step keeps -/

/-- Exchange memory and the EEPROM keep their canonical forms through every step, and no page write leaves the EEPROM. The forms (addresses
strictly rising, no word at the value an unlisted address reads as) are the model's own choice (log entry 9). -/
def Obligations.MemoryStaysCanonical : Prop :=
  ∀ s t : State, s.memoryInv → step s = .next t → t.memoryInv

/-- Every step keeps the open-orders law of R148: at most one order per target, no two entries on one strip slot; and the cursor
and every entry name one of the 32 slots. And a SET_ARM for WORKING or HOVER waits only in SWEEPING: it is accepted there alone (R84), and
a mode-change notice ends it (R86). -/
def Obligations.OpenOrdersLawKept : Prop :=
  ∀ s t : State, (s.ordersInv → step s = .next t → t.ordersInv) ∧ (s.waitsInv → step s = .next t → t.waitsInv)

/-- Every step keeps the interlocks of the outputs while the latched exclusions and the arm states are in step (R125): no arm lowers and
raises at once (R73), down-pressure only in WORKING (R74), a brush motor only while its arm is in LOWERING, WORKING, DEFLECTED, LIFTING or
HOVER (R76), no pump without an open nozzle group and none outside ENGAGING and SWEEPING (R101), and at most one travel solenoid (R57). -/
def Obligations.OutputInterlocksKept : Prop :=
  ∀ s t : State, s.outputsInv → s.exclusionInv → step s = .next t → t.outputsInv

/-- Every step keeps the reverse law of R53: while the travel command is negative, no side arm is in LOWERING, WORKING, DEFLECTED
or LIFTING. -/
def Obligations.ReverseLawKept : Prop :=
  ∀ s t : State, s.reverseInv → step s = .next t → t.reverseInv

/-- Every step keeps an arm whose exclusion is latched in OUT, and the water-out flag set while the WATER_OUT exclusion is (R125). -/
def Obligations.ExclusionsMatchStates : Prop :=
  ∀ s t : State, s.exclusionInv → step s = .next t → t.exclusionInv

/-- Every step keeps the load factor within 300 to 1000 and the brush scale at 700 or 1000 (R112). -/
def Obligations.LoadFactorStaysInRange : Prop :=
  ∀ s t : State, s.loadInv → step s = .next t → t.loadInv

/-- Every step keeps the sleep law: a wake state exactly in PARKED, the step timers stopped exactly while DORMANT, the strip scan
and the publication stopped exactly in PARKED (R16, R17, R139). -/
def Obligations.SleepLawKept : Prop :=
  ∀ s t : State, s.sleepInv → step s = .next t → t.sleepInv

/-- Every step keeps the working calibration a valid set of 512 words (R164: the working calibration always satisfies these
checks). -/
def Obligations.WorkingCalibrationStaysValid : Prop :=
  ∀ s t : State, s.calibrationInv → step s = .next t → t.calibrationInv

/-- Every step keeps the active profile within its ranges and its speeds in order (R19). -/
def Obligations.ActiveProfileStaysInRange : Prop :=
  ∀ s t : State, s.modc.profile.inRange → step s = .next t → t.modc.profile.inRange

/-- The state right after reset meets every invariant above. -/
def Obligations.ResetMeetsEveryInvariant : Prop :=
  State.reset.memoryInv ∧ State.reset.ordersInv ∧ State.reset.waitsInv ∧ State.reset.outputsInv ∧ State.reset.reverseInv ∧
    State.reset.exclusionInv ∧ State.reset.loadInv ∧ State.reset.sleepInv ∧ State.reset.calibrationInv ∧
    State.reset.modc.profile.inRange

/-! ### Resets, restart, wake -/

/-- COLD_RESET leaves every block at its cold-reset value (R21, R37, R62, R88, R108, R117, R131, R143, R154, R163, R167), exchange memory
cleared but for the profile 0 defaults; the pins' levels, the EEPROM and the queue stand. RESET# stays low after the pin cause (log
entries 6 and 32). Of the fields for which no rule gives a value, the start of the PWM periods (0), the arms' down-pressure duty (0) and the
loader's notice slot (none) are stated at the values of log entry 8, the model's choice; the instants, the wake time, the trace source and
interval, the window length and the loader's buffer, page and link time are left open here. -/
def Obligations.ColdResetLeavesResetValues : Prop :=
  ∀ (cause : ResetCause) (s : State), ∃ t, exec (.coldReset cause) s = .next t ∧
    t.resetHeld = decide (cause = .pinLow) ∧
    t.modc = { t.modc with
      mode := .starting, reason := 16, phase := .none, commanded := ⟨false, false, false⟩, settle := none, budget := 0,
      haltLatch := false, safeStopped := false, wake := .none, restartPending := false, startupComplete := false
      profile :=
        { transportMax := 8000, sweepMax := 3500, engageLimit := 1500, limpSpeed := 800, dryCrawl := 0, accel := 600,
          decel := 1000, emergencyDecel := 4000, dose := 600, sprayMinSpeed := 300, selectLeft := true, selectRight := true,
          downPressureL := 20, downPressureR := 20, downPressureM := 30, brushSpeedL := 90, brushSpeedR := 90,
          brushSpeedM := 120, ratedEngineSpeed := 2400, hostCheckWindow := 500 } } ∧
    (∀ a, t.xread a = if 512 ≤ a ∧ a < 531 then (profileWords t.modc.profile).getD (a - 512) 0 else 0) ∧
    t.gov =
      { reqSpeed := 0, reqDir := .neutral, c := 0, lastSign := .none, dwell := 0, reversePending := false, trim := 0, vAct := 0,
        chanA := .inUse, chanB := .inUse, lossA := none, lossB := none, readmitA := 0, readmitB := 0, disagree := none,
        silence := none, overspeed := none, operator := none, waiting := none, vT := 0, limiter := .request, vW := 15000,
        vL := 0 } ∧
    (∀ a, t.arm a =
      { state := .stowed, req := .stowed, stateTimer := 0, hover := none, ret := none, deflection := 0, swing := 0,
        angleLoss := none, reach := 0, target := 0, measured := 0, trim := 0, spinUp := 0, stall := none, silence := none,
        cause := none, causePresent := false, waiting := none, press := 0 }) ∧
    t.armc.width = 0 ∧
    t.watc =
      { level := 0, levelKnown := false, tankEmpty := false, tankLoss := none, waterOut := false, qAvail := 0, override := none,
        qDem := 0, qCmd := 0, qMeas := 0, prime := .idle, primeTimer := 0, primeHold := none, mask := 0xFF, openSet := 0,
        trim := 0, duty := 0, dryRun := none, flowLoss := none, flowLossFlag := false, dryReport := false } ∧
    t.loadm =
      { n := 0, droop := 0, lRaw := 1000, load := 1000, scale := 1000, floor := none, recovery := none, engineLoss := none,
        engineLossFlag := false } ∧
    (∀ severe, t.faults.served severe =
      { record := ⟨0, 0, 0, 0, 0, 0, 0, 0, 0⟩, hold := false, count := 0, bitmap := 0 }) ∧
    t.faults.total = 0 ∧ t.faults.active = 0 ∧ t.faults.exclusions = ⟨false, false, false, false⟩ ∧
    t.orders = { cursor := 0, entries := [], orphans := 0, stall := false } ∧
    t.port = { pendingSet := 0, enableSet := 0, check := .disarmed, window := none, windowLength := t.port.windowLength } ∧
    t.publisher = { headCount := 0, traceCount := 0 } ∧
    t.cal = { t.cal with
      working := defaultCalibration, status := .defaults, loadDone := false, op := .loading, pageTimer := none, order := none } ∧
    t.tma.clock = 0 ∧ t.tma.stepsRunning = true ∧ t.tma.stripRunning = true ∧
    (∀ o, t.tma.outputs.get o = ⟨0, 0, 0⟩) ∧ t.tma.outputs.nozzles = 0 ∧
    (∀ a, t.tma.outputs.lower a = false ∧ t.tma.outputs.raise a = false) ∧
    t.tma.trace.enabled = false ∧ t.tma.trace.periodTimer = 0 ∧ t.tma.trace.accumulator = 0 ∧
    t.tma.trace.pendingInterval = none ∧
    (∀ ch, (t.tma.captures.get ch).state = .noSignal ∧ (t.tma.captures.get ch).value = 0 ∧
      (t.tma.captures.get ch).count = 0 ∧ (t.tma.captures.get ch).raw = (s.tma.captures.get ch).raw) ∧
    (∀ i, t.tma.inputs.get i = { level := false, raw := (s.tma.inputs.get i).raw, stable := 0 }) ∧
    t.pending = s.pending ∧ t.eeprom = s.eeprom

/-- RESET_RELEASE raises RESET#; the capture channels then start at the levels of their pins, the model's choice of log entry 13. With
RESET# already high it changes nothing. -/
def Obligations.ResetReleaseStartsTheChannels : Prop :=
  ∀ s : State,
    (s.resetHeld = false → exec .resetRelease s = .next s) ∧
    (s.resetHeld = true → ∃ t, exec .resetRelease s = .next t ∧ t.resetHeld = false ∧
      t.tma = { s.tma with captures := t.tma.captures } ∧
      (∀ ch, (t.tma.captures.get ch).state = .noSignal ∧ (t.tma.captures.get ch).value = 0 ∧
        (t.tma.captures.get ch).raw = (s.tma.captures.get ch).raw ∧
        (t.tma.captures.get ch).level = (s.tma.captures.get ch).raw) ∧
      SameBut [.resetHeld, .tma] s t)

/-- A write of 0x00A5 to RESTART in TRANSPORT, ENGAGING, SWEEPING, DISENGAGING or SAFE carries out the restart (R22, R159): every block as
its reset table gives (R62, R88, R108, R117, R131, R143, R154, R163, R171), every open order ended RESTARTED or as an orphan (R154),
the condition ends that fall at the restart (R83, R117, R131, R158), and MODE_CHANGE if the mode differs. In STARTING, and with any other
value, the write is ignored. Restarted and OrdersRestarted of Sys2Proof/Safety.lean say what it does. That v_t, the limiter, v_w and v_L stand
is the model's reading (log entry 24), and that the PWM periods' start is 0 and the loader has no notice slot is its choice (log entry 8); the
loader's discarded buffer and its page are left open here. -/
def Obligations.RestartEffect : Prop :=
  (∀ (v : Word) (s : State), v ≠ 0x00A5 ∨ s.modc.mode = .starting → exec (.restart v) s = .next s) ∧
  (∀ s : State, s.resetHeld = false → s.modc.mode ≠ .starting → s.modc.mode ≠ .parked →
    ∃ t, exec (.restart 0x00A5) s = .next t ∧ Restarted s t ∧ (s.ordersInv → s.xmemWf → OrdersRestarted s t))

/-- A write to WAKE, or a restart request, while DORMANT starts WAKING (R17, R137, R142): the wake time is the clock, the job steps run,
every channel starts afresh and the frozen inputs take their raw levels; the restart-pending flag is set by the request alone. A restart
request while WAKING sets that flag and nothing else (R17, R159). In any other state a write to WAKE is ignored. That the tank-loss timer
restarts at the wake source is the model's reading (log entry 25). -/
def Obligations.WakeSourcesStartWaking : Prop :=
  (∀ (v : Word) (s : State), s.modc.wake ≠ .dormant → exec (.wake v) s = .next s) ∧
  (∀ s : State, s.resetHeld = false → s.modc.mode = .parked → s.modc.wake = .waking →
    exec (.restart 0x00A5) s = .next (s.setModc { s.modc with restartPending := true })) ∧
  (∀ (restart : Bool) (v : Word) (s : State), s.resetHeld = false → s.modc.mode = .parked → s.modc.wake = .dormant →
    ∃ t, exec (if restart then .restart 0x00A5 else .wake v) s = .next t ∧
      t.modc = { s.modc with wake := .waking, wakeTime := s.tma.clock, restartPending := restart } ∧
      t.tma.stepsRunning = true ∧ t.tma.stripRunning = s.tma.stripRunning ∧ t.tma.clock = s.tma.clock ∧
      t.tma.outputs = s.tma.outputs ∧ t.tma.trace = s.tma.trace ∧
      (∀ ch, (t.tma.captures.get ch).state = .noSignal ∧ (t.tma.captures.get ch).value = 0 ∧ (t.tma.captures.get ch).count = 0) ∧
      (∀ i, i ≠ .operator → t.input i = (s.tma.inputs.get i).raw ∧ (t.tma.inputs.get i).stable = 0) ∧
      t.tma.inputs.operator = s.tma.inputs.operator ∧
      t.watc = { s.watc with tankLoss := none } ∧
      SameBut [.modc, .tma, .watc] s t)

/-! ### The host port -/

/-- CHECK writes move the host check state by the table of R158; a completed pair arms the window with the active profile's length and ends
HOST_SILENT; while PARKED the writes are ignored. -/
def Obligations.CheckWritesMoveTheHostCheck : Prop :=
  ∀ s : State, s.resetHeld = false →
    (s.modc.mode = .parked → ∀ v, exec (.check v) s = .next s) ∧
    (s.modc.mode ≠ .parked →
      exec (.check 0x00C3) s = .next (s.setPort { s.port with check := .awaitSecond }) ∧
      (s.port.check ≠ .awaitSecond → ∀ v, v ≠ 0x00C3 → exec (.check v) s = .next s) ∧
      (s.port.check = .awaitSecond → ∀ v, v ≠ 0x00C3 → v ≠ 0x003C →
        exec (.check v) s =
          .next (s.setPort { s.port with check := if s.port.window = none then .disarmed else .awaitFirst })) ∧
      (s.port.check = .awaitSecond → ∃ t, exec (.check 0x003C) s = .next t ∧
        t.port = { s.port with check := .awaitFirst, window := some 0, windowLength := s.modc.profile.hostCheckWindow } ∧
        t.faults = { s.faults with active := s.faults.active &&& ~~~(kindBit .hostSilent) } ∧
        WordsKept 1825 1 s t ∧ SameBut [.port, .faults, .xmem] s t))

/-- A write to INT_PENDING removes each cause whose bit is 1 and a write to INT_ENABLE replaces the enable set, and INT# follows both sets
at once (R157). -/
def Obligations.InterruptRegistersAndLine : Prop :=
  ∀ (v : Word) (s : State), s.resetHeld = false →
    (∃ t, exec (.intPending v) s = .next t ∧
      (∀ i, i < 7 → t.port.pendingSet.getLsbD i = (s.port.pendingSet.getLsbD i && !v.getLsbD i)) ∧
      t.port.enableSet = s.port.enableSet ∧ t.port.check = s.port.check ∧ t.port.window = s.port.window ∧
      (t.intLow = true ↔ ∃ i, i < 7 ∧ (t.port.pendingSet.getLsbD i && t.port.enableSet.getLsbD i) = true) ∧
      SameBut [.port] s t) ∧
    (∃ t, exec (.intEnable v) s = .next t ∧
      (∀ i, i < 7 → t.port.enableSet.getLsbD i = v.getLsbD i) ∧
      t.port.pendingSet = s.port.pendingSet ∧ t.port.check = s.port.check ∧ t.port.window = s.port.window ∧
      (t.intLow = true ↔ ∃ i, i < 7 ∧ (t.port.pendingSet.getLsbD i && t.port.enableSet.getLsbD i) = true) ∧
      SameBut [.port] s t)

/-- A host write to IDENT, STATE or an address above 8198 is ignored, whatever the value (R155, R157). A host read of exchange memory returns
its word, IDENT reads 0x0C24, STATE reads the mode code and the flags that stand at the read (R173), INT_PENDING and INT_ENABLE read
their sets and CHECK its state code, and RESTART, WAKE and every address above them read 0; while RESET# is low the port does not respond (section 12.9). -/
def Obligations.IgnoredWritesAndFixedReads : Prop :=
  ∀ (a : IgnoredAddress) (v : Word) (s : State),
    exec (.ignoredRegisterWrite a v) s = .next s ∧
      (s.resetHeld = true → ∀ b, s.hostRead b = none) ∧
      (s.resetHeld = false →
        (∀ b, b < 8192 → s.hostRead b = some (s.xread b)) ∧ s.hostRead 8192 = some 0x0C24 ∧
        (∃ w : Word, s.hostRead 8193 = some w ∧ w.toNat % 8 = s.modc.mode.code ∧ w.getLsbD 3 = s.modc.startupComplete ∧
          w.getLsbD 4 = decide (s.modc.wake = .dormant) ∧ w.getLsbD 5 = s.faults.primary.hold ∧
          w.getLsbD 6 = s.faults.severe.hold ∧ w.getLsbD 7 = s.orders.stall ∧ w.toNat / 256 = s.cal.status.code) ∧
        (∃ w : Word, s.hostRead 8194 = some w ∧ ∀ i, w.getLsbD i = s.port.pendingSet.getLsbD i) ∧
        (∃ w : Word, s.hostRead 8195 = some w ∧ ∀ i, w.getLsbD i = s.port.enableSet.getLsbD i) ∧
        (∃ w : Word, s.hostRead 8196 = some w ∧ w.toNat = s.port.check.code) ∧
        ∀ b, 8197 ≤ b → s.hostRead b = some 0)

/-- A host write changes its one word of exchange memory and nothing else, and the host reads it back (R155). -/
def Obligations.HostMemoryWriteReadsBack : Prop :=
  ∀ (a : BitVec 13) (v : Word) (s : State), s.resetHeld = false → s.xmemWf →
    ∃ t, exec (.hostMemoryWrite a v) s = .next t ∧ t.hostRead a.toNat = some v ∧
      (∀ b, b ≠ a.toNat → t.xread b = s.xread b) ∧ SameBut [.xmem] s t

/-! ### The order strip -/

/-- A strip scan takes POSTED slots that no entry names, one after another as their kinds' commands, until the next slot is not POSTED, the
mode has become PARKED, an entry names the next POSTED slot, where the scan stalls, or eight slots have been taken (R145, R146, R152). In
STARTING, in PARKED and while the scan's events are stopped no slot is scanned. -/
def Obligations.StripScanTakesTheCursorSlot : Prop :=
  (∀ s : State, s.modc.mode = .starting ∨ s.modc.mode = .parked ∨ s.tma.stripRunning = false → exec .stripScanExpiry s = .next s) ∧
  (∀ s t : State, ∀ n : Nat, s.resetHeld = false → s.tma.stripRunning = true → s.scanned = true → n ≤ 8 → ScanRun n s t →
    (n = 8 ∨ t.modc.mode = .parked ∨ t.owner t.orders.cursor ≠ ownerPosted → exec .stripScanExpiry s = .next t) ∧
    (n < 8 → t.modc.mode ≠ .parked → t.owner t.orders.cursor = ownerPosted → t.slotNamed t.orders.cursor = true →
      exec .stripScanExpiry s =
        .next ((t.setOrders { t.orders with stall := true }).setPort
          (if t.orders.stall then t.port else t.port.raise .stripStall))))

/-- A slot whose kind code is unknown completes at once REFUSED_KIND with the code as its detail, and nothing else changes (R146, R147). A
slot that the host has taken back since it was read is not written: the take counts one orphan, and nothing else changes but the
cursor (R147; that the slot may change between its reading and the take is log entry 3). -/
def Obligations.UnknownKindIsRefused : Prop :=
  ∀ (k : BitVec 8) (o : Order) (s : State), unknownKind k = true →
    (s.takes → ∃ t, exec (.refusedKind k o) s = .next t ∧ DoneAtOnce o.notify .refusedKind k.toNat s t ∧
      SameBut [.xmem, .orders, .port] s t) ∧
    (s.resetHeld = false → s.scanned = true → s.slotNamed s.orders.cursor = false → s.owner s.orders.cursor ≠ ownerPosted →
      exec (.refusedKind k o) s =
        .next (s.setOrders { s.orders with cursor := nextCursor s, orphans := min 255 (s.orders.orphans + 1) }))

/-- SELECT_PROFILE (R18, R19): an index above 3 and the modes ENGAGING and DISENGAGING are refused; otherwise the record's nineteen fields,
each clamped to its range and the speeds then to each other, become the active profile, the dose override ends, and the completion counts
the changed fields, arms_selected never among them. -/
def Obligations.SelectProfileLatchesTheCorrectedRecord : Prop :=
  ∀ (o : Order) (s : State), s.takes →
    (3 < o.par.p0.toNat → ∃ t, exec (.selectProfile o) s = .next t ∧ DoneAtOnce o.notify .refusedRange 0 s t ∧
      SameBut [.xmem, .orders, .port] s t) ∧
    (o.par.p0.toNat ≤ 3 → s.modc.mode = .engaging ∨ s.modc.mode = .disengaging →
      ∃ t, exec (.selectProfile o) s = .next t ∧ DoneAtOnce o.notify .refusedMode 17 s t ∧ SameBut [.xmem, .orders, .port] s t) ∧
    (o.par.p0.toNat ≤ 3 → s.modc.mode ≠ .engaging → s.modc.mode ≠ .disengaging →
      ∀ (base : Nat) (f : Nat → Nat), base = 512 + 128 * o.par.p0.toNat → f = (fun i => (s.xread (base + i)).toNat) →
      ∃ t n, exec (.selectProfile o) s = .next t ∧
        n = ((List.range 19).filter fun i =>
          decide (i ≠ 10 ∧ ((profileWords t.modc.profile).getD i 0).toNat ≠ f i)).length ∧
        DoneAtOnce o.notify (if n = 0 then .ok else .clamped) n s t ∧
        t.modc = { s.modc with profile :=
          { transportMax := min 12000 (f 0)
            sweepMax := min (min 6000 (f 1)) (min 12000 (f 0))
            engageLimit := min (min 3000 (f 2)) (min (min 6000 (f 1)) (min 12000 (f 0)))
            limpSpeed := min (min 1500 (f 3)) (min 12000 (f 0))
            dryCrawl := min 2000 (f 4)
            accel := max 100 (min 2000 (f 5))
            decel := max 100 (min 3000 (f 6))
            emergencyDecel := max 2000 (min 6000 (f 7))
            dose := min 5000 (f 8)
            sprayMinSpeed := min 1000 (f 9)
            selectLeft := (s.xread (base + 10)).getLsbD 0
            selectRight := (s.xread (base + 10)).getLsbD 1
            downPressureL := min 60 (f 11)
            downPressureR := min 60 (f 12)
            downPressureM := min 60 (f 13)
            brushSpeedL := min 200 (f 14)
            brushSpeedR := min 200 (f 15)
            brushSpeedM := min 250 (f 16)
            ratedEngineSpeed := max 1200 (min 3600 (f 17))
            hostCheckWindow := max 100 (min 2000 (f 18)) } } ∧
        t.modc.profile.inRange ∧ t.watc = { s.watc with override := none } ∧
        SameBut [.xmem, .orders, .port, .modc, .watc] s t)

/-- ENGAGE (R6): refused ALREADY in SWEEPING, WRONG_MODE in SAFE, MAIN_OUT and WATER in TRANSPORT; accepted it opens on MODE and, but in
ENGAGING, the mode becomes ENGAGING in SLOWING with MODE_CHANGE raised; an older order open on MODE ends SUPERSEDED, or as an orphan
(R150). -/
def Obligations.EngageOpensOrIsRefused : Prop :=
  ∀ (o : Order) (s : State), s.takes →
    (∀ d : Nat, (s.modc.mode = .sweeping ∧ d = 16) ∨ (s.modc.mode = .safe ∧ d = 17) ∨
        (s.modc.mode = .transport ∧ s.armc.main.state = .out ∧ d = 18) ∨
        (s.modc.mode = .transport ∧ s.armc.main.state ≠ .out ∧ s.waterGone = true ∧ d = 19) →
      ∃ t, exec (.engage o) s = .next t ∧ DoneAtOnce o.notify .refusedMode d s t ∧ SameBut [.xmem, .orders, .port] s t) ∧
    (s.modc.mode = .engaging →
      (s.openOn .mode = none → ∃ t, exec (.engage o) s = .next t ∧ Opened 2 .mode o s t ∧ SameBut [.xmem, .orders] s t) ∧
      (∀ e ∈ s.orders.entries, s.ordersInv → e.target = .mode → ∃ t, exec (.engage o) s = .next t ∧
        OpenedOver 2 .mode o e s t ∧ CausesKept false s t ∧ SameBut [.xmem, .orders, .port] s t)) ∧
    (s.calmArms →
      (s.modc.mode = .transport ∧ s.armc.main.state ≠ .out ∧ s.waterGone = false) ∨ s.modc.mode = .disengaging →
      ∃ t, exec (.engage o) s = .next t ∧
        (s.openOn .mode = none → Opened 2 .mode o s t ∧ t.port = s.port.raise .modeChange) ∧
        (∀ e ∈ s.orders.entries, s.ordersInv → e.target = .mode → OpenedOver 2 .mode o e s t ∧ CausesKept true s t) ∧
        t.modc = { s.modc with mode := .engaging, reason := 18, phase := .slowing, settle := none, budget := 0 } ∧
        t.watc = { s.watc with prime := .idle, primeTimer := 0, primeHold := none } ∧
        SameBut [.xmem, .orders, .port, .modc, .watc] s t)

/-- DISENGAGE (R13): OK at once in TRANSPORT, refused WRONG_MODE in SAFE, open in DISENGAGING; in ENGAGING and SWEEPING the mode becomes
DISENGAGING, every arm not in STOWED or OUT rises with its motor off, the spray stops, and a waiting SET_ARM for WORKING or HOVER ends
FAILED with the mode reason (R86, R107). Where it is not refused, an older order open on MODE ends SUPERSEDED, or as an orphan (R150). -/
def Obligations.DisengageRaisesTheArms : Prop :=
  ∀ (o : Order) (s : State), s.takes →
    (s.modc.mode = .transport →
      (s.openOn .mode = none → ∃ t, exec (.disengage o) s = .next t ∧ DoneAtOnce o.notify .ok 0 s t ∧
        SameBut [.xmem, .orders, .port] s t) ∧
      (∀ e ∈ s.orders.entries, s.ordersInv → e.target = .mode → ∃ t, exec (.disengage o) s = .next t ∧
        DoneOver o.notify .ok 0 e s t ∧ CausesKept false s t ∧ SameBut [.xmem, .orders, .port] s t)) ∧
    (s.modc.mode = .safe →
      ∃ t, exec (.disengage o) s = .next t ∧ DoneAtOnce o.notify .refusedMode 17 s t ∧ SameBut [.xmem, .orders, .port] s t) ∧
    (s.modc.mode = .disengaging →
      (s.openOn .mode = none → ∃ t, exec (.disengage o) s = .next t ∧ Opened 3 .mode o s t ∧ SameBut [.xmem, .orders] s t) ∧
      (∀ e ∈ s.orders.entries, s.ordersInv → e.target = .mode → ∃ t, exec (.disengage o) s = .next t ∧
        OpenedOver 3 .mode o e s t ∧ CausesKept false s t ∧ SameBut [.xmem, .orders, .port] s t)) ∧
    (s.modc.mode = .engaging ∨ s.modc.mode = .sweeping → s.calmArms →
      ∃ t, exec (.disengage o) s = .next t ∧
        (s.openOn .mode = none → Opened 3 .mode o s t ∧ t.port = s.port.raise .modeChange) ∧
        (∀ e ∈ s.orders.entries, s.ordersInv → e.target = .mode → OpenedOver 3 .mode o e s t ∧ CausesKept true s t) ∧
        WorkEnded 19 s t ∧ SameBut [.xmem, .orders, .port, .modc, .armc, .watc, .tma] s t) ∧
    (s.modc.mode = .engaging ∨ s.modc.mode = .sweeping → s.openOn .mode = none → s.ordersInv →
      ∃ t, exec (.disengage o) s = .next t ∧
        FailedTogether s.failsArm 19 (nextCursor s) [openedEntry 3 .mode o s] s t ∧ CausesKept true s t ∧
        t.owner s.orders.cursor = ownerTaken ∧
        (∀ a, a ≠ slotBase s.orders.cursor → outsideEnded s.failsArm s a → t.xread a = s.xread a) ∧
        WorkEnded 19 s t ∧ SameBut [.xmem, .orders, .port, .modc, .armc, .watc, .tma] s t)

/-- PARK (R15, R16): each failed test refuses it with its detail; accepted, its completion is written, ORDER_DONE raised if notify is 1, the mode is
PARKED and dormant with MODE_CHANGE raised (R2), every output is off, the last status page shows PARKED, the events stop, and the host check is
DISARMED. Each block acts on the notice and keeps the rest of its state: the governor its request (R61, R62), the arms all but an OUT raise that is
running, which ends with its ARM_STUCK or BRUSH_STALL flag (R86, R88), the water controller its override, mask, level and flags (R107, R108), the
load manager nothing but n, droop and L_raw (R116, R117), the fault unit its records, holds, total and exclusions (R125, R131), the kinds
ARM_STUCK, BRUSH_STALL and ENGINE_SPEED_LOST leaving the active set with the flags, and its word following (R83, R116, R121); the enable set, the
pending causes, the trace source, the channels, the inputs and the clock are kept (R142, R163). R136 gives the duties of 0 and the inactive switched
outputs; that the instant at which each PWM period began is 0 too is the model's choice (log entries 8 and 23). -/
def Obligations.ParkSleepsOrIsRefused : Prop :=
  ∀ (o : Order) (s : State), s.takes →
    (∀ (r : Result) (d : Nat),
      (s.modc.mode ≠ .transport ∧ r = .refusedMode ∧ d = 17) ∨
      (s.modc.mode = .transport ∧ s.standstill = false ∧ r = .refusedMode ∧ d = 20) ∨
      (s.modc.mode = .transport ∧ s.standstill = true ∧ s.allStowedOrOut = false ∧ r = .refusedMode ∧ d = 21) ∨
      (s.modc.mode = .transport ∧ s.standstill = true ∧ s.allStowedOrOut = true ∧ s.orders.entries.length ≠ 0 ∧
        r = .refusedBusy ∧ d = s.orders.entries.length) ∨
      (s.modc.mode = .transport ∧ s.standstill = true ∧ s.allStowedOrOut = true ∧ s.orders.entries.length = 0 ∧
        s.cal.op ≠ .idle ∧ r = .refusedBusy ∧ d = 0) →
      ∃ t, exec (.park o) s = .next t ∧ DoneAtOnce o.notify r d s t ∧ SameBut [.xmem, .orders, .port] s t) ∧
    (s.modc.mode = .transport → s.standstill = true → s.allStowedOrOut = true → s.orders.entries = [] → s.cal.op = .idle →
      ∃ t, exec (.park o) s = .next t ∧
        SlotResult s.orders.cursor .ok 0 0 s.tma.clock 0 t ∧
        t.orders = { s.orders with cursor := nextCursor s } ∧
        t.modc = { s.modc with
          mode := .parked, reason := 20, phase := .none, settle := none, budget := 0, commanded := ⟨false, false, false⟩,
          wake := .dormant, restartPending := false } ∧
        t.port = { (if o.notify = 1 then s.port.raise .orderDone else s.port).raise .modeChange with
          check := .disarmed, window := none } ∧
        t.tma = { s.tma with stepsRunning := false, stripRunning := false, outputs := outputsAllOff } ∧
        t.gov = { s.gov with waiting := none } ∧
        (∀ a r, r = { s.arm a with req := .stowed, waiting := none } →
          (r.state = .out ∧ r.stateTimer < 4000 → t.arm a = { r with
            stateTimer := 4000
            causePresent := r.causePresent && decide (r.cause ≠ some .armStuck ∧ r.cause ≠ some .brushStall) }) ∧
          (r.state ≠ .out ∨ 4000 ≤ r.stateTimer → t.arm a = r)) ∧
        t.armc.width = s.armc.width ∧
        t.watc = { s.watc with
          qCmd := 0, openSet := 0, duty := 0, trim := 0, dryRun := none, flowLoss := none, prime := .idle, primeTimer := 0,
          primeHold := none } ∧
        t.loadm = { s.loadm with
          load := 1000, scale := 1000, floor := none, recovery := none, engineLoss := none, engineLossFlag := false } ∧
        t.faults = { s.faults with active := t.faults.active } ∧
        t.isActive .engineSpeedLost = (s.isActive .engineSpeedLost && !s.loadm.engineLossFlag) ∧
        (∀ k, k = .armStuck ∨ k = .brushStall → t.isActive k = (s.isActive k &&
          [Arm.left, .right, .main].any fun a => decide ((t.arm a).cause = some k) && (t.arm a).causePresent)) ∧
        (∀ k, k ≠ .engineSpeedLost → k ≠ .armStuck → k ≠ .brushStall → t.isActive k = s.isActive k) ∧
        ActiveWordFollows s t ∧
        t.publisher = { s.publisher with headCount := s.publisher.headCount + 1 } ∧
        (∀ i, i < 58 → t.xread (statusBase + i) = (statusFields t.publisher.headCount t).getD i 0) ∧
        t.xread (statusBase + 1) = word 6 ∧ t.xread (statusBase + 2) = word 20 ∧
        (∀ i, 58 ≤ i → i < 255 → t.xread (statusBase + i) = 0) ∧
        t.xread statusBase = s.publisher.headCount + 1 ∧ t.xread (statusBase + 255) = t.xread statusBase ∧
        (∀ a, outsideResult s.orders.cursor a → (a < statusBase ∨ statusBase + 256 ≤ a) → a ≠ faultBase + 33 →
          t.xread a = s.xread a) ∧
        SameBut [.xmem, .port, .publisher, .orders, .modc, .gov, .armc, .watc, .loadm, .faults, .tma] s t)

/-- SET_PACE (R47, R46): bad selectors and a reverse in ENGAGING or DISENGAGING are refused; accepted, the clamped request replaces the pace
request, and the order completes at once or, with the wait flag, opens on TRAVEL as the governor's waiting order; an older order open on
TRAVEL ends SUPERSEDED, or as an orphan (R150). -/
def Obligations.SetPaceReplacesTheRequest : Prop :=
  ∀ (o : Order) (s : State), s.takes →
    (∀ (r : Result) (d : Nat),
      (2 < o.par.p1.toNat ∧ r = .refusedRange ∧ d = 1) ∨
      (o.par.p1.toNat ≤ 2 ∧ 1 < o.par.p2.toNat ∧ r = .refusedRange ∧ d = 2) ∨
      (o.par.p1.toNat = 2 ∧ o.par.p2.toNat ≤ 1 ∧ (s.modc.mode = .engaging ∨ s.modc.mode = .disengaging) ∧
        r = .refusedMode ∧ d = 0) →
      ∃ t, exec (.setPace o) s = .next t ∧ DoneAtOnce o.notify r d s t ∧ SameBut [.xmem, .orders, .port] s t) ∧
    (∀ dir, directionOf o.par.p1.toNat = some dir →
      (dir = .reverse → s.modc.mode ≠ .engaging ∧ s.modc.mode ≠ .disengaging) →
      (o.par.p2.toNat = 0 → ∃ t n, exec (.setPace o) s = .next t ∧ n = (if 12000 < o.par.p0.toNat then 1 else 0) ∧
        (s.openOn .travel = none → DoneAtOnce o.notify (if n = 0 then .ok else .clamped) n s t) ∧
        (∀ e ∈ s.orders.entries, s.ordersInv → e.target = .travel →
          DoneOver o.notify (if n = 0 then .ok else .clamped) n e s t ∧ CausesKept false s t) ∧
        t.gov = { s.gov with
          reqSpeed := min 12000 o.par.p0.toNat, reqDir := dir, waiting := none,
          reversePending := s.gov.reversePending && decide (dir = .reverse ∧ 0 < o.par.p0.toNat) } ∧
        SameBut [.xmem, .orders, .port, .gov] s t) ∧
      (o.par.p2.toNat = 1 → ∃ t, exec (.setPace o) s = .next t ∧
        (s.openOn .travel = none → Opened 5 .travel o s t ∧ t.port = s.port) ∧
        (∀ e ∈ s.orders.entries, s.ordersInv → e.target = .travel → OpenedOver 5 .travel o e s t ∧ CausesKept false s t) ∧
        t.gov = { s.gov with
          reqSpeed := min 12000 o.par.p0.toNat, reqDir := dir,
          reversePending := s.gov.reversePending && decide (dir = .reverse ∧ 0 < o.par.p0.toNat),
          waiting := some { kind := .setPace, slot := s.orders.cursor, tag := o.tag, takeTime := s.tma.clock,
                            timeout := max 100 (min 60000 o.par.p3.toNat), arrival := none,
                            clampCount := (if 12000 < o.par.p0.toNat then 1 else 0) +
                              (if o.par.p3.toNat < 100 ∨ 60000 < o.par.p3.toNat then 1 else 0) } } ∧
        SameBut [.xmem, .orders, .port, .gov] s t))

/-- STOP (R49, R150): the request becomes 0 NEUTRAL and the STOP waits; an older open TRAVEL order whose slot is TAKEN ends SUPERSEDED with the
new slot as its detail, and one whose slot the host has written since counts one orphan (R149). -/
def Obligations.StopSupersedesAndWaits : Prop :=
  ∀ (o : Order) (s : State), s.takes → ∃ t, exec (.stop o) s = .next t ∧
    (s.openOn .travel = none → Opened 6 .travel o s t ∧ t.port = s.port) ∧
    (∀ e ∈ s.orders.entries, s.ordersInv → e.target = .travel → OpenedOver 6 .travel o e s t ∧ CausesKept false s t) ∧
    t.gov = { s.gov with
      reqSpeed := 0, reqDir := .neutral, reversePending := false,
      waiting := some { kind := .stop, slot := s.orders.cursor, tag := o.tag, takeTime := s.tma.clock, timeout := 20000,
                        clampCount := 0, arrival := none } } ∧
    SameBut [.xmem, .orders, .port, .gov] s t

/-- SET_ARM (R84): the five refusals in their order, each for every arm it can meet; accepted, the arm's requested state is set and the order
opens on the arm's target as the record's waiting order; an older order open on that target ends SUPERSEDED, or as an orphan (R150). -/
def Obligations.SetArmRequestsAState : Prop :=
  ∀ (o : Order) (s : State), s.takes →
    (∀ (r : Result) (d : Nat),
      (armOf o.par.p0.toNat = none ∧ r = .refusedRange ∧ d = 1) ∨
      ((armOf o.par.p0.toNat).isSome ∧ reqOf o.par.p1.toNat = none ∧ r = .refusedRange ∧ d = 2) ∨
      (o.par.p0.toNat = 2 ∧ o.par.p1.toNat = 5 ∧ r = .refusedRange ∧ d = 3) ∨
      (∃ a req, armOf o.par.p0.toNat = some a ∧ reqOf o.par.p1.toNat = some req ∧ ¬(req = .hover ∧ a = .main) ∧
        ((s.modc.mode ≠ .sweeping ∧ r = .refusedMode ∧ d = 0) ∨
          (s.modc.mode = .sweeping ∧ (s.arm a).state = .out ∧ r = .refusedMode ∧ d = 1))) →
      ∃ t, exec (.setArm o) s = .next t ∧ DoneAtOnce o.notify r d s t ∧ SameBut [.xmem, .orders, .port] s t) ∧
    (∀ a req, armOf o.par.p0.toNat = some a → reqOf o.par.p1.toNat = some req → ¬(req = .hover ∧ a = .main) →
      s.modc.mode = .sweeping → (s.arm a).state ≠ .out →
      ∃ t, exec (.setArm o) s = .next t ∧
        (s.openOn (armTarget a) = none → Opened 7 (armTarget a) o s t ∧ t.port = s.port) ∧
        (∀ e ∈ s.orders.entries, s.ordersInv → e.target = armTarget a →
          OpenedOver 7 (armTarget a) o e s t ∧ CausesKept false s t) ∧
        t.arm a = { s.arm a with
          req := req
          waiting := some { slot := s.orders.cursor, tag := o.tag, takeTime := s.tma.clock, req := req } } ∧
        (∀ b, b ≠ a → t.arm b = s.arm b) ∧ t.armc.width = s.armc.width ∧ SameBut [.xmem, .orders, .port, .armc] s t)

/-- SET_WATER (R106): the three refusals in their order; accepted, the dose override and the enable mask are set as the words say, and D is
published at once. -/
def Obligations.SetWaterSetsDoseAndMask : Prop :=
  ∀ (o : Order) (s : State), s.takes →
    (∀ d : Nat,
      (1 < o.par.p0.toNat ∧ d = 1) ∨ (o.par.p0.toNat ≤ 1 ∧ 1 < o.par.p2.toNat ∧ d = 2) ∨
      (o.par.p0.toNat ≤ 1 ∧ o.par.p2.toNat = 1 ∧ 255 < o.par.p3.toNat ∧ d = 3) →
      ∃ t, exec (.setWater o) s = .next t ∧ DoneAtOnce o.notify .refusedRange d s t ∧ SameBut [.xmem, .orders, .port] s t) ∧
    (o.par.p0.toNat ≤ 1 → o.par.p2.toNat = 0 ∨ (o.par.p2.toNat = 1 ∧ o.par.p3.toNat ≤ 255) →
      ∃ t n, exec (.setWater o) s = .next t ∧
        n = (if o.par.p0.toNat = 1 ∧ 5000 < o.par.p1.toNat then 1 else 0) ∧
        DoneAtOnce o.notify (if n = 0 then .ok else .clamped) n s t ∧
        t.watc = { s.watc with
          override := if o.par.p0.toNat = 1 then some (min 5000 o.par.p1.toNat) else none
          mask := if o.par.p2.toNat = 1 then o.par.p3.setWidth 8 else s.watc.mask } ∧
        t.dose = (if o.par.p0.toNat = 1 then min 5000 o.par.p1.toNat else s.modc.profile.dose) ∧
        SameBut [.xmem, .orders, .port, .watc] s t)

/-- CLEAR_FAULT (R126, R127, R129): its two refusals, and with the exclusions flag 0 each named hold that is set released with its count and
bitmap zeroed and its record kept, a clear one left; the active-condition set, the total and the exclusions stand. In SAFE the attempt to
leave it succeeds when the machine stands, no STOP_WORK or HALT_TRAVEL kind is present and every arm is STOWED or OUT (R5); in any other
mode there is none. The detail reports the attempt, the exclusions left and the holds found, and nothing else changes. -/
def Obligations.ClearFaultReleasesHolds : Prop :=
  ∀ (o : Order) (s : State), s.takes →
    (∀ d : Nat, (2 < o.par.p0.toNat ∧ d = 1) ∨ (o.par.p0.toNat ≤ 2 ∧ 1 < o.par.p1.toNat ∧ d = 2) →
      ∃ t, exec (.clearFault o) s = .next t ∧ DoneAtOnce o.notify .refusedRange d s t ∧ SameBut [.xmem, .orders, .port] s t) ∧
    (∀ (leaves : Bool) (released : Bool → Bool), o.par.p0.toNat ≤ 2 → o.par.p1.toNat = 0 →
      (leaves = true ↔ s.modc.mode = .safe ∧ s.standstill = true ∧ s.stopActive = false ∧
        ∀ a, (s.arm a).state = .stowed ∨ (s.arm a).state = .out) →
      (released = fun severe => (s.faults.served severe).hold && decide (o.par.p0.toNat ≠ if severe then 0 else 1)) →
      (leaves = true → s.calmArms) →
      ∃ t, exec (.clearFault o) s = .next t ∧
        (∀ severe, t.faults.served severe =
          if released severe then { s.faults.served severe with hold := false, count := 0, bitmap := 0 }
          else s.faults.served severe) ∧
        t.faults.active = s.faults.active ∧ t.faults.total = s.faults.total ∧ t.faults.exclusions = s.faults.exclusions ∧
        SlotResult s.orders.cursor .ok
          ((if leaves then 1 else 0) + (if s.faults.exclusions.any then 2 else 0) +
            (if released false || released true then 4 else 0))
          s.orders.entries.length s.tma.clock 0 t ∧
        t.orders = { s.orders with cursor := nextCursor s } ∧
        (∀ p, p = (if leaves then s.port.raise .modeChange else s.port) →
          t.port = if o.notify = 1 then p.raise .orderDone else p) ∧
        (∀ severe i, i < 3 → released severe = true → t.xread (faultBase + holdOffset severe + i) = 0) ∧
        (∀ a, outsideResult s.orders.cursor a →
          (∀ severe i, i < 3 → released severe = true → a ≠ faultBase + holdOffset severe + i) → t.xread a = s.xread a) ∧
        (leaves = false → SameBut [.xmem, .orders, .port, .faults] s t) ∧
        (leaves = true →
          t.modc = { s.modc with
            mode := .transport, reason := 25, phase := .none, settle := none, budget := 0
            commanded := ⟨false, false, false⟩, haltLatch := false, safeStopped := false } ∧
          (∀ a, t.arm a = { s.arm a with req := .stowed }) ∧ t.armc.width = s.armc.width ∧ SprayStopped s t ∧
          OutputsOnly s t ∧ SameBut [.xmem, .orders, .port, .faults, .modc, .armc, .watc, .tma] s t))

/-- The second and third stages of CLEAR_FAULT with the flag 1 (R128, R129, R72, R5): an arm's exclusion is released exactly when its cause-present
flag is clear, the arm then entering STOWED or RAISING by its UP input; the water exclusion when neither of its kinds is present, the water-out
flag then cleared; SAFE is left when the machine stands, no STOP_WORK or HALT_TRAVEL kind is present and every arm is STOWED or OUT; and the
detail reports the attempt, the exclusions left and the holds found. The first stage releases the named holds as with the flag 0, their
words 0 (R127). A waiting SET_ARM stays as it is in every mode; only where SAFE is left is a premise made, that none for WORKING or HOVER
waits, and that it loses no run is OpenOrdersLawKept. -/
def Obligations.ClearFaultReleasesExclusionsAndLeavesSafe : Prop :=
  ∀ (o : Order) (s : State) (leaves : Bool) (released : Bool → Bool), s.takes → o.par.p0.toNat ≤ 2 → o.par.p1.toNat = 1 →
    (leaves = true ↔ s.modc.mode = .safe ∧ s.standstill = true ∧ s.stopActive = false ∧
      ∀ a, if s.faults.exclusions.arm a = true ∧ (s.arm a).causePresent = false then s.input (upInput a) = true
        else (s.arm a).state = .stowed ∨ (s.arm a).state = .out) →
    (leaves = true → s.calmArms) →
    (released = fun severe => (s.faults.served severe).hold && decide (o.par.p0.toNat ≠ if severe then 0 else 1)) →
    ∃ t, exec (.clearFault o) s = .next t ∧
      (∀ severe, t.faults.served severe =
        if released severe then { s.faults.served severe with hold := false, count := 0, bitmap := 0 }
        else s.faults.served severe) ∧
      (∀ severe i, i < 3 → released severe = true → t.xread (faultBase + holdOffset severe + i) = 0) ∧
      (t.faults.exclusions ≠ s.faults.exclusions → t.xread (faultBase + 34) = exclusionWord t.faults.exclusions) ∧
      (∀ a, outsideResult s.orders.cursor a → a ≠ faultBase + 34 →
        (∀ severe i, i < 3 → released severe = true → a ≠ faultBase + holdOffset severe + i) → t.xread a = s.xread a) ∧
      t.watc.waterOut = (s.watc.waterOut && !(s.faults.exclusions.water && !t.faults.exclusions.water)) ∧
      (t.modc.mode = s.modc.mode → t.watc = { s.watc with waterOut := t.watc.waterOut }) ∧
      (t.modc.mode ≠ s.modc.mode → SprayStopped (s.setWatc { s.watc with waterOut := t.watc.waterOut }) t) ∧
      (∀ p, p = (if t.modc.mode = s.modc.mode then s.port else s.port.raise .modeChange) →
        t.port = if o.notify = 1 then p.raise .orderDone else p) ∧
      (∀ a, t.faults.exclusions.arm a = (s.faults.exclusions.arm a && (s.arm a).causePresent)) ∧
      (∀ a, s.faults.exclusions.arm a = true → (s.arm a).causePresent = false →
        t.arm a = { s.arm a with
          state := if s.input (upInput a) then .stowed else .raising, stateTimer := 0, hover := none, ret := none
          deflection := 0, cause := none, causePresent := false, req := .stowed } ∧
        t.tma.outputs.lower a = false ∧ t.tma.outputs.raise a = !s.input (upInput a) ∧
        (t.tma.outputs.get (motorOutput a)).held = 0) ∧
      (∀ a, s.faults.exclusions.arm a = false ∨ (s.arm a).causePresent = true →
        t.arm a = if t.modc.mode = s.modc.mode then s.arm a else { s.arm a with req := .stowed }) ∧
      t.armc.width = s.armc.width ∧ OutputsOnly s t ∧
      t.faults.exclusions.water = (s.faults.exclusions.water && (s.isActive .waterDry || s.isActive .tankSensorLost)) ∧
      (s.modc.mode ≠ .safe → t.modc = s.modc) ∧
      (s.modc.mode = .safe →
        (t.modc.mode = .transport ↔ leaves = true) ∧
        (t.modc.mode = .transport ↔ s.standstill = true ∧ s.stopActive = false ∧
          ∀ a, (t.arm a).state = .stowed ∨ (t.arm a).state = .out) ∧
        (t.modc.mode = .transport → t.modc.reason = 25 ∧ t.modc.haltLatch = false ∧ t.modc.safeStopped = false) ∧
        (t.modc.mode ≠ .transport → t.modc = s.modc)) ∧
      SlotResult s.orders.cursor .ok
        ((if s.modc.mode = .safe ∧ t.modc.mode = .transport then 1 else 0) + (if t.faults.exclusions.any then 2 else 0) +
          (if (o.par.p0.toNat ≠ 1 ∧ s.faults.primary.hold) ∨ (o.par.p0.toNat ≠ 0 ∧ s.faults.severe.hold) then 4 else 0))
        s.orders.entries.length s.tma.clock 0 t ∧
      t.faults.active = s.faults.active ∧ t.faults.total = s.faults.total ∧
      t.gov = s.gov ∧ t.orders = { s.orders with cursor := nextCursor s } ∧
      SameBut [.xmem, .orders, .port, .faults, .armc, .watc, .modc, .tma] s t

/-- CANCEL (R151): every open order with the tag leaves the list, each whose slot is TAKEN written CANCELLED with the CANCEL's slot, ORDER_DONE
raised if its notify was 1, and each other one counted as an orphan (R149); the CANCEL completes OK with their number, or NOT_FOUND. The
owning blocks are not told. -/
def Obligations.CancelEndsEveryOrderWithTheTag : Prop :=
  ∀ (o : Order) (s : State), s.takes → s.ordersInv →
    ∃ t n, exec (.cancel o) s = .next t ∧ n = (s.tagged o.par.p0).length ∧
      SlotResult s.orders.cursor (if n = 0 then .notFound else .ok) n s.orders.entries.length s.tma.clock 0 t ∧
      t.orders.entries = s.orders.entries.filter (fun e => decide (e.tag ≠ o.par.p0)) ∧
      t.orders.cursor = nextCursor s ∧
      t.orders.stall = (s.orders.stall && (s.tagged o.par.p0).all fun e => decide (nextCursor s ≠ e.slot)) ∧
      (∀ lost : Nat, lost = ((s.tagged o.par.p0).filter fun e => decide (s.owner e.slot ≠ ownerTaken)).length →
        t.orders.orphans = if lost = 0 then s.orders.orphans else min 255 (s.orders.orphans + lost)) ∧
      t.port = { s.port with pendingSet := t.port.pendingSet } ∧
      t.port.pendingSet.getLsbD 0 = (s.port.pendingSet.getLsbD 0 || decide (o.notify = 1) ||
        (s.tagged o.par.p0).any fun e => decide (e.notify = 1) && decide (s.owner e.slot = ownerTaken)) ∧
      CausesKept false s t ∧
      (∀ e ∈ s.tagged o.par.p0, s.owner e.slot = ownerTaken →
        SlotResult e.slot .cancelled s.orders.cursor e.depth s.tma.clock (s.since e.takeTime) t) ∧
      (∀ a, outsideResult s.orders.cursor a →
        (∀ e ∈ s.tagged o.par.p0, s.owner e.slot = ownerTaken → outsideResult e.slot a) → t.xread a = s.xread a) ∧
      SameBut [.xmem, .orders, .port] s t

/-- SET_TRACE (R162, R140): the two refusals; a disabling order stops the source; an enabling one starts it, restarts it under another source, or
leaves the new interval pending under the same source, the interval clamped. That a restart under another source drops the interval left
pending under the old one is the model's choice (log entry 38). -/
def Obligations.SetTraceHandsOverSettings : Prop :=
  ∀ (o : Order) (s : State), s.takes →
    (∀ d : Nat, (1 < o.par.p0.toNat ∧ d = 1) ∨ (o.par.p0.toNat = 1 ∧ 1 < o.par.p1.toNat ∧ d = 2) →
      ∃ t, exec (.setTrace o) s = .next t ∧ DoneAtOnce o.notify .refusedRange d s t ∧ SameBut [.xmem, .orders, .port] s t) ∧
    (o.par.p0.toNat = 0 → ∃ t, exec (.setTrace o) s = .next t ∧ DoneAtOnce o.notify .ok 0 s t ∧
      t.tma.trace.enabled = false ∧
      (s.tma.trace.enabled = true →
        t.tma.trace.periodTimer = 0 ∧ t.tma.trace.accumulator = 0 ∧ t.tma.trace.pendingInterval = none) ∧
      t.tma = { s.tma with trace := t.tma.trace } ∧ SameBut [.xmem, .orders, .port, .tma] s t) ∧
    (∀ source, o.par.p0.toNat = 1 → (o.par.p1.toNat = 0 ∧ source = TraceSource.period) ∨ (o.par.p1.toNat = 1 ∧ source = .distance) →
      ∃ t v, exec (.setTrace o) s = .next t ∧
        v = (match source with
          | .period => max 10 (min 1000 o.par.p2.toNat)
          | .distance => max 50 (min 5000 o.par.p2.toNat)) ∧
        DoneAtOnce o.notify (if v = o.par.p2.toNat then .ok else .clamped) (if v = o.par.p2.toNat then 0 else 1) s t ∧
        t.tma = { s.tma with trace :=
          if s.tma.trace.enabled = true ∧ s.tma.trace.source = source then { s.tma.trace with pendingInterval := some v }
          else { enabled := true, source := source, interval := v, periodTimer := 0, accumulator := 0,
                 pendingInterval := none } } ∧
        SameBut [.xmem, .orders, .port, .tma] s t)

/-! ### The calibration loader -/

/-- LOAD_CALIBRATION (R168): the three refusals in their order; otherwise the area becomes the working calibration, FROM_HOST, and the five trims
are 0; CALIBRATION_DEFAULTED ends if the status was DEFAULTS. The new wheel_timeout applies at once (R134): a wheel channel whose last
rising edge is already as old goes to NO_SIGNAL, and every other channel stands. -/
def Obligations.LoadCalibrationInstallsTheArea : Prop :=
  ∀ (o : Order) (s : State), s.takes →
    (∀ (r : Result) (d : Nat),
      ((s.modc.mode ≠ .transport ∧ s.modc.mode ≠ .safe ∨ s.standstill = false) ∧ r = .refusedMode ∧ d = 0) ∨
      ((s.modc.mode = .transport ∨ s.modc.mode = .safe) ∧ s.standstill = true ∧ s.cal.op = .fetching ∧ r = .refusedBusy ∧ d = 33) ∨
      ((s.modc.mode = .transport ∨ s.modc.mode = .safe) ∧ s.standstill = true ∧ s.cal.op ≠ .fetching ∧
        firstBadWord s.areaWords = some d ∧ r = .refusedRange) →
      ∃ t, exec (.loadCalibration o) s = .next t ∧ DoneAtOnce o.notify r d s t ∧ SameBut [.xmem, .orders, .port] s t) ∧
    ((s.modc.mode = .transport ∨ s.modc.mode = .safe) → s.standstill = true → s.cal.op ≠ .fetching →
      firstBadWord s.areaWords = none →
      ∃ t, exec (.loadCalibration o) s = .next t ∧
        SlotResult s.orders.cursor .ok 0 s.orders.entries.length s.tma.clock 0 t ∧
        (∀ i, i < 512 → t.calWord i = (s.xread (1024 + i)).toNat) ∧
        t.cal = { s.cal with working := t.cal.working, status := .fromHost } ∧
        t.gov = { s.gov with trim := 0 } ∧ t.watc = { s.watc with trim := 0 } ∧
        (∀ a, t.arm a = { s.arm a with trim := 0 }) ∧
        t.faults.active = (if s.cal.status = .defaults then s.faults.active &&& ~~~(kindBit .calibrationDefaulted)
          else s.faults.active) ∧
        (∀ a, outsideResult s.orders.cursor a → a ≠ 1825 → t.xread a = s.xread a) ∧
        t.tma = { s.tma with captures := t.tma.captures } ∧
        (∀ ch k, k = s.tma.captures.get ch → t.tma.captures.get ch =
          if (ch = .wheelA ∨ ch = .wheelB) ∧ k.state ≠ .noSignal ∧ (s.xread 1026).toNat * 1000 ≤ s.tma.micros - k.rise then
            { k with state := .noSignal, value := 0, count := 0 }
          else k) ∧
        t.port = (if o.notify = 1 then s.port.raise .orderDone else s.port) ∧ t.orders = { s.orders with cursor := nextCursor s } ∧
        SameBut [.xmem, .orders, .port, .cal, .gov, .watc, .armc, .faults, .tma] s t)

/-- STORE_CALIBRATION and FETCH_CALIBRATION (R146, R169, R170): refused while an order on STORE is open, on a write-protected EEPROM (a store alone),
while the loader works, and while the EEPROM is busy; otherwise the order opens on STORE and its transfer begins, a store with the image of
the working calibration in the buffer. That nothing of the calibration area is read then, which the table of R155 names, is the model's choice
(log entry 49). -/
def Obligations.StoreAndFetchOpenOnTheStore : Prop :=
  ∀ (o : Order) (s : State), s.takes →
    (∀ e, s.openOn .store = some e →
      (∃ t, exec (.storeCalibration o) s = .next t ∧ DoneAtOnce o.notify .refusedBusy e.slot s t ∧ SameBut [.xmem, .orders, .port] s t) ∧
      (∃ t, exec (.fetchCalibration o) s = .next t ∧ DoneAtOnce o.notify .refusedBusy e.slot s t ∧ SameBut [.xmem, .orders, .port] s t)) ∧
    (s.openOn .store = none →
      (s.input .wp = true → ∃ t, exec (.storeCalibration o) s = .next t ∧ DoneAtOnce o.notify .refusedProtected 0 s t ∧
        SameBut [.xmem, .orders, .port] s t) ∧
      (∀ d : Nat, (s.cal.op ≠ .idle ∧ d = 33) ∨ (s.cal.op = .idle ∧ s.eeprom.busy = true ∧ d = 32) →
        (∃ t, exec (.fetchCalibration o) s = .next t ∧ DoneAtOnce o.notify .refusedBusy d s t ∧ SameBut [.xmem, .orders, .port] s t) ∧
        (s.input .wp = false →
          ∃ t, exec (.storeCalibration o) s = .next t ∧ DoneAtOnce o.notify .refusedBusy d s t ∧ SameBut [.xmem, .orders, .port] s t)) ∧
      (s.cal.op = .idle → s.eeprom.busy = false →
        (∃ t, exec (.fetchCalibration o) s = .next t ∧ Opened 14 .store o s t ∧
          t.cal = { s.cal with op := .fetching, link := some 0, order := some (s.orders.cursor, s.tma.clock) } ∧
          SameBut [.xmem, .orders, .cal] s t) ∧
        (s.input .wp = false → s.cal.working.length = 512 →
          ∃ t, exec (.storeCalibration o) s = .next t ∧ Opened 13 .store o s t ∧
            t.cal = { s.cal with
              op := .storing, page := 0, pageTimer := none, link := some 0, buffer := t.cal.buffer
              order := some (s.orders.cursor, s.tma.clock) } ∧
            t.cal.buffer.length = 515 ∧ t.cal.buffer.getD 0 0 = 0x0A51 ∧ t.cal.buffer.getD 1 0 = 512 ∧
            (t.cal.buffer.drop 2).take 512 = s.cal.working ∧ sum16 t.cal.buffer = 0 ∧
            SameBut [.xmem, .orders, .cal] s t)))

/-- STARTUP_LOAD_DONE (R167, R165): a VALID image becomes the working calibration and the calibration area, FROM_STORE; any other outcome leaves the
defaults in both, DEFAULTS, with CALIBRATION_DEFAULTED reported; the load-done flag is set and the loader is IDLE. With no start-up load running it
changes nothing. The new wheel_timeout of a VALID image applies at once (R134). That a page still being written reads as free values (log
entry 10), and that FAULT_REC is raised at this report and not with STARTED (log entry 48), are the model's choices. -/
def Obligations.StartupLoadEndsInAWorkingCalibration : Prop :=
  ∀ s : State, s.resetHeld = false →
    (s.cal.op ≠ .loading → exec .startupLoadDone s = .next s) ∧
    (s.cal.op = .loading → s.xmemWf → ∃ t w, exec .startupLoadDone s = .next t ∧
      w = (if classifyImage (s.eeprom.image s.freeReads) = .valid then imageCalibration (s.eeprom.image s.freeReads)
        else defaultCalibration) ∧
      t.cal.working = w ∧ t.cal.loadDone = true ∧ t.cal.op = .idle ∧
      (∀ i, i < 512 → t.xread (1024 + i) = w.getD i 0) ∧
      (classifyImage (s.eeprom.image s.freeReads) = .valid → t.cal.status = .fromStore ∧ t.faults = s.faults ∧ t.port = s.port ∧
        t.tma = { s.tma with captures := t.tma.captures } ∧
        ∀ ch k, k = s.tma.captures.get ch → t.tma.captures.get ch =
          if (ch = .wheelA ∨ ch = .wheelB) ∧ k.state ≠ .noSignal ∧ (w.getD 2 0).toNat * 1000 ≤ s.tma.micros - k.rise then
            { k with state := .noSignal, value := 0, count := 0 }
          else k) ∧
      (classifyImage (s.eeprom.image s.freeReads) ≠ .valid → t.cal.status = .defaults ∧ t.tma = s.tma ∧
        t.port = (if s.faults.primary.hold then s.port else s.port.raise .faultRec) ∧
        TookReport { kind := .calibrationDefaulted, source := .call,
                     detail := (classifyImage (s.eeprom.image s.freeReads)).code } s t) ∧
      (∀ a, a < 1024 ∨ 1536 ≤ a → a < 1792 ∨ 1827 ≤ a → t.xread a = s.xread a) ∧
      SameBut [.xmem, .cal, .faults, .port, .tma, .freeReads] s t)

/-- The page writes of a store (R169): the end of a page transfer starts the page timer and the device's internal write of the page's words, the
length word 0 in the first write of page 0; at its end the EEPROM holds those words and every other word as before, also when no store polls
(R171; log entry 34); a ready page goes on to the next page, and the last one completes the order OK; a page that is not ready at 10 ms
completes it FAILED with the page index. A page write is of 16 words; that page 32 is written as the image's last three words alone is
the model's reading (log entry 11), and that the 10 ms are whole clock ticks after the transfer's command its choice (log entry 50). -/
def Obligations.StorePagesCompleteTheOrder : Prop :=
  ∀ s : State, s.resetHeld = false →
    (s.cal.op = .storing → s.cal.pageTimer = none →
      ∃ t base words, exec .storePageTransferDone s = .next t ∧ t.cal = { s.cal with pageTimer := some 0, link := none } ∧
        base = (if s.cal.page = 33 then 0 else 16 * s.cal.page) ∧
        words = (if s.cal.page = 0 then (s.cal.buffer.take 16).set 1 0 else (s.cal.buffer.drop base).take 16) ∧
        t.eeprom = { s.eeprom with inFlight := some (base, words), writeTime := some 0 } ∧ SameBut [.cal, .eeprom] s t) ∧
    (∀ base words, s.eeprom.inFlight = some (base, words) → s.eeprom.fitted = true → s.memoryInv →
      ∃ t, exec .storePageReady s = .next t ∧
        (∀ a, a < 4096 → t.eeprom.word t.freeReads a =
          if base ≤ a ∧ a < base + words.length then words.getD (a - base) 0 else s.eeprom.word s.freeReads a) ∧
        t.eeprom = { s.eeprom with cells := t.eeprom.cells, inFlight := none, writeTime := none } ∧
        (s.cal.op ≠ .storing ∨ s.cal.pageTimer = none → SameBut [.eeprom] s t)) ∧
    (s.cal.op = .storing → s.cal.pageTimer ≠ none → s.cal.page < 33 → ∃ t, exec .storePageReady s = .next t ∧
      t.cal = { s.cal with page := s.cal.page + 1, pageTimer := none, link := some 0 } ∧ t.eeprom.inFlight = none ∧
      SameBut [.cal, .eeprom] s t) ∧
    (∀ slot time, s.cal.op = .storing → s.cal.order = some (slot, time) →
      (s.cal.pageTimer ≠ none → s.cal.page = 33 → ∃ t, exec .storePageReady s = .next t ∧ NoticeTaken .store slot time .ok 0 s t ∧
        t.cal = { s.cal with op := .idle, pageTimer := none, link := none, order := none } ∧ t.eeprom.inFlight = none ∧
        SameBut [.cal, .eeprom, .xmem, .orders, .port] s t) ∧
      (timerAt 10 s.cal.pageTimer = true → ∃ t, exec .storePageTimeout s = .next t ∧
        NoticeTaken .store slot time .failed s.cal.page s t ∧
        t.cal = { s.cal with op := .idle, pageTimer := none, link := none, order := none } ∧
        SameBut [.cal, .xmem, .orders, .port] s t))

/-- FETCH_READ_DONE (R170): a VALID image goes into the calibration area and the order completes OK; any other outcome leaves the area and completes it
FAILED with the outcome code; the working calibration and the status stand. An order whose slot the host has written ends as an orphan, and
the notice of one that has left the list is discarded, the area filled all the same (R149, R151). -/
def Obligations.FetchFillsTheAreaOrFails : Prop :=
  ∀ (s : State) (slot : Nat) (time : BitVec 32), s.resetHeld = false → s.cal.op = .fetching → s.cal.order = some (slot, time) →
    (classifyImage (s.eeprom.image s.freeReads) = .valid → s.xmemWf → ∃ t, exec .fetchReadDone s = .next t ∧
      (∀ i, i < 512 → t.xread (1024 + i) = (s.eeprom.image s.freeReads).getD (i + 2) 0) ∧
      (∀ e, s.openTaken e .store slot time →
        SlotResult e.slot .ok 0 e.depth s.tma.clock (s.since e.takeTime) t ∧ EntryLeaves e s t ∧ DoneNotified e s t ∧
          t.orders.orphans = s.orders.orphans ∧
          ∀ a, outsideResult e.slot a → a < 1024 ∨ 1536 ≤ a → t.xread a = s.xread a) ∧
      (∀ e, s.openLost e .store slot time → e.slot < 32 →
        t.port = s.port ∧ EntryLeaves e s t ∧ t.orders.orphans = min 255 (s.orders.orphans + 1) ∧
          WordsKept 1024 512 s t) ∧
      ((∀ e ∈ s.orders.entries, ¬(e.target = .store ∧ e.slot = slot ∧ e.takeTime = time)) →
        t.orders = s.orders ∧ t.port = s.port ∧ WordsKept 1024 512 s t) ∧
      t.cal = { s.cal with op := .idle, pageTimer := none, link := none, order := none, buffer := s.eeprom.image s.freeReads } ∧
      SameBut [.cal, .xmem, .orders, .port, .freeReads] s t) ∧
    (classifyImage (s.eeprom.image s.freeReads) ≠ .valid → ∃ t, exec .fetchReadDone s = .next t ∧
      NoticeTaken .store slot time .failed (classifyImage (s.eeprom.image s.freeReads)).code s t ∧
      t.cal = { s.cal with op := .idle, pageTimer := none, link := none, order := none, buffer := t.cal.buffer } ∧
      SameBut [.cal, .xmem, .orders, .port, .freeReads] s t)

/-! ### The mode controller -/

/-- MODE_CHECK in each mode (R1, R7 to R12, R14, R17, R21): no test in TRANSPORT; standstill sets the safe-stopped flag in SAFE; STARTING ends by the
UP inputs once the load is done and 50 ms have passed; DISENGAGING ends once every arm is STOWED or OUT; ENGAGING and SWEEPING end when the
main broom is out or the water is gone, an open ENGAGE then FAILED; SLOWING ends at engage_limit, PRIMING with the priming or the water,
LOWERING when every commanded arm works, SETTLING after 300 ms of settled arms in SWEEPING; the engage budget advances past SLOWING and
ends the engage TIMED_OUT at 12 s; and a wake ends 20 ms after the wake time. The end of STARTING raises STARTED (R21); that it adds no FAULT_REC, which
the last paragraph of R157 can be read to put there, is the model's choice (log entry 48). A wake with no restart pending ends by the UP inputs with
reason WAKE: MODE_CHANGE is raised, the strip scan and the publication resume, the host check is DISARMED, the arms derive their states (R87), the
spray is confirmed off (R107), and all else is kept, the governor, the load manager, the fault unit, exchange memory, the channels and the
trace source among it (R62, R117, R131, R142, R163). With a restart pending the whole restart of R22 is carried out at that check, as RestartEffect
states it, its choices included (log entries 8 and 24). An end of work with a waiting SET_ARM for WORKING or HOVER ends
that order FAILED with the mode reason (R86). A check that leaves the mode as it is is stated with any order waiting at an arm; where it
changes the mode the premise calmArms stands, which outside SWEEPING loses no run by OpenOrdersLawKept, and the ends of work are stated
without it. -/
def Obligations.ModeCheckMovesTheMode : Prop :=
  (∀ (s : State) (reason : Nat), s.running → s.ordersInv → s.xmemWf → s.openOn .mode = none →
    s.modc.mode = .engaging ∨ s.modc.mode = .sweeping →
    (s.armc.main.state = .out ∧ reason = 23) ∨ (s.armc.main.state ≠ .out ∧ s.waterGone = true ∧ reason = 24) →
    ∃ t, exec .modeCheck s = .next t ∧ WorkEnded reason s t ∧ FailedTogether s.failsArm reason s.orders.cursor [] s t ∧
      CausesKept true s t ∧ (∀ a, outsideEnded s.failsArm s a → t.xread a = s.xread a) ∧
      SameBut [.xmem, .orders, .port, .modc, .armc, .watc, .tma] s t) ∧
  ∀ s : State, s.running →
    (s.modc.mode = .transport → exec .modeCheck s = .next s) ∧
    (s.modc.mode = .safe →
      exec .modeCheck s = .next (s.setModc { s.modc with safeStopped := s.modc.safeStopped || s.standstill })) ∧
    (s.modc.mode = .starting → s.cal.loadDone = false ∨ s.tma.clock.toNat < 50 → exec .modeCheck s = .next s) ∧
    (s.modc.mode = .starting → s.cal.loadDone = true → 50 ≤ s.tma.clock.toNat → s.calmArms →
      ∃ t, exec .modeCheck s = .next t ∧
        t.modc = { s.modc with
          mode := if s.allUp then .transport else .disengaging
          reason := 17, phase := .none, settle := none, budget := 0, commanded := ⟨false, false, false⟩, startupComplete := true } ∧
        t.port = s.port.raise .started ∧
        SwitchesDerived s t ∧ OutputsOnly s t ∧ SameBut [.port, .modc, .armc, .watc, .tma] s t) ∧
    (s.modc.mode = .disengaging → s.allStowedOrOut = false → exec .modeCheck s = .next s) ∧
    (s.modc.mode = .disengaging → s.allStowedOrOut = true → s.calmArms → ∃ t, exec .modeCheck s = .next t ∧
      t.modc = { s.modc with
        mode := .transport, reason := 28, phase := .none, settle := none, budget := 0, commanded := ⟨false, false, false⟩ } ∧
      t.armc.width = s.armc.width ∧ (∀ a, t.arm a = { s.arm a with req := .stowed }) ∧ SprayStopped s t ∧ OutputsOnly s t ∧
      (s.openOn .mode = none → t.port = s.port.raise .modeChange ∧ SameBut [.port, .modc, .armc, .watc, .tma] s t) ∧
      (∀ e, s.openTaken e .mode e.slot e.takeTime → e.kind = 3 → OrderEnds e .ok 0 s t ∧
        SameBut [.xmem, .orders, .port, .modc, .armc, .watc, .tma] s t)) ∧
    (s.modc.mode = .sweeping → s.mainOut = false → s.waterGone = false → exec .modeCheck s = .next s) ∧
    (∀ reason detail : Nat, s.calmArms → s.modc.mode = .engaging ∨ s.modc.mode = .sweeping →
      (s.armc.main.state = .out ∧ reason = 23 ∧ detail = 18) ∨
        (s.armc.main.state ≠ .out ∧ s.waterGone = true ∧ reason = 24 ∧ detail = 19) →
      ∃ t, exec .modeCheck s = .next t ∧ WorkEnded reason s t ∧
        (s.openOn .mode = none → t.port = s.port.raise .modeChange ∧ SameBut [.port, .modc, .armc, .watc, .tma] s t) ∧
        (∀ e, s.openTaken e .mode e.slot e.takeTime → e.kind = 2 → OrderEnds e .failed detail s t ∧
          SameBut [.xmem, .orders, .port, .modc, .armc, .watc, .tma] s t)) ∧
    (s.engagesOn = true → s.modc.phase = .slowing →
      (s.modc.profile.engageLimit < s.gov.vAct → exec .modeCheck s = .next s) ∧
      (s.gov.vAct ≤ s.modc.profile.engageLimit → ∃ t, exec .modeCheck s = .next t ∧ t.modc.mode = .engaging ∧
        t.modc.budget = 0 ∧
        t.modc.phase = (if 0 < s.dose ∧ 0 < s.watc.qAvail then .priming else .lowering) ∧
        (t.modc.phase = .priming → t.armc = s.armc) ∧
        (t.modc.phase = .lowering → (∀ a, t.arm a = if t.modc.commanded.has a then { s.arm a with req := .working } else s.arm a) ∧
          t.modc.commanded.main = true ∧
          t.modc.commanded.left = (s.modc.profile.selectLeft && decide (s.armc.left.state ≠ .out)) ∧
          t.modc.commanded.right = (s.modc.profile.selectRight && decide (s.armc.right.state ≠ .out))) ∧
        SameBut [.modc, .armc] s t)) ∧
    (s.engagesOn = true → s.modc.phase = .priming → s.modc.budget + 10 < 12000 →
      (0 < s.watc.qAvail → s.watc.prime ≠ .primed → s.dose ≠ 0 →
        exec .modeCheck s = .next (s.setModc { s.modc with budget := s.modc.budget + 10 })) ∧
      (s.watc.qAvail = 0 ∨ s.watc.prime = .primed ∨ s.dose = 0 → ∃ t, exec .modeCheck s = .next t ∧
        t.modc = { s.modc with
          phase := .lowering, budget := s.modc.budget + 10
          commanded :=
            ⟨s.modc.profile.selectLeft && decide (s.armc.left.state ≠ .out),
              s.modc.profile.selectRight && decide (s.armc.right.state ≠ .out), true⟩ } ∧
        (∀ a, t.arm a = if t.modc.commanded.has a then { s.arm a with req := .working } else s.arm a) ∧
        t.armc.width = s.armc.width ∧ SameBut [.modc, .armc] s t)) ∧
    (∀ k : ArmSet, s.engagesOn = true →
      k = ⟨s.modc.commanded.left && decide (s.armc.left.state ≠ .out),
        s.modc.commanded.right && decide (s.armc.right.state ≠ .out), s.modc.commanded.main⟩ →
      (s.modc.phase = .lowering → s.modc.budget + 10 < 12000 →
        (∀ settle, (∀ a, k.has a = true → (s.arm a).state = .working) →
          ((∀ a, k.has a = true → 8 * (s.arm a).target ≤ (s.arm a).measured * 10) ∧ settle = some 0) ∨
            (settle = none ∧ ∃ a, k.has a = true ∧ (s.arm a).measured * 10 < 8 * (s.arm a).target) →
          exec .modeCheck s = .next (s.setModc { s.modc with
            phase := .settling, commanded := k, budget := s.modc.budget + 10, settle := settle })) ∧
        (∀ a, k.has a = true → (s.arm a).state ≠ .working →
          exec .modeCheck s = .next (s.setModc { s.modc with commanded := k, budget := s.modc.budget + 10 }))) ∧
      (s.modc.phase = .settling →
        (∀ a, k.has a = true → (s.arm a).state ≠ .working ∨ (s.arm a).measured * 10 < 8 * (s.arm a).target →
          s.modc.budget + 10 < 12000 → exec .modeCheck s =
            .next (s.setModc { s.modc with commanded := k, settle := none, budget := s.modc.budget + 10 })) ∧
        ((∀ a, k.has a = true → (s.arm a).state = .working ∧ 8 * (s.arm a).target ≤ (s.arm a).measured * 10) →
          (s.modc.settle = none → s.modc.budget + 10 < 12000 → exec .modeCheck s =
            .next (s.setModc { s.modc with commanded := k, settle := some 0, budget := s.modc.budget + 10 })) ∧
          (∀ v, s.modc.settle = some v → v + 10 < 300 → s.modc.budget + 10 < 12000 → exec .modeCheck s =
            .next (s.setModc { s.modc with commanded := k, settle := some (v + 10), budget := s.modc.budget + 10 })) ∧
          (∀ v, s.modc.settle = some v → 300 ≤ v + 10 → s.calmArms → ∃ t, exec .modeCheck s = .next t ∧
            t.modc = { s.modc with
              mode := .sweeping, reason := 21, phase := .none, settle := none, budget := 0, commanded := k } ∧
            (s.openOn .mode = none → t.port = s.port.raise .modeChange ∧ SameBut [.port, .modc] s t) ∧
            (∀ e, s.openTaken e .mode e.slot e.takeTime → e.kind = 2 →
              OrderEnds e .ok 0 s t ∧ SameBut [.xmem, .orders, .port, .modc] s t)))) ∧
      (∀ p : Phase, 12000 ≤ s.modc.budget + 10 → s.calmArms →
        (s.modc.phase = .priming ∧
          p = (if s.watc.qAvail = 0 ∨ s.watc.prime = .primed ∨ s.dose = 0 then .lowering else .priming)) ∨
          (s.modc.phase = .lowering ∧ p = if s.everyArm k isWorking then .settling else .lowering) ∨
          (s.modc.phase = .settling ∧ p = .settling ∧
            ((∃ a, k.has a = true ∧ ((s.arm a).state ≠ .working ∨ (s.arm a).measured * 10 < 8 * (s.arm a).target)) ∨
              s.modc.settle = none ∨ ∃ v, s.modc.settle = some v ∧ v + 10 < 300)) →
        ∃ t, exec .modeCheck s = .next t ∧ WorkEnded 22 s t ∧
          (s.openOn .mode = none → t.port = s.port.raise .modeChange ∧ SameBut [.port, .modc, .armc, .watc, .tma] s t) ∧
          (∀ e, s.openTaken e .mode e.slot e.takeTime → e.kind = 2 → OrderEnds e .timedOut (32 + p.code) s t ∧
            SameBut [.xmem, .orders, .port, .modc, .armc, .watc, .tma] s t))) ∧
    (s.modc.mode = .parked → s.modc.wake = .waking →
      (s.since s.modc.wakeTime < 20 → exec .modeCheck s = .next s) ∧
      (20 ≤ s.since s.modc.wakeTime → s.modc.restartPending = false → s.calmArms → ∃ t, exec .modeCheck s = .next t ∧
        t.modc = { s.modc with
          mode := if s.allUp then .transport else .disengaging
          reason := 26, phase := .none, settle := none, budget := 0, commanded := ⟨false, false, false⟩, wake := .none } ∧
        t.port = { s.port.raise .modeChange with check := .disarmed, window := none } ∧
        t.tma = { s.tma with stripRunning := true, outputs := t.tma.outputs } ∧
        SwitchesDerived s t ∧ SameBut [.port, .modc, .armc, .watc, .tma] s t) ∧
      (20 ≤ s.since s.modc.wakeTime → s.modc.restartPending = true → ∃ t, exec .modeCheck s = .next t ∧
        Restarted s t ∧ (s.ordersInv → s.xmemWf → OrdersRestarted s t)))

/-- The settle timer's expiry makes the mode SWEEPING and completes an open ENGAGE OK (R10). The engage budget's expiry makes the phase's own
progress first, so a settle timer that is due at the same check makes the mode SWEEPING; else it completes the ENGAGE TIMED_OUT with 32
plus the phase code and makes the mode DISENGAGING (R11). That each expiry acts one step short of its limit is log entry 4. -/
def Obligations.EngageTimersEndTheEngage : Prop :=
  ∀ s : State, s.running → s.calmArms → s.engagesOn = true →
    (∀ c, (c = .settleTimerExpiry ∨
        (c = .engageBudgetExpiry ∧ s.modc.budget < 12000 ∧ 12000 ≤ s.modc.budget + 10)) →
      s.modc.phase = .settling → s.settled = true → timerDue 300 10 s.modc.settle = true → ∃ t, exec c s = .next t ∧
      t.modc = { s.modc with
        mode := .sweeping, reason := 21, phase := .none, settle := none, budget := 0, commanded := s.remainingArms } ∧
      (s.openOn .mode = none → t.port = s.port.raise .modeChange ∧ SameBut [.port, .modc] s t) ∧
      (∀ e, s.openTaken e .mode e.slot e.takeTime → e.kind = 2 →
        OrderEnds e .ok 0 s t ∧ SameBut [.xmem, .orders, .port, .modc] s t)) ∧
    (∀ p : Phase, s.modc.budget < 12000 → 12000 ≤ s.modc.budget + 10 →
      (s.modc.phase = .priming ∧
        p = (if s.watc.qAvail = 0 ∨ s.watc.prime = .primed ∨ s.dose = 0 then .lowering else .priming)) ∨
        (s.modc.phase = .lowering ∧ p = if s.everyArm s.remainingArms isWorking then .settling else .lowering) ∨
        (s.modc.phase = .settling ∧ p = .settling ∧
          (s.settled = false ∨ s.modc.settle = none ∨ ∃ v, s.modc.settle = some v ∧ v + 10 < 300)) →
      ∃ t, exec .engageBudgetExpiry s = .next t ∧ WorkEnded 22 s t ∧
      (s.openOn .mode = none → t.port = s.port.raise .modeChange ∧ SameBut [.port, .modc, .armc, .watc, .tma] s t) ∧
      (∀ e, s.openTaken e .mode e.slot e.takeTime → e.kind = 2 → OrderEnds e .timedOut (32 + p.code) s t ∧
        SameBut [.xmem, .orders, .port, .modc, .armc, .watc, .tma] s t))

/-! ### The travel governor -/

/-- Every travel step forms v_w, v_L, the target speed and its limiter from the values that stand when it begins: the mode ceiling by the table of R3,
the water limit of R32 by its four cases, the mode ceiling × L / 1000 floored (R33), the smallest of the request, the ceiling, v_w and v_L, and
the first of REQUEST, MODE, WATER and LOAD that equals it (R34). -/
def Obligations.TravelStepFormsTheTarget : Prop :=
  ∀ (s : State) (ceiling : Nat), s.running →
    ceiling = (match s.modc.mode with
      | .transport => s.modc.profile.transportMax
      | .engaging => s.modc.profile.engageLimit
      | .sweeping => s.modc.profile.sweepMax
      | .disengaging => s.modc.profile.engageLimit
      | .safe =>
        if s.modc.safeStopped = true ∧ s.modc.haltLatch = false ∧ s.isActive .wheelSensorsLost = false ∧
            s.isActive .operatorAbsent = false then
          s.modc.profile.limpSpeed
        else 0
      | .starting => 0
      | .parked => 0) →
    ∃ t request, exec .travelStep s = .next t ∧
    request = (if s.gov.reqDir = .neutral then 0 else s.gov.reqSpeed) ∧
    (s.modc.mode ≠ .engaging → s.modc.mode ≠ .sweeping → t.gov.vW = 15000) ∧
    (s.modc.mode = .engaging ∨ s.modc.mode = .sweeping →
      (s.dose = 0 ∨ s.armc.width = 0 → t.gov.vW = 15000) ∧
      (s.dose ≠ 0 → s.armc.width ≠ 0 →
        (0 < s.watc.qAvail → t.gov.vW = min 15000 (s.watc.qAvail * 5000000 / (3 * s.dose * s.armc.width))) ∧
        (s.watc.qAvail = 0 → t.gov.vW = s.modc.profile.dryCrawl))) ∧
    t.gov.vL = ceiling * s.loadm.load / 1000 ∧
    (300 ≤ s.loadm.load → s.loadm.load ≤ 1000 → ceiling * 300 / 1000 ≤ t.gov.vL ∧ t.gov.vL ≤ ceiling) ∧
    (s.loadm.load = 1000 → t.gov.vL = ceiling) ∧
    t.gov.vT = min (min request ceiling) (min t.gov.vW t.gov.vL) ∧
    (t.gov.limiter = .request ↔ t.gov.vT = request) ∧
    (t.gov.limiter = .mode ↔ t.gov.vT ≠ request ∧ t.gov.vT = ceiling) ∧
    (t.gov.limiter = .water ↔ t.gov.vT ≠ request ∧ t.gov.vT ≠ ceiling ∧ t.gov.vT = t.gov.vW) ∧
    (t.gov.limiter = .load ↔ t.gov.vT ≠ request ∧ t.gov.vT ≠ ceiling ∧ t.gov.vT ≠ t.gov.vW ∧ t.gov.vT = t.gov.vL)

/-- Every travel step moves c toward the signed target by at most one step (R55): up by accel / 100, down by decel / 100, each at least 1, and down by
emergency_decel / 100 under the halt latch; the signed target is v_t under the request's sign, 0 while braking to neutral, and 0 while the gate of R52 and
R53 is closed (R51). When c has just become 0 the dwell starts and the last sign is noted (R52), and the reverse-pending flag follows R54 unless SAFE is
entered. At stage 8 a waiting SET_PACE has its arrival timer moved toward the condition of R48 and ends at 500 ms, or at its timeout, and a waiting STOP
ends at standstill, or at 20 s (R49); each ended order leaves the list with its result (R149), and the others stand, but for those that an
entry to SAFE at the step's own reports fails (R4, R61, R86), after stage 8 by the model's reading (log entry 16). With no order waiting and
the mode as it was, the orders stand. -/
def Obligations.TravelStepRampsTowardTheTarget : Prop :=
  ∀ s : State, s.running → ∃ (t : State) (target : Int) (step : Nat), exec .travelStep s = .next t ∧
    target =
      (if s.gov.c ≠ 0 then (if s.sign = signOf s.gov.c then withSign t.gov.vT s.sign else 0)
       else if s.sign = .none then 0
       else if (s.sign = s.gov.lastSign ∨ 290 ≤ s.gov.dwell) ∧
          (s.sign = .negative → forbidsReverse s.armc.left = false ∧ forbidsReverse s.armc.right = false) then
        withSign t.gov.vT s.sign
       else 0) ∧
    step =
      (if s.gov.c.natAbs < target.natAbs then max 1 (s.modc.profile.accel / 100)
       else if s.modc.haltLatch then s.modc.profile.emergencyDecel / 100
       else max 1 (s.modc.profile.decel / 100)) ∧
    ((target - s.gov.c).natAbs ≤ step → t.gov.c = target) ∧
    (step < (target - s.gov.c).natAbs → t.gov.c = if s.gov.c < target then s.gov.c + step else s.gov.c - step) ∧
    (s.gov.c ≠ 0 → t.gov.c = 0 → t.gov.dwell = 0 ∧ t.gov.lastSign = signOf s.gov.c) ∧
    (s.gov.c ≠ 0 → t.gov.c ≠ 0 → t.gov.dwell = s.gov.dwell ∧ t.gov.lastSign = s.gov.lastSign) ∧
    (s.gov.c = 0 → t.gov.dwell = min 65535 (s.gov.dwell + 10) ∧ t.gov.lastSign = s.gov.lastSign) ∧
    (t.modc.mode = s.modc.mode → t.gov.reversePending =
      if t.gov.c = 0 ∧ s.sign = .negative then true
      else if t.gov.c < 0 ∨ s.sign ≠ .negative then false
      else s.gov.reversePending) ∧
    t.gov.waiting = (s.gov.waiting.bind fun w =>
      if (travelWaitEnd s t target w).isSome then none
      else match w.kind with
        | .setPace => if t.modc.mode = s.modc.mode then some { w with arrival := arrivalAfter t target w } else none
        | .stop => some w) ∧
    (s.ordersInv → s.xmemWf → EndedTogether (travelEntryEnd s t target) s t ∧
      ∀ a, outsideEnded (fun e => (travelEntryEnd s t target e).isSome) s a → a < faultBase ∨ faultBase + 35 ≤ a →
        t.xread a = s.xread a) ∧
    (s.gov.waiting = none → t.modc.mode = s.modc.mode → t.orders = s.orders ∧ WordsKept faultBase 35 s t) ∧
    SameBut [.xmem, .port, .orders, .modc, .gov, .armc, .watc, .faults, .tma] s t ∧ OutputsOnly s t

/-- Every travel step sets each wheel channel's state, IN_USE or NO_SIGNAL by the array's report (R40), LOST after 500 ms of one-sided silence in
motion (R42), and back in use at the second agreeing reading (R43); it forms v_act from the channels in use, the mean of two agreeing speeds and
the larger of two disagreeing ones (R41), then the trim (R56) and the duty of the one solenoid that c's sign names (R57), the other at 0; the periods in
progress are not touched (R135). Of the governor's kinds, each is present after the step if it was or is reported at it, and its condition
has not ended by R45, R58 or R59; that the silence test sees c as the step found it is log entry 15.
The loss, disagreement, silence, overspeed and operator timers follow their conditions and the re-admission count its readings (R41 to R44, R58, R59). A
step that reports nothing leaves the mode controller, the arms, the water, every interrupt cause but ORDER_DONE and the fault unit but for the active set as they
were, and with no order waiting the orders and the port too; one that reports a stopping kind at work enters SAFE (R4, R61, R86, R107) within the step, after
its stage 8 by the model's reading (log entry 16), and in SAFE a kind of class HALT_TRAVEL sets the halt latch alone. -/
def Obligations.TravelStepMeasuresAndDrives : Prop :=
  ∀ s : State, s.running → ∃ (t : State) (current duty : Nat), exec .travelStep s = .next t ∧
    (∀ w, s.gov.chan w ≠ .lost →
      (s.valid (wheelChannel w) = true → t.gov.chan w = .inUse) ∧
      (s.valid (wheelChannel w) = false → t.gov.chan w =
        if t.gov.chan (otherWheel w) = .inUse ∧ s.gov.c ≠ 0 ∧ ∃ v, s.gov.loss w = some v ∧ 490 ≤ v then .lost else .noSignal)) ∧
    (∀ w, s.gov.chan w = .lost → s.gov.chan (otherWheel w) ≠ .lost → t.gov.chan w =
      if s.valid (wheelChannel w) = true ∧ 1 ≤ s.gov.readmit w ∧ (s.valid (wheelChannel (otherWheel w)) = false ∨
          speedsAgree (s.wheelSpeed w) (s.wheelSpeed (otherWheel w)) = true) then .inUse else .lost) ∧
    (t.isActive .wheelSensorsLost = true ↔
      (t.gov.chanA ≠ .inUse ∧ t.gov.chanB ≠ .inUse ∧ 300 < s.gov.c.natAbs ∧ timerDue 1000 10 s.gov.silence = true) ∨
        (s.isActive .wheelSensorsLost = true ∧ t.gov.chanA ≠ .inUse ∧ t.gov.chanB ≠ .inUse ∧ t.gov.c ≠ 0)) ∧
    (t.isActive .operatorAbsent = true ↔ s.input .operator = false ∧
      (s.isActive .operatorAbsent = true ∨ (timerDue 1000 10 s.gov.operator = true ∧
        (t.gov.c ≠ 0 ∨ s.modc.mode = .engaging ∨ s.modc.mode = .sweeping)))) ∧
    (t.isActive .overspeed = true ↔ overspeedThreshold t.gov.c < t.gov.vAct ∧
      (s.isActive .overspeed = true ∨ timerDue 1000 10 s.gov.overspeed = true)) ∧
    (t.isActive .wheelSensorDisagree = true ↔
      (t.gov.chanA = .lost ∨ t.gov.chanB = .lost ∨ timerAt 1000 t.gov.disagree = true) ∧
        (s.isActive .wheelSensorDisagree = true ∨ timerReached 1000 s.gov.disagree t.gov.disagree = true ∨
          ∃ w, s.gov.chan w ≠ .lost ∧ t.gov.chan w = .lost)) ∧
    (t.gov.disagree = timerFollow 1000 10 (decide (t.gov.chanA = .inUse ∧ t.gov.chanB = .inUse) &&
      !speedsAgree (s.wheelSpeed .a) (s.wheelSpeed .b)) s.gov.disagree) ∧
    t.gov.silence = timerFollow 1000 10
      (decide (t.gov.chanA ≠ .inUse ∧ t.gov.chanB ≠ .inUse ∧ 300 < s.gov.c.natAbs)) s.gov.silence ∧
    t.gov.overspeed = timerFollow 1000 10 (decide (overspeedThreshold t.gov.c < t.gov.vAct)) s.gov.overspeed ∧
    t.gov.operator = timerFollow 1000 10
      (!s.input .operator && decide (t.gov.c ≠ 0 ∨ s.modc.mode = .engaging ∨ s.modc.mode = .sweeping)) s.gov.operator ∧
    (∀ w, t.gov.loss w = if t.gov.chan w = .noSignal ∧ t.gov.chan (otherWheel w) = .inUse ∧ s.gov.c ≠ 0 then
      timerFollow 500 10 true (s.gov.loss w) else none) ∧
    (∀ w, s.gov.chan w ≠ .lost → t.gov.readmit w = if t.gov.chan w = .lost then 0 else s.gov.readmit w) ∧
    (∀ w, s.gov.chan w = .lost → s.gov.chan (otherWheel w) ≠ .lost → t.gov.readmit w =
      if s.valid (wheelChannel w) = true ∧ s.gov.readmit w = 0 ∧ (s.valid (wheelChannel (otherWheel w)) = false ∨
          speedsAgree (s.wheelSpeed w) (s.wheelSpeed (otherWheel w)) = true) then 1 else 0) ∧
    (TravelReportsNothing s t → t.modc = s.modc ∧ t.armc = s.armc ∧ t.watc = s.watc ∧
      t.faults = { s.faults with active := t.faults.active } ∧ CausesKept false s t ∧
      t.port = { s.port with pendingSet := t.port.pendingSet } ∧
      (s.gov.waiting = none → t.orders = s.orders ∧ t.port = s.port ∧ WordsKept (faultBase + 33) 1 s t)) ∧
    (firstStop s t = none → t.modc = s.modc ∧ t.armc = s.armc ∧ t.watc = s.watc) ∧
    (∀ k, firstStop s t = some k →
      (s.atWork → t.modc = { s.modc with
          mode := .safe, reason := k.rank, phase := .none, settle := none, budget := 0, commanded := ⟨false, false, false⟩,
          haltLatch := s.modc.haltLatch || haltsTravel s t, safeStopped := false } ∧
        t.gov.reqSpeed = 0 ∧ t.gov.reqDir = .neutral ∧ t.gov.reversePending = false ∧
        t.port.pendingSet.getLsbD 3 = true ∧ RaisedArms s t ∧ SprayStopped s t) ∧
      (s.modc.mode = .safe → t.modc = { s.modc with haltLatch := s.modc.haltLatch || haltsTravel s t } ∧
        t.armc = s.armc ∧ t.watc = s.watc) ∧
      (s.modc.mode = .starting ∨ s.modc.mode = .parked → t.modc = s.modc ∧ t.armc = s.armc ∧ t.watc = s.watc)) ∧
    (¬(s.atWork ∧ firstStop s t ≠ none) → t.gov.reqSpeed = s.gov.reqSpeed ∧ t.gov.reqDir = s.gov.reqDir) ∧
    (t.gov.chanA = .inUse → t.gov.chanB = .inUse → t.gov.vAct =
      if speedsAgree (s.wheelSpeed .a) (s.wheelSpeed .b) then (s.wheelSpeed .a + s.wheelSpeed .b) / 2
      else max (s.wheelSpeed .a) (s.wheelSpeed .b)) ∧
    (t.gov.chanA = .inUse → t.gov.chanB ≠ .inUse → t.gov.vAct = s.wheelSpeed .a) ∧
    (t.gov.chanA ≠ .inUse → t.gov.chanB = .inUse → t.gov.vAct = s.wheelSpeed .b) ∧
    (t.gov.chanA ≠ .inUse → t.gov.chanB ≠ .inUse → t.gov.vAct = 0) ∧
    t.gov.trim =
      (if t.gov.c = 0 ∨ (t.gov.chanA ≠ .inUse ∧ t.gov.chanB ≠ .inUse) then 0
       else clampInt (-200) 200 (s.gov.trim + roundDiv (((t.gov.c.natAbs : Int) - t.gov.vAct) * s.kTrim) 1024)) ∧
    (current : Int) =
      (if t.gov.c = 0 then 0
       else clampInt 0 s.iMax ((s.evalAt travelCurveBase t.gov.c.natAbs : Int) + t.gov.trim)) ∧
    (0 < s.iFull → duty = min 1000 ((2000 * current + s.iFull) / (2 * s.iFull))) ∧
    (t.gov.c = 0 → t.tma.outputs.travelFwd.held = 0 ∧ t.tma.outputs.travelRev.held = 0) ∧
    (0 < t.gov.c → t.tma.outputs.travelFwd.held = duty ∧ t.tma.outputs.travelRev.held = 0) ∧
    (t.gov.c < 0 → t.tma.outputs.travelFwd.held = 0 ∧ t.tma.outputs.travelRev.held = duty) ∧
    t.tma.outputs.travelFwd.applied = s.tma.outputs.travelFwd.applied ∧
    t.tma.outputs.travelRev.applied = s.tma.outputs.travelRev.applied

/-- The expiries of the DERATE kinds: WHEEL_DISAGREE_TIMEOUT (R41), WHEEL_LOSS_TIMEOUT (R42), FLOW_LOSS_TIMEOUT (R102) and ENGINE_LOSS_TIMEOUT (R114)
each take one report and change the state of the owning job alone, each judged on what the stages before its test form at that step
(travelReport, travelSense, waterFlow). When such an expiry falls is the model's reading (log entry 4). That an
engine loss met with its flag still set is reported again (log entry 21), and that the word of a total count that stands at 65535 is
written again (log entry 42), are its choices. -/
def Obligations.DerateExpiriesReport : Prop :=
  ∀ s : State, s.running →
    ((travelSense s).disagreeHolds = true → timerDue 1000 10 s.gov.disagree = true →
      ∃ t, exec .wheelDisagreeTimeout s = .next t ∧ TookNote disagreeReport s t ∧
      t.gov = { s.gov with disagree := some 1000, vAct := max (s.wheelSpeed .a) (s.wheelSpeed .b) } ∧ SameBut [.xmem, .port, .faults, .gov] s t) ∧
    (∀ w : Wheel, (travelReport s).lossHolds w = true → timerDue 500 10 (s.gov.loss w) = true →
      ∃ t, exec (.wheelLossTimeout w) s = .next t ∧ TookNote (lossReport w) s t ∧
      t.gov = { s.gov.setWheel w .lost none 0 with vAct := s.wheelSpeed (otherWheel w) } ∧
      SameBut [.xmem, .port, .faults, .gov] s t) ∧
    ((waterFlow s).flowLossHolds = true → timerDue 1000 20 s.watc.flowLoss = true → ∃ t, exec .flowLossTimeout s = .next t ∧
      TookNote { kind := .flowSensorLost, source := .watc, detail := (waterFlow s).watc.qCmd } s t ∧ t.watc = { s.watc with flowLoss := some 1000, flowLossFlag := true } ∧
      SameBut [.xmem, .port, .faults, .watc] s t) ∧
    (s.engineLossHolds = true → timerDue 500 10 s.loadm.engineLoss = true → ∃ t, exec .engineLossTimeout s = .next t ∧
      TookNote (engineLostReport s) s t ∧
      t.loadm = { s.loadm with
        engineLoss := some 500, engineLossFlag := true, load := 500, scale := 1000, floor := none, recovery := none } ∧
      SameBut [.xmem, .port, .faults, .loadm] s t)

/-- The expiries of the stopping kinds: WHEEL_SILENCE_TIMEOUT (R44), OPERATOR_ABSENT_TIMEOUT (R59), OVERSPEED_TIMEOUT (R58) and HOST_CHECK_EXPIRY (R158)
take their report and, from a mode of work, enter SAFE (R4), an open ENGAGE or DISENGAGE then FAILED with the kind's rank, the halt latch set
by the HALT_TRAVEL kinds; in SAFE such a kind sets the halt latch alone. At the entry a waiting SET_PACE (R61) and a waiting SET_ARM for WORKING or
HOVER (R86) end FAILED too, with the mode reason, which is that rank. The three of the travel step are judged on what its stages form
(travelSense, travelDrive), v_act with them. When an expiry judged at a travel step falls, and that the check
window counts whole ticks, are the model's reading and choice (log entries 4 and 47). -/
def Obligations.StopExpiriesEnterSafe : Prop :=
  ∀ (s : State) (c : Instr) (r : Report) (halt : Bool) (g : Governor), s.resetHeld = false →
    (s.running ∧ (travelSense s).silenceHolds = true ∧ timerDue 1000 10 s.gov.silence = true ∧ c = .wheelSilenceTimeout ∧
      r = wheelsLostReport ∧ halt = true ∧ g = { s.gov with silence := some 1000, vAct := 0 }) ∨
    (s.running ∧ (travelDrive s).operatorHolds = true ∧ timerDue 1000 10 s.gov.operator = true ∧ c = .operatorAbsentTimeout ∧
      r = operatorReport ∧ halt = true ∧ g = { s.gov with operator := some 1000, vAct := (travelDrive s).gov.vAct }) ∨
    (s.running ∧ (travelDrive s).overspeedHolds = true ∧ timerDue 1000 10 s.gov.overspeed = true ∧ c = .overspeedTimeout ∧
      r = overspeedReport (travelDrive s).gov.vAct ∧ halt = false ∧
      g = { s.gov with overspeed := some 1000, vAct := (travelDrive s).gov.vAct }) ∨
    (timerAt s.port.windowLength s.port.window = true ∧ c = .hostCheckExpiry ∧
      r = { kind := .hostSilent, source := .host, detail := s.port.windowLength } ∧ halt = false ∧ g = s.gov) →
    ∃ t, exec c s = .next t ∧ TookReport r s t ∧ t.faults.exclusions = s.faults.exclusions ∧
      (c = .hostCheckExpiry → t.port.check = .disarmed ∧ t.port.window = none) ∧
      (s.atWork → t.gov = { g with
          reqSpeed := 0, reqDir := .neutral, reversePending := false, waiting := keptTravelWait s.gov.waiting } ∧
        EnteredSafe r.kind halt s t ∧ SameBut [.xmem, .orders, .port, .modc, .gov, .armc, .watc, .faults, .tma] s t ∧
        (∀ ended : Entry → Bool, s.ordersInv → s.xmemWf →
          (ended = fun e => decide (e.target = .mode ∧ (e.kind = 2 ∨ e.kind = 3)) || s.failsPace e || s.failsArm e) →
          FailedTogether ended r.kind.rank s.orders.cursor [] s t ∧
            ∀ a, outsideEnded ended s a → (a < faultBase ∨ faultBase + 35 ≤ a) → t.xread a = s.xread a)) ∧
      (s.atWork → (∀ w, s.gov.waiting = some w → w.kind = .stop) → s.calmArms →
        (s.openOn .mode = none →
          WordsKept faultBase 35 s t ∧ SameBut [.xmem, .port, .modc, .gov, .armc, .watc, .faults, .tma] s t) ∧
        (∀ e, s.openTaken e .mode e.slot e.takeTime → e.kind = 2 ∨ e.kind = 3 →
          SlotResult e.slot .failed r.kind.rank e.depth s.tma.clock (s.since e.takeTime) t ∧ EntryLeaves e s t ∧
            DoneNotified e s t ∧ t.orders.orphans = s.orders.orphans ∧
            (∀ a, outsideResult e.slot a → (a < faultBase ∨ faultBase + 35 ≤ a) → t.xread a = s.xread a) ∧
            SameBut [.xmem, .orders, .port, .modc, .gov, .armc, .watc, .faults, .tma] s t)) ∧
      (s.modc.mode = .safe → t.gov = g ∧ t.modc = { s.modc with haltLatch := s.modc.haltLatch || halt } ∧
        WordsKept faultBase 35 s t ∧ SameBut [.xmem, .port, .modc, .gov, .faults] s t) ∧
      (s.modc.mode = .starting ∨ s.modc.mode = .parked → t.gov = g ∧ WordsKept faultBase 35 s t ∧
        SameBut [.xmem, .port, .gov, .faults] s t)

/-- WHEEL_READMISSION: the second agreeing reading of a LOST channel, as stage 1 of the step finds it (travelReport), returns it to use at once (R43);
with the other channel not LOST, a VALID reading agrees if the other is not VALID or the speeds agree. NEUTRAL_DWELL_ELAPSED: the dwell timer reaches 300 ms
and the dwell part of the gate opens (R52). When each falls is the model's reading (log entry 4). -/
def Obligations.ReadmissionAndDwell : Prop :=
  ∀ s : State, s.running →
    (∀ w : Wheel, s.gov.chan w = .lost → (travelReport s).gov.chan w = .inUse →
      ∃ t, exec (.wheelReadmission w) s = .next t ∧
        t.gov = { s.gov.setWheel w .inUse none 0 with
          vAct := if (travelReport s).gov.chan (otherWheel w) = .inUse then (s.wheelSpeed .a + s.wheelSpeed .b) / 2
            else s.wheelSpeed w } ∧
        SameBut [.gov] s t) ∧
    (∀ w : Wheel, s.gov.chan w = .lost → s.gov.readmit w = 1 → s.gov.chan (otherWheel w) ≠ .lost → s.valid (wheelChannel w) = true →
      ((travelReport s).gov.chan w = .inUse ↔
        s.valid (wheelChannel (otherWheel w)) = false ∨ speedsAgree (s.wheelSpeed w) (s.wheelSpeed (otherWheel w)) = true)) ∧
    (s.gov.c = 0 → s.gov.dwell < 300 → 290 ≤ s.gov.dwell → ∃ t, exec .neutralDwellElapsed s = .next t ∧
      t.gov = { s.gov with dwell := s.gov.dwell + 10 } ∧ SameBut [.gov] s t ∧
      t.gateOpen .positive = true ∧
      (t.gateOpen .negative = true ↔ forbidsReverse s.armc.left = false ∧ forbidsReverse s.armc.right = false))

/-- The waiting orders' own ends: PACE_ARRIVAL completes OK with the limiter, or CLAMPED with the count; PACE_TIMEOUT and STOP_TIMEOUT complete TIMED_OUT with
the limiter and v_act (R48, R49), a STOP at standstill at that step OK, all as that step forms them (travelDrive). SET_ARM_TIMEOUT makes the arm's own transition of that step first (R64):
an exclusion due ends the order FAILED with the kind's rank (R71), a match completes it OK, else it is TIMED_OUT with the arm's state (R85).
The notice ends the order, ends it as an orphan where the host has written its slot, or is discarded where the order has left the list
(R149). When each falls is the model's reading (log entry 4). -/
def Obligations.WaitingOrdersEnd : Prop :=
  (∀ (s : State) (w : TravelWait), s.running → s.gov.waiting = some w →
    (w.kind = .setPace → s.arrivalDue w = true → ∃ t, exec .paceArrival s = .next t ∧
      NoticeTaken .travel w.slot w.takeTime (if w.clampCount = 0 then .ok else .clamped)
        (if w.clampCount = 0 then (travelDrive s).gov.limiter.code else w.clampCount) s t ∧
      t.gov = { s.gov with waiting := none } ∧ SameBut [.xmem, .orders, .port, .gov] s t) ∧
    (w.kind = .setPace → s.arrivalDue w = false → w.timeout ≤ s.since w.takeTime → ∃ t, exec .paceTimeout s = .next t ∧
      NoticeTaken .travel w.slot w.takeTime .timedOut (travelDrive s).gov.limiter.code s t ∧
      t.gov = { s.gov with waiting := none } ∧ SameBut [.xmem, .orders, .port, .gov] s t) ∧
    (w.kind = .stop → 20000 ≤ s.since w.takeTime → ∃ t, exec .stopTimeout s = .next t ∧
      NoticeTaken .travel w.slot w.takeTime (if (travelDrive s).standstill then .ok else .timedOut)
        (if (travelDrive s).standstill then 0 else (travelDrive s).gov.vAct) s t ∧
      t.gov = { s.gov with waiting := none } ∧ SameBut [.xmem, .orders, .port, .gov] s t)) ∧
  (∀ (s : State) (a : Arm) (w : ArmWait), s.running → (s.arm a).waiting = some w → 8000 ≤ s.since w.takeTime →
    (∀ k d, FirstExclusion s a k d → ∃ t, exec (.setArmTimeout a) s = .next t ∧ WentOut a k s t ∧
      (∀ e, s.openTaken e (armTarget a) w.slot w.takeTime →
        SlotResult e.slot .failed k.rank e.depth s.tma.clock (s.since e.takeTime) t ∧ EntryLeaves e s t ∧ DoneNotified e s t ∧
          ∀ x, outsideResult e.slot x → (x < faultBase ∨ faultBase + 35 ≤ x) → t.xread x = s.xread x) ∧
      SameBut [.xmem, .orders, .port, .armc, .faults, .tma] s t) ∧
    (∀ st, (∀ k d, ¬ExclusionMet s a k d) → NextArmState s a st → ∃ t, exec (.setArmTimeout a) s = .next t ∧
      NoticeTaken (armTarget a) w.slot w.takeTime (if matchesReq st w.req then .ok else .timedOut)
        (if matchesReq st w.req then 0 else st.code) s t ∧
      (st = (s.arm a).state → t.arm a = { s.arm a with waiting := none } ∧ t.armc.width = s.armc.width ∧ t.tma = s.tma) ∧
      (st ≠ (s.arm a).state → (t.arm a).state = st ∧ (t.arm a).stateTimer = 0 ∧ (t.arm a).waiting = none ∧
        (t.arm a).req = (s.arm a).req ∧ (t.arm a).cause = (s.arm a).cause ∧ (t.arm a).swing = (s.readArm a).swing ∧
        (t.arm a).measured = s.brushSpeed a ∧ (t.arm a).target = (s.readArm a).target ∧ t.widthFollows ∧
        t.tma.outputs.lower a = decide (st = .lowering) ∧
        t.tma.outputs.raise a = decide (st = .lifting ∨ st = .raising) ∧
        (t.tma.outputs.get (pressOutput a)).held = (t.arm a).press ∧ OutputsOnly s t) ∧
      (∀ b, b ≠ a → t.arm b = s.arm b) ∧ SameBut [.xmem, .orders, .port, .armc, .tma] s t))

/-! ### The brush arms -/

/-- Every arm step computes each record's brush target as the profile brush speed × brush scale / 1000, floored (R75), the reach of a side arm (R29), the swept
width (R30), the down-pressure (R74) and the brush trim and motor duty (R77), and hands the outputs that follow from each record's state (R73). With
every exclusion timer short of its limit (R82) each record makes the one move of R64: the stow request, the reverse lift, and the progress of
STOWED, LOWERING, WORKING, DEFLECTED, LIFTING, HOVER and RAISING (R65 to R70). An arm 4 s in LOWERING, RAISING or LIFTING without its input goes
OUT, ARM_STUCK (R82), and an arm in OUT stays there (R71). That an arm's timers advance at the start of stage 3 and the angle-loss timer
starts at the entry step (log entry 17), and that ARM_STUCK is judged only at the step at which the state timer reaches 4 s (18), are the
model's readings. With no exclusion test met an arm in any other state holds after the step the one state that R64 gives it, its own where
nothing moves it, with its timers advanced (R67, R68, R76, R78 to R80) and its request and cause as they were; with one met it is OUT for
the first in rank order (R82). At stage 6 the cause-present flag of an arm that the step finds in OUT (log entry 19) ends by R83 and each arm kind is present while some arm
holds its cause; a waiting SET_ARM ends OK at a match, TIMED_OUT at 8 s (R85), FAILED at an exclusion (R71), or waits on, and each ended order
leaves the list with its result (R149). With no order waiting the orders stand, and with no exclusion met the port and exchange memory but
for the word of the active set too. -/
def Obligations.ArmStepDrivesTheArms : Prop :=
  ∀ s : State, s.running → ∃ t, exec .armStep s = .next t ∧
    (∀ a, (t.arm a).target = s.modc.profile.brushSpeed a * s.loadm.scale / 1000 ∧ (t.arm a).measured = s.brushSpeed a ∧
      (t.arm a).press = (if (t.arm a).state = .working then s.evalAt pressureCurveBase (s.modc.profile.downPressure a) else 0) ∧
      (t.arm a).trim = (if rotates (t.arm a) = true ∧ 1500 ≤ (t.arm a).spinUp ∧ s.valid (brushChannel a) = true then
        clampInt (-150) 150
          ((s.arm a).trim + roundDiv ((((t.arm a).target : Int) - (t.arm a).measured) * s.kBrush) 256)
        else 0) ∧
      t.tma.outputs.lower a = decide ((t.arm a).state = .lowering) ∧
      (t.tma.outputs.raise a = true ↔ (t.arm a).state = .lifting ∨ (t.arm a).state = .raising ∨
        ((t.arm a).state = .out ∧ (t.arm a).stateTimer < 4000)) ∧
      (t.tma.outputs.get (pressOutput a)).held = (t.arm a).press ∧
      (t.tma.outputs.get (pressOutput a)).applied = (s.tma.outputs.get (pressOutput a)).applied ∧
      ((t.tma.outputs.get (motorOutput a)).held : Int) =
        (if rotates (t.arm a) then clampInt 0 1000 ((s.evalAt (brushCurveBase a) (t.arm a).target : Int) + (t.arm a).trim) else 0)) ∧
    (∀ side : Side, (t.arm side.arm).reach =
      if (t.arm side.arm).state = .working ∨ (t.arm side.arm).state = .deflected then
        s.evalAt (reachTableBase side) (t.arm side.arm).swing else 0) ∧
    (∀ side : Side, (t.arm side.arm).swing =
      if s.valid (swingChannel side) then (s.channel (swingChannel side)).2 - 50 else (s.arm side.arm).swing) ∧
    t.widthFollows ∧
    (∀ a, rotates (s.arm a) = true → (s.arm a).req = .stowed → shortOfExclusion (s.arm a) →
      (t.arm a).state = .raising ∧ (t.arm a).stateTimer = 0 ∧ (t.arm a).spinUp = 0) ∧
    (∀ side : Side, ((s.arm side.arm).state = .lowering ∨ (s.arm side.arm).state = .working ∨ (s.arm side.arm).state = .deflected) →
      (s.arm side.arm).req ≠ .stowed → s.gov.c < 0 ∨ s.gov.reversePending = true → shortOfExclusion (s.arm side.arm) →
      (t.arm side.arm).state = .lifting ∧ (t.arm side.arm).stateTimer = 0) ∧
    (∀ a, (s.arm a).state = .stowed ∨ ((s.arm a).state = .raising ∧ s.input (upInput a) = false ∧ shortOfExclusion (s.arm a)) →
      (s.arm a).req = .working ∨ ((s.arm a).req = .hover ∧ a ≠ .main) → s.modc.mode = .engaging ∨ s.modc.mode = .sweeping →
      a = .main ∨ s.reverseState = false →
      (t.arm a).state = .lowering ∧ (t.arm a).stateTimer = 0 ∧ (t.arm a).spinUp = 0) ∧
    (∀ a, (s.arm a).state = .lowering → s.input (downInput a) = true → a = .main ∨ s.reverseState = false →
      shortOfExclusion (s.arm a) →
      ((s.arm a).req = .working → (t.arm a).state = .working ∧ (t.arm a).stateTimer = 0) ∧
      ((s.arm a).req = .hover → a ≠ .main → (t.arm a).state = .lifting ∧ (t.arm a).stateTimer = 0)) ∧
    (∀ side : Side, (s.arm side.arm).state = .working → (s.arm side.arm).req = .working → s.reverseState = false →
      shortOfExclusion (s.arm side.arm) →
      (s.deflectThreshold < (t.arm side.arm).swing →
        (t.arm side.arm).state = .deflected ∧ (t.arm side.arm).stateTimer = 0 ∧ (t.arm side.arm).deflection = 0 ∧
          (t.arm side.arm).ret = none) ∧
      ((t.arm side.arm).swing ≤ s.deflectThreshold → (t.arm side.arm).state = .working)) ∧
    (∀ side : Side, (s.arm side.arm).state = .working ∨ (s.arm side.arm).state = .deflected → (s.arm side.arm).req = .hover →
      s.reverseState = false → shortOfExclusion (s.arm side.arm) →
      (t.arm side.arm).state = .lifting ∧ (t.arm side.arm).stateTimer = 0) ∧
    (∀ side : Side, (s.arm side.arm).state = .deflected → (s.arm side.arm).req = .working → s.reverseState = false →
      shortOfExclusion (s.arm side.arm) →
      (t.arm side.arm).state =
        if (t.arm side.arm).swing + s.deflectHysteresis ≤ s.deflectThreshold ∧ timerDue 300 10 (s.arm side.arm).ret = true then
          .working else if timerAt 300 (s.arm side.arm).ret = true ∧
            (t.arm side.arm).swing + s.deflectHysteresis ≤ s.deflectThreshold then .working else .deflected) ∧
    (∀ side : Side, (s.arm side.arm).state = .lifting → (s.arm side.arm).req ≠ .stowed → shortOfExclusion (s.arm side.arm) →
      ((s.input (downInput side.arm) = true ∨ (s.arm side.arm).hover = none) → (t.arm side.arm).state = .lifting) ∧
      (s.input (downInput side.arm) = false → timerDue 300 10 (s.arm side.arm).hover = true →
        (t.arm side.arm).state = .hover ∧ (t.arm side.arm).stateTimer = 0)) ∧
    (∀ side : Side, (s.arm side.arm).state = .hover → shortOfExclusion (s.arm side.arm) →
      ((s.arm side.arm).req = .hover → (t.arm side.arm).state = .hover) ∧
      ((s.arm side.arm).req = .working → s.reverseState = false → s.modc.mode = .engaging ∨ s.modc.mode = .sweeping →
        (t.arm side.arm).state = .lowering ∧ (t.arm side.arm).stateTimer = 0 ∧
          (t.arm side.arm).spinUp = min 1500 ((s.arm side.arm).spinUp + 10))) ∧
    (∀ a, (s.arm a).state = .raising → s.input (upInput a) = true → (t.arm a).state = .stowed ∧ (t.arm a).stateTimer = 0) ∧
    (∀ a d, ExclusionMet s a .armStuck d → (t.arm a).state = .out ∧ (t.arm a).cause = some .armStuck ∧
      (t.arm a).causePresent = true ∧ t.faults.exclusions.arm a = true) ∧
    (∀ a k d, FirstExclusion s a k d → (t.arm a).state = .out ∧ (t.arm a).stateTimer = 0 ∧ (t.arm a).cause = some k ∧
      (t.arm a).causePresent = true ∧ (t.arm a).req = .stowed ∧ (t.arm a).spinUp = 0 ∧ (t.arm a).stall = none ∧
      (t.arm a).silence = none ∧ (t.arm a).angleLoss = none ∧ t.faults.exclusions.arm a = true) ∧
    (∀ a, (s.arm a).state = .out → (t.arm a).state = .out ∧ (t.arm a).cause = (s.arm a).cause ∧
      (t.arm a).stateTimer = min 65535 ((s.arm a).stateTimer + 10) ∧
      (t.arm a).req = (s.arm a).req ∧
      ((t.arm a).causePresent = true ↔ (s.arm a).causePresent = true ∧ ¬CauseEndsAt s a)) ∧
    (∀ a, (s.arm a).state ≠ .out → (∀ k d, ¬ExclusionMet s a k d) →
      (∀ st, NextArmState s a st → (t.arm a).state = st) ∧ ArmTimersFollow s a (t.arm a) ∧
      (t.arm a).req = (s.arm a).req ∧ (t.arm a).cause = (s.arm a).cause ∧
      (t.arm a).causePresent = (s.arm a).causePresent) ∧
    (∀ a, (∀ k d, ¬ExclusionMet s a k d) → t.faults.exclusions.arm a = s.faults.exclusions.arm a) ∧
    t.faults.exclusions.water = s.faults.exclusions.water ∧
    (∀ k, excludesArm k → (t.isActive k = true ↔ (s.isActive k = true ∨ ∃ a d, FirstExclusion s a k d) ∧
      ∃ a, (t.arm a).cause = some k ∧ (t.arm a).causePresent = true)) ∧
    (∀ k, ¬excludesArm k → t.isActive k = s.isActive k) ∧
    (∀ a, (t.arm a).waiting = (s.arm a).waiting.filter fun w => (armWaitEnd s t a w).isNone) ∧
    (s.ordersInv → s.xmemWf → EndedTogether (armEntryEnd s t) s t ∧
      ∀ a, outsideEnded (fun e => (armEntryEnd s t e).isSome) s a → a < faultBase ∨ faultBase + 35 ≤ a → t.xread a = s.xread a) ∧
    ((∀ a, (s.arm a).waiting = none) → t.orders = s.orders ∧ WordsKept faultBase 35 s t) ∧
    ((∀ a k d, ¬ExclusionMet s a k d) → t.faults = { s.faults with active := t.faults.active } ∧ CausesKept false s t ∧
      t.port = { s.port with pendingSet := t.port.pendingSet } ∧
      ((∀ a, (s.arm a).waiting = none) → t.port = s.port ∧ WordsKept (faultBase + 33) 1 s t)) ∧
    t.tma.outputs.travelFwd = s.tma.outputs.travelFwd ∧ t.tma.outputs.travelRev = s.tma.outputs.travelRev ∧
    t.tma.outputs.waterPump = s.tma.outputs.waterPump ∧ t.tma.outputs.nozzles = s.tma.outputs.nozzles ∧
    SameBut [.xmem, .port, .orders, .armc, .faults, .tma] s t ∧ OutputsOnly s t

/-- The exclusion expiries of the arms: ARM_STUCK_TIMEOUT, ANGLE_LOSS_TIMEOUT, DEFLECT_LONG_TIMEOUT, BRUSH_STALL_TIMEOUT and BRUSH_SILENCE_TIMEOUT. Where its own
test is met on the readings of that step (R63, R67, R78, R79), which the record keeps, the arm goes OUT with the kind and the detail of the
first test met in rank order (R64, R82), its reach 0 (R71, R73, R81, R125), and a
waiting SET_ARM ends FAILED with the kind's rank (R71), as an orphan where the host has written its slot, its notice discarded where the order has
left the list (R149). When each falls is the model's reading (log entries 4 and 17). -/
def Obligations.ArmExpiriesSendTheArmOut : Prop :=
  ∀ (s : State) (c : Instr) (a : Arm) (own k : FaultKind) (d0 d : Nat), s.running →
    (c = .armStuckTimeout a ∧ own = .armStuck) ∨
      (∃ side : Side, side.arm = a ∧ c = .angleLossTimeout side ∧ own = .armAngleLost) ∨
      (∃ side : Side, side.arm = a ∧ c = .deflectLongTimeout side ∧ own = .armDeflectLong) ∨
      (c = .brushStallTimeout a ∧ own = .brushStall ∧ s.valid (brushChannel a) = true) ∨
      (c = .brushSilenceTimeout a ∧ own = .brushStall ∧ s.valid (brushChannel a) = false) →
    ExclusionMet s a own d0 → FirstExclusion s a k d →
    ∃ t, exec c s = .next t ∧ WentOut a k s t ∧
      ((s.arm a).waiting = none → TookReport { kind := k, source := .armc a, detail := d } s t ∧ WordsKept faultBase 35 s t ∧
        SameBut [.xmem, .port, .armc, .faults, .tma] s t) ∧
      (∀ w e, (s.arm a).waiting = some w → s.openTaken e (armTarget a) w.slot w.takeTime →
        SlotResult e.slot .failed k.rank e.depth s.tma.clock (s.since e.takeTime) t ∧ EntryLeaves e s t ∧ DoneNotified e s t ∧
          (∀ x, outsideResult e.slot x → (x < faultBase ∨ faultBase + 35 ≤ x) → t.xread x = s.xread x) ∧
          SameBut [.xmem, .orders, .port, .armc, .faults, .tma] s t) ∧
      (∀ w e, (s.arm a).waiting = some w → s.openLost e (armTarget a) w.slot w.takeTime →
        EntryLeaves e s t ∧ t.orders.orphans = min 255 (s.orders.orphans + 1) ∧
          t.port.pendingSet.getLsbD 0 = s.port.pendingSet.getLsbD 0 ∧ WordsKept faultBase 35 s t ∧
          SameBut [.xmem, .orders, .port, .armc, .faults, .tma] s t) ∧
      (∀ w, (s.arm a).waiting = some w →
        (∀ e ∈ s.orders.entries, ¬(e.target = armTarget a ∧ e.slot = w.slot ∧ e.takeTime = w.takeTime)) →
        WordsKept faultBase 35 s t ∧ SameBut [.xmem, .port, .armc, .faults, .tma] s t)

/-- The moves an arm makes at its own timers: DEFLECT_RETURN (R67) and HOVER_REACHED (R68) make the one move that R64 gives the arm at that step: OUT
where an exclusion test is met, RAISING on a stow request, LIFTING in reverse, else the progress of the state, WORKING or LIFTING from DEFLECTED, HOVER
from LIFTING, all on the readings of that step, which the record keeps (R63). SPIN_UP_COMPLETE completes the spin-up (R76). OUT_RAISE_END takes the raise valve off and ends an ARM_STUCK or BRUSH_STALL
condition that no other arm holds (R71, R83). When each falls is the model's reading (log entry 4). -/
def Obligations.ArmTimersMoveTheArm : Prop :=
  ∀ s : State, s.running →
    (∀ (side : Side) (c : Instr),
      ((c = .deflectReturn side ∧ (s.arm side.arm).state = .deflected ∧ s.belowRelease (s.readArm side.arm) = true ∧
          timerDue 300 10 (s.arm side.arm).ret = true) ∨
        (c = .hoverReached side ∧ (s.arm side.arm).state = .lifting ∧ s.input (downInput side.arm) = false ∧
          timerDue 300 10 (s.arm side.arm).hover = true)) →
      (∀ k d, FirstExclusion s side.arm k d → (s.arm side.arm).waiting = none → ∃ t, exec c s = .next t ∧ WentOut side.arm k s t ∧
        TookReport { kind := k, source := .armc side.arm, detail := d } s t ∧ SameBut [.xmem, .port, .armc, .faults, .tma] s t) ∧
      ((∀ k d, ¬ExclusionMet s side.arm k d) → ∃ t st, exec c s = .next t ∧
        st = (if (s.arm side.arm).req = .stowed then ArmState.raising
          else if c = .hoverReached side then .hover
          else if s.reverseState = true ∨ (s.arm side.arm).req = .hover then .lifting
          else .working) ∧
        MovedTo side st s t ∧ SameBut [.armc, .tma] s t)) ∧
    (∀ a : Arm, rotates (s.arm a) = true → (s.arm a).spinUp < 1500 → 1490 ≤ (s.arm a).spinUp →
      ∃ t, exec (.spinUpComplete a) s = .next t ∧ t.arm a = { s.arm a with spinUp := 1500 } ∧
        (∀ b, b ≠ a → t.arm b = s.arm b) ∧ t.armc.width = s.armc.width ∧ SameBut [.armc] s t) ∧
    (∀ a : Arm, (s.arm a).state = .out → (s.arm a).stateTimer < 4000 → 3990 ≤ (s.arm a).stateTimer →
      ∃ t, exec (.outRaiseEnd a) s = .next t ∧
        t.arm a = { s.arm a with
          stateTimer := (s.arm a).stateTimer + 10
          causePresent := (s.arm a).causePresent &&
            decide ((s.arm a).cause ≠ some .armStuck ∧ (s.arm a).cause ≠ some .brushStall) } ∧
        (∀ b, b ≠ a → t.arm b = s.arm b) ∧ t.armc.width = s.armc.width ∧
        t.tma.outputs.raise a = false ∧ t.tma.outputs.lower a = false ∧
        (∀ k : FaultKind, k = .armStuck ∨ k = .brushStall →
          (t.isActive k = true ↔ s.isActive k = true ∧ ∃ b, b ≠ a ∧ (s.arm b).cause = some k ∧ (s.arm b).causePresent = true)) ∧
        (∀ k : FaultKind, k ≠ .armStuck → k ≠ .brushStall → t.isActive k = s.isActive k) ∧
        t.faults = { s.faults with active := t.faults.active } ∧ WordsKept (faultBase + 33) 1 s t ∧
        SameBut [.xmem, .armc, .faults, .tma] s t ∧ OutputsOnly s t)

/-! ### The water -/

/-- Every water step computes the flow demand D × v_act × W × 3 / 5,000,000, rounded half up and saturating (R31), the tank level and its flags (R91, R92),
Qavail by the table of R93, the flow command by the table of R95, never above Qavail or q_pump, the open groups under the enable mask (R100), and the trim and
pump duty (R101); the outputs are handed together. The prime status is IDLE outside PRIMING, RUNNING at its first step, then PRIMED, DRY or
RUNNING by the table of R96. The dry-run, flow-loss and tank-loss timers follow their conditions (R102, R103, R105), the first two 0
where the supply is withdrawn at the step (R104), as WATER_DRY or TANK_SENSOR_LOST reported at it does. Of the controller's kinds, each is present after the step if it was or is reported at it, and its condition has
not ended by R92, R102 or R105 (log entry 20 orders the stage). That the tank-empty flag follows R92's table on the held level also while
the TANK channel is not VALID (log entry 37), and that the dry-run condition is
R103's list also with a silent FLOW channel at a small Q_cmd (log entry 44), are the model's choices. -/
def Obligations.WaterStepDosesTheWater : Prop :=
  ∀ s : State, s.running → ∃ t, exec .waterStep s = .next t ∧
    t.watc.qDem = min 65535 ((2 * (s.dose * s.gov.vAct * s.armc.width * 3) + 5000000) / 10000000) ∧
    (s.dose = 0 ∨ s.gov.vAct = 0 ∨ s.armc.width = 0 → t.watc.qDem = 0) ∧
    t.watc.level = (if s.valid .tank then levelOfDuty (s.channel .tank).2 else s.watc.level) ∧
    t.watc.levelKnown = (s.watc.levelKnown || s.valid .tank) ∧
    (t.watc.levelKnown = true →
      t.watc.tankEmpty = if s.watc.tankEmpty then !decide (s.tankEmptyLevel + 20 < t.watc.level)
        else decide (t.watc.level ≤ s.tankEmptyLevel)) ∧
    (t.watc.levelKnown = false → t.watc.tankEmpty = s.watc.tankEmpty) ∧
    t.watc.qMeas = s.measuredFlow ∧
    t.watc.qAvail =
      (if t.watc.waterOut then 0 else if t.watc.levelKnown = false then 0 else if t.watc.tankEmpty then 0
       else if t.watc.level < s.tankLow then s.qPump / 2 else s.qPump) ∧
    t.watc.qCmd ≤ t.watc.qAvail ∧ t.watc.qAvail ≤ s.qPump ∧
    (t.modc.mode = .engaging → t.modc.phase = .priming →
      t.watc.qCmd = if t.watc.prime = .running ∨ t.watc.prime = .primed then min s.primeFlow t.watc.qAvail else 0) ∧
    (t.modc.mode = .sweeping ∨ (t.modc.mode = .engaging ∧ (t.modc.phase = .lowering ∨ t.modc.phase = .settling)) →
      t.watc.qCmd = if 0 < s.dose ∧ 0 < s.armc.width ∧ s.modc.profile.sprayMinSpeed ≤ s.gov.vAct
        then min t.watc.qDem t.watc.qAvail else 0) ∧
    (t.modc.mode ≠ .sweeping → t.modc.mode ≠ .engaging ∨ t.modc.phase = .slowing → t.watc.qCmd = 0) ∧
    t.watc.openSet = (if t.watc.qCmd = 0 then 0 else bandGroups s.band &&& s.watc.mask) ∧
    t.watc.trim =
      (if t.watc.openSet = 0 ∨ s.valid .flow = false ∨ s.watc.flowLossFlag = true then 0
       else clampInt (-100) 100 (s.watc.trim + roundDiv (((t.watc.qCmd : Int) - t.watc.qMeas) * s.kFlow) 4096)) ∧
    (t.watc.duty : Int) =
      (if t.watc.openSet = 0 then 0 else clampInt 0 1000 ((s.evalAt pumpCurveBase t.watc.qCmd : Int) + t.watc.trim)) ∧
    (s.modc.phase ≠ .priming → t.watc.prime = .idle ∧ t.watc.primeTimer = 0 ∧ t.watc.primeHold = none) ∧
    (∀ going : PrimeStatus, s.modc.phase = .priming →
      going = (if t.watc.waterOut = s.watc.waterOut then PrimeStatus.running else .dry) →
      (s.watc.prime = .idle → t.watc.prime = going ∧ t.watc.primeTimer = 0 ∧ t.watc.primeHold = none) ∧
      (∀ q, s.watc.prime = .running →
        q = (if s.watc.waterOut then 0 else if t.watc.levelKnown = false then 0 else if t.watc.tankEmpty then 0
          else if t.watc.level < s.tankLow then s.qPump / 2 else s.qPump) →
        t.watc.primeTimer = min 5000 (s.watc.primeTimer + 20) ∧
        t.watc.primeHold = timerFollow 200 20 (decide (s.primeFlow ≤ t.watc.qMeas * 2)) s.watc.primeHold ∧
        t.watc.prime =
          (if min s.primeFlow q = 0 ∨ bandGroups s.primingBand &&& s.watc.mask = 0 then .primed
           else if timerAt 200 t.watc.primeHold = true then .primed
           else if 5000 ≤ t.watc.primeTimer then .dry
           else going)) ∧
      (s.watc.prime = .primed ∨ s.watc.prime = .dry → t.watc.prime = s.watc.prime ∧ t.watc.primeTimer = s.watc.primeTimer)) ∧
    (t.isActive .tankSensorLost = true ↔ s.valid .tank = false ∧
      (s.isActive .tankSensorLost = true ∨ timerDue 1000 20 s.watc.tankLoss = true)) ∧
    (t.isActive .tankEmpty = true ↔ (s.isActive .tankEmpty = true ∧ (s.watc.tankEmpty = true → t.watc.tankEmpty = true)) ∨
      (s.watc.tankEmpty = false ∧ t.watc.tankEmpty = true)) ∧
    (s.valid .flow = true → t.watc.flowLossFlag = false ∧
      (t.isActive .flowSensorLost = true ↔ s.isActive .flowSensorLost = true ∧ s.watc.flowLossFlag = false)) ∧
    (∀ lostNow : Prop, s.valid .flow = false →
      (lostNow ↔ (waterFlow s).flowLossHolds = true ∧ timerDue 1000 20 s.watc.flowLoss = true) →
      (t.watc.flowLossFlag = true ↔ s.watc.flowLossFlag = true ∨ lostNow) ∧
      (t.isActive .flowSensorLost = true ↔ s.isActive .flowSensorLost = true ∨ lostNow)) ∧
    (∀ dryNow : Prop,
      (dryNow ↔ (s.watc.prime = .running ∧ (waterFlow s).watc.prime = .dry) ∨
        ((waterFlow s).dryRunHolds = true ∧ timerDue 3000 20 s.watc.dryRun = true)) →
      (t.isActive .waterDry = true ↔ (s.isActive .waterDry = true ∨ dryNow) ∧
        ¬(s.watc.dryReport = true ∧ (waterFlow s).watc.duty = 0)) ∧
      (t.watc.dryReport = true ↔ dryNow ∨ (s.watc.dryReport = true ∧ 0 < (waterFlow s).watc.duty)) ∧
      (t.watc.waterOut = true ↔
        s.watc.waterOut = true ∨ dryNow ∨ (s.valid .tank = false ∧ timerDue 1000 20 s.watc.tankLoss = true))) ∧
    t.watc.tankLoss = timerFollow 1000 20 (!s.valid .tank) s.watc.tankLoss ∧
    (t.watc.waterOut ≠ s.watc.waterOut → t.watc.dryRun = none ∧ t.watc.flowLoss = none) ∧
    (t.watc.waterOut = s.watc.waterOut →
      t.watc.dryRun = timerFollow 3000 20
        (decide (s.modc.phase ≠ .priming ∧ s.watc.flowLossFlag = false ∧ 0 < t.watc.duty ∧ t.watc.qMeas * 10 < t.watc.qCmd))
        s.watc.dryRun ∧
      t.watc.flowLoss = timerFollow 1000 20
        (decide (s.valid .flow = false ∧ 0 < t.watc.duty ∧ 500 ≤ t.watc.qCmd)) s.watc.flowLoss) ∧
    (s.watc.dryReport = true → t.watc.waterOut = s.watc.waterOut → t.watc.duty = 0 →
      t.watc.dryReport = false ∧ t.isActive .waterDry = false) ∧
    (s.watc.dryReport = false ∨ 0 < t.watc.duty → s.isActive .waterDry = true → t.isActive .waterDry = true) ∧
    t.watc.override = s.watc.override ∧ t.watc.mask = s.watc.mask ∧
    t.tma.outputs = { s.tma.outputs with
      nozzles := t.watc.openSet, waterPump := { s.tma.outputs.waterPump with held := t.watc.duty } } ∧
    WordsKept faultBase 35 s t ∧ SameBut [.xmem, .port, .watc, .faults, .tma] s t ∧ OutputsOnly s t

/-- PRIME_HELD makes the prime status PRIMED (R96); PRIME_TIMEOUT, DRY_RUN_TIMEOUT and TANK_LOSS_TIMEOUT report their kind with their detail and withdraw the
supply (R96, R103, R104, R105, R125), each judged on what the stages before its test form at that step
(waterRead, waterFlow). When each falls is the model's reading (log entry 4), and that the dry-run condition is R103's list also
with a silent FLOW channel at a small Q_cmd is its choice (log entry 44). -/
def Obligations.WaterExpiriesWithdrawTheSupply : Prop :=
  ∀ s : State, s.running →
    (s.modc.phase = .priming → s.watc.prime = .running → s.primeFlow ≤ 2 * s.measuredFlow → timerDue 200 20 s.watc.primeHold = true →
      exec .primeHeld s = .next (s.setWatc { s.watc with prime := .primed, primeHold := some 200 })) ∧
    (∀ (c : Instr) (r : Report), s.watc.waterOut = false →
      (c = .primeTimeout ∧ r = waterDryReport 1 ∧ s.modc.phase = .priming ∧ s.watc.prime = .running ∧
        (waterRead s).nothingToPrime = false ∧ (waterRead s).primeFlows = false ∧ s.watc.primeTimer < 5000 ∧ 4980 ≤ s.watc.primeTimer) ∨
      (c = .dryRunTimeout ∧ r = waterDryReport 2 ∧ (waterFlow s).dryRunHolds = true ∧ timerDue 3000 20 s.watc.dryRun = true) ∨
      (c = .tankLossTimeout ∧ r = tankLostReport s ∧ s.valid .tank = false ∧ timerDue 1000 20 s.watc.tankLoss = true) →
      ∃ t, exec c s = .next t ∧ TookReport r s t ∧ WentDry s t ∧ (r.kind = .waterDry → t.watc.dryReport = true) ∧
        (c = .primeTimeout → t.watc.prime = .dry) ∧
        WordsKept faultBase 35 s t ∧ SameBut [.xmem, .port, .watc, .faults, .tma] s t)

/-! ### The engine load -/

/-- Every load step takes the engine speed (R110), forms droop and L_raw (R111), moves L to an L_raw at or below it at once and up by 20 or to L_raw if that is
nearer, keeps L while the channel is not VALID and the engine-loss flag clear, pins it at 500 while the flag is set (R112, R114), ends ENGINE_SPEED_LOST at
the first VALID reading with the flag set (R115), counts the engine-loss timer while the channel is not VALID in motion or at work, the flag
set as it reaches 500 ms (R114), and moves the brush scale by
its two timers, which follow L = 300 and L at 800 or above, the scale standing while they are short of their limits (R113). FLOOR_TIMER_EXPIRY
eases the brushes to 700 and RECOVERY_TIMER_EXPIRY returns them to 1000, each clearing its timer (R113), judged on L and the flag as that
step forms them (loadForm); when each falls is the model's
reading (log entry 4). -/
def Obligations.LoadStepMovesTheLoadFactor : Prop :=
  (∀ s : State, s.running → (loadForm s).loadm.engineLossFlag = false →
    (s.loadm.scale = 1000 → (loadForm s).loadm.load = 300 → timerDue 1000 10 s.loadm.floor = true →
      exec .floorTimerExpiry s = .next (s.setLoadm { s.loadm with scale := 700, floor := none })) ∧
    (s.loadm.scale = 700 → 800 ≤ (loadForm s).loadm.load → timerDue 2000 10 s.loadm.recovery = true →
      exec .recoveryTimerExpiry s = .next (s.setLoadm { s.loadm with scale := 1000, recovery := none }))) ∧
  ∀ s : State, s.running → ∃ t, exec .loadStep s = .next t ∧ t.loadm.n = s.engineSpeed ∧
    (s.valid .engine = true → t.loadm.engineLossFlag = false ∧ t.loadm.engineLoss = none ∧
      t.loadm.droop = (s.modc.profile.ratedEngineSpeed - s.engineSpeed) * 1000 / s.modc.profile.ratedEngineSpeed ∧
      t.loadm.lRaw = lRawOf s.d1 s.d2 t.loadm.droop ∧
      (t.loadm.lRaw ≤ s.loadm.load → t.loadm.load = t.loadm.lRaw) ∧
      (s.loadm.load < t.loadm.lRaw → t.loadm.load = min t.loadm.lRaw (s.loadm.load + 20))) ∧
    (s.valid .engine = false → t.loadm.droop = s.loadm.droop ∧ t.loadm.lRaw = s.loadm.lRaw ∧
      t.loadm.load = (if t.loadm.engineLossFlag then 500 else s.loadm.load) ∧
      (t.loadm.engineLossFlag = true ↔ s.loadm.engineLossFlag = true ∨
        (s.engineLossHolds = true ∧ timerDue 500 10 s.loadm.engineLoss = true))) ∧
    t.loadm.engineLoss = timerFollow 500 10
      (!s.valid .engine && decide (s.gov.c ≠ 0 ∨ s.modc.mode = .engaging ∨ s.modc.mode = .sweeping)) s.loadm.engineLoss ∧
    (s.engineLossHolds = false ∨ timerDue 500 10 s.loadm.engineLoss = false → t.port = s.port ∧ WordsKept (faultBase + 33) 1 s t) ∧
    (t.loadm.engineLossFlag = true → t.loadm.scale = 1000 ∧ t.loadm.floor = none ∧ t.loadm.recovery = none) ∧
    (s.valid .engine = true → (t.isActive .engineSpeedLost = true ↔
      s.isActive .engineSpeedLost = true ∧ s.loadm.engineLossFlag = false)) ∧
    (s.valid .engine = false → (t.isActive .engineSpeedLost = true ↔ s.isActive .engineSpeedLost = true ∨
      (s.engineLossHolds = true ∧ timerDue 500 10 s.loadm.engineLoss = true))) ∧
    (t.loadm.engineLossFlag = false → s.loadm.scale = 1000 → t.loadm.recovery = none ∧
      (t.loadm.load ≠ 300 → t.loadm.scale = 1000 ∧ t.loadm.floor = none) ∧
      (t.loadm.load = 300 →
        (s.loadm.floor = none → t.loadm.scale = 1000 ∧ t.loadm.floor = some 0) ∧
        (∀ v, s.loadm.floor = some v → v + 10 < 1000 → t.loadm.scale = 1000 ∧ t.loadm.floor = some (v + 10)) ∧
        (∀ v, s.loadm.floor = some v → 1000 ≤ v + 10 → t.loadm.scale = 700 ∧ t.loadm.floor = none))) ∧
    (t.loadm.engineLossFlag = false → s.loadm.scale = 700 → t.loadm.floor = none ∧
      (t.loadm.load < 800 → t.loadm.scale = 700 ∧ t.loadm.recovery = none) ∧
      (800 ≤ t.loadm.load →
        (s.loadm.recovery = none → t.loadm.scale = 700 ∧ t.loadm.recovery = some 0) ∧
        (∀ v, s.loadm.recovery = some v → v + 10 < 2000 → t.loadm.scale = 700 ∧ t.loadm.recovery = some (v + 10)) ∧
        (∀ v, s.loadm.recovery = some v → 2000 ≤ v + 10 → t.loadm.scale = 1000 ∧ t.loadm.recovery = none))) ∧
    WordsKept faultBase 35 s t ∧ SameBut [.xmem, .port, .loadm, .faults] s t

/-! ### The status page and the trace -/

/-- STATUS_PUBLICATION writes the page whole between two equal counts one up from before, each of its words 1 to 57 the value that stands, the reserved
words 0 (R160, section 12.5), and writes nothing else; between the entry to PARKED and the end of the wake there is none. -/
def Obligations.StatusPublicationWritesThePage : Prop :=
  ∀ s : State, s.resetHeld = false →
    (s.tma.stripRunning = false → exec .statusPublication s = .next s) ∧
    (s.tma.stripRunning = true → s.xmemWf → ∃ (t : State) (arm : Arm → Nat → Nat → List Word), exec .statusPublication s = .next t ∧
      arm = (fun a swing reach => [word (s.arm a).state.code, word (s.arm a).req.code, word swing, word reach,
        word (s.arm a).target, word (s.arm a).measured, word (s.arm a).press]) ∧
      t.publisher = { s.publisher with headCount := s.publisher.headCount + 1 } ∧
      (∀ i, i < 58 → t.xread (statusBase + i) =
        ([s.publisher.headCount + 1, word s.modc.mode.code, word s.modc.reason, word s.modc.phase.code, word s.gov.vAct,
            signedWord s.gov.c, word s.gov.vT, word s.gov.limiter.code, word s.gov.vW, word s.gov.vL, word s.armc.width,
            word s.dose, word s.watc.qDem, word s.watc.qCmd, word s.watc.qMeas, word s.watc.qAvail, word s.watc.level,
            word s.loadm.load, word s.loadm.scale, word s.loadm.n]
          ++ arm .left (s.arm .left).swing (s.arm .left).reach ++ arm .right (s.arm .right).swing (s.arm .right).reach
          ++ arm .main 0 0
          ++ [s.watc.openSet.setWidth 16, s.watc.mask.setWidth 16, word s.gov.chanA.code, word s.gov.chanB.code, s.faults.active,
            word ((if s.faults.exclusions.left then 1 else 0) + (if s.faults.exclusions.right then 2 else 0) +
              (if s.faults.exclusions.main then 4 else 0) + (if s.faults.exclusions.water then 8 else 0)),
            word ((if s.faults.primary.hold then 1 else 0) + (if s.faults.severe.hold then 2 else 0)),
            word s.cal.status.code, word s.orders.cursor, word (if s.orders.stall then 1 else 0), word s.orders.orphans,
            word s.orders.entries.length, lowHalf s.publisher.traceCount, highHalf s.publisher.traceCount,
            word (if s.tma.trace.enabled then 1 else 0), lowHalf s.tma.clock, highHalf s.tma.clock]).getD i 0) ∧
      (∀ a, statusBase + 58 ≤ a → a < statusBase + 255 → t.xread a = 0) ∧
      t.xread (statusBase + 255) = s.publisher.headCount + 1 ∧
      WordsKept statusBase 256 s t ∧ SameBut [.xmem, .publisher] s t)

/-- TRACE_PERIOD_EXPIRY restarts the period with the pending interval, if any, writes one record of fifteen values into the next of the 32 places of the
trace ring, its other words 0, and raises TRACE_HALF at each sixteenth (R140, R161, section 12.7); before the period is over, under the source
DISTANCE, and while the source does not run, it does nothing. The source runs while it is enabled (R140) and the mode is not PARKED: that it is held
through all of PARKED, the waking time included, is the model's reading of R142 (section 8.6; DEDUCED, log entry 33). -/
def Obligations.TracePeriodWritesARecord : Prop :=
  ∀ s : State, s.resetHeld = false →
    (s.traceRuns = false ∨ s.tma.trace.source = .distance ∨ s.tma.trace.periodTimer < s.tma.trace.interval →
      exec .tracePeriodExpiry s = .next s) ∧
    (s.traceRuns = true → s.tma.trace.source = .period → s.tma.trace.interval ≤ s.tma.trace.periodTimer → s.xmemWf →
      ∃ t base, exec .tracePeriodExpiry s = .next t ∧ base = 2048 + 32 * (s.publisher.traceCount.toNat % 32) ∧
        t.publisher = { s.publisher with traceCount := s.publisher.traceCount + 1 } ∧
        (∀ i, i < 32 → t.xread (base + i) =
          [lowHalf s.tma.clock, highHalf s.tma.clock, word s.modc.mode.code, word s.gov.vT, word s.gov.limiter.code,
            signedWord s.gov.c, word s.gov.vAct, word s.armc.width, word s.watc.qCmd, word s.watc.qMeas, word s.loadm.load,
            word s.loadm.n, word s.armc.left.state.code, word s.armc.right.state.code, word s.armc.main.state.code].getD i 0) ∧
        t.port = (if (s.publisher.traceCount + 1).toNat % 16 = 0 then s.port.raise .traceHalf else s.port) ∧
        t.tma = { s.tma with trace := { s.tma.trace with
          periodTimer := 0, interval := s.tma.trace.pendingInterval.getD s.tma.trace.interval, pendingInterval := none } } ∧
        WordsKept base 32 s t ∧ SameBut [.xmem, .publisher, .port, .tma] s t)

/-! ### The pins -/

/-- The capture channels (R132, R133): a raw change is noted with its instant, one to the level the pin has already changes nothing more, and one that reverts within the filter time is discarded; an edge that has held
is accepted at the instant of its raw change and moves the channel's state, a rising one closing a period, and one that closes a period not
shorter than the timeout acquiring afresh; a raw change that ends a level already held accepts that edge first (log entry 12); a timeout takes the channel to NO_SIGNAL; only
the one channel changes, but for the distance counter: a rising edge of WHEEL_A, or of WHEEL_B while A is LOST, adds wheel_um_per_pulse to the
accumulator while the source DISTANCE runs, and at the interval it is reduced by the interval and the trace writes a record of fifteen values into the next place of the ring, its other
words 0, with TRACE_HALF at each sixteenth (R141, R161, section 12.7). While RESET# is low or the array sleeps, a raw change only moves the level at
the pin, no edge is accepted and no timeout expires: for the sleep R142 (section 8.6) says that no edge is accepted and no timeout expires; that
the raw level is followed at the pin, and that all this holds while RESET# is low, of which section 12.9 gives only the outputs, INT# and the host
port, is the model's reading (DEDUCED, log entry 6). That the source DISTANCE runs only outside PARKED, and so is held through the
waking time too, is its reading of R142 (section 8.6; DEDUCED, log entry 33). The instants' form (log entry 12), that A's state and the length of a
pulse are read when the edge is accepted (log entry 43), and that a timeout counts from the last edge accepted (log entry 46), are its choices. -/
def Obligations.CaptureChannelsJudgeEdges : Prop :=
  ∀ (s : State) (ch : Channel) (us : Nat) (k : Capture), k = s.tma.captures.get ch →
    (∀ level, s.resetHeld = true ∨ s.tma.stepsRunning = false →
      exec (.captureRawChange ch level us) s = .next (setCapture ch { k with raw := level } s)) ∧
    (s.resetHeld = true ∨ s.tma.stepsRunning = false →
      exec (.captureEdgeAccepted ch us) s = .next s ∧ exec (.captureTimeout ch us) s = .next s) ∧
    (∀ level, s.running → k.raw = k.level ∨ s.tma.micros + us < k.rawTime + filterTime ch →
      exec (.captureRawChange ch level us) s =
        .next (if level = k.raw then s else setCapture ch { k with raw := level, rawTime := s.tma.micros + us } s)) ∧
    (∀ level, s.running → k.raw ≠ k.level → k.rawTime + filterTime ch ≤ s.tma.micros + us →
      ∃ m, exec (.captureEdgeAccepted ch us) s = .next m ∧ exec (.captureRawChange ch level us) s =
        .next (if level = k.raw then m
          else setCapture ch { m.tma.captures.get ch with raw := level, rawTime := s.tma.micros + us } m)) ∧
    (s.running → k.raw = k.level ∨ s.tma.micros + us < k.rawTime + filterTime ch →
      exec (.captureEdgeAccepted ch us) s = .next s) ∧
    (s.running → k.level = true → k.raw = false → k.rawTime + filterTime ch ≤ s.tma.micros + us →
      exec (.captureEdgeAccepted ch us) s = .next (setCapture ch { k with fall := k.rawTime, level := false } s)) ∧
    (s.running → k.level = false → k.raw = true → k.rawTime + filterTime ch ≤ s.tma.micros + us →
      ∃ t gap value, exec (.captureEdgeAccepted ch us) s = .next t ∧ gap = k.rawTime - k.rise ∧
        value = (if isDuty ch then (k.fall - k.rise) * 1000 / gap else gap) ∧
        (t.tma.captures.get ch).rise = k.rawTime ∧ (t.tma.captures.get ch).level = true ∧
        (t.tma.captures.get ch).fall = k.fall ∧
        (k.state = .noSignal → (t.tma.captures.get ch).state = .acquiring ∧ (t.tma.captures.get ch).count = 0) ∧
        (k.state = .acquiring → k.count = 0 → gap < s.timeoutTime ch →
          (t.tma.captures.get ch).state = .acquiring ∧ (t.tma.captures.get ch).count = 1) ∧
        (k.state = .acquiring → s.timeoutTime ch ≤ gap →
          (t.tma.captures.get ch).state = .acquiring ∧ (t.tma.captures.get ch).count = 0) ∧
        (k.state = .valid ∨ k.state = .outOfRange → s.timeoutTime ch ≤ gap →
          (t.tma.captures.get ch).state = .acquiring ∧ (t.tma.captures.get ch).count = 0 ∧ (t.tma.captures.get ch).value = 0) ∧
        ((k.state = .acquiring ∧ 1 ≤ k.count) ∨ k.state = .valid ∨ k.state = .outOfRange → gap < s.timeoutTime ch →
          (t.tma.captures.get ch).value = value ∧
          (t.tma.captures.get ch).state = (if isDuty ch = true ∧ (value < 50 ∨ 950 < value) then .outOfRange else .valid)) ∧
        (∀ other, other ≠ ch → t.tma.captures.get other = s.tma.captures.get other) ∧
        t.tma = { s.tma with captures := t.tma.captures, trace := t.tma.trace } ∧
        (s.traceRuns = false ∨ s.tma.trace.source = .period ∨
            ch ≠ (if s.gov.chanA = .lost then .wheelB else .wheelA) →
          t.tma.trace = s.tma.trace ∧ SameBut [.tma] s t) ∧
        (∀ sum, s.traceRuns = true → s.tma.trace.source = .distance →
          (ch = .wheelA ∧ s.gov.chanA ≠ .lost ∧ sum = s.tma.trace.accumulator + s.umPerPulse .a) ∨
            (ch = .wheelB ∧ s.gov.chanA = .lost ∧ sum = s.tma.trace.accumulator + s.umPerPulse .b) →
          (sum < s.tma.trace.interval * 1000 → t.tma.trace = { s.tma.trace with accumulator := sum } ∧ SameBut [.tma] s t) ∧
          (s.tma.trace.interval * 1000 ≤ sum →
            t.tma.trace = { s.tma.trace with
              accumulator := sum - s.tma.trace.interval * 1000
              interval := s.tma.trace.pendingInterval.getD s.tma.trace.interval, pendingInterval := none } ∧
            t.publisher = { s.publisher with traceCount := s.publisher.traceCount + 1 } ∧
            t.port = (if (s.publisher.traceCount + 1).toNat % 16 = 0 then s.port.raise .traceHalf else s.port) ∧
            (s.xmemWf → ∀ i, i < 32 → t.xread (2048 + 32 * (s.publisher.traceCount.toNat % 32) + i) =
              [lowHalf s.tma.clock, highHalf s.tma.clock, word s.modc.mode.code, word s.gov.vT, word s.gov.limiter.code,
                signedWord s.gov.c, word s.gov.vAct, word s.armc.width, word s.watc.qCmd, word s.watc.qMeas, word s.loadm.load,
                word s.loadm.n, word s.armc.left.state.code, word s.armc.right.state.code,
                word s.armc.main.state.code].getD i 0) ∧
            WordsKept (2048 + 32 * (s.publisher.traceCount.toNat % 32)) 32 s t)) ∧
        SameBut [.tma, .xmem, .publisher, .port] s t) ∧
    (s.running → k.state ≠ .noSignal → k.rise + s.timeoutTime ch ≤ s.tma.micros + us →
      exec (.captureTimeout ch us) s = .next (setCapture ch { k with state := .noSignal, value := 0, count := 0 } s)) ∧
    (s.running → k.state = .noSignal ∨ s.tma.micros + us < k.rise + s.timeoutTime ch →
      exec (.captureTimeout ch us) s = .next s)

/-- A raw change of an input restarts its stability timer; a level that has differed and held for 20 ms becomes the debounced level, and OPERATOR becoming
active wakes a sleeping controller (R137, R17); that a change carries no instant within its millisecond is log entry 40. A PWM period begins with the
duty that stands, its pin high for duty × period / 1000 and low for the rest of the period, 1 ms at WATER_PUMP and 5 ms elsewhere (R135); none
begins while the array sleeps (R142). -/
def Obligations.InputsSettleAndPeriodsBegin : Prop :=
  (∀ (s : State) (i : Input) (level : Bool),
    (level = (s.tma.inputs.get i).raw → exec (.debounceRawChange i level) s = .next s) ∧
    (level ≠ (s.tma.inputs.get i).raw →
      exec (.debounceRawChange i level) s = .next (setInput i { s.tma.inputs.get i with raw := level, stable := 0 } s))) ∧
  (∀ (s : State) (i : Input), s.resetHeld = false →
    ((s.tma.inputs.get i).raw = (s.tma.inputs.get i).level ∨ (s.tma.inputs.get i).stable < 20 →
      exec (.debounceSettled i) s = .next s) ∧
    (s.tma.stepsRunning = false → i ≠ .operator → exec (.debounceSettled i) s = .next s) ∧
    ((s.tma.inputs.get i).raw ≠ (s.tma.inputs.get i).level → 20 ≤ (s.tma.inputs.get i).stable →
      (s.tma.stepsRunning = true → s.modc.wake ≠ .dormant → exec (.debounceSettled i) s =
        .next (setInput i { s.tma.inputs.get i with level := (s.tma.inputs.get i).raw } s)) ∧
      (i = .operator → (s.tma.inputs.get i).raw = true → s.modc.wake = .dormant → ∃ t, exec (.debounceSettled i) s = .next t ∧
        t.input .operator = true ∧
        t.modc = { s.modc with wake := .waking, wakeTime := s.tma.clock, restartPending := false } ∧
        t.tma.stepsRunning = true ∧ t.tma.clock = s.tma.clock ∧ t.tma.outputs = s.tma.outputs ∧
        (∀ j, j ≠ .operator → t.input j = (s.tma.inputs.get j).raw) ∧ SameBut [.modc, .tma, .watc] s t))) ∧
  (∀ (s : State) (o : PwmOut), s.tma.stepsRunning = false → exec (.pwmPeriodStart o) s = .next s) ∧
  (∀ (s : State) (o : PwmOut), s.running → ∃ t period, exec (.pwmPeriodStart o) s = .next t ∧
    period = (if o = .waterPump then 1000 else 5000) ∧
    t.tma.outputs.get o =
      { held := (s.tma.outputs.get o).held, applied := (s.tma.outputs.get o).held, start := s.tma.micros } ∧
    (∀ us, us < period → (t.pwmLevel o us = true ↔ us * 1000 < (s.tma.outputs.get o).held * period)) ∧
    (∀ other, other ≠ o → t.tma.outputs.get other = s.tma.outputs.get other) ∧
    t.tma.outputs.nozzles = s.tma.outputs.nozzles ∧
    (∀ a, t.tma.outputs.lower a = s.tma.outputs.lower a ∧ t.tma.outputs.raise a = s.tma.outputs.raise a) ∧
    OutputsOnly s t ∧ SameBut [.tma] s t)

end SweeperStatements
end

