-- ==== Sys2Proof/Laws/State.lean ====
section
/-! SUPPORT. One lemma per field per update of `State`: what each block setter leaves in each field. -/
namespace Sys2Proof.Machine

/-! ### State.setPending -/

@[simp] theorem State.setPending_pending (s : State) (x : List Instr) : (s.setPending x).pending = x := rfl
@[simp] theorem State.setPending_resetHeld (s : State) (x : List Instr) : (s.setPending x).resetHeld = s.resetHeld := rfl
@[simp] theorem State.setPending_xmem (s : State) (x : List Instr) : (s.setPending x).xmem = s.xmem := rfl
@[simp] theorem State.setPending_port (s : State) (x : List Instr) : (s.setPending x).port = s.port := rfl
@[simp] theorem State.setPending_publisher (s : State) (x : List Instr) : (s.setPending x).publisher = s.publisher := rfl
@[simp] theorem State.setPending_orders (s : State) (x : List Instr) : (s.setPending x).orders = s.orders := rfl
@[simp] theorem State.setPending_modc (s : State) (x : List Instr) : (s.setPending x).modc = s.modc := rfl
@[simp] theorem State.setPending_gov (s : State) (x : List Instr) : (s.setPending x).gov = s.gov := rfl
@[simp] theorem State.setPending_armc (s : State) (x : List Instr) : (s.setPending x).armc = s.armc := rfl
@[simp] theorem State.setPending_watc (s : State) (x : List Instr) : (s.setPending x).watc = s.watc := rfl
@[simp] theorem State.setPending_loadm (s : State) (x : List Instr) : (s.setPending x).loadm = s.loadm := rfl
@[simp] theorem State.setPending_faults (s : State) (x : List Instr) : (s.setPending x).faults = s.faults := rfl
@[simp] theorem State.setPending_cal (s : State) (x : List Instr) : (s.setPending x).cal = s.cal := rfl
@[simp] theorem State.setPending_tma (s : State) (x : List Instr) : (s.setPending x).tma = s.tma := rfl
@[simp] theorem State.setPending_eeprom (s : State) (x : List Instr) : (s.setPending x).eeprom = s.eeprom := rfl
@[simp] theorem State.setPending_freeReads (s : State) (x : List Instr) : (s.setPending x).freeReads = s.freeReads := rfl
/-- Writing back what stands changes nothing. -/
@[simp] theorem State.setPending_self (s : State) : s.setPending s.pending = s := rfl
/-- The later of two updates of one block stands. -/
@[simp] theorem State.setPending_setPending (s : State) (x y : List Instr) : (s.setPending x).setPending y = s.setPending y := rfl

/-! ### State.setResetHeld -/

@[simp] theorem State.setResetHeld_pending (s : State) (x : Bool) : (s.setResetHeld x).pending = s.pending := rfl
@[simp] theorem State.setResetHeld_resetHeld (s : State) (x : Bool) : (s.setResetHeld x).resetHeld = x := rfl
@[simp] theorem State.setResetHeld_xmem (s : State) (x : Bool) : (s.setResetHeld x).xmem = s.xmem := rfl
@[simp] theorem State.setResetHeld_port (s : State) (x : Bool) : (s.setResetHeld x).port = s.port := rfl
@[simp] theorem State.setResetHeld_publisher (s : State) (x : Bool) : (s.setResetHeld x).publisher = s.publisher := rfl
@[simp] theorem State.setResetHeld_orders (s : State) (x : Bool) : (s.setResetHeld x).orders = s.orders := rfl
@[simp] theorem State.setResetHeld_modc (s : State) (x : Bool) : (s.setResetHeld x).modc = s.modc := rfl
@[simp] theorem State.setResetHeld_gov (s : State) (x : Bool) : (s.setResetHeld x).gov = s.gov := rfl
@[simp] theorem State.setResetHeld_armc (s : State) (x : Bool) : (s.setResetHeld x).armc = s.armc := rfl
@[simp] theorem State.setResetHeld_watc (s : State) (x : Bool) : (s.setResetHeld x).watc = s.watc := rfl
@[simp] theorem State.setResetHeld_loadm (s : State) (x : Bool) : (s.setResetHeld x).loadm = s.loadm := rfl
@[simp] theorem State.setResetHeld_faults (s : State) (x : Bool) : (s.setResetHeld x).faults = s.faults := rfl
@[simp] theorem State.setResetHeld_cal (s : State) (x : Bool) : (s.setResetHeld x).cal = s.cal := rfl
@[simp] theorem State.setResetHeld_tma (s : State) (x : Bool) : (s.setResetHeld x).tma = s.tma := rfl
@[simp] theorem State.setResetHeld_eeprom (s : State) (x : Bool) : (s.setResetHeld x).eeprom = s.eeprom := rfl
@[simp] theorem State.setResetHeld_freeReads (s : State) (x : Bool) : (s.setResetHeld x).freeReads = s.freeReads := rfl
/-- Writing back what stands changes nothing. -/
@[simp] theorem State.setResetHeld_self (s : State) : s.setResetHeld s.resetHeld = s := rfl
/-- The later of two updates of one block stands. -/
@[simp] theorem State.setResetHeld_setResetHeld (s : State) (x y : Bool) : (s.setResetHeld x).setResetHeld y = s.setResetHeld y := rfl

/-! ### State.setXmem -/

@[simp] theorem State.setXmem_pending (s : State) (x : Memory) : (s.setXmem x).pending = s.pending := rfl
@[simp] theorem State.setXmem_resetHeld (s : State) (x : Memory) : (s.setXmem x).resetHeld = s.resetHeld := rfl
@[simp] theorem State.setXmem_xmem (s : State) (x : Memory) : (s.setXmem x).xmem = x := rfl
@[simp] theorem State.setXmem_port (s : State) (x : Memory) : (s.setXmem x).port = s.port := rfl
@[simp] theorem State.setXmem_publisher (s : State) (x : Memory) : (s.setXmem x).publisher = s.publisher := rfl
@[simp] theorem State.setXmem_orders (s : State) (x : Memory) : (s.setXmem x).orders = s.orders := rfl
@[simp] theorem State.setXmem_modc (s : State) (x : Memory) : (s.setXmem x).modc = s.modc := rfl
@[simp] theorem State.setXmem_gov (s : State) (x : Memory) : (s.setXmem x).gov = s.gov := rfl
@[simp] theorem State.setXmem_armc (s : State) (x : Memory) : (s.setXmem x).armc = s.armc := rfl
@[simp] theorem State.setXmem_watc (s : State) (x : Memory) : (s.setXmem x).watc = s.watc := rfl
@[simp] theorem State.setXmem_loadm (s : State) (x : Memory) : (s.setXmem x).loadm = s.loadm := rfl
@[simp] theorem State.setXmem_faults (s : State) (x : Memory) : (s.setXmem x).faults = s.faults := rfl
@[simp] theorem State.setXmem_cal (s : State) (x : Memory) : (s.setXmem x).cal = s.cal := rfl
@[simp] theorem State.setXmem_tma (s : State) (x : Memory) : (s.setXmem x).tma = s.tma := rfl
@[simp] theorem State.setXmem_eeprom (s : State) (x : Memory) : (s.setXmem x).eeprom = s.eeprom := rfl
@[simp] theorem State.setXmem_freeReads (s : State) (x : Memory) : (s.setXmem x).freeReads = s.freeReads := rfl
/-- Writing back what stands changes nothing. -/
@[simp] theorem State.setXmem_self (s : State) : s.setXmem s.xmem = s := rfl
/-- The later of two updates of one block stands. -/
@[simp] theorem State.setXmem_setXmem (s : State) (x y : Memory) : (s.setXmem x).setXmem y = s.setXmem y := rfl

/-! ### State.setPort -/

@[simp] theorem State.setPort_pending (s : State) (x : HostPort) : (s.setPort x).pending = s.pending := rfl
@[simp] theorem State.setPort_resetHeld (s : State) (x : HostPort) : (s.setPort x).resetHeld = s.resetHeld := rfl
@[simp] theorem State.setPort_xmem (s : State) (x : HostPort) : (s.setPort x).xmem = s.xmem := rfl
@[simp] theorem State.setPort_port (s : State) (x : HostPort) : (s.setPort x).port = x := rfl
@[simp] theorem State.setPort_publisher (s : State) (x : HostPort) : (s.setPort x).publisher = s.publisher := rfl
@[simp] theorem State.setPort_orders (s : State) (x : HostPort) : (s.setPort x).orders = s.orders := rfl
@[simp] theorem State.setPort_modc (s : State) (x : HostPort) : (s.setPort x).modc = s.modc := rfl
@[simp] theorem State.setPort_gov (s : State) (x : HostPort) : (s.setPort x).gov = s.gov := rfl
@[simp] theorem State.setPort_armc (s : State) (x : HostPort) : (s.setPort x).armc = s.armc := rfl
@[simp] theorem State.setPort_watc (s : State) (x : HostPort) : (s.setPort x).watc = s.watc := rfl
@[simp] theorem State.setPort_loadm (s : State) (x : HostPort) : (s.setPort x).loadm = s.loadm := rfl
@[simp] theorem State.setPort_faults (s : State) (x : HostPort) : (s.setPort x).faults = s.faults := rfl
@[simp] theorem State.setPort_cal (s : State) (x : HostPort) : (s.setPort x).cal = s.cal := rfl
@[simp] theorem State.setPort_tma (s : State) (x : HostPort) : (s.setPort x).tma = s.tma := rfl
@[simp] theorem State.setPort_eeprom (s : State) (x : HostPort) : (s.setPort x).eeprom = s.eeprom := rfl
@[simp] theorem State.setPort_freeReads (s : State) (x : HostPort) : (s.setPort x).freeReads = s.freeReads := rfl
/-- Writing back what stands changes nothing. -/
@[simp] theorem State.setPort_self (s : State) : s.setPort s.port = s := rfl
/-- The later of two updates of one block stands. -/
@[simp] theorem State.setPort_setPort (s : State) (x y : HostPort) : (s.setPort x).setPort y = s.setPort y := rfl

/-! ### State.setPublisher -/

@[simp] theorem State.setPublisher_pending (s : State) (x : Publisher) : (s.setPublisher x).pending = s.pending := rfl
@[simp] theorem State.setPublisher_resetHeld (s : State) (x : Publisher) : (s.setPublisher x).resetHeld = s.resetHeld := rfl
@[simp] theorem State.setPublisher_xmem (s : State) (x : Publisher) : (s.setPublisher x).xmem = s.xmem := rfl
@[simp] theorem State.setPublisher_port (s : State) (x : Publisher) : (s.setPublisher x).port = s.port := rfl
@[simp] theorem State.setPublisher_publisher (s : State) (x : Publisher) : (s.setPublisher x).publisher = x := rfl
@[simp] theorem State.setPublisher_orders (s : State) (x : Publisher) : (s.setPublisher x).orders = s.orders := rfl
@[simp] theorem State.setPublisher_modc (s : State) (x : Publisher) : (s.setPublisher x).modc = s.modc := rfl
@[simp] theorem State.setPublisher_gov (s : State) (x : Publisher) : (s.setPublisher x).gov = s.gov := rfl
@[simp] theorem State.setPublisher_armc (s : State) (x : Publisher) : (s.setPublisher x).armc = s.armc := rfl
@[simp] theorem State.setPublisher_watc (s : State) (x : Publisher) : (s.setPublisher x).watc = s.watc := rfl
@[simp] theorem State.setPublisher_loadm (s : State) (x : Publisher) : (s.setPublisher x).loadm = s.loadm := rfl
@[simp] theorem State.setPublisher_faults (s : State) (x : Publisher) : (s.setPublisher x).faults = s.faults := rfl
@[simp] theorem State.setPublisher_cal (s : State) (x : Publisher) : (s.setPublisher x).cal = s.cal := rfl
@[simp] theorem State.setPublisher_tma (s : State) (x : Publisher) : (s.setPublisher x).tma = s.tma := rfl
@[simp] theorem State.setPublisher_eeprom (s : State) (x : Publisher) : (s.setPublisher x).eeprom = s.eeprom := rfl
@[simp] theorem State.setPublisher_freeReads (s : State) (x : Publisher) : (s.setPublisher x).freeReads = s.freeReads := rfl
/-- Writing back what stands changes nothing. -/
@[simp] theorem State.setPublisher_self (s : State) : s.setPublisher s.publisher = s := rfl
/-- The later of two updates of one block stands. -/
@[simp] theorem State.setPublisher_setPublisher (s : State) (x y : Publisher) : (s.setPublisher x).setPublisher y = s.setPublisher y := rfl

/-! ### State.setOrders -/

@[simp] theorem State.setOrders_pending (s : State) (x : OrderUnit) : (s.setOrders x).pending = s.pending := rfl
@[simp] theorem State.setOrders_resetHeld (s : State) (x : OrderUnit) : (s.setOrders x).resetHeld = s.resetHeld := rfl
@[simp] theorem State.setOrders_xmem (s : State) (x : OrderUnit) : (s.setOrders x).xmem = s.xmem := rfl
@[simp] theorem State.setOrders_port (s : State) (x : OrderUnit) : (s.setOrders x).port = s.port := rfl
@[simp] theorem State.setOrders_publisher (s : State) (x : OrderUnit) : (s.setOrders x).publisher = s.publisher := rfl
@[simp] theorem State.setOrders_orders (s : State) (x : OrderUnit) : (s.setOrders x).orders = x := rfl
@[simp] theorem State.setOrders_modc (s : State) (x : OrderUnit) : (s.setOrders x).modc = s.modc := rfl
@[simp] theorem State.setOrders_gov (s : State) (x : OrderUnit) : (s.setOrders x).gov = s.gov := rfl
@[simp] theorem State.setOrders_armc (s : State) (x : OrderUnit) : (s.setOrders x).armc = s.armc := rfl
@[simp] theorem State.setOrders_watc (s : State) (x : OrderUnit) : (s.setOrders x).watc = s.watc := rfl
@[simp] theorem State.setOrders_loadm (s : State) (x : OrderUnit) : (s.setOrders x).loadm = s.loadm := rfl
@[simp] theorem State.setOrders_faults (s : State) (x : OrderUnit) : (s.setOrders x).faults = s.faults := rfl
@[simp] theorem State.setOrders_cal (s : State) (x : OrderUnit) : (s.setOrders x).cal = s.cal := rfl
@[simp] theorem State.setOrders_tma (s : State) (x : OrderUnit) : (s.setOrders x).tma = s.tma := rfl
@[simp] theorem State.setOrders_eeprom (s : State) (x : OrderUnit) : (s.setOrders x).eeprom = s.eeprom := rfl
@[simp] theorem State.setOrders_freeReads (s : State) (x : OrderUnit) : (s.setOrders x).freeReads = s.freeReads := rfl
/-- Writing back what stands changes nothing. -/
@[simp] theorem State.setOrders_self (s : State) : s.setOrders s.orders = s := rfl
/-- The later of two updates of one block stands. -/
@[simp] theorem State.setOrders_setOrders (s : State) (x y : OrderUnit) : (s.setOrders x).setOrders y = s.setOrders y := rfl

/-! ### State.setModc -/

@[simp] theorem State.setModc_pending (s : State) (x : ModeControl) : (s.setModc x).pending = s.pending := rfl
@[simp] theorem State.setModc_resetHeld (s : State) (x : ModeControl) : (s.setModc x).resetHeld = s.resetHeld := rfl
@[simp] theorem State.setModc_xmem (s : State) (x : ModeControl) : (s.setModc x).xmem = s.xmem := rfl
@[simp] theorem State.setModc_port (s : State) (x : ModeControl) : (s.setModc x).port = s.port := rfl
@[simp] theorem State.setModc_publisher (s : State) (x : ModeControl) : (s.setModc x).publisher = s.publisher := rfl
@[simp] theorem State.setModc_orders (s : State) (x : ModeControl) : (s.setModc x).orders = s.orders := rfl
@[simp] theorem State.setModc_modc (s : State) (x : ModeControl) : (s.setModc x).modc = x := rfl
@[simp] theorem State.setModc_gov (s : State) (x : ModeControl) : (s.setModc x).gov = s.gov := rfl
@[simp] theorem State.setModc_armc (s : State) (x : ModeControl) : (s.setModc x).armc = s.armc := rfl
@[simp] theorem State.setModc_watc (s : State) (x : ModeControl) : (s.setModc x).watc = s.watc := rfl
@[simp] theorem State.setModc_loadm (s : State) (x : ModeControl) : (s.setModc x).loadm = s.loadm := rfl
@[simp] theorem State.setModc_faults (s : State) (x : ModeControl) : (s.setModc x).faults = s.faults := rfl
@[simp] theorem State.setModc_cal (s : State) (x : ModeControl) : (s.setModc x).cal = s.cal := rfl
@[simp] theorem State.setModc_tma (s : State) (x : ModeControl) : (s.setModc x).tma = s.tma := rfl
@[simp] theorem State.setModc_eeprom (s : State) (x : ModeControl) : (s.setModc x).eeprom = s.eeprom := rfl
@[simp] theorem State.setModc_freeReads (s : State) (x : ModeControl) : (s.setModc x).freeReads = s.freeReads := rfl
/-- Writing back what stands changes nothing. -/
@[simp] theorem State.setModc_self (s : State) : s.setModc s.modc = s := rfl
/-- The later of two updates of one block stands. -/
@[simp] theorem State.setModc_setModc (s : State) (x y : ModeControl) : (s.setModc x).setModc y = s.setModc y := rfl

/-! ### State.setGov -/

@[simp] theorem State.setGov_pending (s : State) (x : Governor) : (s.setGov x).pending = s.pending := rfl
@[simp] theorem State.setGov_resetHeld (s : State) (x : Governor) : (s.setGov x).resetHeld = s.resetHeld := rfl
@[simp] theorem State.setGov_xmem (s : State) (x : Governor) : (s.setGov x).xmem = s.xmem := rfl
@[simp] theorem State.setGov_port (s : State) (x : Governor) : (s.setGov x).port = s.port := rfl
@[simp] theorem State.setGov_publisher (s : State) (x : Governor) : (s.setGov x).publisher = s.publisher := rfl
@[simp] theorem State.setGov_orders (s : State) (x : Governor) : (s.setGov x).orders = s.orders := rfl
@[simp] theorem State.setGov_modc (s : State) (x : Governor) : (s.setGov x).modc = s.modc := rfl
@[simp] theorem State.setGov_gov (s : State) (x : Governor) : (s.setGov x).gov = x := rfl
@[simp] theorem State.setGov_armc (s : State) (x : Governor) : (s.setGov x).armc = s.armc := rfl
@[simp] theorem State.setGov_watc (s : State) (x : Governor) : (s.setGov x).watc = s.watc := rfl
@[simp] theorem State.setGov_loadm (s : State) (x : Governor) : (s.setGov x).loadm = s.loadm := rfl
@[simp] theorem State.setGov_faults (s : State) (x : Governor) : (s.setGov x).faults = s.faults := rfl
@[simp] theorem State.setGov_cal (s : State) (x : Governor) : (s.setGov x).cal = s.cal := rfl
@[simp] theorem State.setGov_tma (s : State) (x : Governor) : (s.setGov x).tma = s.tma := rfl
@[simp] theorem State.setGov_eeprom (s : State) (x : Governor) : (s.setGov x).eeprom = s.eeprom := rfl
@[simp] theorem State.setGov_freeReads (s : State) (x : Governor) : (s.setGov x).freeReads = s.freeReads := rfl
/-- Writing back what stands changes nothing. -/
@[simp] theorem State.setGov_self (s : State) : s.setGov s.gov = s := rfl
/-- The later of two updates of one block stands. -/
@[simp] theorem State.setGov_setGov (s : State) (x y : Governor) : (s.setGov x).setGov y = s.setGov y := rfl

/-! ### State.setArmc -/

@[simp] theorem State.setArmc_pending (s : State) (x : ArmControl) : (s.setArmc x).pending = s.pending := rfl
@[simp] theorem State.setArmc_resetHeld (s : State) (x : ArmControl) : (s.setArmc x).resetHeld = s.resetHeld := rfl
@[simp] theorem State.setArmc_xmem (s : State) (x : ArmControl) : (s.setArmc x).xmem = s.xmem := rfl
@[simp] theorem State.setArmc_port (s : State) (x : ArmControl) : (s.setArmc x).port = s.port := rfl
@[simp] theorem State.setArmc_publisher (s : State) (x : ArmControl) : (s.setArmc x).publisher = s.publisher := rfl
@[simp] theorem State.setArmc_orders (s : State) (x : ArmControl) : (s.setArmc x).orders = s.orders := rfl
@[simp] theorem State.setArmc_modc (s : State) (x : ArmControl) : (s.setArmc x).modc = s.modc := rfl
@[simp] theorem State.setArmc_gov (s : State) (x : ArmControl) : (s.setArmc x).gov = s.gov := rfl
@[simp] theorem State.setArmc_armc (s : State) (x : ArmControl) : (s.setArmc x).armc = x := rfl
@[simp] theorem State.setArmc_watc (s : State) (x : ArmControl) : (s.setArmc x).watc = s.watc := rfl
@[simp] theorem State.setArmc_loadm (s : State) (x : ArmControl) : (s.setArmc x).loadm = s.loadm := rfl
@[simp] theorem State.setArmc_faults (s : State) (x : ArmControl) : (s.setArmc x).faults = s.faults := rfl
@[simp] theorem State.setArmc_cal (s : State) (x : ArmControl) : (s.setArmc x).cal = s.cal := rfl
@[simp] theorem State.setArmc_tma (s : State) (x : ArmControl) : (s.setArmc x).tma = s.tma := rfl
@[simp] theorem State.setArmc_eeprom (s : State) (x : ArmControl) : (s.setArmc x).eeprom = s.eeprom := rfl
@[simp] theorem State.setArmc_freeReads (s : State) (x : ArmControl) : (s.setArmc x).freeReads = s.freeReads := rfl
/-- Writing back what stands changes nothing. -/
@[simp] theorem State.setArmc_self (s : State) : s.setArmc s.armc = s := rfl
/-- The later of two updates of one block stands. -/
@[simp] theorem State.setArmc_setArmc (s : State) (x y : ArmControl) : (s.setArmc x).setArmc y = s.setArmc y := rfl

/-! ### State.setWatc -/

@[simp] theorem State.setWatc_pending (s : State) (x : WaterControl) : (s.setWatc x).pending = s.pending := rfl
@[simp] theorem State.setWatc_resetHeld (s : State) (x : WaterControl) : (s.setWatc x).resetHeld = s.resetHeld := rfl
@[simp] theorem State.setWatc_xmem (s : State) (x : WaterControl) : (s.setWatc x).xmem = s.xmem := rfl
@[simp] theorem State.setWatc_port (s : State) (x : WaterControl) : (s.setWatc x).port = s.port := rfl
@[simp] theorem State.setWatc_publisher (s : State) (x : WaterControl) : (s.setWatc x).publisher = s.publisher := rfl
@[simp] theorem State.setWatc_orders (s : State) (x : WaterControl) : (s.setWatc x).orders = s.orders := rfl
@[simp] theorem State.setWatc_modc (s : State) (x : WaterControl) : (s.setWatc x).modc = s.modc := rfl
@[simp] theorem State.setWatc_gov (s : State) (x : WaterControl) : (s.setWatc x).gov = s.gov := rfl
@[simp] theorem State.setWatc_armc (s : State) (x : WaterControl) : (s.setWatc x).armc = s.armc := rfl
@[simp] theorem State.setWatc_watc (s : State) (x : WaterControl) : (s.setWatc x).watc = x := rfl
@[simp] theorem State.setWatc_loadm (s : State) (x : WaterControl) : (s.setWatc x).loadm = s.loadm := rfl
@[simp] theorem State.setWatc_faults (s : State) (x : WaterControl) : (s.setWatc x).faults = s.faults := rfl
@[simp] theorem State.setWatc_cal (s : State) (x : WaterControl) : (s.setWatc x).cal = s.cal := rfl
@[simp] theorem State.setWatc_tma (s : State) (x : WaterControl) : (s.setWatc x).tma = s.tma := rfl
@[simp] theorem State.setWatc_eeprom (s : State) (x : WaterControl) : (s.setWatc x).eeprom = s.eeprom := rfl
@[simp] theorem State.setWatc_freeReads (s : State) (x : WaterControl) : (s.setWatc x).freeReads = s.freeReads := rfl
/-- Writing back what stands changes nothing. -/
@[simp] theorem State.setWatc_self (s : State) : s.setWatc s.watc = s := rfl
/-- The later of two updates of one block stands. -/
@[simp] theorem State.setWatc_setWatc (s : State) (x y : WaterControl) : (s.setWatc x).setWatc y = s.setWatc y := rfl

/-! ### State.setLoadm -/

@[simp] theorem State.setLoadm_pending (s : State) (x : LoadManager) : (s.setLoadm x).pending = s.pending := rfl
@[simp] theorem State.setLoadm_resetHeld (s : State) (x : LoadManager) : (s.setLoadm x).resetHeld = s.resetHeld := rfl
@[simp] theorem State.setLoadm_xmem (s : State) (x : LoadManager) : (s.setLoadm x).xmem = s.xmem := rfl
@[simp] theorem State.setLoadm_port (s : State) (x : LoadManager) : (s.setLoadm x).port = s.port := rfl
@[simp] theorem State.setLoadm_publisher (s : State) (x : LoadManager) : (s.setLoadm x).publisher = s.publisher := rfl
@[simp] theorem State.setLoadm_orders (s : State) (x : LoadManager) : (s.setLoadm x).orders = s.orders := rfl
@[simp] theorem State.setLoadm_modc (s : State) (x : LoadManager) : (s.setLoadm x).modc = s.modc := rfl
@[simp] theorem State.setLoadm_gov (s : State) (x : LoadManager) : (s.setLoadm x).gov = s.gov := rfl
@[simp] theorem State.setLoadm_armc (s : State) (x : LoadManager) : (s.setLoadm x).armc = s.armc := rfl
@[simp] theorem State.setLoadm_watc (s : State) (x : LoadManager) : (s.setLoadm x).watc = s.watc := rfl
@[simp] theorem State.setLoadm_loadm (s : State) (x : LoadManager) : (s.setLoadm x).loadm = x := rfl
@[simp] theorem State.setLoadm_faults (s : State) (x : LoadManager) : (s.setLoadm x).faults = s.faults := rfl
@[simp] theorem State.setLoadm_cal (s : State) (x : LoadManager) : (s.setLoadm x).cal = s.cal := rfl
@[simp] theorem State.setLoadm_tma (s : State) (x : LoadManager) : (s.setLoadm x).tma = s.tma := rfl
@[simp] theorem State.setLoadm_eeprom (s : State) (x : LoadManager) : (s.setLoadm x).eeprom = s.eeprom := rfl
@[simp] theorem State.setLoadm_freeReads (s : State) (x : LoadManager) : (s.setLoadm x).freeReads = s.freeReads := rfl
/-- Writing back what stands changes nothing. -/
@[simp] theorem State.setLoadm_self (s : State) : s.setLoadm s.loadm = s := rfl
/-- The later of two updates of one block stands. -/
@[simp] theorem State.setLoadm_setLoadm (s : State) (x y : LoadManager) : (s.setLoadm x).setLoadm y = s.setLoadm y := rfl

/-! ### State.setFaults -/

@[simp] theorem State.setFaults_pending (s : State) (x : FaultUnit) : (s.setFaults x).pending = s.pending := rfl
@[simp] theorem State.setFaults_resetHeld (s : State) (x : FaultUnit) : (s.setFaults x).resetHeld = s.resetHeld := rfl
@[simp] theorem State.setFaults_xmem (s : State) (x : FaultUnit) : (s.setFaults x).xmem = s.xmem := rfl
@[simp] theorem State.setFaults_port (s : State) (x : FaultUnit) : (s.setFaults x).port = s.port := rfl
@[simp] theorem State.setFaults_publisher (s : State) (x : FaultUnit) : (s.setFaults x).publisher = s.publisher := rfl
@[simp] theorem State.setFaults_orders (s : State) (x : FaultUnit) : (s.setFaults x).orders = s.orders := rfl
@[simp] theorem State.setFaults_modc (s : State) (x : FaultUnit) : (s.setFaults x).modc = s.modc := rfl
@[simp] theorem State.setFaults_gov (s : State) (x : FaultUnit) : (s.setFaults x).gov = s.gov := rfl
@[simp] theorem State.setFaults_armc (s : State) (x : FaultUnit) : (s.setFaults x).armc = s.armc := rfl
@[simp] theorem State.setFaults_watc (s : State) (x : FaultUnit) : (s.setFaults x).watc = s.watc := rfl
@[simp] theorem State.setFaults_loadm (s : State) (x : FaultUnit) : (s.setFaults x).loadm = s.loadm := rfl
@[simp] theorem State.setFaults_faults (s : State) (x : FaultUnit) : (s.setFaults x).faults = x := rfl
@[simp] theorem State.setFaults_cal (s : State) (x : FaultUnit) : (s.setFaults x).cal = s.cal := rfl
@[simp] theorem State.setFaults_tma (s : State) (x : FaultUnit) : (s.setFaults x).tma = s.tma := rfl
@[simp] theorem State.setFaults_eeprom (s : State) (x : FaultUnit) : (s.setFaults x).eeprom = s.eeprom := rfl
@[simp] theorem State.setFaults_freeReads (s : State) (x : FaultUnit) : (s.setFaults x).freeReads = s.freeReads := rfl
/-- Writing back what stands changes nothing. -/
@[simp] theorem State.setFaults_self (s : State) : s.setFaults s.faults = s := rfl
/-- The later of two updates of one block stands. -/
@[simp] theorem State.setFaults_setFaults (s : State) (x y : FaultUnit) : (s.setFaults x).setFaults y = s.setFaults y := rfl

/-! ### State.setCal -/

@[simp] theorem State.setCal_pending (s : State) (x : CalLoader) : (s.setCal x).pending = s.pending := rfl
@[simp] theorem State.setCal_resetHeld (s : State) (x : CalLoader) : (s.setCal x).resetHeld = s.resetHeld := rfl
@[simp] theorem State.setCal_xmem (s : State) (x : CalLoader) : (s.setCal x).xmem = s.xmem := rfl
@[simp] theorem State.setCal_port (s : State) (x : CalLoader) : (s.setCal x).port = s.port := rfl
@[simp] theorem State.setCal_publisher (s : State) (x : CalLoader) : (s.setCal x).publisher = s.publisher := rfl
@[simp] theorem State.setCal_orders (s : State) (x : CalLoader) : (s.setCal x).orders = s.orders := rfl
@[simp] theorem State.setCal_modc (s : State) (x : CalLoader) : (s.setCal x).modc = s.modc := rfl
@[simp] theorem State.setCal_gov (s : State) (x : CalLoader) : (s.setCal x).gov = s.gov := rfl
@[simp] theorem State.setCal_armc (s : State) (x : CalLoader) : (s.setCal x).armc = s.armc := rfl
@[simp] theorem State.setCal_watc (s : State) (x : CalLoader) : (s.setCal x).watc = s.watc := rfl
@[simp] theorem State.setCal_loadm (s : State) (x : CalLoader) : (s.setCal x).loadm = s.loadm := rfl
@[simp] theorem State.setCal_faults (s : State) (x : CalLoader) : (s.setCal x).faults = s.faults := rfl
@[simp] theorem State.setCal_cal (s : State) (x : CalLoader) : (s.setCal x).cal = x := rfl
@[simp] theorem State.setCal_tma (s : State) (x : CalLoader) : (s.setCal x).tma = s.tma := rfl
@[simp] theorem State.setCal_eeprom (s : State) (x : CalLoader) : (s.setCal x).eeprom = s.eeprom := rfl
@[simp] theorem State.setCal_freeReads (s : State) (x : CalLoader) : (s.setCal x).freeReads = s.freeReads := rfl
/-- Writing back what stands changes nothing. -/
@[simp] theorem State.setCal_self (s : State) : s.setCal s.cal = s := rfl
/-- The later of two updates of one block stands. -/
@[simp] theorem State.setCal_setCal (s : State) (x y : CalLoader) : (s.setCal x).setCal y = s.setCal y := rfl

/-! ### State.setTma -/

@[simp] theorem State.setTma_pending (s : State) (x : TimingArray) : (s.setTma x).pending = s.pending := rfl
@[simp] theorem State.setTma_resetHeld (s : State) (x : TimingArray) : (s.setTma x).resetHeld = s.resetHeld := rfl
@[simp] theorem State.setTma_xmem (s : State) (x : TimingArray) : (s.setTma x).xmem = s.xmem := rfl
@[simp] theorem State.setTma_port (s : State) (x : TimingArray) : (s.setTma x).port = s.port := rfl
@[simp] theorem State.setTma_publisher (s : State) (x : TimingArray) : (s.setTma x).publisher = s.publisher := rfl
@[simp] theorem State.setTma_orders (s : State) (x : TimingArray) : (s.setTma x).orders = s.orders := rfl
@[simp] theorem State.setTma_modc (s : State) (x : TimingArray) : (s.setTma x).modc = s.modc := rfl
@[simp] theorem State.setTma_gov (s : State) (x : TimingArray) : (s.setTma x).gov = s.gov := rfl
@[simp] theorem State.setTma_armc (s : State) (x : TimingArray) : (s.setTma x).armc = s.armc := rfl
@[simp] theorem State.setTma_watc (s : State) (x : TimingArray) : (s.setTma x).watc = s.watc := rfl
@[simp] theorem State.setTma_loadm (s : State) (x : TimingArray) : (s.setTma x).loadm = s.loadm := rfl
@[simp] theorem State.setTma_faults (s : State) (x : TimingArray) : (s.setTma x).faults = s.faults := rfl
@[simp] theorem State.setTma_cal (s : State) (x : TimingArray) : (s.setTma x).cal = s.cal := rfl
@[simp] theorem State.setTma_tma (s : State) (x : TimingArray) : (s.setTma x).tma = x := rfl
@[simp] theorem State.setTma_eeprom (s : State) (x : TimingArray) : (s.setTma x).eeprom = s.eeprom := rfl
@[simp] theorem State.setTma_freeReads (s : State) (x : TimingArray) : (s.setTma x).freeReads = s.freeReads := rfl
/-- Writing back what stands changes nothing. -/
@[simp] theorem State.setTma_self (s : State) : s.setTma s.tma = s := rfl
/-- The later of two updates of one block stands. -/
@[simp] theorem State.setTma_setTma (s : State) (x y : TimingArray) : (s.setTma x).setTma y = s.setTma y := rfl

/-! ### State.setEeprom -/

@[simp] theorem State.setEeprom_pending (s : State) (x : Eeprom) : (s.setEeprom x).pending = s.pending := rfl
@[simp] theorem State.setEeprom_resetHeld (s : State) (x : Eeprom) : (s.setEeprom x).resetHeld = s.resetHeld := rfl
@[simp] theorem State.setEeprom_xmem (s : State) (x : Eeprom) : (s.setEeprom x).xmem = s.xmem := rfl
@[simp] theorem State.setEeprom_port (s : State) (x : Eeprom) : (s.setEeprom x).port = s.port := rfl
@[simp] theorem State.setEeprom_publisher (s : State) (x : Eeprom) : (s.setEeprom x).publisher = s.publisher := rfl
@[simp] theorem State.setEeprom_orders (s : State) (x : Eeprom) : (s.setEeprom x).orders = s.orders := rfl
@[simp] theorem State.setEeprom_modc (s : State) (x : Eeprom) : (s.setEeprom x).modc = s.modc := rfl
@[simp] theorem State.setEeprom_gov (s : State) (x : Eeprom) : (s.setEeprom x).gov = s.gov := rfl
@[simp] theorem State.setEeprom_armc (s : State) (x : Eeprom) : (s.setEeprom x).armc = s.armc := rfl
@[simp] theorem State.setEeprom_watc (s : State) (x : Eeprom) : (s.setEeprom x).watc = s.watc := rfl
@[simp] theorem State.setEeprom_loadm (s : State) (x : Eeprom) : (s.setEeprom x).loadm = s.loadm := rfl
@[simp] theorem State.setEeprom_faults (s : State) (x : Eeprom) : (s.setEeprom x).faults = s.faults := rfl
@[simp] theorem State.setEeprom_cal (s : State) (x : Eeprom) : (s.setEeprom x).cal = s.cal := rfl
@[simp] theorem State.setEeprom_tma (s : State) (x : Eeprom) : (s.setEeprom x).tma = s.tma := rfl
@[simp] theorem State.setEeprom_eeprom (s : State) (x : Eeprom) : (s.setEeprom x).eeprom = x := rfl
@[simp] theorem State.setEeprom_freeReads (s : State) (x : Eeprom) : (s.setEeprom x).freeReads = s.freeReads := rfl
/-- Writing back what stands changes nothing. -/
@[simp] theorem State.setEeprom_self (s : State) : s.setEeprom s.eeprom = s := rfl
/-- The later of two updates of one block stands. -/
@[simp] theorem State.setEeprom_setEeprom (s : State) (x y : Eeprom) : (s.setEeprom x).setEeprom y = s.setEeprom y := rfl

/-! ### State.setFreeReads -/

@[simp] theorem State.setFreeReads_pending (s : State) (x : Nat) : (s.setFreeReads x).pending = s.pending := rfl
@[simp] theorem State.setFreeReads_resetHeld (s : State) (x : Nat) : (s.setFreeReads x).resetHeld = s.resetHeld := rfl
@[simp] theorem State.setFreeReads_xmem (s : State) (x : Nat) : (s.setFreeReads x).xmem = s.xmem := rfl
@[simp] theorem State.setFreeReads_port (s : State) (x : Nat) : (s.setFreeReads x).port = s.port := rfl
@[simp] theorem State.setFreeReads_publisher (s : State) (x : Nat) : (s.setFreeReads x).publisher = s.publisher := rfl
@[simp] theorem State.setFreeReads_orders (s : State) (x : Nat) : (s.setFreeReads x).orders = s.orders := rfl
@[simp] theorem State.setFreeReads_modc (s : State) (x : Nat) : (s.setFreeReads x).modc = s.modc := rfl
@[simp] theorem State.setFreeReads_gov (s : State) (x : Nat) : (s.setFreeReads x).gov = s.gov := rfl
@[simp] theorem State.setFreeReads_armc (s : State) (x : Nat) : (s.setFreeReads x).armc = s.armc := rfl
@[simp] theorem State.setFreeReads_watc (s : State) (x : Nat) : (s.setFreeReads x).watc = s.watc := rfl
@[simp] theorem State.setFreeReads_loadm (s : State) (x : Nat) : (s.setFreeReads x).loadm = s.loadm := rfl
@[simp] theorem State.setFreeReads_faults (s : State) (x : Nat) : (s.setFreeReads x).faults = s.faults := rfl
@[simp] theorem State.setFreeReads_cal (s : State) (x : Nat) : (s.setFreeReads x).cal = s.cal := rfl
@[simp] theorem State.setFreeReads_tma (s : State) (x : Nat) : (s.setFreeReads x).tma = s.tma := rfl
@[simp] theorem State.setFreeReads_eeprom (s : State) (x : Nat) : (s.setFreeReads x).eeprom = s.eeprom := rfl
@[simp] theorem State.setFreeReads_freeReads (s : State) (x : Nat) : (s.setFreeReads x).freeReads = x := rfl
/-- Writing back what stands changes nothing. -/
@[simp] theorem State.setFreeReads_self (s : State) : s.setFreeReads s.freeReads = s := rfl
/-- The later of two updates of one block stands. -/
@[simp] theorem State.setFreeReads_setFreeReads (s : State) (x y : Nat) : (s.setFreeReads x).setFreeReads y = s.setFreeReads y := rfl

end Sys2Proof.Machine
end

