-- ==== Sys2Proof/Laws/Frames.lean ====
section
/-! SUPPORT. What the shared operations leave alone: one lemma for each operation, naming every field of `State` it keeps, and the fields it keeps inside a block it touches in part. -/
namespace Sys2Proof.Machine

/-- What `xwrite` keeps. -/
@[simp] theorem xwrite_keeps (a : Nat) (v : Word) (s : State) :
    (xwrite a v s).pending = s.pending ∧ (xwrite a v s).resetHeld = s.resetHeld ∧ (xwrite a v s).port = s.port ∧
    (xwrite a v s).publisher = s.publisher ∧ (xwrite a v s).orders = s.orders ∧ (xwrite a v s).modc = s.modc ∧
    (xwrite a v s).gov = s.gov ∧ (xwrite a v s).armc = s.armc ∧ (xwrite a v s).watc = s.watc ∧
    (xwrite a v s).loadm = s.loadm ∧ (xwrite a v s).faults = s.faults ∧ (xwrite a v s).cal = s.cal ∧
    (xwrite a v s).tma = s.tma ∧ (xwrite a v s).eeprom = s.eeprom ∧ (xwrite a v s).freeReads = s.freeReads := by
  unfold xwrite; repeat' split
  all_goals simp

/-- What `xwriteList` keeps. -/
@[simp] theorem xwriteList_keeps (a : Nat) (vs : List Word) (s : State) :
    (xwriteList a vs s).pending = s.pending ∧ (xwriteList a vs s).resetHeld = s.resetHeld ∧
    (xwriteList a vs s).port = s.port ∧ (xwriteList a vs s).publisher = s.publisher ∧ (xwriteList a vs s).orders = s.orders ∧
    (xwriteList a vs s).modc = s.modc ∧ (xwriteList a vs s).gov = s.gov ∧ (xwriteList a vs s).armc = s.armc ∧
    (xwriteList a vs s).watc = s.watc ∧ (xwriteList a vs s).loadm = s.loadm ∧ (xwriteList a vs s).faults = s.faults ∧
    (xwriteList a vs s).cal = s.cal ∧ (xwriteList a vs s).tma = s.tma ∧ (xwriteList a vs s).eeprom = s.eeprom ∧
    (xwriteList a vs s).freeReads = s.freeReads := by
  induction vs generalizing a s with
  | nil => simp [xwriteList]
  | cons v vs ih => simp [xwriteList, ih]

/-- What `raiseCause` keeps. -/
@[simp] theorem raiseCause_keeps (c : Cause) (s : State) :
    (raiseCause c s).pending = s.pending ∧ (raiseCause c s).resetHeld = s.resetHeld ∧ (raiseCause c s).xmem = s.xmem ∧
    (raiseCause c s).publisher = s.publisher ∧ (raiseCause c s).orders = s.orders ∧ (raiseCause c s).modc = s.modc ∧
    (raiseCause c s).gov = s.gov ∧ (raiseCause c s).armc = s.armc ∧ (raiseCause c s).watc = s.watc ∧
    (raiseCause c s).loadm = s.loadm ∧ (raiseCause c s).faults = s.faults ∧ (raiseCause c s).cal = s.cal ∧
    (raiseCause c s).tma = s.tma ∧ (raiseCause c s).eeprom = s.eeprom ∧ (raiseCause c s).freeReads = s.freeReads ∧
    (raiseCause c s).port.check = s.port.check ∧ (raiseCause c s).port.window = s.port.window := by
  simp [raiseCause, HostPort.raise]

/-- What `raiseIf` keeps. -/
@[simp] theorem raiseIf_keeps (b : Bool) (c : Cause) (s : State) :
    (raiseIf b c s).pending = s.pending ∧ (raiseIf b c s).resetHeld = s.resetHeld ∧ (raiseIf b c s).xmem = s.xmem ∧
    (raiseIf b c s).publisher = s.publisher ∧ (raiseIf b c s).orders = s.orders ∧ (raiseIf b c s).modc = s.modc ∧
    (raiseIf b c s).gov = s.gov ∧ (raiseIf b c s).armc = s.armc ∧ (raiseIf b c s).watc = s.watc ∧
    (raiseIf b c s).loadm = s.loadm ∧ (raiseIf b c s).faults = s.faults ∧ (raiseIf b c s).cal = s.cal ∧
    (raiseIf b c s).tma = s.tma ∧ (raiseIf b c s).eeprom = s.eeprom ∧ (raiseIf b c s).freeReads = s.freeReads ∧
    (raiseIf b c s).port.check = s.port.check ∧ (raiseIf b c s).port.window = s.port.window := by
  unfold raiseIf; repeat' split
  all_goals simp

/-- What `writeResult` keeps. -/
@[simp] theorem writeResult_keeps (slot : Nat) (notify : BitVec 8) (r : Result) (detail depth elapsed : Nat) (s : State) :
    (writeResult slot notify r detail depth elapsed s).pending = s.pending ∧
    (writeResult slot notify r detail depth elapsed s).resetHeld = s.resetHeld ∧
    (writeResult slot notify r detail depth elapsed s).publisher = s.publisher ∧
    (writeResult slot notify r detail depth elapsed s).orders = s.orders ∧
    (writeResult slot notify r detail depth elapsed s).modc = s.modc ∧
    (writeResult slot notify r detail depth elapsed s).gov = s.gov ∧
    (writeResult slot notify r detail depth elapsed s).armc = s.armc ∧
    (writeResult slot notify r detail depth elapsed s).watc = s.watc ∧
    (writeResult slot notify r detail depth elapsed s).loadm = s.loadm ∧
    (writeResult slot notify r detail depth elapsed s).faults = s.faults ∧
    (writeResult slot notify r detail depth elapsed s).cal = s.cal ∧
    (writeResult slot notify r detail depth elapsed s).tma = s.tma ∧
    (writeResult slot notify r detail depth elapsed s).eeprom = s.eeprom ∧
    (writeResult slot notify r detail depth elapsed s).freeReads = s.freeReads ∧
    (writeResult slot notify r detail depth elapsed s).port.check = s.port.check ∧
    (writeResult slot notify r detail depth elapsed s).port.window = s.port.window := by
  simp [writeResult]

/-- What `countOrphan` keeps. -/
@[simp] theorem countOrphan_keeps (s : State) :
    (countOrphan s).pending = s.pending ∧ (countOrphan s).resetHeld = s.resetHeld ∧ (countOrphan s).xmem = s.xmem ∧
    (countOrphan s).port = s.port ∧ (countOrphan s).publisher = s.publisher ∧ (countOrphan s).modc = s.modc ∧
    (countOrphan s).gov = s.gov ∧ (countOrphan s).armc = s.armc ∧ (countOrphan s).watc = s.watc ∧
    (countOrphan s).loadm = s.loadm ∧ (countOrphan s).faults = s.faults ∧ (countOrphan s).cal = s.cal ∧
    (countOrphan s).tma = s.tma ∧ (countOrphan s).eeprom = s.eeprom ∧ (countOrphan s).freeReads = s.freeReads ∧
    (countOrphan s).orders.cursor = s.orders.cursor ∧ (countOrphan s).orders.entries = s.orders.entries ∧
    (countOrphan s).orders.stall = s.orders.stall := by
  simp [countOrphan]

/-- What `completeNow` keeps. -/
@[simp] theorem completeNow_keeps (t : Take) (r : Result) (detail : Nat) (s : State) :
    (completeNow t r detail s).pending = s.pending ∧ (completeNow t r detail s).resetHeld = s.resetHeld ∧
    (completeNow t r detail s).publisher = s.publisher ∧ (completeNow t r detail s).modc = s.modc ∧
    (completeNow t r detail s).gov = s.gov ∧ (completeNow t r detail s).armc = s.armc ∧
    (completeNow t r detail s).watc = s.watc ∧ (completeNow t r detail s).loadm = s.loadm ∧
    (completeNow t r detail s).faults = s.faults ∧ (completeNow t r detail s).cal = s.cal ∧
    (completeNow t r detail s).tma = s.tma ∧ (completeNow t r detail s).eeprom = s.eeprom ∧
    (completeNow t r detail s).freeReads = s.freeReads ∧ (completeNow t r detail s).port.check = s.port.check ∧
    (completeNow t r detail s).port.window = s.port.window ∧ (completeNow t r detail s).orders.cursor = s.orders.cursor ∧
    (completeNow t r detail s).orders.entries = s.orders.entries ∧ (completeNow t r detail s).orders.stall = s.orders.stall := by
  unfold completeNow; repeat' split
  all_goals simp

/-- What `removeEntry` keeps. -/
@[simp] theorem removeEntry_keeps (e : Entry) (s : State) :
    (removeEntry e s).pending = s.pending ∧ (removeEntry e s).resetHeld = s.resetHeld ∧ (removeEntry e s).xmem = s.xmem ∧
    (removeEntry e s).port = s.port ∧ (removeEntry e s).publisher = s.publisher ∧ (removeEntry e s).modc = s.modc ∧
    (removeEntry e s).gov = s.gov ∧ (removeEntry e s).armc = s.armc ∧ (removeEntry e s).watc = s.watc ∧
    (removeEntry e s).loadm = s.loadm ∧ (removeEntry e s).faults = s.faults ∧ (removeEntry e s).cal = s.cal ∧
    (removeEntry e s).tma = s.tma ∧ (removeEntry e s).eeprom = s.eeprom ∧ (removeEntry e s).freeReads = s.freeReads ∧
    (removeEntry e s).orders.cursor = s.orders.cursor ∧ (removeEntry e s).orders.orphans = s.orders.orphans := by
  simp [removeEntry]

/-- What `endEntry` keeps. -/
@[simp] theorem endEntry_keeps (e : Entry) (r : Result) (detail : Nat) (s : State) :
    (endEntry e r detail s).pending = s.pending ∧ (endEntry e r detail s).resetHeld = s.resetHeld ∧
    (endEntry e r detail s).publisher = s.publisher ∧ (endEntry e r detail s).modc = s.modc ∧
    (endEntry e r detail s).gov = s.gov ∧ (endEntry e r detail s).armc = s.armc ∧ (endEntry e r detail s).watc = s.watc ∧
    (endEntry e r detail s).loadm = s.loadm ∧ (endEntry e r detail s).faults = s.faults ∧
    (endEntry e r detail s).cal = s.cal ∧ (endEntry e r detail s).tma = s.tma ∧ (endEntry e r detail s).eeprom = s.eeprom ∧
    (endEntry e r detail s).freeReads = s.freeReads ∧ (endEntry e r detail s).port.check = s.port.check ∧
    (endEntry e r detail s).port.window = s.port.window ∧ (endEntry e r detail s).orders.cursor = s.orders.cursor := by
  unfold endEntry; repeat' split
  all_goals simp

/-- What `completionNotice` keeps. -/
@[simp] theorem completionNotice_keeps (target : Target) (slot : Nat) (time : BitVec 32) (r : Result) (detail : Nat) (s : State) :
    (completionNotice target slot time r detail s).pending = s.pending ∧
    (completionNotice target slot time r detail s).resetHeld = s.resetHeld ∧
    (completionNotice target slot time r detail s).publisher = s.publisher ∧
    (completionNotice target slot time r detail s).modc = s.modc ∧
    (completionNotice target slot time r detail s).gov = s.gov ∧
    (completionNotice target slot time r detail s).armc = s.armc ∧
    (completionNotice target slot time r detail s).watc = s.watc ∧
    (completionNotice target slot time r detail s).loadm = s.loadm ∧
    (completionNotice target slot time r detail s).faults = s.faults ∧
    (completionNotice target slot time r detail s).cal = s.cal ∧ (completionNotice target slot time r detail s).tma = s.tma ∧
    (completionNotice target slot time r detail s).eeprom = s.eeprom ∧
    (completionNotice target slot time r detail s).freeReads = s.freeReads ∧
    (completionNotice target slot time r detail s).port.check = s.port.check ∧
    (completionNotice target slot time r detail s).port.window = s.port.window ∧
    (completionNotice target slot time r detail s).orders.cursor = s.orders.cursor := by
  unfold completionNotice; repeat' split
  all_goals simp

/-- What `completeMode` keeps. -/
@[simp] theorem completeMode_keeps (kinds : List Nat) (r : Result) (detail : Nat) (s : State) :
    (completeMode kinds r detail s).pending = s.pending ∧ (completeMode kinds r detail s).resetHeld = s.resetHeld ∧
    (completeMode kinds r detail s).publisher = s.publisher ∧ (completeMode kinds r detail s).modc = s.modc ∧
    (completeMode kinds r detail s).gov = s.gov ∧ (completeMode kinds r detail s).armc = s.armc ∧
    (completeMode kinds r detail s).watc = s.watc ∧ (completeMode kinds r detail s).loadm = s.loadm ∧
    (completeMode kinds r detail s).faults = s.faults ∧ (completeMode kinds r detail s).cal = s.cal ∧
    (completeMode kinds r detail s).tma = s.tma ∧ (completeMode kinds r detail s).eeprom = s.eeprom ∧
    (completeMode kinds r detail s).freeReads = s.freeReads ∧ (completeMode kinds r detail s).port.check = s.port.check ∧
    (completeMode kinds r detail s).port.window = s.port.window ∧
    (completeMode kinds r detail s).orders.cursor = s.orders.cursor := by
  unfold completeMode; repeat' split
  all_goals simp

/-- What `supersede` keeps. -/
@[simp] theorem supersede_keeps (target : Target) (t : Take) (s : State) :
    (supersede target t s).pending = s.pending ∧ (supersede target t s).resetHeld = s.resetHeld ∧
    (supersede target t s).publisher = s.publisher ∧ (supersede target t s).modc = s.modc ∧
    (supersede target t s).gov = s.gov ∧ (supersede target t s).armc = s.armc ∧ (supersede target t s).watc = s.watc ∧
    (supersede target t s).loadm = s.loadm ∧ (supersede target t s).faults = s.faults ∧ (supersede target t s).cal = s.cal ∧
    (supersede target t s).tma = s.tma ∧ (supersede target t s).eeprom = s.eeprom ∧
    (supersede target t s).freeReads = s.freeReads ∧ (supersede target t s).port.check = s.port.check ∧
    (supersede target t s).port.window = s.port.window ∧ (supersede target t s).orders.cursor = s.orders.cursor := by
  unfold supersede; repeat' split
  all_goals simp

/-- What `openEntry` keeps. -/
@[simp] theorem openEntry_keeps (target : Target) (t : Take) (s : State) :
    (openEntry target t s).pending = s.pending ∧ (openEntry target t s).resetHeld = s.resetHeld ∧
    (openEntry target t s).port = s.port ∧ (openEntry target t s).publisher = s.publisher ∧
    (openEntry target t s).modc = s.modc ∧ (openEntry target t s).gov = s.gov ∧ (openEntry target t s).armc = s.armc ∧
    (openEntry target t s).watc = s.watc ∧ (openEntry target t s).loadm = s.loadm ∧
    (openEntry target t s).faults = s.faults ∧ (openEntry target t s).cal = s.cal ∧ (openEntry target t s).tma = s.tma ∧
    (openEntry target t s).eeprom = s.eeprom ∧ (openEntry target t s).freeReads = s.freeReads ∧
    (openEntry target t s).orders.cursor = s.orders.cursor ∧ (openEntry target t s).orders.orphans = s.orders.orphans ∧
    (openEntry target t s).orders.stall = s.orders.stall := by
  simp [openEntry]

/-- What `setOutputs` keeps. -/
@[simp] theorem setOutputs_keeps (o : Outputs) (s : State) :
    (setOutputs o s).pending = s.pending ∧ (setOutputs o s).resetHeld = s.resetHeld ∧ (setOutputs o s).xmem = s.xmem ∧
    (setOutputs o s).port = s.port ∧ (setOutputs o s).publisher = s.publisher ∧ (setOutputs o s).orders = s.orders ∧
    (setOutputs o s).modc = s.modc ∧ (setOutputs o s).gov = s.gov ∧ (setOutputs o s).armc = s.armc ∧
    (setOutputs o s).watc = s.watc ∧ (setOutputs o s).loadm = s.loadm ∧ (setOutputs o s).faults = s.faults ∧
    (setOutputs o s).cal = s.cal ∧ (setOutputs o s).eeprom = s.eeprom ∧ (setOutputs o s).freeReads = s.freeReads ∧
    (setOutputs o s).tma.clock = s.tma.clock ∧ (setOutputs o s).tma.stepsRunning = s.tma.stepsRunning ∧
    (setOutputs o s).tma.stripRunning = s.tma.stripRunning ∧ (setOutputs o s).tma.captures = s.tma.captures ∧
    (setOutputs o s).tma.inputs = s.tma.inputs ∧ (setOutputs o s).tma.trace = s.tma.trace := by
  simp [setOutputs]

/-- What `outputsOff` keeps. -/
@[simp] theorem outputsOff_keeps (s : State) :
    (outputsOff s).pending = s.pending ∧ (outputsOff s).resetHeld = s.resetHeld ∧ (outputsOff s).xmem = s.xmem ∧
    (outputsOff s).port = s.port ∧ (outputsOff s).publisher = s.publisher ∧ (outputsOff s).orders = s.orders ∧
    (outputsOff s).modc = s.modc ∧ (outputsOff s).gov = s.gov ∧ (outputsOff s).armc = s.armc ∧ (outputsOff s).watc = s.watc ∧
    (outputsOff s).loadm = s.loadm ∧ (outputsOff s).faults = s.faults ∧ (outputsOff s).cal = s.cal ∧
    (outputsOff s).eeprom = s.eeprom ∧ (outputsOff s).freeReads = s.freeReads ∧ (outputsOff s).tma.clock = s.tma.clock ∧
    (outputsOff s).tma.stepsRunning = s.tma.stepsRunning ∧ (outputsOff s).tma.stripRunning = s.tma.stripRunning ∧
    (outputsOff s).tma.captures = s.tma.captures ∧ (outputsOff s).tma.inputs = s.tma.inputs ∧
    (outputsOff s).tma.trace = s.tma.trace := by
  simp [outputsOff]

/-- What `handArm` keeps. -/
@[simp] theorem handArm_keeps (a : Arm) (lower raise : Bool) (press motor : Nat) (s : State) :
    (handArm a lower raise press motor s).pending = s.pending ∧
    (handArm a lower raise press motor s).resetHeld = s.resetHeld ∧ (handArm a lower raise press motor s).xmem = s.xmem ∧
    (handArm a lower raise press motor s).port = s.port ∧ (handArm a lower raise press motor s).publisher = s.publisher ∧
    (handArm a lower raise press motor s).orders = s.orders ∧ (handArm a lower raise press motor s).modc = s.modc ∧
    (handArm a lower raise press motor s).gov = s.gov ∧ (handArm a lower raise press motor s).armc = s.armc ∧
    (handArm a lower raise press motor s).watc = s.watc ∧ (handArm a lower raise press motor s).loadm = s.loadm ∧
    (handArm a lower raise press motor s).faults = s.faults ∧ (handArm a lower raise press motor s).cal = s.cal ∧
    (handArm a lower raise press motor s).eeprom = s.eeprom ∧ (handArm a lower raise press motor s).freeReads = s.freeReads ∧
    (handArm a lower raise press motor s).tma.clock = s.tma.clock ∧
    (handArm a lower raise press motor s).tma.stepsRunning = s.tma.stepsRunning ∧
    (handArm a lower raise press motor s).tma.stripRunning = s.tma.stripRunning ∧
    (handArm a lower raise press motor s).tma.captures = s.tma.captures ∧
    (handArm a lower raise press motor s).tma.inputs = s.tma.inputs ∧
    (handArm a lower raise press motor s).tma.trace = s.tma.trace := by
  cases a <;> simp [handArm]

/-- What `handRecord` keeps. -/
@[simp] theorem handRecord_keeps (a : Arm) (motor : Nat) (s : State) :
    (handRecord a motor s).pending = s.pending ∧ (handRecord a motor s).resetHeld = s.resetHeld ∧
    (handRecord a motor s).xmem = s.xmem ∧ (handRecord a motor s).port = s.port ∧
    (handRecord a motor s).publisher = s.publisher ∧ (handRecord a motor s).orders = s.orders ∧
    (handRecord a motor s).modc = s.modc ∧ (handRecord a motor s).gov = s.gov ∧ (handRecord a motor s).armc = s.armc ∧
    (handRecord a motor s).watc = s.watc ∧ (handRecord a motor s).loadm = s.loadm ∧
    (handRecord a motor s).faults = s.faults ∧ (handRecord a motor s).cal = s.cal ∧
    (handRecord a motor s).eeprom = s.eeprom ∧ (handRecord a motor s).freeReads = s.freeReads ∧
    (handRecord a motor s).tma.clock = s.tma.clock ∧ (handRecord a motor s).tma.stepsRunning = s.tma.stepsRunning ∧
    (handRecord a motor s).tma.stripRunning = s.tma.stripRunning ∧ (handRecord a motor s).tma.captures = s.tma.captures ∧
    (handRecord a motor s).tma.inputs = s.tma.inputs ∧ (handRecord a motor s).tma.trace = s.tma.trace := by
  simp [handRecord]

/-- What `handWater` keeps. -/
@[simp] theorem handWater_keeps (s : State) :
    (handWater s).pending = s.pending ∧ (handWater s).resetHeld = s.resetHeld ∧ (handWater s).xmem = s.xmem ∧
    (handWater s).port = s.port ∧ (handWater s).publisher = s.publisher ∧ (handWater s).orders = s.orders ∧
    (handWater s).modc = s.modc ∧ (handWater s).gov = s.gov ∧ (handWater s).armc = s.armc ∧ (handWater s).watc = s.watc ∧
    (handWater s).loadm = s.loadm ∧ (handWater s).faults = s.faults ∧ (handWater s).cal = s.cal ∧
    (handWater s).eeprom = s.eeprom ∧ (handWater s).freeReads = s.freeReads ∧ (handWater s).tma.clock = s.tma.clock ∧
    (handWater s).tma.stepsRunning = s.tma.stepsRunning ∧ (handWater s).tma.stripRunning = s.tma.stripRunning ∧
    (handWater s).tma.captures = s.tma.captures ∧ (handWater s).tma.inputs = s.tma.inputs ∧
    (handWater s).tma.trace = s.tma.trace := by
  simp [handWater]

/-- What `handTravel` keeps. -/
@[simp] theorem handTravel_keeps (fwd rev : Nat) (s : State) :
    (handTravel fwd rev s).pending = s.pending ∧ (handTravel fwd rev s).resetHeld = s.resetHeld ∧
    (handTravel fwd rev s).xmem = s.xmem ∧ (handTravel fwd rev s).port = s.port ∧
    (handTravel fwd rev s).publisher = s.publisher ∧ (handTravel fwd rev s).orders = s.orders ∧
    (handTravel fwd rev s).modc = s.modc ∧ (handTravel fwd rev s).gov = s.gov ∧ (handTravel fwd rev s).armc = s.armc ∧
    (handTravel fwd rev s).watc = s.watc ∧ (handTravel fwd rev s).loadm = s.loadm ∧
    (handTravel fwd rev s).faults = s.faults ∧ (handTravel fwd rev s).cal = s.cal ∧
    (handTravel fwd rev s).eeprom = s.eeprom ∧ (handTravel fwd rev s).freeReads = s.freeReads ∧
    (handTravel fwd rev s).tma.clock = s.tma.clock ∧ (handTravel fwd rev s).tma.stepsRunning = s.tma.stepsRunning ∧
    (handTravel fwd rev s).tma.stripRunning = s.tma.stripRunning ∧ (handTravel fwd rev s).tma.captures = s.tma.captures ∧
    (handTravel fwd rev s).tma.inputs = s.tma.inputs ∧ (handTravel fwd rev s).tma.trace = s.tma.trace := by
  simp [handTravel]

/-- What `setTotal` keeps. -/
@[simp] theorem setTotal_keeps (n : Nat) (s : State) :
    (setTotal n s).pending = s.pending ∧ (setTotal n s).resetHeld = s.resetHeld ∧ (setTotal n s).port = s.port ∧
    (setTotal n s).publisher = s.publisher ∧ (setTotal n s).orders = s.orders ∧ (setTotal n s).modc = s.modc ∧
    (setTotal n s).gov = s.gov ∧ (setTotal n s).armc = s.armc ∧ (setTotal n s).watc = s.watc ∧
    (setTotal n s).loadm = s.loadm ∧ (setTotal n s).cal = s.cal ∧ (setTotal n s).tma = s.tma ∧
    (setTotal n s).eeprom = s.eeprom ∧ (setTotal n s).freeReads = s.freeReads ∧
    (setTotal n s).faults.primary = s.faults.primary ∧ (setTotal n s).faults.severe = s.faults.severe ∧
    (setTotal n s).faults.active = s.faults.active ∧ (setTotal n s).faults.exclusions = s.faults.exclusions := by
  simp [setTotal]

/-- What `setActive` keeps. -/
@[simp] theorem setActive_keeps (x : BitVec 16) (s : State) :
    (setActive x s).pending = s.pending ∧ (setActive x s).resetHeld = s.resetHeld ∧ (setActive x s).port = s.port ∧
    (setActive x s).publisher = s.publisher ∧ (setActive x s).orders = s.orders ∧ (setActive x s).modc = s.modc ∧
    (setActive x s).gov = s.gov ∧ (setActive x s).armc = s.armc ∧ (setActive x s).watc = s.watc ∧
    (setActive x s).loadm = s.loadm ∧ (setActive x s).cal = s.cal ∧ (setActive x s).tma = s.tma ∧
    (setActive x s).eeprom = s.eeprom ∧ (setActive x s).freeReads = s.freeReads ∧
    (setActive x s).faults.exclusions = s.faults.exclusions := by
  simp [setActive]

/-- What `setExclusions` keeps. -/
@[simp] theorem setExclusions_keeps (x : Exclusions) (s : State) :
    (setExclusions x s).pending = s.pending ∧ (setExclusions x s).resetHeld = s.resetHeld ∧
    (setExclusions x s).port = s.port ∧ (setExclusions x s).publisher = s.publisher ∧ (setExclusions x s).orders = s.orders ∧
    (setExclusions x s).modc = s.modc ∧ (setExclusions x s).gov = s.gov ∧ (setExclusions x s).armc = s.armc ∧
    (setExclusions x s).watc = s.watc ∧ (setExclusions x s).loadm = s.loadm ∧ (setExclusions x s).cal = s.cal ∧
    (setExclusions x s).tma = s.tma ∧ (setExclusions x s).eeprom = s.eeprom ∧ (setExclusions x s).freeReads = s.freeReads ∧
    (setExclusions x s).faults.active = s.faults.active := by
  simp [setExclusions]

/-- What `writeRecord` keeps. -/
@[simp] theorem writeRecord_keeps (severe : Bool) (r : FaultRecord) (s : State) :
    (writeRecord severe r s).pending = s.pending ∧ (writeRecord severe r s).resetHeld = s.resetHeld ∧
    (writeRecord severe r s).publisher = s.publisher ∧ (writeRecord severe r s).orders = s.orders ∧
    (writeRecord severe r s).modc = s.modc ∧ (writeRecord severe r s).gov = s.gov ∧ (writeRecord severe r s).armc = s.armc ∧
    (writeRecord severe r s).watc = s.watc ∧ (writeRecord severe r s).loadm = s.loadm ∧
    (writeRecord severe r s).cal = s.cal ∧ (writeRecord severe r s).tma = s.tma ∧
    (writeRecord severe r s).eeprom = s.eeprom ∧ (writeRecord severe r s).freeReads = s.freeReads ∧
    (writeRecord severe r s).port.check = s.port.check ∧ (writeRecord severe r s).port.window = s.port.window ∧
    (writeRecord severe r s).faults.total = s.faults.total ∧ (writeRecord severe r s).faults.active = s.faults.active ∧
    (writeRecord severe r s).faults.exclusions = s.faults.exclusions := by
  cases severe <;> simp [writeRecord, FaultUnit.setServed]

/-- What `countFault` keeps. -/
@[simp] theorem countFault_keeps (severe : Bool) (k : FaultKind) (s : State) :
    (countFault severe k s).pending = s.pending ∧ (countFault severe k s).resetHeld = s.resetHeld ∧
    (countFault severe k s).port = s.port ∧ (countFault severe k s).publisher = s.publisher ∧
    (countFault severe k s).orders = s.orders ∧ (countFault severe k s).modc = s.modc ∧ (countFault severe k s).gov = s.gov ∧
    (countFault severe k s).armc = s.armc ∧ (countFault severe k s).watc = s.watc ∧ (countFault severe k s).loadm = s.loadm ∧
    (countFault severe k s).cal = s.cal ∧ (countFault severe k s).tma = s.tma ∧ (countFault severe k s).eeprom = s.eeprom ∧
    (countFault severe k s).freeReads = s.freeReads ∧ (countFault severe k s).faults.total = s.faults.total ∧
    (countFault severe k s).faults.active = s.faults.active ∧ (countFault severe k s).faults.exclusions = s.faults.exclusions := by
  cases severe <;> simp [countFault, FaultUnit.setServed]

/-- What `releaseHold` keeps. -/
@[simp] theorem releaseHold_keeps (severe : Bool) (s : State) :
    (releaseHold severe s).pending = s.pending ∧ (releaseHold severe s).resetHeld = s.resetHeld ∧
    (releaseHold severe s).port = s.port ∧ (releaseHold severe s).publisher = s.publisher ∧
    (releaseHold severe s).orders = s.orders ∧ (releaseHold severe s).modc = s.modc ∧ (releaseHold severe s).gov = s.gov ∧
    (releaseHold severe s).armc = s.armc ∧ (releaseHold severe s).watc = s.watc ∧ (releaseHold severe s).loadm = s.loadm ∧
    (releaseHold severe s).cal = s.cal ∧ (releaseHold severe s).tma = s.tma ∧ (releaseHold severe s).eeprom = s.eeprom ∧
    (releaseHold severe s).freeReads = s.freeReads ∧ (releaseHold severe s).faults.total = s.faults.total ∧
    (releaseHold severe s).faults.active = s.faults.active ∧ (releaseHold severe s).faults.exclusions = s.faults.exclusions := by
  unfold releaseHold; split <;> cases severe <;> simp [FaultUnit.setServed]

/-- What `recordOrCount` keeps. -/
@[simp] theorem recordOrCount_keeps (r : Report) (s : State) :
    (recordOrCount r s).pending = s.pending ∧ (recordOrCount r s).resetHeld = s.resetHeld ∧
    (recordOrCount r s).publisher = s.publisher ∧ (recordOrCount r s).orders = s.orders ∧ (recordOrCount r s).modc = s.modc ∧
    (recordOrCount r s).gov = s.gov ∧ (recordOrCount r s).armc = s.armc ∧ (recordOrCount r s).watc = s.watc ∧
    (recordOrCount r s).loadm = s.loadm ∧ (recordOrCount r s).cal = s.cal ∧ (recordOrCount r s).tma = s.tma ∧
    (recordOrCount r s).eeprom = s.eeprom ∧ (recordOrCount r s).freeReads = s.freeReads ∧
    (recordOrCount r s).port.check = s.port.check ∧ (recordOrCount r s).port.window = s.port.window ∧
    (recordOrCount r s).faults.total = s.faults.total ∧ (recordOrCount r s).faults.active = s.faults.active ∧
    (recordOrCount r s).faults.exclusions = s.faults.exclusions := by
  unfold recordOrCount; repeat' split
  all_goals simp

/-- What `latchExclusion` keeps. -/
@[simp] theorem latchExclusion_keeps (r : Report) (s : State) :
    (latchExclusion r s).pending = s.pending ∧ (latchExclusion r s).resetHeld = s.resetHeld ∧
    (latchExclusion r s).port = s.port ∧ (latchExclusion r s).publisher = s.publisher ∧
    (latchExclusion r s).orders = s.orders ∧ (latchExclusion r s).modc = s.modc ∧ (latchExclusion r s).gov = s.gov ∧
    (latchExclusion r s).armc = s.armc ∧ (latchExclusion r s).watc = s.watc ∧ (latchExclusion r s).loadm = s.loadm ∧
    (latchExclusion r s).cal = s.cal ∧ (latchExclusion r s).tma = s.tma ∧ (latchExclusion r s).eeprom = s.eeprom ∧
    (latchExclusion r s).freeReads = s.freeReads ∧ (latchExclusion r s).faults.active = s.faults.active := by
  unfold latchExclusion; repeat' split
  all_goals simp

/-- What `takeReport` keeps. -/
@[simp] theorem takeReport_keeps (r : Report) (s : State) :
    (takeReport r s).pending = s.pending ∧ (takeReport r s).resetHeld = s.resetHeld ∧
    (takeReport r s).publisher = s.publisher ∧ (takeReport r s).orders = s.orders ∧ (takeReport r s).modc = s.modc ∧
    (takeReport r s).gov = s.gov ∧ (takeReport r s).armc = s.armc ∧ (takeReport r s).watc = s.watc ∧
    (takeReport r s).loadm = s.loadm ∧ (takeReport r s).cal = s.cal ∧ (takeReport r s).tma = s.tma ∧
    (takeReport r s).eeprom = s.eeprom ∧ (takeReport r s).freeReads = s.freeReads ∧
    (takeReport r s).port.check = s.port.check ∧ (takeReport r s).port.window = s.port.window := by
  unfold takeReport; dsimp only; split <;> simp

/-- What `takeReports` keeps. -/
@[simp] theorem takeReports_keeps (rs : List Report) (s : State) :
    (takeReports rs s).pending = s.pending ∧ (takeReports rs s).resetHeld = s.resetHeld ∧
    (takeReports rs s).publisher = s.publisher ∧ (takeReports rs s).orders = s.orders ∧ (takeReports rs s).modc = s.modc ∧
    (takeReports rs s).gov = s.gov ∧ (takeReports rs s).armc = s.armc ∧ (takeReports rs s).watc = s.watc ∧
    (takeReports rs s).loadm = s.loadm ∧ (takeReports rs s).cal = s.cal ∧ (takeReports rs s).tma = s.tma ∧
    (takeReports rs s).eeprom = s.eeprom ∧ (takeReports rs s).freeReads = s.freeReads ∧
    (takeReports rs s).port.check = s.port.check ∧ (takeReports rs s).port.window = s.port.window := by
  induction rs generalizing s with
  | nil => simp [takeReports]
  | cons r rs ih => simp [takeReports, ih]

/-- What `conditionEnd` keeps. -/
@[simp] theorem conditionEnd_keeps (k : FaultKind) (s : State) :
    (conditionEnd k s).pending = s.pending ∧ (conditionEnd k s).resetHeld = s.resetHeld ∧ (conditionEnd k s).port = s.port ∧
    (conditionEnd k s).publisher = s.publisher ∧ (conditionEnd k s).orders = s.orders ∧ (conditionEnd k s).modc = s.modc ∧
    (conditionEnd k s).gov = s.gov ∧ (conditionEnd k s).armc = s.armc ∧ (conditionEnd k s).watc = s.watc ∧
    (conditionEnd k s).loadm = s.loadm ∧ (conditionEnd k s).cal = s.cal ∧ (conditionEnd k s).tma = s.tma ∧
    (conditionEnd k s).eeprom = s.eeprom ∧ (conditionEnd k s).freeReads = s.freeReads ∧
    (conditionEnd k s).faults.exclusions = s.faults.exclusions := by
  unfold conditionEnd; repeat' split
  all_goals simp

/-- What `endIf` keeps. -/
@[simp] theorem endIf_keeps (b : Bool) (k : FaultKind) (s : State) :
    (endIf b k s).pending = s.pending ∧ (endIf b k s).resetHeld = s.resetHeld ∧ (endIf b k s).port = s.port ∧
    (endIf b k s).publisher = s.publisher ∧ (endIf b k s).orders = s.orders ∧ (endIf b k s).modc = s.modc ∧
    (endIf b k s).gov = s.gov ∧ (endIf b k s).armc = s.armc ∧ (endIf b k s).watc = s.watc ∧ (endIf b k s).loadm = s.loadm ∧
    (endIf b k s).cal = s.cal ∧ (endIf b k s).tma = s.tma ∧ (endIf b k s).eeprom = s.eeprom ∧
    (endIf b k s).freeReads = s.freeReads ∧ (endIf b k s).faults.exclusions = s.faults.exclusions := by
  unfold endIf; repeat' split
  all_goals simp

/-- What `setArm` keeps. -/
@[simp] theorem setArm_keeps (a : Arm) (r : ArmRecord) (s : State) :
    (setArm a r s).pending = s.pending ∧ (setArm a r s).resetHeld = s.resetHeld ∧ (setArm a r s).xmem = s.xmem ∧
    (setArm a r s).port = s.port ∧ (setArm a r s).publisher = s.publisher ∧ (setArm a r s).orders = s.orders ∧
    (setArm a r s).modc = s.modc ∧ (setArm a r s).gov = s.gov ∧ (setArm a r s).watc = s.watc ∧
    (setArm a r s).loadm = s.loadm ∧ (setArm a r s).faults = s.faults ∧ (setArm a r s).cal = s.cal ∧
    (setArm a r s).tma = s.tma ∧ (setArm a r s).eeprom = s.eeprom ∧ (setArm a r s).freeReads = s.freeReads ∧
    (setArm a r s).armc.width = s.armc.width := by
  cases a <;> simp [setArm, ArmControl.set]

/-- What `publishWidth` keeps. -/
@[simp] theorem publishWidth_keeps (s : State) :
    (publishWidth s).pending = s.pending ∧ (publishWidth s).resetHeld = s.resetHeld ∧ (publishWidth s).xmem = s.xmem ∧
    (publishWidth s).port = s.port ∧ (publishWidth s).publisher = s.publisher ∧ (publishWidth s).orders = s.orders ∧
    (publishWidth s).modc = s.modc ∧ (publishWidth s).gov = s.gov ∧ (publishWidth s).watc = s.watc ∧
    (publishWidth s).loadm = s.loadm ∧ (publishWidth s).faults = s.faults ∧ (publishWidth s).cal = s.cal ∧
    (publishWidth s).tma = s.tma ∧ (publishWidth s).eeprom = s.eeprom ∧ (publishWidth s).freeReads = s.freeReads ∧
    (publishWidth s).armc.left = s.armc.left ∧ (publishWidth s).armc.right = s.armc.right ∧
    (publishWidth s).armc.main = s.armc.main := by
  simp [publishWidth]

/-- What `setArmAndWidth` keeps. -/
@[simp] theorem setArmAndWidth_keeps (a : Arm) (r : ArmRecord) (s : State) :
    (setArmAndWidth a r s).pending = s.pending ∧ (setArmAndWidth a r s).resetHeld = s.resetHeld ∧
    (setArmAndWidth a r s).xmem = s.xmem ∧ (setArmAndWidth a r s).port = s.port ∧
    (setArmAndWidth a r s).publisher = s.publisher ∧ (setArmAndWidth a r s).orders = s.orders ∧
    (setArmAndWidth a r s).modc = s.modc ∧ (setArmAndWidth a r s).gov = s.gov ∧ (setArmAndWidth a r s).watc = s.watc ∧
    (setArmAndWidth a r s).loadm = s.loadm ∧ (setArmAndWidth a r s).faults = s.faults ∧ (setArmAndWidth a r s).cal = s.cal ∧
    (setArmAndWidth a r s).tma = s.tma ∧ (setArmAndWidth a r s).eeprom = s.eeprom ∧
    (setArmAndWidth a r s).freeReads = s.freeReads := by
  simp [setArmAndWidth]

/-- What `failWaiting` keeps. -/
@[simp] theorem failWaiting_keeps (a : Arm) (w : Option ArmWait) (detail : Nat) (s : State) :
    (failWaiting a w detail s).pending = s.pending ∧ (failWaiting a w detail s).resetHeld = s.resetHeld ∧
    (failWaiting a w detail s).publisher = s.publisher ∧ (failWaiting a w detail s).modc = s.modc ∧
    (failWaiting a w detail s).gov = s.gov ∧ (failWaiting a w detail s).armc = s.armc ∧
    (failWaiting a w detail s).watc = s.watc ∧ (failWaiting a w detail s).loadm = s.loadm ∧
    (failWaiting a w detail s).faults = s.faults ∧ (failWaiting a w detail s).cal = s.cal ∧
    (failWaiting a w detail s).tma = s.tma ∧ (failWaiting a w detail s).eeprom = s.eeprom ∧
    (failWaiting a w detail s).freeReads = s.freeReads ∧ (failWaiting a w detail s).port.check = s.port.check ∧
    (failWaiting a w detail s).port.window = s.port.window ∧ (failWaiting a w detail s).orders.cursor = s.orders.cursor := by
  unfold failWaiting; repeat' split
  all_goals simp

/-- What `armOutNotice` keeps. -/
@[simp] theorem armOutNotice_keeps (a : Arm) (k : FaultKind) (s : State) :
    (armOutNotice a k s).pending = s.pending ∧ (armOutNotice a k s).resetHeld = s.resetHeld ∧
    (armOutNotice a k s).publisher = s.publisher ∧ (armOutNotice a k s).modc = s.modc ∧ (armOutNotice a k s).gov = s.gov ∧
    (armOutNotice a k s).watc = s.watc ∧ (armOutNotice a k s).loadm = s.loadm ∧ (armOutNotice a k s).faults = s.faults ∧
    (armOutNotice a k s).cal = s.cal ∧ (armOutNotice a k s).eeprom = s.eeprom ∧
    (armOutNotice a k s).freeReads = s.freeReads ∧ (armOutNotice a k s).tma.clock = s.tma.clock ∧
    (armOutNotice a k s).tma.stepsRunning = s.tma.stepsRunning ∧ (armOutNotice a k s).tma.stripRunning = s.tma.stripRunning ∧
    (armOutNotice a k s).tma.captures = s.tma.captures ∧ (armOutNotice a k s).tma.inputs = s.tma.inputs ∧
    (armOutNotice a k s).tma.trace = s.tma.trace ∧ (armOutNotice a k s).port.check = s.port.check ∧
    (armOutNotice a k s).port.window = s.port.window ∧ (armOutNotice a k s).orders.cursor = s.orders.cursor := by
  unfold armOutNotice; repeat' split
  all_goals simp

/-- What `armConditionEnd` keeps. -/
@[simp] theorem armConditionEnd_keeps (k : FaultKind) (s : State) :
    (armConditionEnd k s).pending = s.pending ∧ (armConditionEnd k s).resetHeld = s.resetHeld ∧
    (armConditionEnd k s).port = s.port ∧ (armConditionEnd k s).publisher = s.publisher ∧
    (armConditionEnd k s).orders = s.orders ∧ (armConditionEnd k s).modc = s.modc ∧ (armConditionEnd k s).gov = s.gov ∧
    (armConditionEnd k s).armc = s.armc ∧ (armConditionEnd k s).watc = s.watc ∧ (armConditionEnd k s).loadm = s.loadm ∧
    (armConditionEnd k s).cal = s.cal ∧ (armConditionEnd k s).tma = s.tma ∧ (armConditionEnd k s).eeprom = s.eeprom ∧
    (armConditionEnd k s).freeReads = s.freeReads ∧ (armConditionEnd k s).faults.exclusions = s.faults.exclusions := by
  simp [armConditionEnd]

/-- What `mapArms` keeps. -/
@[simp] theorem mapArms_keeps (f : Arm → ArmRecord → ArmRecord) (s : State) :
    (mapArms f s).pending = s.pending ∧ (mapArms f s).resetHeld = s.resetHeld ∧ (mapArms f s).xmem = s.xmem ∧
    (mapArms f s).port = s.port ∧ (mapArms f s).publisher = s.publisher ∧ (mapArms f s).orders = s.orders ∧
    (mapArms f s).modc = s.modc ∧ (mapArms f s).gov = s.gov ∧ (mapArms f s).watc = s.watc ∧ (mapArms f s).loadm = s.loadm ∧
    (mapArms f s).faults = s.faults ∧ (mapArms f s).cal = s.cal ∧ (mapArms f s).tma = s.tma ∧
    (mapArms f s).eeprom = s.eeprom ∧ (mapArms f s).freeReads = s.freeReads ∧ (mapArms f s).armc.width = s.armc.width := by
  simp [mapArms]

/-- What `handArmsOff` keeps. -/
@[simp] theorem handArmsOff_keeps (s : State) :
    (handArmsOff s).pending = s.pending ∧ (handArmsOff s).resetHeld = s.resetHeld ∧ (handArmsOff s).xmem = s.xmem ∧
    (handArmsOff s).port = s.port ∧ (handArmsOff s).publisher = s.publisher ∧ (handArmsOff s).orders = s.orders ∧
    (handArmsOff s).modc = s.modc ∧ (handArmsOff s).gov = s.gov ∧ (handArmsOff s).armc = s.armc ∧
    (handArmsOff s).watc = s.watc ∧ (handArmsOff s).loadm = s.loadm ∧ (handArmsOff s).faults = s.faults ∧
    (handArmsOff s).cal = s.cal ∧ (handArmsOff s).eeprom = s.eeprom ∧ (handArmsOff s).freeReads = s.freeReads ∧
    (handArmsOff s).tma.clock = s.tma.clock ∧ (handArmsOff s).tma.stepsRunning = s.tma.stepsRunning ∧
    (handArmsOff s).tma.stripRunning = s.tma.stripRunning ∧ (handArmsOff s).tma.captures = s.tma.captures ∧
    (handArmsOff s).tma.inputs = s.tma.inputs ∧ (handArmsOff s).tma.trace = s.tma.trace := by
  simp [handArmsOff]

/-- What `deriveArms` keeps. -/
@[simp] theorem deriveArms_keeps (s : State) :
    (deriveArms s).pending = s.pending ∧ (deriveArms s).resetHeld = s.resetHeld ∧ (deriveArms s).xmem = s.xmem ∧
    (deriveArms s).port = s.port ∧ (deriveArms s).publisher = s.publisher ∧ (deriveArms s).orders = s.orders ∧
    (deriveArms s).modc = s.modc ∧ (deriveArms s).gov = s.gov ∧ (deriveArms s).watc = s.watc ∧
    (deriveArms s).loadm = s.loadm ∧ (deriveArms s).faults = s.faults ∧ (deriveArms s).cal = s.cal ∧
    (deriveArms s).eeprom = s.eeprom ∧ (deriveArms s).freeReads = s.freeReads ∧ (deriveArms s).tma.clock = s.tma.clock ∧
    (deriveArms s).tma.stepsRunning = s.tma.stepsRunning ∧ (deriveArms s).tma.stripRunning = s.tma.stripRunning ∧
    (deriveArms s).tma.captures = s.tma.captures ∧ (deriveArms s).tma.inputs = s.tma.inputs ∧
    (deriveArms s).tma.trace = s.tma.trace := by
  simp [deriveArms]

/-- What `noticeWaiting` keeps. -/
@[simp] theorem noticeWaiting_keeps (new : Mode) (a : Arm) (s : State) :
    (noticeWaiting new a s).pending = s.pending ∧ (noticeWaiting new a s).resetHeld = s.resetHeld ∧
    (noticeWaiting new a s).publisher = s.publisher ∧ (noticeWaiting new a s).modc = s.modc ∧
    (noticeWaiting new a s).gov = s.gov ∧ (noticeWaiting new a s).watc = s.watc ∧ (noticeWaiting new a s).loadm = s.loadm ∧
    (noticeWaiting new a s).faults = s.faults ∧ (noticeWaiting new a s).cal = s.cal ∧ (noticeWaiting new a s).tma = s.tma ∧
    (noticeWaiting new a s).eeprom = s.eeprom ∧ (noticeWaiting new a s).freeReads = s.freeReads ∧
    (noticeWaiting new a s).port.check = s.port.check ∧ (noticeWaiting new a s).port.window = s.port.window ∧
    (noticeWaiting new a s).orders.cursor = s.orders.cursor := by
  unfold noticeWaiting; repeat' split
  all_goals simp

/-- What `govNotice` keeps. -/
@[simp] theorem govNotice_keeps (new : Mode) (s : State) :
    (govNotice new s).pending = s.pending ∧ (govNotice new s).resetHeld = s.resetHeld ∧
    (govNotice new s).publisher = s.publisher ∧ (govNotice new s).modc = s.modc ∧ (govNotice new s).armc = s.armc ∧
    (govNotice new s).watc = s.watc ∧ (govNotice new s).loadm = s.loadm ∧ (govNotice new s).faults = s.faults ∧
    (govNotice new s).cal = s.cal ∧ (govNotice new s).tma = s.tma ∧ (govNotice new s).eeprom = s.eeprom ∧
    (govNotice new s).freeReads = s.freeReads ∧ (govNotice new s).port.check = s.port.check ∧
    (govNotice new s).port.window = s.port.window ∧ (govNotice new s).gov.c = s.gov.c ∧
    (govNotice new s).gov.vAct = s.gov.vAct ∧ (govNotice new s).orders.cursor = s.orders.cursor := by
  unfold govNotice; repeat' split
  all_goals simp

/-- What `armNotice` keeps. -/
@[simp] theorem armNotice_keeps (prev new : Mode) (s : State) :
    (armNotice prev new s).pending = s.pending ∧ (armNotice prev new s).resetHeld = s.resetHeld ∧
    (armNotice prev new s).publisher = s.publisher ∧ (armNotice prev new s).modc = s.modc ∧
    (armNotice prev new s).gov = s.gov ∧ (armNotice prev new s).watc = s.watc ∧ (armNotice prev new s).loadm = s.loadm ∧
    (armNotice prev new s).cal = s.cal ∧ (armNotice prev new s).eeprom = s.eeprom ∧
    (armNotice prev new s).freeReads = s.freeReads ∧ (armNotice prev new s).tma.clock = s.tma.clock ∧
    (armNotice prev new s).tma.stepsRunning = s.tma.stepsRunning ∧
    (armNotice prev new s).tma.stripRunning = s.tma.stripRunning ∧ (armNotice prev new s).tma.captures = s.tma.captures ∧
    (armNotice prev new s).tma.inputs = s.tma.inputs ∧ (armNotice prev new s).tma.trace = s.tma.trace ∧
    (armNotice prev new s).port.check = s.port.check ∧ (armNotice prev new s).port.window = s.port.window ∧
    (armNotice prev new s).faults.exclusions = s.faults.exclusions ∧ (armNotice prev new s).orders.cursor = s.orders.cursor := by
  cases new <;> simp only [armNotice] <;> split <;> simp

/-- What `waterNotice` keeps. -/
@[simp] theorem waterNotice_keeps (new : Mode) (s : State) :
    (waterNotice new s).pending = s.pending ∧ (waterNotice new s).resetHeld = s.resetHeld ∧
    (waterNotice new s).xmem = s.xmem ∧ (waterNotice new s).port = s.port ∧ (waterNotice new s).publisher = s.publisher ∧
    (waterNotice new s).orders = s.orders ∧ (waterNotice new s).modc = s.modc ∧ (waterNotice new s).gov = s.gov ∧
    (waterNotice new s).armc = s.armc ∧ (waterNotice new s).loadm = s.loadm ∧ (waterNotice new s).faults = s.faults ∧
    (waterNotice new s).cal = s.cal ∧ (waterNotice new s).eeprom = s.eeprom ∧ (waterNotice new s).freeReads = s.freeReads ∧
    (waterNotice new s).tma.clock = s.tma.clock ∧ (waterNotice new s).tma.stepsRunning = s.tma.stepsRunning ∧
    (waterNotice new s).tma.stripRunning = s.tma.stripRunning ∧ (waterNotice new s).tma.captures = s.tma.captures ∧
    (waterNotice new s).tma.inputs = s.tma.inputs ∧ (waterNotice new s).tma.trace = s.tma.trace ∧
    (waterNotice new s).watc.override = s.watc.override ∧ (waterNotice new s).watc.mask = s.watc.mask ∧
    (waterNotice new s).watc.qAvail = s.watc.qAvail ∧ (waterNotice new s).watc.waterOut = s.watc.waterOut := by
  cases new <;> simp [waterNotice, primeIdle, stopSpray]

/-- What `loadNotice` keeps. -/
@[simp] theorem loadNotice_keeps (new : Mode) (s : State) :
    (loadNotice new s).pending = s.pending ∧ (loadNotice new s).resetHeld = s.resetHeld ∧ (loadNotice new s).port = s.port ∧
    (loadNotice new s).publisher = s.publisher ∧ (loadNotice new s).orders = s.orders ∧ (loadNotice new s).modc = s.modc ∧
    (loadNotice new s).gov = s.gov ∧ (loadNotice new s).armc = s.armc ∧ (loadNotice new s).watc = s.watc ∧
    (loadNotice new s).cal = s.cal ∧ (loadNotice new s).tma = s.tma ∧ (loadNotice new s).eeprom = s.eeprom ∧
    (loadNotice new s).freeReads = s.freeReads ∧ (loadNotice new s).faults.exclusions = s.faults.exclusions := by
  unfold loadNotice; repeat' split
  all_goals simp

/-- What `sendNotices` keeps. -/
@[simp] theorem sendNotices_keeps (prev new : Mode) (s : State) :
    (sendNotices prev new s).pending = s.pending ∧ (sendNotices prev new s).resetHeld = s.resetHeld ∧
    (sendNotices prev new s).publisher = s.publisher ∧ (sendNotices prev new s).modc = s.modc ∧
    (sendNotices prev new s).cal = s.cal ∧ (sendNotices prev new s).eeprom = s.eeprom ∧
    (sendNotices prev new s).freeReads = s.freeReads ∧ (sendNotices prev new s).tma.clock = s.tma.clock ∧
    (sendNotices prev new s).tma.stepsRunning = s.tma.stepsRunning ∧
    (sendNotices prev new s).tma.stripRunning = s.tma.stripRunning ∧ (sendNotices prev new s).tma.captures = s.tma.captures ∧
    (sendNotices prev new s).tma.inputs = s.tma.inputs ∧ (sendNotices prev new s).tma.trace = s.tma.trace ∧
    (sendNotices prev new s).port.check = s.port.check ∧ (sendNotices prev new s).port.window = s.port.window ∧
    (sendNotices prev new s).faults.exclusions = s.faults.exclusions ∧ (sendNotices prev new s).gov.c = s.gov.c ∧
    (sendNotices prev new s).gov.vAct = s.gov.vAct ∧ (sendNotices prev new s).orders.cursor = s.orders.cursor ∧
    (sendNotices prev new s).watc.override = s.watc.override ∧ (sendNotices prev new s).watc.mask = s.watc.mask ∧
    (sendNotices prev new s).watc.qAvail = s.watc.qAvail ∧ (sendNotices prev new s).watc.waterOut = s.watc.waterOut := by
  simp [sendNotices]

/-- What `stowRequests` keeps. -/
@[simp] theorem stowRequests_keeps (s : State) :
    (stowRequests s).pending = s.pending ∧ (stowRequests s).resetHeld = s.resetHeld ∧ (stowRequests s).xmem = s.xmem ∧
    (stowRequests s).port = s.port ∧ (stowRequests s).publisher = s.publisher ∧ (stowRequests s).orders = s.orders ∧
    (stowRequests s).modc = s.modc ∧ (stowRequests s).gov = s.gov ∧ (stowRequests s).watc = s.watc ∧
    (stowRequests s).loadm = s.loadm ∧ (stowRequests s).faults = s.faults ∧ (stowRequests s).cal = s.cal ∧
    (stowRequests s).tma = s.tma ∧ (stowRequests s).eeprom = s.eeprom ∧ (stowRequests s).freeReads = s.freeReads ∧
    (stowRequests s).armc.width = s.armc.width := by
  simp [stowRequests]

/-- What `changeMode` keeps. -/
@[simp] theorem changeMode_keeps (new : Mode) (reason : Nat) (s : State) :
    (changeMode new reason s).pending = s.pending ∧ (changeMode new reason s).resetHeld = s.resetHeld ∧
    (changeMode new reason s).publisher = s.publisher ∧ (changeMode new reason s).cal = s.cal ∧
    (changeMode new reason s).eeprom = s.eeprom ∧ (changeMode new reason s).freeReads = s.freeReads ∧
    (changeMode new reason s).tma.clock = s.tma.clock ∧ (changeMode new reason s).tma.stepsRunning = s.tma.stepsRunning ∧
    (changeMode new reason s).tma.stripRunning = s.tma.stripRunning ∧
    (changeMode new reason s).tma.captures = s.tma.captures ∧ (changeMode new reason s).tma.inputs = s.tma.inputs ∧
    (changeMode new reason s).tma.trace = s.tma.trace ∧ (changeMode new reason s).port.check = s.port.check ∧
    (changeMode new reason s).port.window = s.port.window ∧
    (changeMode new reason s).faults.exclusions = s.faults.exclusions ∧ (changeMode new reason s).gov.c = s.gov.c ∧
    (changeMode new reason s).gov.vAct = s.gov.vAct ∧ (changeMode new reason s).orders.cursor = s.orders.cursor ∧
    (changeMode new reason s).watc.override = s.watc.override ∧ (changeMode new reason s).watc.mask = s.watc.mask ∧
    (changeMode new reason s).watc.qAvail = s.watc.qAvail ∧ (changeMode new reason s).watc.waterOut = s.watc.waterOut ∧
    (changeMode new reason s).modc.haltLatch = s.modc.haltLatch ∧ (changeMode new reason s).modc.wake = s.modc.wake ∧
    (changeMode new reason s).modc.profile = s.modc.profile := by
  unfold changeMode; dsimp only; repeat' split
  all_goals simp

/-- What `enterSafe` keeps. -/
@[simp] theorem enterSafe_keeps (k : FaultKind) (halt : Bool) (s : State) :
    (enterSafe k halt s).pending = s.pending ∧ (enterSafe k halt s).resetHeld = s.resetHeld ∧
    (enterSafe k halt s).publisher = s.publisher ∧ (enterSafe k halt s).cal = s.cal ∧
    (enterSafe k halt s).eeprom = s.eeprom ∧ (enterSafe k halt s).freeReads = s.freeReads ∧
    (enterSafe k halt s).tma.clock = s.tma.clock ∧ (enterSafe k halt s).tma.stepsRunning = s.tma.stepsRunning ∧
    (enterSafe k halt s).tma.stripRunning = s.tma.stripRunning ∧ (enterSafe k halt s).tma.captures = s.tma.captures ∧
    (enterSafe k halt s).tma.inputs = s.tma.inputs ∧ (enterSafe k halt s).tma.trace = s.tma.trace ∧
    (enterSafe k halt s).port.check = s.port.check ∧ (enterSafe k halt s).port.window = s.port.window ∧
    (enterSafe k halt s).faults.exclusions = s.faults.exclusions ∧ (enterSafe k halt s).gov.c = s.gov.c ∧
    (enterSafe k halt s).gov.vAct = s.gov.vAct ∧ (enterSafe k halt s).orders.cursor = s.orders.cursor ∧
    (enterSafe k halt s).watc.override = s.watc.override ∧ (enterSafe k halt s).watc.mask = s.watc.mask ∧
    (enterSafe k halt s).watc.qAvail = s.watc.qAvail ∧ (enterSafe k halt s).watc.waterOut = s.watc.waterOut ∧
    (enterSafe k halt s).modc.wake = s.modc.wake ∧ (enterSafe k halt s).modc.profile = s.modc.profile := by
  unfold enterSafe; cases s.modc.mode <;> simp

/-- What `waterOutNotice` keeps. -/
@[simp] theorem waterOutNotice_keeps (s : State) :
    (waterOutNotice s).pending = s.pending ∧ (waterOutNotice s).resetHeld = s.resetHeld ∧ (waterOutNotice s).xmem = s.xmem ∧
    (waterOutNotice s).port = s.port ∧ (waterOutNotice s).publisher = s.publisher ∧ (waterOutNotice s).orders = s.orders ∧
    (waterOutNotice s).modc = s.modc ∧ (waterOutNotice s).gov = s.gov ∧ (waterOutNotice s).armc = s.armc ∧
    (waterOutNotice s).loadm = s.loadm ∧ (waterOutNotice s).faults = s.faults ∧ (waterOutNotice s).cal = s.cal ∧
    (waterOutNotice s).eeprom = s.eeprom ∧ (waterOutNotice s).freeReads = s.freeReads ∧
    (waterOutNotice s).tma.clock = s.tma.clock ∧ (waterOutNotice s).tma.stepsRunning = s.tma.stepsRunning ∧
    (waterOutNotice s).tma.stripRunning = s.tma.stripRunning ∧ (waterOutNotice s).tma.captures = s.tma.captures ∧
    (waterOutNotice s).tma.inputs = s.tma.inputs ∧ (waterOutNotice s).tma.trace = s.tma.trace ∧
    (waterOutNotice s).watc.override = s.watc.override ∧ (waterOutNotice s).watc.mask = s.watc.mask := by
  unfold waterOutNotice; split <;> simp [stopSpray]

/-- What `react` keeps. -/
@[simp] theorem react_keeps (r : Report) (s : State) :
    (react r s).pending = s.pending ∧ (react r s).resetHeld = s.resetHeld ∧ (react r s).publisher = s.publisher ∧
    (react r s).cal = s.cal ∧ (react r s).eeprom = s.eeprom ∧ (react r s).freeReads = s.freeReads ∧
    (react r s).tma.clock = s.tma.clock ∧ (react r s).tma.stepsRunning = s.tma.stepsRunning ∧
    (react r s).tma.stripRunning = s.tma.stripRunning ∧ (react r s).tma.captures = s.tma.captures ∧
    (react r s).tma.inputs = s.tma.inputs ∧ (react r s).tma.trace = s.tma.trace ∧ (react r s).port.check = s.port.check ∧
    (react r s).port.window = s.port.window ∧ (react r s).faults.exclusions = s.faults.exclusions ∧
    (react r s).gov.c = s.gov.c ∧ (react r s).gov.vAct = s.gov.vAct ∧ (react r s).orders.cursor = s.orders.cursor ∧
    (react r s).watc.override = s.watc.override ∧ (react r s).watc.mask = s.watc.mask ∧ (react r s).modc.wake = s.modc.wake ∧
    (react r s).modc.profile = s.modc.profile := by
  unfold react; repeat' split
  all_goals simp

/-- What `reactAll` keeps. -/
@[simp] theorem reactAll_keeps (rs : List Report) (s : State) :
    (reactAll rs s).pending = s.pending ∧ (reactAll rs s).resetHeld = s.resetHeld ∧ (reactAll rs s).publisher = s.publisher ∧
    (reactAll rs s).cal = s.cal ∧ (reactAll rs s).eeprom = s.eeprom ∧ (reactAll rs s).freeReads = s.freeReads ∧
    (reactAll rs s).tma.clock = s.tma.clock ∧ (reactAll rs s).tma.stepsRunning = s.tma.stepsRunning ∧
    (reactAll rs s).tma.stripRunning = s.tma.stripRunning ∧ (reactAll rs s).tma.captures = s.tma.captures ∧
    (reactAll rs s).tma.inputs = s.tma.inputs ∧ (reactAll rs s).tma.trace = s.tma.trace ∧
    (reactAll rs s).port.check = s.port.check ∧ (reactAll rs s).port.window = s.port.window ∧
    (reactAll rs s).faults.exclusions = s.faults.exclusions ∧ (reactAll rs s).gov.c = s.gov.c ∧
    (reactAll rs s).gov.vAct = s.gov.vAct ∧ (reactAll rs s).orders.cursor = s.orders.cursor ∧
    (reactAll rs s).watc.override = s.watc.override ∧ (reactAll rs s).watc.mask = s.watc.mask ∧
    (reactAll rs s).modc.wake = s.modc.wake ∧ (reactAll rs s).modc.profile = s.modc.profile := by
  induction rs generalizing s with
  | nil => simp [reactAll]
  | cons r rs ih => simp [reactAll, ih]

/-- What `reportBatch` keeps. -/
@[simp] theorem reportBatch_keeps (rs : List Report) (s : State) :
    (reportBatch rs s).pending = s.pending ∧ (reportBatch rs s).resetHeld = s.resetHeld ∧
    (reportBatch rs s).publisher = s.publisher ∧ (reportBatch rs s).cal = s.cal ∧ (reportBatch rs s).eeprom = s.eeprom ∧
    (reportBatch rs s).freeReads = s.freeReads ∧ (reportBatch rs s).tma.clock = s.tma.clock ∧
    (reportBatch rs s).tma.stepsRunning = s.tma.stepsRunning ∧ (reportBatch rs s).tma.stripRunning = s.tma.stripRunning ∧
    (reportBatch rs s).tma.captures = s.tma.captures ∧ (reportBatch rs s).tma.inputs = s.tma.inputs ∧
    (reportBatch rs s).tma.trace = s.tma.trace ∧ (reportBatch rs s).port.check = s.port.check ∧
    (reportBatch rs s).port.window = s.port.window ∧ (reportBatch rs s).gov.c = s.gov.c ∧
    (reportBatch rs s).gov.vAct = s.gov.vAct ∧ (reportBatch rs s).orders.cursor = s.orders.cursor ∧
    (reportBatch rs s).watc.override = s.watc.override ∧ (reportBatch rs s).watc.mask = s.watc.mask ∧
    (reportBatch rs s).modc.wake = s.modc.wake ∧ (reportBatch rs s).modc.profile = s.modc.profile := by
  simp [reportBatch]

/-- What `disarmCheck` keeps. -/
@[simp] theorem disarmCheck_keeps (s : State) :
    (disarmCheck s).pending = s.pending ∧ (disarmCheck s).resetHeld = s.resetHeld ∧ (disarmCheck s).xmem = s.xmem ∧
    (disarmCheck s).publisher = s.publisher ∧ (disarmCheck s).orders = s.orders ∧ (disarmCheck s).modc = s.modc ∧
    (disarmCheck s).gov = s.gov ∧ (disarmCheck s).armc = s.armc ∧ (disarmCheck s).watc = s.watc ∧
    (disarmCheck s).loadm = s.loadm ∧ (disarmCheck s).faults = s.faults ∧ (disarmCheck s).cal = s.cal ∧
    (disarmCheck s).tma = s.tma ∧ (disarmCheck s).eeprom = s.eeprom ∧ (disarmCheck s).freeReads = s.freeReads ∧
    (disarmCheck s).port.pendingSet = s.port.pendingSet ∧ (disarmCheck s).port.enableSet = s.port.enableSet ∧
    (disarmCheck s).port.windowLength = s.port.windowLength := by
  simp [disarmCheck]

/-- What `replaceRequest` keeps. -/
@[simp] theorem replaceRequest_keeps (speed : Nat) (dir : Direction) (s : State) :
    (replaceRequest speed dir s).pending = s.pending ∧ (replaceRequest speed dir s).resetHeld = s.resetHeld ∧
    (replaceRequest speed dir s).xmem = s.xmem ∧ (replaceRequest speed dir s).port = s.port ∧
    (replaceRequest speed dir s).publisher = s.publisher ∧ (replaceRequest speed dir s).orders = s.orders ∧
    (replaceRequest speed dir s).modc = s.modc ∧ (replaceRequest speed dir s).armc = s.armc ∧
    (replaceRequest speed dir s).watc = s.watc ∧ (replaceRequest speed dir s).loadm = s.loadm ∧
    (replaceRequest speed dir s).faults = s.faults ∧ (replaceRequest speed dir s).cal = s.cal ∧
    (replaceRequest speed dir s).tma = s.tma ∧ (replaceRequest speed dir s).eeprom = s.eeprom ∧
    (replaceRequest speed dir s).freeReads = s.freeReads ∧ (replaceRequest speed dir s).gov.c = s.gov.c ∧
    (replaceRequest speed dir s).gov.vAct = s.gov.vAct ∧ (replaceRequest speed dir s).gov.waiting = s.gov.waiting := by
  simp [replaceRequest]

/-- What `setTravelWait` keeps. -/
@[simp] theorem setTravelWait_keeps (w : Option TravelWait) (s : State) :
    (setTravelWait w s).pending = s.pending ∧ (setTravelWait w s).resetHeld = s.resetHeld ∧
    (setTravelWait w s).xmem = s.xmem ∧ (setTravelWait w s).port = s.port ∧ (setTravelWait w s).publisher = s.publisher ∧
    (setTravelWait w s).orders = s.orders ∧ (setTravelWait w s).modc = s.modc ∧ (setTravelWait w s).armc = s.armc ∧
    (setTravelWait w s).watc = s.watc ∧ (setTravelWait w s).loadm = s.loadm ∧ (setTravelWait w s).faults = s.faults ∧
    (setTravelWait w s).cal = s.cal ∧ (setTravelWait w s).tma = s.tma ∧ (setTravelWait w s).eeprom = s.eeprom ∧
    (setTravelWait w s).freeReads = s.freeReads ∧ (setTravelWait w s).gov.c = s.gov.c ∧
    (setTravelWait w s).gov.vAct = s.gov.vAct ∧ (setTravelWait w s).gov.reqSpeed = s.gov.reqSpeed ∧
    (setTravelWait w s).gov.reqDir = s.gov.reqDir ∧ (setTravelWait w s).gov.reversePending = s.gov.reversePending := by
  simp [setTravelWait]

/-- What `endEntries` keeps. -/
@[simp] theorem endEntries_keeps (r : Result) (detail : Nat) (es : List Entry) (s : State) :
    (endEntries r detail es s).pending = s.pending ∧ (endEntries r detail es s).resetHeld = s.resetHeld ∧
    (endEntries r detail es s).publisher = s.publisher ∧ (endEntries r detail es s).modc = s.modc ∧
    (endEntries r detail es s).gov = s.gov ∧ (endEntries r detail es s).armc = s.armc ∧
    (endEntries r detail es s).watc = s.watc ∧ (endEntries r detail es s).loadm = s.loadm ∧
    (endEntries r detail es s).faults = s.faults ∧ (endEntries r detail es s).cal = s.cal ∧
    (endEntries r detail es s).tma = s.tma ∧ (endEntries r detail es s).eeprom = s.eeprom ∧
    (endEntries r detail es s).freeReads = s.freeReads ∧ (endEntries r detail es s).port.check = s.port.check ∧
    (endEntries r detail es s).port.window = s.port.window ∧ (endEntries r detail es s).orders.cursor = s.orders.cursor := by
  induction es generalizing s with
  | nil => simp [endEntries]
  | cons e es ih => simp [endEntries, ih]

/-- What `publish` keeps. -/
@[simp] theorem publish_keeps (s : State) :
    (publish s).pending = s.pending ∧ (publish s).resetHeld = s.resetHeld ∧ (publish s).port = s.port ∧
    (publish s).orders = s.orders ∧ (publish s).modc = s.modc ∧ (publish s).gov = s.gov ∧ (publish s).armc = s.armc ∧
    (publish s).watc = s.watc ∧ (publish s).loadm = s.loadm ∧ (publish s).faults = s.faults ∧ (publish s).cal = s.cal ∧
    (publish s).tma = s.tma ∧ (publish s).eeprom = s.eeprom ∧ (publish s).freeReads = s.freeReads ∧
    (publish s).publisher.traceCount = s.publisher.traceCount := by
  simp only [publish, xwriteList_keeps]; simp

/-- What `setTrace` keeps. -/
@[simp] theorem setTrace_keeps (t : Trace) (s : State) :
    (setTrace t s).pending = s.pending ∧ (setTrace t s).resetHeld = s.resetHeld ∧ (setTrace t s).xmem = s.xmem ∧
    (setTrace t s).port = s.port ∧ (setTrace t s).publisher = s.publisher ∧ (setTrace t s).orders = s.orders ∧
    (setTrace t s).modc = s.modc ∧ (setTrace t s).gov = s.gov ∧ (setTrace t s).armc = s.armc ∧ (setTrace t s).watc = s.watc ∧
    (setTrace t s).loadm = s.loadm ∧ (setTrace t s).faults = s.faults ∧ (setTrace t s).cal = s.cal ∧
    (setTrace t s).eeprom = s.eeprom ∧ (setTrace t s).freeReads = s.freeReads ∧ (setTrace t s).tma.clock = s.tma.clock ∧
    (setTrace t s).tma.stepsRunning = s.tma.stepsRunning ∧ (setTrace t s).tma.stripRunning = s.tma.stripRunning ∧
    (setTrace t s).tma.captures = s.tma.captures ∧ (setTrace t s).tma.inputs = s.tma.inputs ∧
    (setTrace t s).tma.outputs = s.tma.outputs := by
  simp [setTrace]

/-- What `writeTrace` keeps. -/
@[simp] theorem writeTrace_keeps (s : State) :
    (writeTrace s).pending = s.pending ∧ (writeTrace s).resetHeld = s.resetHeld ∧ (writeTrace s).orders = s.orders ∧
    (writeTrace s).modc = s.modc ∧ (writeTrace s).gov = s.gov ∧ (writeTrace s).armc = s.armc ∧ (writeTrace s).watc = s.watc ∧
    (writeTrace s).loadm = s.loadm ∧ (writeTrace s).faults = s.faults ∧ (writeTrace s).cal = s.cal ∧
    (writeTrace s).tma = s.tma ∧ (writeTrace s).eeprom = s.eeprom ∧ (writeTrace s).freeReads = s.freeReads ∧
    (writeTrace s).port.check = s.port.check ∧ (writeTrace s).port.window = s.port.window ∧
    (writeTrace s).publisher.headCount = s.publisher.headCount := by
  simp [writeTrace]

/-- What `countDistance` keeps. -/
@[simp] theorem countDistance_keeps (w : Wheel) (s : State) :
    (countDistance w s).pending = s.pending ∧ (countDistance w s).resetHeld = s.resetHeld ∧
    (countDistance w s).orders = s.orders ∧ (countDistance w s).modc = s.modc ∧ (countDistance w s).gov = s.gov ∧
    (countDistance w s).armc = s.armc ∧ (countDistance w s).watc = s.watc ∧ (countDistance w s).loadm = s.loadm ∧
    (countDistance w s).faults = s.faults ∧ (countDistance w s).cal = s.cal ∧ (countDistance w s).eeprom = s.eeprom ∧
    (countDistance w s).freeReads = s.freeReads ∧ (countDistance w s).port.check = s.port.check ∧
    (countDistance w s).port.window = s.port.window ∧ (countDistance w s).publisher.headCount = s.publisher.headCount ∧
    (countDistance w s).tma.clock = s.tma.clock ∧ (countDistance w s).tma.stepsRunning = s.tma.stepsRunning ∧
    (countDistance w s).tma.stripRunning = s.tma.stripRunning ∧ (countDistance w s).tma.captures = s.tma.captures ∧
    (countDistance w s).tma.inputs = s.tma.inputs ∧ (countDistance w s).tma.outputs = s.tma.outputs := by
  unfold countDistance; dsimp only; repeat' split
  all_goals simp

/-- What `writeArea` keeps. -/
@[simp] theorem writeArea_keeps (ws : List Word) (s : State) :
    (writeArea ws s).pending = s.pending ∧ (writeArea ws s).resetHeld = s.resetHeld ∧ (writeArea ws s).port = s.port ∧
    (writeArea ws s).publisher = s.publisher ∧ (writeArea ws s).orders = s.orders ∧ (writeArea ws s).modc = s.modc ∧
    (writeArea ws s).gov = s.gov ∧ (writeArea ws s).armc = s.armc ∧ (writeArea ws s).watc = s.watc ∧
    (writeArea ws s).loadm = s.loadm ∧ (writeArea ws s).faults = s.faults ∧ (writeArea ws s).cal = s.cal ∧
    (writeArea ws s).tma = s.tma ∧ (writeArea ws s).eeprom = s.eeprom ∧ (writeArea ws s).freeReads = s.freeReads := by
  simp [writeArea]

/-- What `applyWheelTimeout` keeps. -/
@[simp] theorem applyWheelTimeout_keeps (s : State) :
    (applyWheelTimeout s).pending = s.pending ∧ (applyWheelTimeout s).resetHeld = s.resetHeld ∧
    (applyWheelTimeout s).xmem = s.xmem ∧ (applyWheelTimeout s).port = s.port ∧
    (applyWheelTimeout s).publisher = s.publisher ∧ (applyWheelTimeout s).orders = s.orders ∧
    (applyWheelTimeout s).modc = s.modc ∧ (applyWheelTimeout s).gov = s.gov ∧ (applyWheelTimeout s).armc = s.armc ∧
    (applyWheelTimeout s).watc = s.watc ∧ (applyWheelTimeout s).loadm = s.loadm ∧ (applyWheelTimeout s).faults = s.faults ∧
    (applyWheelTimeout s).cal = s.cal ∧ (applyWheelTimeout s).eeprom = s.eeprom ∧
    (applyWheelTimeout s).freeReads = s.freeReads ∧ (applyWheelTimeout s).tma.clock = s.tma.clock ∧
    (applyWheelTimeout s).tma.stepsRunning = s.tma.stepsRunning ∧
    (applyWheelTimeout s).tma.stripRunning = s.tma.stripRunning ∧ (applyWheelTimeout s).tma.inputs = s.tma.inputs ∧
    (applyWheelTimeout s).tma.trace = s.tma.trace ∧ (applyWheelTimeout s).tma.outputs = s.tma.outputs := by
  simp [applyWheelTimeout]

/-- What `finishStore` keeps. -/
@[simp] theorem finishStore_keeps (r : Result) (detail : Nat) (s : State) :
    (finishStore r detail s).pending = s.pending ∧ (finishStore r detail s).resetHeld = s.resetHeld ∧
    (finishStore r detail s).publisher = s.publisher ∧ (finishStore r detail s).modc = s.modc ∧
    (finishStore r detail s).gov = s.gov ∧ (finishStore r detail s).armc = s.armc ∧ (finishStore r detail s).watc = s.watc ∧
    (finishStore r detail s).loadm = s.loadm ∧ (finishStore r detail s).faults = s.faults ∧
    (finishStore r detail s).tma = s.tma ∧ (finishStore r detail s).eeprom = s.eeprom ∧
    (finishStore r detail s).freeReads = s.freeReads ∧ (finishStore r detail s).port.check = s.port.check ∧
    (finishStore r detail s).port.window = s.port.window ∧ (finishStore r detail s).orders.cursor = s.orders.cursor ∧
    (finishStore r detail s).cal.working = s.cal.working ∧ (finishStore r detail s).cal.status = s.cal.status ∧
    (finishStore r detail s).cal.loadDone = s.cal.loadDone ∧ (finishStore r detail s).cal.buffer = s.cal.buffer ∧
    (finishStore r detail s).cal.page = s.cal.page := by
  unfold finishStore; dsimp only; split <;> simp

/-- What `advanceCursor` keeps. -/
@[simp] theorem advanceCursor_keeps (s : State) :
    (advanceCursor s).pending = s.pending ∧ (advanceCursor s).resetHeld = s.resetHeld ∧ (advanceCursor s).xmem = s.xmem ∧
    (advanceCursor s).port = s.port ∧ (advanceCursor s).publisher = s.publisher ∧ (advanceCursor s).modc = s.modc ∧
    (advanceCursor s).gov = s.gov ∧ (advanceCursor s).armc = s.armc ∧ (advanceCursor s).watc = s.watc ∧
    (advanceCursor s).loadm = s.loadm ∧ (advanceCursor s).faults = s.faults ∧ (advanceCursor s).cal = s.cal ∧
    (advanceCursor s).tma = s.tma ∧ (advanceCursor s).eeprom = s.eeprom ∧ (advanceCursor s).freeReads = s.freeReads ∧
    (advanceCursor s).orders.entries = s.orders.entries ∧ (advanceCursor s).orders.orphans = s.orders.orphans ∧
    (advanceCursor s).orders.stall = s.orders.stall := by
  simp [advanceCursor]

/-- What `stallScan` keeps. -/
@[simp] theorem stallScan_keeps (s : State) :
    (stallScan s).pending = s.pending ∧ (stallScan s).resetHeld = s.resetHeld ∧ (stallScan s).xmem = s.xmem ∧
    (stallScan s).publisher = s.publisher ∧ (stallScan s).modc = s.modc ∧ (stallScan s).gov = s.gov ∧
    (stallScan s).armc = s.armc ∧ (stallScan s).watc = s.watc ∧ (stallScan s).loadm = s.loadm ∧
    (stallScan s).faults = s.faults ∧ (stallScan s).cal = s.cal ∧ (stallScan s).tma = s.tma ∧
    (stallScan s).eeprom = s.eeprom ∧ (stallScan s).freeReads = s.freeReads ∧ (stallScan s).port.check = s.port.check ∧
    (stallScan s).port.window = s.port.window ∧ (stallScan s).orders.entries = s.orders.entries ∧
    (stallScan s).orders.orphans = s.orders.orphans ∧ (stallScan s).orders.cursor = s.orders.cursor := by
  simp [stallScan]

/-- What `clearTrims` keeps. -/
@[simp] theorem clearTrims_keeps (s : State) :
    (clearTrims s).pending = s.pending ∧ (clearTrims s).resetHeld = s.resetHeld ∧ (clearTrims s).xmem = s.xmem ∧
    (clearTrims s).port = s.port ∧ (clearTrims s).publisher = s.publisher ∧ (clearTrims s).orders = s.orders ∧
    (clearTrims s).modc = s.modc ∧ (clearTrims s).loadm = s.loadm ∧ (clearTrims s).faults = s.faults ∧
    (clearTrims s).cal = s.cal ∧ (clearTrims s).tma = s.tma ∧ (clearTrims s).eeprom = s.eeprom ∧
    (clearTrims s).freeReads = s.freeReads ∧ (clearTrims s).gov.c = s.gov.c ∧ (clearTrims s).gov.vAct = s.gov.vAct ∧
    (clearTrims s).gov.reqSpeed = s.gov.reqSpeed ∧ (clearTrims s).gov.reqDir = s.gov.reqDir ∧
    (clearTrims s).gov.reversePending = s.gov.reversePending ∧ (clearTrims s).gov.waiting = s.gov.waiting ∧
    (clearTrims s).armc.width = s.armc.width := by
  simp [clearTrims]

/-- What `handWorking` keeps. -/
@[simp] theorem handWorking_keeps (a : Arm) (s : State) :
    (handWorking a s).pending = s.pending ∧ (handWorking a s).resetHeld = s.resetHeld ∧ (handWorking a s).xmem = s.xmem ∧
    (handWorking a s).port = s.port ∧ (handWorking a s).publisher = s.publisher ∧ (handWorking a s).orders = s.orders ∧
    (handWorking a s).modc = s.modc ∧ (handWorking a s).gov = s.gov ∧ (handWorking a s).armc = s.armc ∧
    (handWorking a s).watc = s.watc ∧ (handWorking a s).loadm = s.loadm ∧ (handWorking a s).faults = s.faults ∧
    (handWorking a s).cal = s.cal ∧ (handWorking a s).eeprom = s.eeprom ∧ (handWorking a s).freeReads = s.freeReads ∧
    (handWorking a s).tma.clock = s.tma.clock ∧ (handWorking a s).tma.stepsRunning = s.tma.stepsRunning ∧
    (handWorking a s).tma.stripRunning = s.tma.stripRunning ∧ (handWorking a s).tma.captures = s.tma.captures ∧
    (handWorking a s).tma.inputs = s.tma.inputs ∧ (handWorking a s).tma.trace = s.tma.trace := by
  simp [handWorking]

/-- What `setPhase` keeps. -/
@[simp] theorem setPhase_keeps (p : Phase) (s : State) :
    (setPhase p s).pending = s.pending ∧ (setPhase p s).resetHeld = s.resetHeld ∧ (setPhase p s).xmem = s.xmem ∧
    (setPhase p s).port = s.port ∧ (setPhase p s).publisher = s.publisher ∧ (setPhase p s).orders = s.orders ∧
    (setPhase p s).gov = s.gov ∧ (setPhase p s).armc = s.armc ∧ (setPhase p s).watc = s.watc ∧
    (setPhase p s).loadm = s.loadm ∧ (setPhase p s).faults = s.faults ∧ (setPhase p s).cal = s.cal ∧
    (setPhase p s).tma = s.tma ∧ (setPhase p s).eeprom = s.eeprom ∧ (setPhase p s).freeReads = s.freeReads ∧
    (setPhase p s).modc.mode = s.modc.mode ∧ (setPhase p s).modc.reason = s.modc.reason ∧
    (setPhase p s).modc.commanded = s.modc.commanded ∧ (setPhase p s).modc.settle = s.modc.settle ∧
    (setPhase p s).modc.budget = s.modc.budget ∧ (setPhase p s).modc.haltLatch = s.modc.haltLatch ∧
    (setPhase p s).modc.wake = s.modc.wake ∧ (setPhase p s).modc.profile = s.modc.profile ∧
    (setPhase p s).modc.startupComplete = s.modc.startupComplete := by
  simp [setPhase]

end Sys2Proof.Machine
end

