-- ==== Sys2Proof/Laws/Memory.lean ====
section
/-! SUPPORT. The laws of addressed storage: a read after a write, every other word left alone, the canonical form kept; and what they say of exchange memory. -/
namespace Sys2Proof.Machine

/-! ### One list of words -/

/-- Below the first address of a rising memory nothing is listed. -/
theorem memory_read_below (d : Word) (m : Memory) (low a : Nat) (h : Memory.rising low m = true) (ha : a < low) :
    Memory.read d m a = d := by
  induction m generalizing low with
  | nil => rfl
  | cons e m ih =>
    obtain ⟨k, v⟩ := e
    simp only [Memory.rising, Bool.and_eq_true, decide_eq_true_eq] at h
    have hk : k ≠ a := by omega
    simp only [Memory.read, hk, if_false]
    exact ih (k + 1) h.2 (by omega)

/-- A read after a write to the same address gives the value written. -/
theorem memory_read_write_same (d : Word) (m : Memory) (low a : Nat) (v : Word) (h : Memory.rising low m = true) :
    Memory.read d (Memory.write d m a v) a = v := by
  induction m generalizing low with
  | nil => by_cases hv : v = d <;> simp [Memory.write, Memory.read, hv]
  | cons e m ih =>
    obtain ⟨k, w⟩ := e
    simp only [Memory.rising, Bool.and_eq_true, decide_eq_true_eq] at h
    unfold Memory.write
    split
    · rename_i hlt
      split
      · rename_i hv
        rw [memory_read_below d _ k a (by simp [Memory.rising, h.2]) hlt, hv]
      · simp [Memory.read]
    · split
      · rename_i hak
        split
        · rename_i hv
          rw [memory_read_below d _ (k + 1) a h.2 (by omega), hv]
        · simp [Memory.read]
      · rename_i hak
        have hka : k ≠ a := fun e => hak e.symm
        simp only [Memory.read, hka, if_false]
        exact ih (k + 1) h.2

/-- A write leaves every other address alone. -/
theorem memory_read_write_other (d : Word) (m : Memory) (a b : Nat) (v : Word) (h : b ≠ a) :
    Memory.read d (Memory.write d m a v) b = Memory.read d m b := by
  induction m with
  | nil => by_cases hv : v = d <;> simp [Memory.write, Memory.read, hv, h.symm]
  | cons e m ih =>
    obtain ⟨k, w⟩ := e
    unfold Memory.write
    split
    · split <;> simp [Memory.read, h.symm]
    · split
      · rename_i hak
        subst hak
        split <;> simp [Memory.read, h.symm]
      · simp [Memory.read, ih]

/-- A write keeps the addresses rising. -/
theorem memory_write_rising (d : Word) (m : Memory) (low a : Nat) (v : Word) (h : Memory.rising low m = true) (ha : low ≤ a) :
    Memory.rising low (Memory.write d m a v) = true := by
  induction m generalizing low with
  | nil => by_cases hv : v = d <;> simp [Memory.write, Memory.rising, hv, ha]
  | cons e m ih =>
    obtain ⟨k, w⟩ := e
    simp only [Memory.rising, Bool.and_eq_true, decide_eq_true_eq] at h
    unfold Memory.write
    split
    · split
      · simp [Memory.rising, h]
      · simp [Memory.rising, h.2, ha]; omega
    · split
      · rename_i hak
        subst hak
        split
        · exact rising_weaken h.2 (by omega)
        · simp [Memory.rising, h.2, ha]
      · simp only [Memory.rising, Bool.and_eq_true, decide_eq_true_eq]
        exact ⟨h.1, ih (k + 1) h.2 (by omega)⟩
where
  rising_weaken {m : Memory} {l l' : Nat} (h : Memory.rising l m = true) (hl : l' ≤ l) : Memory.rising l' m = true := by
    cases m with
    | nil => rfl
    | cons e m =>
      simp only [Memory.rising, Bool.and_eq_true, decide_eq_true_eq] at h ⊢
      exact ⟨by omega, h.2⟩

/-- A write adds no cell but its own. -/
theorem memory_write_all (d : Word) (m : Memory) (a : Nat) (v : Word) (p : Nat × Word → Bool) (hm : m.all p = true)
    (hv : v ≠ d → p (a, v) = true) : (Memory.write d m a v).all p = true := by
  induction m with
  | nil => by_cases h : v = d <;> simp [Memory.write, h, hv]
  | cons e m ih =>
    obtain ⟨k, w⟩ := e
    simp only [List.all_cons, Bool.and_eq_true] at hm
    unfold Memory.write
    repeat' split
    all_goals simp_all

/-- A write keeps the canonical form. -/
theorem memory_write_wf (d : Word) (size : Nat) (m : Memory) (a : Nat) (v : Word) (h : Memory.wf d size m = true) (ha : a < size) :
    Memory.wf d size (Memory.write d m a v) = true := by
  simp only [Memory.wf, Bool.and_eq_true] at h ⊢
  exact ⟨memory_write_rising d m 0 a v h.1 (Nat.zero_le a),
    memory_write_all d m a v _ h.2 (fun hv => by simp [ha, hv])⟩

/-- A list of writes keeps the canonical form. -/
theorem memory_writeList_wf (d : Word) (size : Nat) (m : Memory) (a : Nat) (vs : List Word) (h : Memory.wf d size m = true)
    (ha : a + vs.length ≤ size) : Memory.wf d size (Memory.writeList d m a vs) = true := by
  induction vs generalizing m a with
  | nil => exact h
  | cons v vs ih =>
    simp only [List.length_cons] at ha
    exact ih _ _ (memory_write_wf d size m a v h (by omega)) (by omega)

/-- A list of writes leaves every address outside it alone. -/
theorem memory_read_writeList_other (d : Word) (m : Memory) (a b : Nat) (vs : List Word) (h : b < a ∨ a + vs.length ≤ b) :
    Memory.read d (Memory.writeList d m a vs) b = Memory.read d m b := by
  induction vs generalizing m a with
  | nil => rfl
  | cons v vs ih =>
    simp only [List.length_cons] at h
    simp only [Memory.writeList]
    rw [ih _ _ (by omega), memory_read_write_other d m a b v (by omega)]

/-- A read inside a list of writes gives the word written there. -/
theorem memory_read_writeList_same (d : Word) (m : Memory) (a i : Nat) (vs : List Word) (h : Memory.rising 0 m = true)
    (hi : i < vs.length) : Memory.read d (Memory.writeList d m a vs) (a + i) = vs.getD i d := by
  induction vs generalizing m a i with
  | nil => simp at hi
  | cons v vs ih =>
    simp only [List.length_cons] at hi
    simp only [Memory.writeList]
    cases i with
    | zero =>
      show Memory.read d (Memory.writeList d (Memory.write d m a v) (a + 1) vs) a = v
      rw [memory_read_writeList_other _ _ _ _ _ (by omega), memory_read_write_same d m 0 a v h]
    | succ i =>
      rw [show a + (i + 1) = a + 1 + i by omega,
        ih (Memory.write d m a v) (a + 1) i (memory_write_rising d m 0 a v h (Nat.zero_le a)) (by omega)]
      rfl

/-! ### Exchange memory -/

/-- The canonical form lists rising addresses. -/
theorem State.xmemWf.rising {s : State} (h : s.xmemWf) : Memory.rising 0 s.xmem = true := by
  simp only [State.xmemWf, Memory.wf, Bool.and_eq_true] at h
  exact h.1

/-- A write keeps exchange memory canonical. -/
theorem xwrite_xmemWf (a : Nat) (v : Word) (s : State) (h : s.xmemWf) : (xwrite a v s).xmemWf := by
  unfold xwrite
  split
  · exact memory_write_wf _ _ _ _ _ h ‹_›
  · exact h

/-- A list of writes keeps exchange memory canonical. -/
theorem xwriteList_xmemWf (a : Nat) (vs : List Word) (s : State) (h : s.xmemWf) : (xwriteList a vs s).xmemWf := by
  induction vs generalizing a s with
  | nil => exact h
  | cons v vs ih => exact ih _ _ (xwrite_xmemWf _ _ _ h)

/-- A read after a write to the same word. -/
theorem xread_xwrite_same (a : Nat) (v : Word) (s : State) (h : s.xmemWf) (ha : a < 8192) : (xwrite a v s).xread a = v := by
  have ha' : a < Config.xmemWords := ha
  simp only [xwrite, ha', if_true, State.xread, State.setXmem_xmem]
  exact memory_read_write_same _ _ 0 _ _ h.rising

/-- A write leaves every other word alone. -/
theorem xread_xwrite_other (a b : Nat) (v : Word) (s : State) (h : b ≠ a) : (xwrite a v s).xread b = s.xread b := by
  unfold xwrite
  split
  · exact memory_read_write_other _ _ _ _ _ h
  · rfl

/-- A list of writes leaves every word outside it alone. -/
theorem xread_xwriteList_other (a b : Nat) (vs : List Word) (s : State) (h : b < a ∨ a + vs.length ≤ b) :
    (xwriteList a vs s).xread b = s.xread b := by
  induction vs generalizing a s with
  | nil => rfl
  | cons v vs ih =>
    simp only [List.length_cons] at h
    simp only [xwriteList]
    rw [ih _ _ (by omega), xread_xwrite_other _ _ _ _ (by omega)]

/-- A read inside a list of writes gives the word written there. -/
theorem xread_xwriteList_same (a i : Nat) (vs : List Word) (s : State) (h : s.xmemWf) (hi : i < vs.length)
    (ha : a + vs.length ≤ 8192) : (xwriteList a vs s).xread (a + i) = vs.getD i 0 := by
  induction vs generalizing a s i with
  | nil => simp at hi
  | cons v vs ih =>
    simp only [List.length_cons] at hi ha
    simp only [xwriteList]
    cases i with
    | zero =>
      show (xwriteList (a + 1) vs (xwrite a v s)).xread a = v
      rw [xread_xwriteList_other _ _ _ _ (by omega), xread_xwrite_same _ _ _ h (by omega)]
    | succ i =>
      have := ih (a := a + 1) (s := xwrite a v s) (i := i) (xwrite_xmemWf _ _ _ h) (by omega) (by omega)
      rw [show a + (i + 1) = a + 1 + i by omega, this]
      rfl

end Sys2Proof.Machine
end

