-- ==== Sys2Proof/Laws/Timed.lean ====
section
/-! SUPPORT. What the shared operations of a timed move can do: the readings and values of the step at which an expiry is judged, the one transition of an arm at its own timers, the end of a waiting SET_ARM, and the beginning of a PWM period. -/
namespace Sys2Proof.Machine

/-! ### The readings and values of the step -/

/-- The readings of a step leave a record's states, timers and order as they are (R63). -/
@[simp] theorem readArm_keeps (s : State) (a : Arm) :
    (s.readArm a).state = (s.arm a).state ∧ (s.readArm a).req = (s.arm a).req ∧ (s.readArm a).waiting = (s.arm a).waiting ∧
    (s.readArm a).stateTimer = (s.arm a).stateTimer ∧ (s.readArm a).hover = (s.arm a).hover ∧ (s.readArm a).ret = (s.arm a).ret ∧
    (s.readArm a).deflection = (s.arm a).deflection ∧ (s.readArm a).angleLoss = (s.arm a).angleLoss ∧
    (s.readArm a).spinUp = (s.arm a).spinUp ∧ (s.readArm a).stall = (s.arm a).stall ∧ (s.readArm a).silence = (s.arm a).silence ∧
    (s.readArm a).trim = (s.arm a).trim ∧ (s.readArm a).cause = (s.arm a).cause :=
  ⟨rfl, rfl, rfl, rfl, rfl, rfl, rfl, rfl, rfl, rfl, rfl, rfl, rfl⟩

/-- The angle, the measured brush speed and the brush target of a step (R27, R29, R75). -/
@[simp] theorem readArm_reads (s : State) (a : Arm) :
    (s.readArm a).swing = s.nextSwing a (s.arm a).swing ∧ (s.readArm a).measured = s.brushSpeed a ∧
    (s.readArm a).target = s.modc.profile.brushSpeed a * s.loadm.scale / 1000 := ⟨rfl, rfl, rfl⟩

/-- One channel's report changes the governor alone (R40, R43). -/
theorem wheelReport_gov (w : Wheel) (s : State) : ∃ g, wheelReport w s = s.setGov g := by
  unfold wheelReport; dsimp only; repeat' split
  all_goals exact ⟨_, rfl⟩

/-- One channel's loss test changes the governor alone (R42). -/
theorem wheelLoss_gov (w : Wheel) (s : State) : ∃ g, wheelLoss w s = s.setGov g := by
  unfold wheelLoss; dsimp only; split <;> exact ⟨_, rfl⟩

/-- The reports of both channels change the governor alone. -/
theorem travelReport_gov (s : State) : ∃ g, travelReport s = s.setGov g := by
  obtain ⟨g, hg⟩ := wheelReport_gov .a s
  obtain ⟨g', hg'⟩ := wheelReport_gov .b (s.setGov g)
  exact ⟨g', by rw [travelReport, hg, hg', State.setGov_setGov]⟩

/-- Stage 1 of the travel step changes the governor alone. -/
theorem travelSense_gov (s : State) : ∃ g, travelSense s = s.setGov g := by
  obtain ⟨g, hg⟩ := travelReport_gov s
  obtain ⟨g', hg'⟩ := wheelLoss_gov .a (s.setGov g)
  obtain ⟨g'', hg''⟩ := wheelLoss_gov .b ((s.setGov g).setGov g')
  unfold travelSense
  rw [hg, hg', hg'']
  simp only [State.setGov_setGov]
  exact ⟨_, rfl⟩

/-- Stage 1 of the travel step forms v_act by the table of R40. -/
theorem travelSense_vAct (s : State) : (travelSense s).gov.vAct = (travelSense s).formedSpeed := by
  unfold travelSense
  generalize wheelLoss .b (wheelLoss .a (travelReport s)) = s1
  rfl

/-- The limits change the governor alone (R32 to R34). -/
theorem travelLimits_gov (s : State) : ∃ g, travelLimits s = s.setGov g := ⟨_, rfl⟩

/-- The dwell of stage 3 changes the governor alone (R52). -/
theorem travelDwell_gov (s : State) : ∃ g, travelDwell s = s.setGov g := by
  unfold travelDwell; split
  · exact ⟨_, rfl⟩
  · exact ⟨_, (State.setGov_self s).symm⟩

/-- The travel step up to its signed target changes the governor alone. -/
theorem travelApproach_gov (s : State) : ∃ g, travelApproach s = s.setGov g := by
  obtain ⟨g, hg⟩ := travelSense_gov s
  obtain ⟨g', hg'⟩ := travelLimits_gov (s.setGov g)
  obtain ⟨g'', hg''⟩ := travelDwell_gov (s.setGov g')
  exact ⟨g'', by rw [travelApproach, hg, hg', State.setGov_setGov, hg'', State.setGov_setGov]⟩

/-- The limits, the target and the dwell keep v_act and c (R32 to R34, R52). -/
theorem travelApproach_keeps (s : State) :
    (travelApproach s).gov.vAct = (travelSense s).gov.vAct ∧ (travelApproach s).gov.c = (travelSense s).gov.c := by
  unfold travelApproach travelDwell travelLimits
  generalize travelSense s = s1
  split <;> exact ⟨rfl, rfl⟩

/-- The movement keeps v_act, v_t, the limiter and the waiting order, and takes c one ramp step toward the target (R55). -/
theorem travelMove_forms (target : Int) (s : State) :
    (travelMove target s).gov.vAct = s.gov.vAct ∧ (travelMove target s).gov.vT = s.gov.vT ∧
    (travelMove target s).gov.limiter = s.gov.limiter ∧ (travelMove target s).gov.waiting = s.gov.waiting ∧
    (travelMove target s).gov.c = rampToward s.rampUp s.rampDown s.gov.c target := by
  simp [travelMove, travelOutput, travelReverse, travelRamp]

/-- The movement changes the governor and the travel outputs alone. -/
@[simp] theorem travelMove_keeps (target : Int) (s : State) :
    (travelMove target s).modc = s.modc ∧ (travelMove target s).armc = s.armc ∧ (travelMove target s).watc = s.watc ∧
    (travelMove target s).loadm = s.loadm ∧ (travelMove target s).faults = s.faults ∧ (travelMove target s).cal = s.cal ∧
    (travelMove target s).tma.clock = s.tma.clock ∧ (travelMove target s).tma.inputs = s.tma.inputs := by
  simp [travelMove, travelOutput, travelReverse, travelRamp]

/-- Stages 1 and 2 of the water step change the water controller alone. -/
theorem waterRead_eq (s : State) : waterRead s = s.setWatc (waterRead s).watc := rfl

/-- Stages 1 to 3 of the load step change the load manager alone. -/
theorem loadForm_eq (s : State) : loadForm s = s.setLoadm (loadForm s).loadm := by
  unfold loadForm loadFactor; repeat' split
  all_goals rfl

/-! ### The moves -/

/-- An arm's timed move sends it OUT by the first exclusion due, leaves the state as it is, or makes the transition that is due (R64). -/
theorem timedMove_cases (a : Arm) (s : State) :
    (∃ k d, s.dueExclusion a = some (k, d) ∧ timedMove a s = excludeArm a k d s) ∨
      (s.dueExclusion a = none ∧ (s.dueTransition a).state = (s.arm a).state ∧ timedMove a s = s) ∨
      (s.dueExclusion a = none ∧ (s.dueTransition a).state ≠ (s.arm a).state ∧
        timedMove a s = moveArm a (s.dueTransition a) s) := by
  unfold timedMove
  split
  · rename_i k d h
    exact .inl ⟨k, d, h, rfl⟩
  · rename_i h
    split
    · exact .inr (.inl ⟨h, ‹_›, rfl⟩)
    · exact .inr (.inr ⟨h, ‹_›, rfl⟩)

/-- What `moveArm` keeps. -/
@[simp] theorem moveArm_keeps (a : Arm) (r : ArmRecord) (s : State) :
    (moveArm a r s).pending = s.pending ∧ (moveArm a r s).resetHeld = s.resetHeld ∧ (moveArm a r s).xmem = s.xmem ∧
    (moveArm a r s).port = s.port ∧ (moveArm a r s).publisher = s.publisher ∧ (moveArm a r s).orders = s.orders ∧
    (moveArm a r s).modc = s.modc ∧ (moveArm a r s).gov = s.gov ∧ (moveArm a r s).watc = s.watc ∧
    (moveArm a r s).loadm = s.loadm ∧ (moveArm a r s).faults = s.faults ∧ (moveArm a r s).cal = s.cal ∧
    (moveArm a r s).eeprom = s.eeprom ∧ (moveArm a r s).freeReads = s.freeReads := by
  simp [moveArm]

/-- SET_ARM_TIMEOUT changes nothing before 8 s of waiting, and then judges the waiting order after the arm's own move (R85). -/
theorem setArmTimeout_cases (a : Arm) (s : State) :
    setArmTimeout a s = s ∨
      ∃ w, (s.arm a).waiting = some w ∧ 8000 ≤ s.since w.takeTime ∧ setArmTimeout a s = armWaiting a (timedMove a s) := by
  unfold setArmTimeout
  split
  · rename_i w h
    split
    · exact .inr ⟨w, h, ‹_›, rfl⟩
    · exact .inl rfl
  · exact .inl rfl

/-- The output that a beginning period belongs to: the duty that stands comes into force at the last millisecond (R135). -/
theorem beginPeriod_same (o : PwmOut) (s : State) (h : s.tma.stepsRunning = true) :
    (beginPeriod o s).tma.outputs.get o =
      { held := (s.tma.outputs.get o).held, applied := (s.tma.outputs.get o).held, start := s.tma.micros } := by
  cases o <;> simp [beginPeriod, h, setOutputs, Outputs.set, Outputs.get]

/-- Every other output goes on with its own period (R135). -/
theorem beginPeriod_other (o other : PwmOut) (s : State) (h : other ≠ o) :
    (beginPeriod o s).tma.outputs.get other = s.tma.outputs.get other := by
  unfold beginPeriod
  split
  · cases o <;> cases other <;> first | exact absurd rfl h | simp [setOutputs, Outputs.set, Outputs.get]
  · rfl

/-- No period begins while the array sleeps (R142). -/
theorem beginPeriod_asleep (o : PwmOut) (s : State) (h : s.tma.stepsRunning = false) : beginPeriod o s = s := by
  simp [beginPeriod, h]

/-- What `beginPeriod` keeps. -/
@[simp] theorem beginPeriod_keeps (o : PwmOut) (s : State) :
    (beginPeriod o s).pending = s.pending ∧ (beginPeriod o s).resetHeld = s.resetHeld ∧ (beginPeriod o s).xmem = s.xmem ∧
    (beginPeriod o s).port = s.port ∧ (beginPeriod o s).publisher = s.publisher ∧ (beginPeriod o s).orders = s.orders ∧
    (beginPeriod o s).modc = s.modc ∧ (beginPeriod o s).gov = s.gov ∧ (beginPeriod o s).armc = s.armc ∧
    (beginPeriod o s).watc = s.watc ∧ (beginPeriod o s).loadm = s.loadm ∧ (beginPeriod o s).faults = s.faults ∧
    (beginPeriod o s).cal = s.cal ∧ (beginPeriod o s).eeprom = s.eeprom ∧ (beginPeriod o s).freeReads = s.freeReads := by
  unfold beginPeriod; split <;> simp

end Sys2Proof.Machine
end

