-- ==== Sys2Proof/Tests/Slice0.lean ====
section
/-! SUPPORT. The model's own tests: ill-formed terms refused, the spec's worked examples on one step each, and a witness for the hypotheses of every statement. -/
namespace Sys2Proof.Machine.Tests

/-! ### Small states -/

/-- The state a command leaves. -/
def after (c : Instr) (s : State) : State :=
  match exec c s with
  | .next t => t
  | _ => s

/-- The state in a mode. -/
def inMode (m : Mode) (s : State) : State := s.setModc { s.modc with mode := m }

/-- The loader idle, slot 0 POSTED, in TRANSPORT at rest. -/
def road : State :=
  inMode .transport
    ((xwrite 0 ownerPosted State.reset).setCal { State.reset.cal with op := .idle, loadDone := true })

/-- Sweeping with the three arms WORKING at a reach, a spun-up brush at its target. -/
def worker (reach target : Nat) : ArmRecord :=
  { resetArmRecord with
    state := .working, req := .working, reach := reach, target := target, measured := target, spinUp := 1500 }

/-- Sweeping with water, slot 0 POSTED. -/
def sweep : State :=
  ((inMode .sweeping road).setArmc
    { left := worker 400 90, right := worker 400 90, main := worker 0 120, width := 2200 }).setWatc
    { resetWaterControl with level := 500, levelKnown := true, qAvail := 2000 }

/-- Replace a channel by one that is VALID with a value. -/
def reading (ch : Channel) (value : Nat) (s : State) : State :=
  setCapture ch { s.tma.captures.get ch with state := .valid, count := 2, value := value } s

/-- An order of slot 0. -/
def ord (p0 p1 p2 p3 : Nat) : Order :=
  { notify := 1, tag := 7, par := ⟨word p0, word p1, word p2, word p3, 0, 0, 0, 0⟩ }

/-- An entry on a target in slot 1, taken at 0. -/
def entryOn (target : Target) (kind : Nat) : Entry :=
  { slot := 1, kind := kind, tag := 7, target := target, takeTime := 0, params := ⟨0, 0, 0, 0, 0, 0, 0, 0⟩, notify := 1, depth := 0 }

/-- The state with an open order of slot 1, its owner TAKEN. -/
def withOpen (target : Target) (kind : Nat) (s : State) : State :=
  xwrite 16 ownerTaken (s.setOrders { s.orders with entries := [entryOn target kind] })

/-- The clock at a reading. -/
def atClock (ms : Nat) (s : State) : State := s.setTma { s.tma with clock := BitVec.ofNat 32 ms }

/-! ### Ill-formed terms are refused -/

/-- An address that fourteen lines cannot carry. -/
theorem test_wf_refuses_an_address_above_16383 : (Instr.ignoredRegisterWrite (.above 8185) 0).wf = false := by decide
/-- The last address they carry. -/
theorem test_wf_takes_address_16383 : (Instr.ignoredRegisterWrite (.above 8184) 0).wf = true := by decide
/-- A kind code of the dispatch table is no unknown kind (R146). -/
theorem test_wf_refuses_a_known_kind : (Instr.refusedKind 14 (ord 0 0 0 0)).wf = false := by decide
/-- Kind 0 and kind 15 are unknown (R146). -/
theorem test_wf_takes_kinds_0_and_15 :
    (Instr.refusedKind 0 (ord 0 0 0 0)).wf = true ∧ (Instr.refusedKind 15 (ord 0 0 0 0)).wf = true := by decide
/-- An instant a whole millisecond late, for a raw change. -/
theorem test_wf_refuses_a_late_raw_change : (Instr.captureRawChange .flow true 1000).wf = false := by decide
/-- The same for an accepted edge. -/
theorem test_wf_refuses_a_late_edge : (Instr.captureEdgeAccepted .flow 1000).wf = false := by decide
/-- The same for a timeout. -/
theorem test_wf_refuses_a_late_timeout : (Instr.captureTimeout .flow 1000).wf = false := by decide
/-- The table gives no command a word. -/
theorem test_no_word_spells_a_command : decodeTableWord 16 0xA5 = none := by decide

/-! ### Worked examples of the spec -/

/-- The travel curve at 1805 gives 744.9, rounded to 745 mA (section 2.2). -/
theorem test_travel_curve_at_1805 : State.reset.evalAt travelCurveBase 1805 = 745 := by decide
/-- The pump curve at 503, 1890, 3125, 4010 and 25000 (section 2.2): a half goes up, beyond the last point it is flat. -/
theorem test_pump_curve_points :
    [503, 1890, 3125, 4010, 25000].map (State.reset.evalAt pumpCurveBase) = [180, 367, 481, 561, 1000] := by decide
/-- A falling segment rounds in the same way: 99.5 gives 100 (R23). -/
theorem test_falling_segment_rounds_up : interpolate (0, 100) (2, 99) 1 = 100 := by decide
/-- The period 15873 µs at 2000 pulses per litre is 1890 ml/min (R26). -/
theorem test_measured_flow : (reading .flow 15873 State.reset).measuredFlow = 1890 := by decide
/-- A duty of 420 ‰ is a level of 400 (section 8.1). -/
theorem test_tank_level : levelOfDuty 420 = 400 := by decide
/-- The periods 310,000 and 170,000 µs are 38 and 70 mm/s (section 8.1). -/
theorem test_wheel_speeds :
    (reading .wheelA 310000 State.reset).wheelSpeed .a = 38 ∧ (reading .wheelA 170000 State.reset).wheelSpeed .a = 70 := by decide
/-- Qdem of the kerb case, of the first spray and of the split hose (sections 2.10, 5.4, 5.7). -/
theorem test_flow_demand :
    flowDemand 800 1790 2200 = 1890 ∧ flowDemand 600 1500 1400 = 756 ∧ flowDemand 600 1500 2904 = 1568 := by decide
/-- Qdem at 1893, 1894 and 1895 mm/s (section 2.10). -/
theorem test_flow_demand_near_the_limit :
    flowDemand 800 1893 2200 = 1999 ∧ flowDemand 800 1894 2200 = 2000 ∧ flowDemand 800 1895 2200 = 2001 := by decide
/-- The kerb case: v_t 1893 under WATER (section 2.10). -/
theorem test_kerb_target : selectTarget 3000 4000 1893 4000 = (1893, .water) := by decide
/-- Equal zeros name REQUEST (R34). -/
theorem test_tie_names_request : selectTarget 0 0 0 0 = (0, .request) := by decide
/-- The three trim rows of R56, as rounded increments. -/
theorem test_trim_rounding : roundDiv (15 * 64) 1024 = 1 ∧ roundDiv (-8 * 64) 1024 = -1 ∧ roundDiv (600 * 255) 1024 = 149 := by decide
/-- The droop table of R111: L_raw at n = 2300, 2280, 2232 and 2112. -/
theorem test_droop_table :
    [2300, 2280, 2232, 2112].map (fun n => lRawOf 40 120 (droopOf 2400 n)) = [992, 913, 738, 300] := by decide
/-- An engine above its rated speed has droop 0 (R111). -/
theorem test_no_negative_droop : droopOf 2400 2450 = 0 := by decide
/-- L rises by 20, or falls at once (R112). -/
theorem test_load_toward : loadToward 992 300 = 320 ∧ loadToward 738 1000 = 738 ∧ loadToward 992 980 = 992 := by decide
/-- The group examples of section 5.5: groups 0 to 7, 1 to 5, 0 to 5 and 2 to 5. -/
theorem test_band_groups :
    bandGroups [leftPart 752, (-700, 700), rightPart 752] = 0xFF ∧ bandGroups [leftPart 300, (-700, 700)] = 0x3E ∧
      bandGroups [leftPart 800, (-700, 700), rightPart 50] = 0x3F ∧ bandGroups [(-700, 700)] = 0x3C := by decide
/-- Record 1 as cold reset leaves it corrects five fields (section 1.6). -/
theorem test_zero_profile_changes_five_fields : changedFields (List.replicate 19 0) = 5 := by decide
/-- Record 2 of the worked sequence: sweep_max and engage_limit come down to 2000 (section 1.6). -/
theorem test_profile_second_pass :
    (correctProfile ([2000, 6000, 3000, 800] ++ (profileWords defaultProfile).drop 4)).sweepMax = 2000 ∧
      (correctProfile ([2000, 6000, 3000, 800] ++ (profileWords defaultProfile).drop 4)).engageLimit = 2000 ∧
      changedFields ([2000, 6000, 3000, 800] ++ (profileWords defaultProfile).drop 4) = 2 := by decide
/-- The default calibration passes its own checks (R164). -/
theorem test_defaults_are_valid : firstBadWord defaultCalibration = none := by decide +kernel
/-- The image of a calibration sums to 0 and reads VALID (R165, section 11.2). -/
theorem test_image_round_trip : classifyImage (buildImage defaultCalibration) = .valid := by decide +kernel
/-- A store cut short leaves length 0: CORRUPT (section 11.4, R165). -/
theorem test_cut_store_is_corrupt : classifyImage ((buildImage defaultCalibration).set 1 0) = .corrupt := by decide +kernel
/-- An erased device is ABSENT (R165). -/
theorem test_erased_image_is_absent : classifyImage (List.replicate 515 0xFFFF) = .absent := by decide +kernel

/-! ### One command each -/

/-- SELECT_PROFILE(1) completes CLAMPED with detail 5 and leaves a TRANSPORT ceiling of 0 (section 1.6). -/
theorem test_select_profile_1 :
    (after (.selectProfile (ord 1 0 0 0)) road).xread 11 = 1 ∧ (after (.selectProfile (ord 1 0 0 0)) road).xread 12 = 5 ∧
      (after (.selectProfile (ord 1 0 0 0)) road).ceiling = 0 := by decide
/-- SET_WATER(OVERRIDE, 800): OK, detail 0, owner DONE, the cursor at 1 (section 9.6). -/
theorem test_set_water_override :
    (after (.setWater (ord 1 800 0 0)) sweep).dose = 800 ∧ (after (.setWater (ord 1 800 0 0)) sweep).owner 0 = ownerDone ∧
      (after (.setWater (ord 1 800 0 0)) sweep).orders.cursor = 1 := by decide
/-- SET_ARM(LEFT, HOVER) opens on ARM_LEFT (section 9.6). -/
theorem test_set_arm_hover :
    (after (.setArm (ord 0 5 0 0)) sweep).armc.left.req = .hover ∧ (after (.setArm (ord 0 5 0 0)) sweep).owner 0 = ownerTaken := by
  decide
/-- CANCEL ends an open order with its tag: the slot DONE with result 7, the CANCEL's slot as its detail (section 9.6). -/
theorem test_cancel :
    (after (.cancel (ord 7 0 0 0)) (withOpen .armLeft 7 sweep)).xread 27 = 7 ∧
      (after (.cancel (ord 7 0 0 0)) (withOpen .armLeft 7 sweep)).xread 12 = 1 ∧
      (after (.cancel (ord 7 0 0 0)) (withOpen .armLeft 7 sweep)).orders.entries = [] := by decide
/-- STOP supersedes the open TRAVEL order with result 8 (section 9.6). -/
theorem test_stop_supersedes :
    (after (.stop (ord 0 0 0 0)) (withOpen .travel 5 sweep)).xread 27 = 8 ∧
      (after (.stop (ord 0 0 0 0)) (withOpen .travel 5 sweep)).gov.reqDir = .neutral := by decide
/-- A slot that an entry names, POSTED again, stalls the scan (section 9.6, slot reposted too soon). -/
theorem test_strip_stall :
    (after .stripScanExpiry ((xwrite 16 ownerPosted (withOpen .store 13 road)).setOrders
      { cursor := 1, entries := [entryOn .store 13], orphans := 0, stall := false })).orders.stall = true := by decide
/-- A write of 0x00A5 to RESTART with the UP inputs inactive gives DISENGAGING (R22). -/
theorem test_restart : (after (.restart 0xA5) sweep).modc.mode = .disengaging := by decide
/-- The pair 0x00C3, 0x003C arms the check (R158). -/
theorem test_check_pair :
    (after (.check 0x3C) (after (.check 0xC3) road)).port.window = some 0 ∧ (after (.check 0x3C) road).port.window = none := by decide
/-- IDENT reads 0x0C24 and STATE the mode code (R157, R173). -/
theorem test_host_reads : road.hostRead 8192 = some 0x0C24 ∧ (road.hostRead 8193).map (fun w => w.toNat % 8) = some 1 := by decide
/-- The kerb case's ramp: 1800 to 1805 under accel 500 (section 2.10). -/
theorem test_ramp_up : rampToward 5 10 1800 1893 = 1805 ∧ rampToward 6 10 4 0 = 0 ∧ rampToward 6 40 (-600) 0 = -560 := by decide
/-- The kerb case's solenoid duty: 745 + 13 mA of 2400 give 316 ‰ (section 3.7). -/
theorem test_travel_duty : (State.reset.setGov { resetGovernor with c := 1805, trim := 13 }).travelDuty = 316 := by decide
/-- The overspeed threshold at 1805 is 2305 (section 3.7). -/
theorem test_overspeed_threshold : overspeedThreshold 1805 = 2305 := by decide
/-- At 0 the dwell gate stays closed before 300 ms and opens there (R52). -/
theorem test_dwell_gate :
    (State.reset.setGov { resetGovernor with dwell := 299 }).gateOpen .positive = false ∧
      (State.reset.setGov { resetGovernor with dwell := 300 }).gateOpen .positive = true := by decide
/-- The target 90 at scale 700 is 63 (R75). -/
theorem test_brush_target :
    (after .armStep (sweep.setLoadm { resetLoadManager with scale := 700 })).armc.right.target = 63 := by decide
/-- The right brush under load: trim 0 to 1 and duty 371 at a measured 86 of 90 (section 4.4). -/
theorem test_brush_duty :
    (after .armStep (reading .rBrush 116279 sweep)).armc.right.trim = 1 ∧
      (after .armStep (reading .rBrush 116279 sweep)).tma.outputs.rMotor.held = 371 := by decide
/-- The kerb case's water step: Q_cmd 1890, groups 1 to 6 open (sections 2.10, 5.6). -/
theorem test_water_step :
    (after .waterStep ((reading .tank 500 sweep).setGov { resetGovernor with vAct := 1790 })).watc.qDem = 1418 ∧
      (after .waterStep ((reading .tank 500 sweep).setGov { resetGovernor with vAct := 1790 })).watc.openSet = 0x7E := by decide
/-- A load step from 1000 with n = 2300 takes L to 992 (R111, R112). -/
theorem test_load_step : (after .loadStep (reading .engine 8695 road)).loadm.load = 992 := by decide
/-- DISTANCE: the ninth edge of 12 mm passes 100 mm and leaves 8 mm (section 8.5). -/
theorem test_distance_trace :
    (countDistance .a (road.setTma { road.tma with
      trace := { resetTrace with enabled := true, source := .distance, interval := 100, accumulator := 96000 } })).tma.trace.accumulator
      = 8000 := by decide
/-- A publication writes the mode between two equal counts (R160). -/
theorem test_publication :
    (after .statusPublication road).xread 1537 = 1 ∧ (after .statusPublication road).xread 1536 = 1 ∧
      (after .statusPublication road).xread 1791 = 1 := by decide +kernel
/-- The mode check at 50 ms ends STARTING (R21). -/
theorem test_starting_ends_at_50 :
    (after .modeCheck (inMode .starting (atClock 50 road))).modc.mode = .disengaging ∧
      (after .modeCheck (inMode .starting (atClock 49 road))).modc.mode = .starting := by decide
/-- The empty queue is a millisecond (log entry 1). -/
theorem test_tick : (match step road with | .next t => t.tma.clock | _ => 0) = 1 := by decide

/-! ### Hypotheses met -/

/-- The take's conditions, as decidable ones. -/
theorem takes_of (s : State)
    (h : s.resetHeld = false ∧ s.scanned = true ∧ s.slotNamed s.orders.cursor = false ∧
      s.owner s.orders.cursor = ownerPosted ∧ s.orders.cursor < 32 ∧ Memory.wf (word 0) Config.xmemWords s.xmem = true) :
    s.takes := h

/-- An open order that can end, as decidable conditions. -/
theorem openTaken_of (s : State) (e : Entry) (target : Target) (slot : Nat) (time : BitVec 32)
    (h : e ∈ s.orders.entries ∧ e.target = target ∧ e.slot = slot ∧ e.takeTime = time ∧ s.owner e.slot = ownerTaken ∧
      e.slot < 32 ∧ (s.orders.entries.map fun x => x.target).Nodup ∧ Memory.wf (word 0) Config.xmemWords s.xmem = true) :
    s.openTaken e target slot time := h

/-- The open-orders law, as decidable conditions. -/
theorem ordersInv_of (s : State)
    (h : (s.orders.entries.map fun e => e.target).Nodup ∧ (s.orders.entries.map fun e => e.slot).Nodup ∧
      s.orders.cursor < 32 ∧ ∀ e ∈ s.orders.entries, e.slot < 32) : s.ordersInv := h

/-- Three records without a waiting order are calm. -/
theorem calm_of (s : State)
    (h : s.armc.left.waiting = none ∧ s.armc.right.waiting = none ∧ s.armc.main.waiting = none) : s.calmArms := by
  intro a w hw
  cases a <;> simp [State.arm, ArmControl.get, h.1, h.2.1, h.2.2] at hw

/-- PARKED and DORMANT. -/
def asleep : State :=
  let s := road.setModc { road.modc with mode := .parked, wake := .dormant }
  s.setTma { s.tma with stepsRunning := false, stripRunning := false }

/-- RESET# low. -/
def held : State := road.setResetHeld true

/-- ENGAGING in a phase. -/
def engagingIn (p : Phase) : State :=
  let s := inMode .engaging sweep
  s.setModc { s.modc with phase := p }

/-- Every arm in one state. -/
def armsIn (st : ArmState) (s : State) : State := mapArms (fun _ r => { r with state := st }) s

/-- The governor with some fields replaced is written at the place; this is its reset value. -/
def gov0 : Governor := resetGovernor

/-- Replace a record, its state and requested state given. -/
def record (st : ArmState) (req : ReqState) : ArmRecord := { resetArmRecord with state := st, req := req, spinUp := 1500, target := 90 }

/-- The left record alone replaced. -/
def leftArm (r : ArmRecord) (s : State) : State := setArm .left r s

/-- The loader in an operation, its order that of slot 1. -/
def loader (op : CalOp) (page : Nat) (timer : Timer) (s : State) : State :=
  (withOpen .store 13 s).setCal { s.cal with op := op, page := page, pageTimer := timer, order := some (1, 0) }

/-- For EmptyQueueIsOneMillisecond: RESET# high and low. -/
theorem witness_empty_queue :
    (road.pending = [] ∧ road.resetHeld = false) ∧ held.pending = [] ∧ held.resetHeld = true := by decide

/-- For CommandsWaitOutResetAndSleep. -/
theorem witness_waiting_out :
    (held.resetHeld = true ∧ actsInReset (.wake 0) = false) ∧
      asleep.tma.stepsRunning = false ∧ atJobStep .travelStep = true := by decide

/-- For MemoryStaysCanonical and OpenOrdersLawKept. -/
theorem witness_memory_and_orders :
    sweep.memoryInv ∧ (withOpen .travel 5 sweep).ordersInv ∧
      (∃ t, step sweep = .next t) ∧ ∃ t, step (withOpen .travel 5 sweep) = .next t := by
  refine ⟨⟨?_, ?_, ?_, ?_⟩, ordersInv_of _ (by decide), ⟨_, rfl⟩, ⟨_, rfl⟩⟩
  · unfold State.xmemWf; decide
  · decide
  · decide
  · intro base ws h
    have h' : (none : Option (Nat × List Word)) = some (base, ws) := h
    cases h'

/-- For OutputInterlocksKept, ReverseLawKept, ExclusionsMatchStates, LoadFactorStaysInRange, SleepLawKept and
ActiveProfileStaysInRange. -/
theorem witness_invariants :
    sweep.outputsInv ∧ (armsIn .hover (sweep.setGov { gov0 with c := -1 })).reverseInv ∧
      ((leftArm (record .out .stowed) sweep).setFaults
        { resetFaultUnit with exclusions := ⟨true, false, false, false⟩ }).exclusionInv ∧
      (sweep.setLoadm { resetLoadManager with load := 300, scale := 700 }).loadInv ∧ asleep.sleepInv ∧
      sweep.modc.profile.inRange ∧ ∃ t, step asleep = .next t := by
  refine ⟨?_, ?_, ⟨?_, ?_⟩, ?_, ?_, ?_, ⟨_, rfl⟩⟩
  · unfold State.outputsInv State.armOutputsSafe State.pumpSafe State.travelSafe; decide
  · unfold State.reverseInv; decide
  · intro a; cases a <;> decide
  · decide
  · unfold State.loadInv; decide
  · unfold State.sleepInv; decide
  · unfold Profile.inRange; decide

/-- For WorkingCalibrationStaysValid. -/
theorem witness_calibration : sweep.calibrationInv ∧ ∃ t, step sweep = .next t := by
  refine ⟨⟨by decide +kernel, by decide +kernel⟩, ⟨_, rfl⟩⟩

/-- For ResetReleaseStartsTheChannels, RestartEffect and WakeSourcesStartWaking. -/
theorem witness_reset_restart_wake :
    road.resetHeld = false ∧ held.resetHeld = true ∧
      ((0x00A4 : Word) ≠ 0x00A5 ∧ State.reset.modc.mode = .starting) ∧
      (sweep.resetHeld = false ∧ sweep.modc.mode ≠ .starting ∧ sweep.modc.mode ≠ .parked) ∧
      sweep.modc.wake ≠ .dormant ∧
      asleep.resetHeld = false ∧ asleep.modc.mode = .parked ∧ asleep.modc.wake = .dormant := by decide

/-- For CheckWritesMoveTheHostCheck: each state of the check, armed and not, and PARKED. -/
theorem witness_check :
    (asleep.resetHeld = false ∧ asleep.modc.mode = .parked) ∧ (road.resetHeld = false ∧ road.modc.mode ≠ .parked) ∧
      (road.port.check ≠ .awaitSecond ∧ (0 : Word) ≠ 0x00C3) ∧
      (road.setPort { road.port with check := .awaitSecond, window := some 0 }).port.check = .awaitSecond ∧
      (0x00C2 : Word) ≠ 0x00C3 ∧ (0x003D : Word) ≠ 0x003C := by decide

/-- For InterruptRegistersAndLine, IgnoredWritesAndFixedReads and HostMemoryWriteReadsBack. -/
theorem witness_host_port : road.resetHeld = false ∧ 8198 < 8199 ∧ road.xmemWf := by
  refine ⟨by decide, by decide, ?_⟩
  unfold State.xmemWf; decide

/-- For StripScanTakesTheCursorSlot: no POSTED slot, a POSTED slot that an entry names, and a slot that is taken. -/
theorem witness_strip_scan :
    (road.resetHeld = false ∧ road.tma.stripRunning = true ∧ road.scanned = true) ∧
      (xwrite 0 ownerFree road).owner 0 ≠ ownerPosted ∧
      ((xwrite 16 ownerPosted (withOpen .store 13 road)).owner 1 = ownerPosted ∧
        (xwrite 16 ownerPosted (withOpen .store 13 road)).slotNamed 1 = true) ∧
      road.owner road.orders.cursor = ownerPosted ∧ road.slotNamed road.orders.cursor = false ∧
      ∃ t, exec (slotCommand (road.slotKind 0) (road.slotOrder 0)) road = .next t ∧
        t.owner t.orders.cursor ≠ ownerPosted := by
  refine ⟨by decide, by decide, by decide, by decide, by decide, _, rfl, by decide⟩

/-- For UnknownKindIsRefused: the two ends of the range. -/
theorem witness_unknown_kind : road.takes ∧ unknownKind 0 = true ∧ unknownKind 15 = true ∧ unknownKind 255 = true :=
  ⟨takes_of _ (by decide), by decide, by decide, by decide⟩

/-- For SelectProfileLatchesTheCorrectedRecord: indexes 4 and 3, and the two modes that refuse. -/
theorem witness_select_profile :
    (road.takes ∧ 3 < (ord 4 0 0 0).par.p0.toNat) ∧
      ((inMode .engaging road).takes ∧ (ord 3 0 0 0).par.p0.toNat ≤ 3 ∧ (inMode .engaging road).modc.mode = .engaging) ∧
      road.takes ∧ road.modc.mode ≠ .engaging ∧ road.modc.mode ≠ .disengaging :=
  ⟨⟨takes_of _ (by decide), by decide⟩, ⟨takes_of _ (by decide), by decide, by decide⟩, takes_of _ (by decide), by decide, by decide⟩

/-- For EngageOpensOrIsRefused: the four refusals, ENGAGING, TRANSPORT with water, DISENGAGING. -/
theorem witness_engage :
    (sweep.takes ∧ sweep.modc.mode = .sweeping) ∧ ((inMode .safe road).takes ∧ (inMode .safe road).modc.mode = .safe) ∧
      ((armsIn .out road).takes ∧ (armsIn .out road).modc.mode = .transport ∧ (armsIn .out road).armc.main.state = .out) ∧
      (road.takes ∧ road.modc.mode = .transport ∧ road.armc.main.state ≠ .out ∧ road.waterGone = true) ∧
      ((inMode .engaging sweep).takes ∧ (inMode .engaging sweep).openOn .mode = none) ∧
      ((inMode .transport sweep).takes ∧ (inMode .transport sweep).calmArms ∧ (inMode .transport sweep).openOn .mode = none ∧
        (inMode .transport sweep).armc.main.state ≠ .out ∧ (inMode .transport sweep).waterGone = false) ∧
      (inMode .disengaging sweep).takes ∧ (inMode .disengaging sweep).calmArms := by
  refine ⟨⟨takes_of _ (by decide), by decide⟩, ⟨takes_of _ (by decide), by decide⟩, ⟨takes_of _ (by decide), by decide⟩,
    ⟨takes_of _ (by decide), by decide⟩, ⟨takes_of _ (by decide), by decide⟩,
    ⟨takes_of _ (by decide), calm_of _ (by decide), by decide⟩, takes_of _ (by decide), calm_of _ (by decide)⟩

/-- For DisengageRaisesTheArms: its four modes. -/
theorem witness_disengage :
    (road.takes ∧ road.modc.mode = .transport ∧ road.openOn .mode = none) ∧ (inMode .safe road).takes ∧
      ((inMode .disengaging road).takes ∧ (inMode .disengaging road).openOn .mode = none) ∧
      sweep.takes ∧ sweep.openOn .mode = none ∧ sweep.calmArms :=
  ⟨⟨takes_of _ (by decide), by decide⟩, takes_of _ (by decide), ⟨takes_of _ (by decide), by decide⟩, takes_of _ (by decide),
    by decide, calm_of _ (by decide)⟩

/-- For ParkSleepsOrIsRefused: each refusal, and the acceptance. -/
theorem witness_park :
    (sweep.takes ∧ sweep.modc.mode ≠ .transport) ∧
      ((road.setGov { gov0 with c := 1 }).takes ∧ (road.setGov { gov0 with c := 1 }).standstill = false) ∧
      ((armsIn .hover road).takes ∧ (armsIn .hover road).standstill = true ∧ (armsIn .hover road).allStowedOrOut = false) ∧
      ((withOpen .travel 5 road).takes ∧ (withOpen .travel 5 road).orders.entries.length ≠ 0) ∧
      ((road.setCal { road.cal with op := .fetching }).takes ∧ (road.setCal { road.cal with op := .fetching }).cal.op ≠ .idle) ∧
      road.takes ∧ road.modc.mode = .transport ∧ road.standstill = true ∧ road.allStowedOrOut = true ∧
      road.orders.entries = [] ∧ road.cal.op = .idle := by
  refine ⟨⟨takes_of _ (by decide), by decide⟩, ⟨takes_of _ (by decide), by decide⟩, ⟨takes_of _ (by decide), by decide⟩,
    ⟨takes_of _ (by decide), by decide⟩, ⟨takes_of _ (by decide), by decide⟩, takes_of _ (by decide), by decide⟩

/-- For SetPaceReplacesTheRequest: selectors at 3 and 2, a reverse in ENGAGING, and both wait flags. -/
theorem witness_set_pace :
    (road.takes ∧ 2 < (ord 0 3 0 0).par.p1.toNat) ∧ (1 < (ord 0 2 2 0).par.p2.toNat ∧ (ord 0 2 2 0).par.p1.toNat ≤ 2) ∧
      ((inMode .engaging road).takes ∧ (inMode .engaging road).modc.mode = .engaging ∧ (ord 0 2 1 0).par.p1.toNat = 2) ∧
      (road.openOn .travel = none ∧ directionOf (ord 9 2 0 0).par.p1.toNat = some .reverse ∧
        road.modc.mode ≠ .engaging ∧ road.modc.mode ≠ .disengaging ∧ (ord 9 2 0 0).par.p2.toNat = 0) ∧
      directionOf (ord 9 1 1 0).par.p1.toNat = some .forward ∧ (ord 9 1 1 0).par.p2.toNat = 1 :=
  ⟨⟨takes_of _ (by decide), by decide⟩, by decide, ⟨takes_of _ (by decide), by decide⟩, by decide, by decide⟩

/-- For StopSupersedesAndWaits: no open TRAVEL order, and one to supersede. -/
theorem witness_stop :
    (road.takes ∧ road.openOn .travel = none) ∧ (withOpen .travel 5 road).takes ∧ (withOpen .travel 5 road).ordersInv ∧
      (withOpen .travel 5 road).openTaken (entryOn .travel 5) .travel 1 0 :=
  ⟨⟨takes_of _ (by decide), by decide⟩, takes_of _ (by decide), ordersInv_of _ (by decide), openTaken_of _ _ _ _ _ (by decide)⟩

/-- For SetArmRequestsAState: the five refusals and an acceptance. -/
theorem witness_set_arm :
    (sweep.takes ∧ armOf (ord 3 0 0 0).par.p0.toNat = none) ∧ reqOf (ord 0 1 0 0).par.p1.toNat = none ∧
      ((ord 2 5 0 0).par.p0.toNat = 2 ∧ (ord 2 5 0 0).par.p1.toNat = 5) ∧
      (road.takes ∧ road.modc.mode ≠ .sweeping ∧ (reqOf (ord 1 5 0 0).par.p1.toNat).isSome) ∧
      ((armsIn .out sweep).takes ∧ (armsIn .out sweep).armc.left.state = .out) ∧
      armOf (ord 1 2 0 0).par.p0.toNat = some .right ∧ reqOf (ord 1 2 0 0).par.p1.toNat = some .working ∧
      sweep.modc.mode = .sweeping ∧ (sweep.arm .right).state ≠ .out ∧ sweep.openOn .armRight = none :=
  ⟨⟨takes_of _ (by decide), by decide⟩, by decide, by decide, ⟨takes_of _ (by decide), by decide⟩,
    ⟨takes_of _ (by decide), by decide⟩, by decide⟩

/-- For SetWaterSetsDoseAndMask, SetTraceHandsOverSettings and ClearFaultReleasesHolds: each refused word at its first refused
value, and words that are taken. -/
theorem witness_words :
    road.takes ∧ road.modc.mode ≠ .safe ∧
      (1 < (ord 2 0 0 0).par.p0.toNat ∧ 1 < (ord 1 0 2 0).par.p2.toNat ∧ 255 < (ord 1 0 1 256).par.p3.toNat) ∧
      ((ord 1 0 1 255).par.p0.toNat ≤ 1 ∧ (ord 1 0 1 255).par.p2.toNat = 1 ∧ (ord 1 0 1 255).par.p3.toNat ≤ 255) ∧
      ((ord 1 2 0 0).par.p0.toNat = 1 ∧ 1 < (ord 1 2 0 0).par.p1.toNat) ∧
      ((ord 1 1 49 0).par.p0.toNat = 1 ∧ (ord 1 1 49 0).par.p1.toNat = 1) ∧ (ord 0 0 0 0).par.p0.toNat = 0 ∧
      2 < (ord 3 0 0 0).par.p0.toNat ∧ (ord 2 2 0 0).par.p0.toNat ≤ 2 ∧ 1 < (ord 2 2 0 0).par.p1.toNat ∧
      (ord 2 0 0 0).par.p1.toNat = 0 :=
  ⟨takes_of _ (by decide), by decide⟩

/-- For ClearFaultReleasesExclusionsAndLeavesSafe: an exclusion to release, in SAFE at standstill. -/
theorem witness_clear_exclusions :
    ((inMode .safe (leftArm (record .out .stowed) road)).setFaults
      { resetFaultUnit with exclusions := ⟨true, false, false, true⟩ }).takes ∧
      (inMode .safe (leftArm (record .out .stowed) road)).calmArms ∧ (ord 2 1 0 0).par.p0.toNat ≤ 2 ∧
      (ord 2 1 0 0).par.p1.toNat = 1 ∧ (inMode .safe road).modc.mode = .safe ∧ (inMode .safe road).standstill = true ∧
      (inMode .safe road).stopActive = false :=
  ⟨takes_of _ (by decide), calm_of _ (by decide), by decide⟩

/-- For CancelEndsEveryOrderWithTheTag: an entry with the tag, its slot TAKEN. -/
theorem witness_cancel :
    (withOpen .travel 5 road).takes ∧ (withOpen .travel 5 road).ordersInv ∧
      entryOn .travel 5 ∈ (withOpen .travel 5 road).tagged 7 ∧ (withOpen .travel 5 road).owner 1 = ownerTaken :=
  ⟨takes_of _ (by decide), ordersInv_of _ (by decide), by decide, by decide⟩

/-- For LoadCalibrationInstallsTheArea: the three refusals, the first bad word of a cleared area, and an area that is valid. -/
theorem witness_load_calibration :
    (sweep.takes ∧ sweep.modc.mode ≠ .transport ∧ sweep.modc.mode ≠ .safe) ∧
      ((road.setCal { road.cal with op := .fetching }).takes ∧ (road.setCal { road.cal with op := .fetching }).cal.op = .fetching) ∧
      (road.takes ∧ road.standstill = true ∧ road.cal.op ≠ .fetching ∧ firstBadWord road.areaWords = some 0) ∧
      firstBadWord (xwriteList 1024 defaultCalibration road).areaWords = none :=
  ⟨⟨takes_of _ (by decide), by decide⟩, ⟨takes_of _ (by decide), by decide⟩, ⟨takes_of _ (by decide), by decide +kernel⟩,
    by decide +kernel⟩

/-- For StoreAndFetchOpenOnTheStore: each refusal and the acceptance. -/
theorem witness_store :
    ((withOpen .store 13 road).takes ∧ (withOpen .store 13 road).openOn .store = some (entryOn .store 13)) ∧
      (road.takes ∧ road.openOn .store = none) ∧ (setInput .wp ⟨true, true, 0⟩ road).input .wp = true ∧
      (road.setCal { road.cal with op := .loading }).cal.op ≠ .idle ∧
      (road.setEeprom { road.eeprom with fitted := false }).eeprom.busy = true ∧
      road.cal.op = .idle ∧ road.eeprom.busy = false ∧ road.input .wp = false ∧ road.cal.working.length = 512 :=
  ⟨⟨takes_of _ (by decide), by decide⟩, ⟨takes_of _ (by decide), by decide⟩, by decide, by decide, by decide, by decide,
    by decide, by decide, by decide +kernel⟩

/-- For StartupLoadEndsInAWorkingCalibration: LOADING with an erased device, and another operation. -/
theorem witness_startup :
    State.reset.resetHeld = false ∧ State.reset.cal.op = .loading ∧ State.reset.xmemWf ∧ road.cal.op ≠ .loading := by
  refine ⟨by decide, by decide, ?_, by decide⟩
  unfold State.xmemWf; decide

/-- For StorePagesCompleteTheOrder: a transfer, a page that is polled, the last page, and a page at 10 ms. -/
theorem witness_store_pages :
    ((loader .storing 0 none road).cal.op = .storing ∧ (loader .storing 0 none road).cal.pageTimer = none) ∧
      ((loader .storing 32 (some 0) road).cal.pageTimer ≠ none ∧ (loader .storing 32 (some 0) road).cal.page < 33) ∧
      ((loader .storing 33 (some 10) road).cal.page = 33 ∧ timerAt 10 (loader .storing 33 (some 10) road).cal.pageTimer = true) ∧
      (loader .storing 33 (some 10) road).cal.order = some (1, 0) ∧
      (loader .storing 33 (some 10) road).openTaken (entryOn .store 13) .store 1 0 :=
  ⟨by decide, by decide, by decide, by decide, openTaken_of _ _ _ _ _ (by decide)⟩

/-- For FetchFillsTheAreaOrFails: a fetch whose device is erased. -/
theorem witness_fetch :
    (loader .fetching 0 none road).resetHeld = false ∧ (loader .fetching 0 none road).cal.op = .fetching ∧
      (loader .fetching 0 none road).cal.order = some (1, 0) ∧
      (loader .fetching 0 none road).openTaken (entryOn .store 13) .store 1 0 :=
  ⟨by decide, by decide, by decide, openTaken_of _ _ _ _ _ (by decide)⟩

/-- A device that holds the image of the defaults. -/
def stored : Eeprom :=
  { fitted := true, works := true, cells := Memory.writeList 0xFFFF [] 0 (buildImage defaultCalibration), inFlight := none, writeTime := none }

/-- A device whose first 515 words were written reads them back. -/
theorem image_of_written (ws : List Word) (h : ws.length = 515) (n : Nat) :
    Eeprom.image { fitted := true, works := true, cells := Memory.writeList 0xFFFF [] 0 ws, inFlight := none, writeTime := none } n = ws := by
  apply List.ext_getElem
  · simp [Eeprom.image, h]
  · intro i h1 h2
    have := memory_read_writeList_same 0xFFFF [] 0 i ws rfl h2
    simpa [Eeprom.image, Eeprom.word, Eeprom.inFlightAt, h2] using this

/-- The image of the defaults has 515 words. -/
theorem test_image_length : (buildImage defaultCalibration).length = 515 := by decide +kernel

/-- For the VALID clauses of StartupLoadEndsInAWorkingCalibration and FetchFillsTheAreaOrFails. -/
theorem witness_valid_image : classifyImage (stored.image 0) = .valid :=
  (congrArg classifyImage (image_of_written _ test_image_length 0)).trans test_image_round_trip

/-- WAKING at a clock reading, the wake time 0. -/
def wakingAt (ms : Nat) : State := (atClock ms road).setModc { road.modc with mode := .parked, wake := .waking }

/-- For ModeCheckMovesTheMode: a state for each clause. -/
theorem witness_mode_check :
    (road.running ∧ road.calmArms) ∧
      ((inMode .starting (atClock 49 road)).running ∧ (inMode .starting (atClock 49 road)).tma.clock.toNat < 50) ∧
      ((inMode .starting (atClock 50 road)).running ∧ 50 ≤ (inMode .starting (atClock 50 road)).tma.clock.toNat ∧
        (inMode .starting (atClock 50 road)).cal.loadDone = true) ∧
      ((inMode .disengaging sweep).running ∧ (inMode .disengaging sweep).allStowedOrOut = false) ∧
      ((inMode .disengaging road).running ∧ (inMode .disengaging road).allStowedOrOut = true ∧
        (inMode .disengaging road).openOn .mode = none) ∧
      (withOpen .mode 3 (inMode .disengaging road)).openTaken (entryOn .mode 3) .mode 1 0 ∧
      (sweep.running ∧ sweep.mainOut = false ∧ sweep.waterGone = false) ∧
      ((armsIn .out sweep).running ∧ (armsIn .out sweep).openOn .mode = none ∧ (armsIn .out sweep).armc.main.state = .out) ∧
      ((inMode .sweeping road).running ∧ (inMode .sweeping road).armc.main.state ≠ .out ∧ (inMode .sweeping road).waterGone = true) ∧
      ((engagingIn .slowing).running ∧ (engagingIn .slowing).engagesOn = true ∧
        (engagingIn .slowing).gov.vAct ≤ (engagingIn .slowing).modc.profile.engageLimit) ∧
      (((engagingIn .slowing).setGov { gov0 with vAct := 1501 }).engagesOn = true ∧
        ((engagingIn .slowing).setGov { gov0 with vAct := 1501 }).modc.profile.engageLimit < 1501) ∧
      ((wakingAt 19).running ∧ (wakingAt 19).since (wakingAt 19).modc.wakeTime < 20) ∧
      ((wakingAt 20).running ∧ 20 ≤ (wakingAt 20).since (wakingAt 20).modc.wakeTime) :=
  ⟨⟨⟨by decide, by decide⟩, calm_of _ (by decide)⟩, ⟨⟨by decide, by decide⟩, by decide⟩, ⟨⟨by decide, by decide⟩, by decide⟩,
    ⟨⟨by decide, by decide⟩, by decide⟩, ⟨⟨by decide, by decide⟩, by decide⟩, openTaken_of _ _ _ _ _ (by decide),
    ⟨⟨by decide, by decide⟩, by decide⟩, ⟨⟨by decide, by decide⟩, by decide⟩, ⟨⟨by decide, by decide⟩, by decide⟩,
    ⟨⟨by decide, by decide⟩, by decide⟩, by decide, ⟨⟨by decide, by decide⟩, by decide⟩, ⟨⟨by decide, by decide⟩, by decide⟩⟩

/-- SETTLING, its condition met and its timer one step short. -/
def settlingState : State :=
  (engagingIn .settling).setModc { (engagingIn .settling).modc with
    commanded := ⟨true, true, true⟩, settle := some 290, budget := 11990 }

/-- For EngageTimersEndTheEngage: one step short of each timer, with and without an open ENGAGE. -/
theorem witness_engage_timers :
    settlingState.running ∧ settlingState.calmArms ∧ settlingState.engagesOn = true ∧ settlingState.modc.phase = .settling ∧
      settlingState.settled = true ∧ timerDue 300 10 settlingState.modc.settle = true ∧
      (settlingState.modc.budget < 12000 ∧ 12000 ≤ settlingState.modc.budget + 10) ∧ settlingState.openOn .mode = none ∧
      (withOpen .mode 2 settlingState).openTaken (entryOn .mode 2) .mode 1 0 :=
  ⟨⟨by decide, by decide⟩, calm_of _ (by decide), by decide, by decide, by decide, by decide, by decide, by decide,
    openTaken_of _ _ _ _ _ (by decide)⟩

/-- For the statements about TRAVEL_STEP, ARM_STEP, WATER_STEP and LOAD_STEP, and the inner premises that differ: reverse and
forward, a positive water limit, an engine that is VALID. -/
theorem witness_steps :
    sweep.running ∧ sweep.modc.mode = .sweeping ∧ sweep.dose ≠ 0 ∧ sweep.armc.width ≠ 0 ∧ 0 < sweep.watc.qAvail ∧
      road.watc.qAvail = 0 ∧ sweep.loadm.load = 1000 ∧ 0 < sweep.iFull ∧ (reading .engine 8695 sweep).valid .engine = true ∧
      sweep.valid .engine = false :=
  ⟨⟨by decide, by decide⟩, by decide⟩

/-- For the clauses of ArmStepDrivesTheArms about one state. -/
theorem witness_arm_step :
    ((leftArm (record .stowed .working) sweep).arm .left).state = .stowed ∧ sweep.reverseState = false ∧
      ((leftArm (record .lowering .working) (setInput .lDown ⟨true, true, 0⟩ sweep)).input .lDown = true ∧
        ((leftArm (record .lowering .working) sweep).arm .left).angleLoss = none) ∧
      (setInput .lUp ⟨true, true, 0⟩ (leftArm (record .raising .stowed) sweep)).input .lUp = true ∧
      ((leftArm (record .out .stowed) sweep).arm .left).state = .out := by decide

/-- Sweeping at 1790 mm/s with a known level and the FLOW channel silent: Q_cmd is 1418 at the next water step. -/
def spraying : State := (reading .tank 500 sweep).setGov { gov0 with vAct := 1790 }

/-- For DerateExpiriesReport: each condition with its timer one step short, in one running state each. -/
theorem witness_derate :
    (∃ s : State, s.running ∧ (travelSense s).disagreeHolds = true ∧ timerDue 1000 10 s.gov.disagree = true) ∧
      (∃ s : State, s.running ∧ (travelReport s).lossHolds .a = true ∧ timerDue 500 10 (s.gov.loss .a) = true) ∧
      (∃ s : State, s.running ∧ (waterFlow s).flowLossHolds = true ∧ timerDue 1000 20 s.watc.flowLoss = true) ∧
      ∃ s : State, s.running ∧ s.engineLossHolds = true ∧ timerDue 500 10 s.loadm.engineLoss = true :=
  ⟨⟨(reading .wheelB 12000 (reading .wheelA 6000 sweep)).setGov { gov0 with disagree := some 990 },
      ⟨by decide, by decide⟩, by decide, by decide⟩,
    ⟨(reading .wheelB 6000 sweep).setGov { gov0 with c := 1, chanA := .noSignal, lossA := some 490 },
      ⟨by decide, by decide⟩, by decide, by decide⟩,
    ⟨spraying.setWatc { sweep.watc with flowLoss := some 980 }, ⟨by decide, by decide⟩, by decide, by decide⟩,
    ⟨sweep.setLoadm { resetLoadManager with engineLoss := some 490 }, ⟨by decide, by decide⟩, by decide, by decide⟩⟩

/-- The sweeping state with a governor of its own, or with the host check at its window's end. -/
def silent : State := sweep.setGov { gov0 with c := 301, chanA := .noSignal, chanB := .lost, silence := some 990 }
/-- No operator for 990 ms. -/
def unmanned : State := sweep.setGov { gov0 with operator := some 990 }
/-- Running away for 990 ms. -/
def runaway : State := reading .wheelA 23952 (sweep.setGov { gov0 with overspeed := some 990 })
/-- The host check at its window's end. -/
def unchecked : State := sweep.setPort { sweep.port with check := .awaitFirst, window := some 100, windowLength := 100 }

/-- For StopExpiriesEnterSafe: each of the four expiries in a mode of work, and one in SAFE. -/
theorem witness_stop_expiries :
    (silent.running ∧ silent.openOn .mode = none ∧ silent.gov.waiting = none ∧ silent.calmArms ∧ silent.atWork ∧
        (travelSense silent).silenceHolds = true ∧ timerDue 1000 10 silent.gov.silence = true) ∧
      (unmanned.running ∧ unmanned.openOn .mode = none ∧ unmanned.gov.waiting = none ∧ unmanned.calmArms ∧ unmanned.atWork ∧
        (travelDrive unmanned).operatorHolds = true ∧ timerDue 1000 10 unmanned.gov.operator = true) ∧
      (runaway.running ∧ runaway.openOn .mode = none ∧ runaway.gov.waiting = none ∧ runaway.calmArms ∧ runaway.atWork ∧
        (travelDrive runaway).overspeedHolds = true ∧ (travelDrive runaway).gov.vAct = 501 ∧ timerDue 1000 10 runaway.gov.overspeed = true) ∧
      (unchecked.resetHeld = false ∧ unchecked.openOn .mode = none ∧ unchecked.gov.waiting = none ∧ unchecked.calmArms ∧
        unchecked.atWork ∧ timerAt unchecked.port.windowLength unchecked.port.window = true) ∧
      (inMode .safe silent).running ∧ (travelSense (inMode .safe silent)).silenceHolds = true :=
  ⟨⟨⟨by decide, by decide⟩, by decide, by decide, calm_of _ (by decide), .inr (.inr (.inl (by decide))), by decide⟩,
    ⟨⟨by decide, by decide⟩, by decide, by decide, calm_of _ (by decide), .inr (.inr (.inl (by decide))), by decide⟩,
    ⟨⟨by decide, by decide⟩, by decide, by decide, calm_of _ (by decide), .inr (.inr (.inl (by decide))), by decide⟩,
    ⟨by decide, by decide, by decide, calm_of _ (by decide), .inr (.inr (.inl (by decide))), by decide⟩,
    ⟨by decide, by decide⟩, by decide⟩

/-- For ReadmissionAndDwell: a LOST channel with one agreeing reading, and the dwell at 290 and 299. -/
theorem witness_readmission :
    (∃ s : State, s.running ∧ s.gov.chan .a = .lost ∧ s.gov.readmit .a = 1 ∧ s.gov.chan (otherWheel .a) ≠ .lost ∧
        s.valid (wheelChannel .a) = true ∧ (travelReport s).gov.chan .a = .inUse) ∧
      ∀ d : Fin 2, ∃ s : State, s.running ∧ s.gov.c = 0 ∧ s.gov.dwell = 290 + 9 * d.val ∧ s.gov.dwell < 300 ∧ 290 ≤ s.gov.dwell := by
  refine ⟨⟨(reading .wheelA 6000 sweep).setGov { gov0 with chanA := .lost, chanB := .noSignal, readmitA := 1 },
    ⟨by decide, by decide⟩, by decide⟩, fun d => ⟨sweep.setGov { gov0 with dwell := 290 + 9 * d.val },
    ⟨rfl, rfl⟩, rfl, rfl, ?_, ?_⟩⟩
  · show 290 + 9 * d.val < 300
    omega
  · show 290 ≤ 290 + 9 * d.val
    omega

/-- A waiting TRAVEL order of slot 1. -/
def travelWait (kind : TravelKind) (arrival : Timer) : TravelWait :=
  { kind := kind, slot := 1, tag := 7, takeTime := 0, timeout := 100, clampCount := 0, arrival := arrival }

/-- A waiting TRAVEL order of slot 1 with its entry, at a clock reading. -/
def waitingAt (ms : Nat) (w : TravelWait) : State := withOpen .travel 5 (atClock ms (road.setGov { gov0 with waiting := some w }))

/-- A left arm whose SET_ARM has waited 8 s. -/
def armWaits : State :=
  withOpen .armLeft 7 (atClock 8000 (leftArm { record .lowering .hover with
    waiting := some { slot := 1, tag := 7, takeTime := 0, req := .hover } } sweep))

/-- For WaitingOrdersEnd: an arrival that is due, a timeout at its limit, a STOP after 20 s and a SET_ARM after 8 s. -/
theorem witness_waiting :
    ((waitingAt 0 (travelWait .setPace (some 490))).running ∧
        (waitingAt 0 (travelWait .setPace (some 490))).openTaken (entryOn .travel 5) .travel 1 0 ∧
        (waitingAt 0 (travelWait .setPace (some 490))).arrivalDue (travelWait .setPace (some 490)) = true) ∧
      ((waitingAt 100 (travelWait .setPace none)).running ∧
        (waitingAt 100 (travelWait .setPace none)).openTaken (entryOn .travel 5) .travel 1 0 ∧
        (waitingAt 100 (travelWait .setPace none)).arrivalDue (travelWait .setPace none) = false ∧
        100 ≤ (waitingAt 100 (travelWait .setPace none)).since 0) ∧
      ((waitingAt 20000 (travelWait .stop none)).openTaken (entryOn .travel 5) .travel 1 0 ∧
        20000 ≤ (waitingAt 20000 (travelWait .stop none)).since 0) ∧
      armWaits.running ∧ armWaits.openTaken (entryOn .armLeft 7) (armTarget .left) 1 0 ∧ 8000 ≤ armWaits.since 0 :=
  ⟨⟨⟨by decide, by decide⟩, openTaken_of _ _ _ _ _ (by decide), by decide⟩,
    ⟨⟨by decide, by decide⟩, openTaken_of _ _ _ _ _ (by decide), by decide⟩,
    ⟨openTaken_of _ _ _ _ _ (by decide), by decide⟩, ⟨by decide, by decide⟩, openTaken_of _ _ _ _ _ (by decide), by decide⟩

/-- For ArmExpiriesSendTheArmOut: each kind, one step short of its time, ARM_STUCK at its two ends and in its three states. -/
theorem witness_arm_expiries :
    (∃ s : State, s.running ∧ (s.arm .left).waiting = none ∧ (s.arm .left).stateTimer = 3990 ∧
        (s.arm .left).state = .lowering ∧ s.input (downInput .left) = false) ∧
      (∃ s : State, s.running ∧ (s.arm .left).waiting = none ∧ (s.arm .left).stateTimer = 3999 ∧
        (s.arm .left).state = .raising ∧ s.input (upInput .left) = false) ∧
      (∃ s : State, s.running ∧ (s.arm .left).waiting = none ∧ (s.arm .left).stateTimer = 3990 ∧
        (s.arm .left).state = .lifting ∧ s.input (downInput .left) = true) ∧
      (∃ s : State, s.running ∧ judgesSwing (s.arm .left) = true ∧ s.valid (swingChannel .left) = false ∧
        timerDue 200 10 (s.arm .left).angleLoss = true) ∧
      (∃ s : State, s.running ∧ (s.arm .left).state = .deflected ∧ (s.arm .left).deflection = 1999) ∧
      (∃ s : State, s.running ∧ rotates (s.arm .left) = true ∧ 1490 ≤ (s.arm .left).spinUp ∧ 0 < (s.readArm .left).target ∧
        s.valid (brushChannel .left) = true ∧ s.brushSpeed .left * 5 < (s.readArm .left).target ∧
        timerDue 500 10 (s.arm .left).stall = true) ∧
      ∃ s : State, s.running ∧ rotates (s.arm .left) = true ∧ 1490 ≤ (s.arm .left).spinUp ∧ 0 < (s.readArm .left).target ∧
        s.valid (brushChannel .left) = false ∧ timerDue 1000 10 (s.arm .left).silence = true :=
  ⟨⟨leftArm { record .lowering .working with stateTimer := 3990 } sweep, ⟨by decide, by decide⟩, by decide⟩,
    ⟨leftArm { record .raising .stowed with stateTimer := 3999 } sweep, ⟨by decide, by decide⟩, by decide⟩,
    ⟨setInput .lDown ⟨true, true, 0⟩ (leftArm { record .lifting .hover with stateTimer := 3990 } sweep), ⟨by decide, by decide⟩,
      by decide⟩,
    ⟨leftArm { record .working .working with angleLoss := some 190 } sweep, ⟨by decide, by decide⟩, by decide⟩,
    ⟨leftArm { record .deflected .working with deflection := 1999 } sweep, ⟨by decide, by decide⟩, by decide⟩,
    ⟨reading .lBrush 588235 (leftArm { record .working .working with stall := some 490 } sweep),
      ⟨by decide, by decide⟩, by decide⟩,
    ⟨leftArm { record .working .working with silence := some 990 } sweep, ⟨by decide, by decide⟩, by decide⟩⟩

/-- For ArmTimersMoveTheArm: each timer one step short. -/
theorem witness_arm_timers :
    (∃ s : State, s.running ∧ (s.arm .left).state = .deflected ∧ (s.arm .left).req = .working ∧ s.reverseState = false ∧
        (s.arm .left).deflection = 1989 ∧ s.belowRelease (s.readArm .left) = true ∧ timerDue 300 10 (s.arm .left).ret = true) ∧
      (∃ s : State, s.running ∧ (s.arm .left).state = .lifting ∧ (s.arm .left).req ≠ .stowed ∧
        s.input (downInput .left) = false ∧ timerDue 300 10 (s.arm .left).hover = true) ∧
      (∃ s : State, s.running ∧ rotates (s.arm .left) = true ∧ (s.arm .left).spinUp = 1490) ∧
      ∃ s : State, s.running ∧ (s.arm .left).state = .out ∧ (s.arm .left).stateTimer = 3990 ∧
        (s.arm .left).cause = some .brushStall :=
  ⟨⟨leftArm { record .deflected .working with deflection := 1989, swing := 210, ret := some 290 } sweep, ⟨by decide, by decide⟩,
      by decide⟩,
    ⟨leftArm { record .lifting .hover with hover := some 290 } sweep, ⟨by decide, by decide⟩, by decide⟩,
    ⟨leftArm { record .lowering .working with spinUp := 1490 } sweep, ⟨by decide, by decide⟩, by decide⟩,
    ⟨leftArm { record .out .stowed with stateTimer := 3990, cause := some .brushStall, causePresent := true } sweep,
      ⟨by decide, by decide⟩, by decide⟩⟩

/-- PRIMING, its status RUNNING, one step short of 5000 ms. -/
def primingState : State :=
  (engagingIn .priming).setWatc { sweep.watc with prime := .running, primeTimer := 4980 }

/-- For WaterExpiriesWithdrawTheSupply: each condition with its timer one step short, and PRIME_HELD at the half of prime_flow. -/
theorem witness_water :
    (primingState.running ∧ primingState.watc.waterOut = false ∧ primingState.modc.phase = .priming ∧
        primingState.watc.prime = .running ∧ (waterRead primingState).nothingToPrime = false ∧
        (waterRead primingState).primeFlows = false ∧
        primingState.watc.primeTimer < 5000 ∧ 4980 ≤ primingState.watc.primeTimer) ∧
      (∃ s : State, s.running ∧ s.modc.phase = .priming ∧ s.watc.prime = .running ∧ s.primeFlow = 2 * s.measuredFlow ∧
        timerDue 200 20 s.watc.primeHold = true) ∧
      (∃ s : State, s.running ∧ s.watc.waterOut = false ∧ (waterFlow s).dryRunHolds = true ∧ timerDue 3000 20 s.watc.dryRun = true) ∧
      ∃ s : State, s.running ∧ s.watc.waterOut = false ∧ s.valid .tank = false ∧ timerDue 1000 20 s.watc.tankLoss = true :=
  ⟨⟨⟨by decide, by decide⟩, by decide⟩,
    ⟨reading .flow 40000 (primingState.setWatc { primingState.watc with primeHold := some 180 }), ⟨by decide, by decide⟩, by decide⟩,
    ⟨reading .flow 212765 (spraying.setWatc { sweep.watc with dryRun := some 2980 }), ⟨by decide, by decide⟩, by decide⟩,
    ⟨sweep.setWatc { sweep.watc with tankLoss := some 980 }, ⟨by decide, by decide⟩, by decide⟩⟩

/-- For the expiries of LoadStepMovesTheLoadFactor, each condition with its timer one step short. -/
theorem witness_load :
    (∃ s : State, s.running ∧ (loadForm s).loadm.engineLossFlag = false ∧ s.loadm.scale = 1000 ∧ (loadForm s).loadm.load = 300 ∧
        timerDue 1000 10 s.loadm.floor = true) ∧
      ∃ s : State, s.running ∧ (loadForm s).loadm.engineLossFlag = false ∧ s.loadm.scale = 700 ∧ (loadForm s).loadm.load = 800 ∧
        timerDue 2000 10 s.loadm.recovery = true :=
  ⟨⟨sweep.setLoadm { resetLoadManager with load := 300, floor := some 990 }, ⟨by decide, by decide⟩, by decide⟩,
    ⟨sweep.setLoadm { resetLoadManager with load := 800, scale := 700, recovery := some 1990 }, ⟨by decide, by decide⟩, by decide⟩⟩

/-- A trace source that runs. -/
def tracing : State := road.setTma { road.tma with trace := { resetTrace with enabled := true, interval := 10, periodTimer := 10 } }

/-- For StatusPublicationWritesThePage and TracePeriodWritesARecord. -/
theorem witness_publication :
    road.xmemWf ∧ road.resetHeld = false ∧ road.tma.stripRunning = true ∧ asleep.tma.stripRunning = false ∧
      road.traceRuns = false ∧ tracing.traceRuns = true ∧ tracing.tma.trace.source = .period ∧
      tracing.tma.trace.interval ≤ tracing.tma.trace.periodTimer := by
  refine ⟨?_, by decide⟩
  unfold State.xmemWf; decide

/-- The state with a FLOW channel whose pin has changed at 50 µs. -/
def flowPin (level : Bool) (st : ChannelState) (count : Nat) : State :=
  setCapture .flow { resetCapture level 0 with raw := !level, rawTime := 50, state := st, count := count } road

/-- For CaptureChannelsJudgeEdges: RESET# low, the array asleep, no edge at the pin, an edge at its filter time (50 + 50 µs) and 1 µs short of it, a rising edge in each state, and a
timeout at its instant. -/
theorem witness_capture :
    (held.resetHeld = true ∧ asleep.tma.stepsRunning = false) ∧
      (road.running ∧ (road.tma.captures.get .flow).raw = (road.tma.captures.get .flow).level) ∧
      ((flowPin true .valid 2).running ∧ ((flowPin true .valid 2).tma.captures.get .flow).raw = false ∧
        ((flowPin true .valid 2).tma.captures.get .flow).rawTime + filterTime .flow ≤ (flowPin true .valid 2).tma.micros + 100 ∧
        (flowPin true .valid 2).tma.micros + 99 < ((flowPin true .valid 2).tma.captures.get .flow).rawTime + filterTime .flow) ∧
      (∀ st : Fin 2, ((flowPin false .acquiring st.val).tma.captures.get .flow).raw = true ∧
        ((flowPin false .acquiring st.val).tma.captures.get .flow).count = st.val ∧
        50 - ((flowPin false .acquiring st.val).tma.captures.get .flow).rise < (flowPin false .acquiring st.val).timeoutTime .flow) ∧
      (((flowPin true .valid 2).tma.captures.get .flow).state ≠ .noSignal ∧
        ((flowPin true .valid 2).tma.captures.get .flow).rise + (flowPin true .valid 2).timeoutTime .flow
          ≤ (flowPin true .valid 2).tma.micros + 1000000) :=
  ⟨by decide, ⟨⟨by decide, by decide⟩, by decide⟩, ⟨⟨by decide, by decide⟩, by decide⟩, by decide, by decide⟩

/-- For InputsSettleAndPeriodsBegin: a level at 19 and at 20 ms, and OPERATOR while asleep. -/
theorem witness_inputs :
    road.resetHeld = false ∧ (setInput .operator ⟨false, true, 19⟩ road).tma.inputs.operator.stable < 20 ∧
      ((setInput .operator ⟨false, true, 20⟩ asleep).tma.inputs.operator.raw = true ∧
        20 ≤ (setInput .operator ⟨false, true, 20⟩ asleep).tma.inputs.operator.stable ∧
        (setInput .operator ⟨false, true, 20⟩ asleep).modc.wake = .dormant) ∧
      road.tma.stepsRunning = true ∧ road.modc.wake ≠ .dormant ∧ (true : Bool) ≠ (road.tma.inputs.get .lUp).raw := by decide

/-! ### Hypotheses of the wider clauses met -/

/-- An order whose slot the host has written since, as decidable conditions. -/
theorem openLost_of (s : State) (e : Entry) (target : Target) (slot : Nat) (time : BitVec 32)
    (h : e ∈ s.orders.entries ∧ e.target = target ∧ e.slot = slot ∧ e.takeTime = time ∧ s.owner e.slot ≠ ownerTaken ∧
      (s.orders.entries.map fun x => x.target).Nodup) : s.openLost e target slot time := h

/-- A running state, as decidable conditions. -/
theorem running_of (s : State) (h : s.resetHeld = false ∧ s.tma.stepsRunning = true) : s.running := h

/-- The host has freed slot 1. -/
def freed (s : State) : State := xwrite 16 ownerFree s

/-- For OutputInterlocksKept: both premises in one state, an exclusion latched. -/
theorem witness_output_interlocks :
    ((leftArm (record .out .stowed) sweep).setFaults
        { resetFaultUnit with exclusions := ⟨true, false, false, false⟩ }).outputsInv ∧
      ((leftArm (record .out .stowed) sweep).setFaults
        { resetFaultUnit with exclusions := ⟨true, false, false, false⟩ }).exclusionInv := by
  refine ⟨?_, ?_, ?_⟩
  · unfold State.outputsInv State.armOutputsSafe State.pumpSafe State.travelSafe; decide
  · intro a; cases a <;> decide
  · decide

/-- For RestartEffect: an open order whose slot is TAKEN, and one that the host has freed. -/
theorem witness_restart :
    ((withOpen .travel 5 sweep).resetHeld = false ∧ (withOpen .travel 5 sweep).modc.mode = .sweeping ∧
        (withOpen .travel 5 sweep).ordersInv ∧ (withOpen .travel 5 sweep).xmemWf ∧
        entryOn .travel 5 ∈ (withOpen .travel 5 sweep).orders.entries ∧ (withOpen .travel 5 sweep).owner 1 = ownerTaken) ∧
      (freed (withOpen .travel 5 sweep)).ordersInv ∧ (freed (withOpen .travel 5 sweep)).xmemWf ∧
      (freed (withOpen .travel 5 sweep)).owner 1 ≠ ownerTaken := by
  refine ⟨⟨by decide, by decide, ordersInv_of _ (by decide), ?_, by decide, by decide⟩, ordersInv_of _ (by decide), ?_, by decide⟩
  · unfold State.xmemWf; decide
  · unfold State.xmemWf; decide

/-- For WakeSourcesStartWaking: a restart request while WAKING. -/
theorem witness_waking_restart :
    (wakingAt 19).resetHeld = false ∧ (wakingAt 19).modc.mode = .parked ∧ (wakingAt 19).modc.wake = .waking := by decide

/-- WAKING with a restart request kept for its end, and an open order whose slot is TAKEN. -/
def wakingToRestart : State :=
  (withOpen .travel 5 (wakingAt 20)).setModc { (wakingAt 20).modc with restartPending := true }

/-- For the end of a wake in ModeCheckMovesTheMode: with a restart pending and with none. -/
theorem witness_end_of_wake :
    (wakingToRestart.running ∧ wakingToRestart.modc.mode = .parked ∧ wakingToRestart.modc.wake = .waking ∧
        20 ≤ wakingToRestart.since wakingToRestart.modc.wakeTime ∧ wakingToRestart.modc.restartPending = true) ∧
      (wakingToRestart.ordersInv ∧ wakingToRestart.xmemWf ∧ wakingToRestart.owner 1 = ownerTaken) ∧
      (wakingAt 20).calmArms ∧ (wakingAt 20).modc.restartPending = false := by
  refine ⟨⟨running_of _ (by decide), by decide⟩, ⟨ordersInv_of _ (by decide), ?_, by decide⟩, calm_of _ (by decide), by decide⟩
  unfold State.xmemWf; decide

/-- The restart kept for the end of a wake ends the open order, and the reason is RESTART (R17, R22). -/
theorem test_wake_ends_in_restart :
    (after .modeCheck wakingToRestart).orders.entries = [] ∧ (after .modeCheck wakingToRestart).modc.reason = 27 := by decide

/-- An arm OUT for ARM_STUCK at a state timer, its condition present, the engine signal lost. -/
def parkable (timer : Nat) : State :=
  let s := leftArm { record .out .stowed with stateTimer := timer, cause := some .armStuck, causePresent := decide (timer < 4000) } road
  (s.setLoadm { s.loadm with engineLossFlag := true }).setFaults
    { resetFaultUnit with active := kindBit .armStuck ||| kindBit .engineSpeedLost ||| kindBit .tankEmpty }

/-- For ParkSleepsOrIsRefused: an OUT raise 1 ms short of its end, and one that has ended. -/
theorem witness_park_out :
    ∀ short : Bool, (parkable (if short then 3999 else 4000)).takes ∧
      (parkable (if short then 3999 else 4000)).modc.mode = .transport ∧
      (parkable (if short then 3999 else 4000)).standstill = true ∧
      (parkable (if short then 3999 else 4000)).allStowedOrOut = true ∧
      (parkable (if short then 3999 else 4000)).orders.entries = [] ∧ (parkable (if short then 3999 else 4000)).cal.op = .idle := by
  intro short
  cases short <;> exact ⟨takes_of _ (by decide), by decide⟩

/-- The entry to PARKED ends ARM_STUCK and ENGINE_SPEED_LOST and keeps TANK_EMPTY (R86, R116, R131). -/
theorem test_park_ends_conditions :
    (changeMode .parked 20 (parkable 3999)).faults.active = kindBit .tankEmpty := by decide

/-- The slot at the cursor taken as its kind's command. -/
def takeOne (s : State) : State := after (slotCommand (s.slotKind s.orders.cursor) (s.slotOrder s.orders.cursor)) s

/-- A command completes. -/
def completes (c : Instr) (s : State) : Bool :=
  match exec c s with
  | .next _ => true
  | _ => false

/-- The state after a command that completes is the one it answers. -/
theorem exec_of_completes (c : Instr) (s : State) (h : completes c s = true) : exec c s = .next (after c s) := by
  unfold completes at h
  unfold after
  split at h <;> simp_all

/-- The first `n` slots are taken in a row. -/
def takesRow : Nat → State → Bool
  | 0, _ => true
  | n + 1, s =>
    s.scanned && decide (s.owner s.orders.cursor = ownerPosted) && !s.slotNamed s.orders.cursor &&
      completes (slotCommand (s.slotKind s.orders.cursor) (s.slotOrder s.orders.cursor)) s &&
      takesRow n (takeOne s)

/-- The state after `n` takes. -/
def taken : Nat → State → State
  | 0, s => s
  | n + 1, s => taken n (takeOne s)

/-- A computed run of takes is one. -/
theorem scanRun_of (n : Nat) (s : State) (h : takesRow n s = true) : ScanRun n s (taken n s) := by
  induction n generalizing s with
  | zero => rfl
  | succ n ih =>
    simp only [takesRow, Bool.and_eq_true, decide_eq_true_eq, Bool.not_eq_true'] at h
    exact ⟨h.1.1.1.1, h.1.1.1.2, h.1.1.2, _, exec_of_completes _ _ h.1.2, ih _ h.2⟩

/-- The strip with its first `n` slots POSTED, their kind 0. -/
def postedRow (n : Nat) : State := xwriteList 0 ((List.replicate n (ownerPosted :: List.replicate 15 0)).flatten) road

/-- The slot at the cursor asks for PARK. -/
def parkPosted : State := xwriteList 0 [ownerPosted, 0x0104] road

/-- For StripScanTakesTheCursorSlot: eight takes, three, one that parks, and one before a POSTED slot that an entry names. -/
theorem witness_strip_scan_runs :
    ScanRun 8 (postedRow 9) (taken 8 (postedRow 9)) ∧
      (ScanRun 3 (postedRow 3) (taken 3 (postedRow 3)) ∧
        (taken 3 (postedRow 3)).owner (taken 3 (postedRow 3)).orders.cursor ≠ ownerPosted) ∧
      (ScanRun 1 parkPosted (taken 1 parkPosted) ∧ (taken 1 parkPosted).modc.mode = .parked) ∧
      (ScanRun 1 (xwrite 16 ownerPosted (withOpen .store 13 road)) (taken 1 (xwrite 16 ownerPosted (withOpen .store 13 road))) ∧
        (taken 1 (xwrite 16 ownerPosted (withOpen .store 13 road))).modc.mode ≠ .parked ∧
        (taken 1 (xwrite 16 ownerPosted (withOpen .store 13 road))).owner 1 = ownerPosted ∧
        (taken 1 (xwrite 16 ownerPosted (withOpen .store 13 road))).slotNamed 1 = true) ∧
      State.reset.modc.mode = .starting ∧ asleep.modc.mode = .parked ∧ asleep.tma.stripRunning = false :=
  ⟨scanRun_of _ _ (by decide +kernel), ⟨scanRun_of _ _ (by decide +kernel), by decide +kernel⟩, ⟨scanRun_of _ _ (by decide +kernel), by decide +kernel⟩,
    ⟨scanRun_of _ _ (by decide +kernel), by decide +kernel⟩, by decide⟩

/-- For the orphan clauses of UnknownKindIsRefused, StopSupersedesAndWaits, CancelEndsEveryOrderWithTheTag,
StorePagesCompleteTheOrder, FetchFillsTheAreaOrFails and WaitingOrdersEnd. -/
theorem witness_orphans :
    ((xwrite 0 ownerFree road).resetHeld = false ∧ (xwrite 0 ownerFree road).scanned = true ∧
        (xwrite 0 ownerFree road).slotNamed 0 = false ∧ (xwrite 0 ownerFree road).owner 0 ≠ ownerPosted) ∧
      ((freed (withOpen .travel 5 road)).takes ∧ (freed (withOpen .travel 5 road)).ordersInv ∧
        (freed (withOpen .travel 5 road)).openLost (entryOn .travel 5) .travel 1 0 ∧
        entryOn .travel 5 ∈ (freed (withOpen .travel 5 road)).tagged 7) ∧
      (freed (loader .storing 33 (some 10) road)).openLost (entryOn .store 13) .store 1 0 ∧
      (freed (loader .fetching 0 none road)).openLost (entryOn .store 13) .store 1 0 ∧
      ((freed (waitingAt 20000 (travelWait .stop none))).running ∧
        (freed (waitingAt 20000 (travelWait .stop none))).openLost (entryOn .travel 5) .travel 1 0) ∧
      (freed armWaits).openLost (entryOn .armLeft 7) (armTarget .left) 1 0 :=
  ⟨by decide, ⟨takes_of _ (by decide), ordersInv_of _ (by decide), openLost_of _ _ _ _ _ (by decide), by decide⟩,
    openLost_of _ _ _ _ _ (by decide), openLost_of _ _ _ _ _ (by decide), ⟨running_of _ (by decide),
    openLost_of _ _ _ _ _ (by decide)⟩, openLost_of _ _ _ _ _ (by decide)⟩

/-- For SetArmRequestsAState: MAIN in a wrong mode, and MAIN and RIGHT in OUT. -/
theorem witness_set_arm_refusals :
    (road.takes ∧ armOf (ord 2 2 0 0).par.p0.toNat = some .main ∧ reqOf (ord 2 2 0 0).par.p1.toNat = some .working ∧
        road.modc.mode ≠ .sweeping) ∧
      ((armsIn .out sweep).takes ∧ (armsIn .out sweep).modc.mode = .sweeping ∧ armOf (ord 2 2 0 0).par.p0.toNat = some .main ∧
        armOf (ord 1 2 0 0).par.p0.toNat = some .right ∧
        ((armsIn .out sweep).arm .main).state = .out ∧ ((armsIn .out sweep).arm .right).state = .out) :=
  ⟨⟨takes_of _ (by decide), by decide⟩, takes_of _ (by decide), by decide⟩

/-- A page in its internal write, no store polling. -/
def pageInFlight : State := road.setEeprom { road.eeprom with inFlight := some (528, [1, 2]), writeTime := some 9 }

/-- For StorePagesCompleteTheOrder: a page that is written with no store polling. -/
theorem witness_page_written :
    pageInFlight.resetHeld = false ∧ pageInFlight.eeprom.inFlight = some (528, [1, 2]) ∧ pageInFlight.eeprom.fitted = true ∧
      pageInFlight.memoryInv ∧ pageInFlight.cal.op ≠ .storing := by
  refine ⟨by decide, by decide, by decide, ⟨?_, by decide, by decide, ?_⟩, by decide⟩
  · unfold State.xmemWf; decide
  · intro base ws h
    have h' : (some (528, [1, 2]) : Option (Nat × List Word)) = some (base, ws) := h
    cases h'; decide

/-- ENGAGING in a phase with every arm commanded, the timers, the water block and all three records given. -/
def engageAt (p : Phase) (settle : Timer) (budget : Nat) (w : WaterControl) (r : ArmRecord) : State :=
  (((inMode .engaging road).setModc { road.modc with
    mode := .engaging, phase := p, settle := settle, budget := budget, commanded := ⟨true, true, true⟩ }).setArmc
    { left := r, right := r, main := r, width := 0 }).setWatc w

/-- Water for the engage, the priming not done. -/
def wet : WaterControl := sweep.watc

/-- Every such state runs, and engages if its arms are not OUT and there is water. -/
theorem engageAt_engages (p : Phase) (settle : Timer) (budget : Nat) (w : WaterControl) (r : ArmRecord)
    (h : r.waiting = none ∧ (decide (r.state = .out)) = false ∧ decide (0 < w.qAvail) = true) :
    (engageAt p settle budget w r).running ∧ (engageAt p settle budget w r).calmArms ∧
      (engageAt p settle budget w r).engagesOn = true := by
  refine ⟨⟨rfl, rfl⟩, calm_of _ ⟨h.1, h.1, h.1⟩, ?_⟩
  have h2 : (engageAt p settle budget w r).mainOut = false := h.2.1
  have h3 : (engageAt p settle budget w r).waterAvailable = true := h.2.2
  have h4 : (engageAt p settle budget w r).modc.mode = .engaging := rfl
  simp [State.engagesOn, h2, h4, State.waterGone, h3]

/-- A record that works, its brush at 80 % of its target, and one below that. -/
def spun : ArmRecord := { worker 0 90 with measured := 72 }
/-- The brush at 71 of a target of 90. -/
def slow : ArmRecord := { worker 0 90 with measured := 71 }

/-- For the phases of ModeCheckMovesTheMode and for EngageTimersEndTheEngage: PRIMING kept and ended, LOWERING ended with settled and
with unsettled arms and kept, SETTLING with its timer stopped, at its start, on its way and due, and the budget one step short. -/
theorem witness_phases :
    ((engageAt .priming none 0 wet spun).watc.prime ≠ .primed ∧ 0 < (engageAt .priming none 0 wet spun).watc.qAvail ∧
        (engageAt .priming none 0 wet spun).dose ≠ 0 ∧ (engageAt .priming none 0 wet spun).modc.budget + 10 < 12000) ∧
      (engageAt .priming none 0 { wet with prime := .primed } spun).watc.prime = .primed ∧
      (engageAt .priming none 0 { wet with override := some 0 } spun).dose = 0 ∧
      (engageAt .lowering none 11980 wet spun).everyArm (engageAt .lowering none 11980 wet spun).remainingArms isWorking = true ∧
      (engageAt .lowering none 11980 wet spun).settled = true ∧ (engageAt .lowering none 11980 wet slow).settled = false ∧
      ((engageAt .lowering none 0 wet (record .lowering .working)).remainingArms.has .left = true ∧
        ((engageAt .lowering none 0 wet (record .lowering .working)).arm .left).state ≠ .working) ∧
      (engageAt .settling (some 280) 0 wet slow).settled = false ∧
      (∀ v : Fin 3, (engageAt .settling ([none, some 280, some 290].getD v.val none) 0 wet spun).settled = true) ∧
      timerDue 300 10 (some 290) = true ∧ timerDue 300 10 (some 280) = false ∧
      (engageAt .settling none 11990 wet (record .lowering .working)).settled = false ∧ 12000 ≤ 11990 + 10 := by decide

/-- The same states engage. -/
theorem witness_phases_engage :
    ((engageAt .priming none 11990 wet spun).running ∧ (engageAt .priming none 11990 wet spun).calmArms ∧
        (engageAt .priming none 11990 wet spun).engagesOn = true) ∧
      (engageAt .lowering none 11990 wet slow).engagesOn = true ∧
      (engageAt .settling (some 290) 11990 wet spun).engagesOn = true ∧
      (engageAt .settling none 11990 wet (record .lowering .working)).engagesOn = true ∧
      (withOpen .mode 2 (engageAt .settling none 11990 wet slow)).openTaken (entryOn .mode 2) .mode 1 0 :=
  ⟨engageAt_engages _ _ _ _ _ (by decide), (engageAt_engages _ _ _ _ _ (by decide)).2.2,
    (engageAt_engages _ _ _ _ _ (by decide)).2.2, (engageAt_engages _ _ _ _ _ (by decide)).2.2,
    openTaken_of _ _ _ _ _ (by decide)⟩

/-- For the ends of work in ModeCheckMovesTheMode and in StopExpiriesEnterSafe with an open ENGAGE or DISENGAGE. -/
theorem witness_open_mode_orders :
    ((withOpen .mode 2 (armsIn .out sweep)).running ∧ (withOpen .mode 2 (armsIn .out sweep)).armc.main.state = .out ∧
        (withOpen .mode 2 (armsIn .out sweep)).openTaken (entryOn .mode 2) .mode 1 0) ∧
      ((withOpen .mode 2 (inMode .sweeping road)).waterGone = true ∧
        (withOpen .mode 2 (inMode .sweeping road)).openTaken (entryOn .mode 2) .mode 1 0) ∧
      ((withOpen .mode 3 (inMode .disengaging silent)).running ∧ (travelSense (withOpen .mode 3 (inMode .disengaging silent))).silenceHolds = true ∧
        timerDue 1000 10 (withOpen .mode 3 (inMode .disengaging silent)).gov.silence = true ∧
        (withOpen .mode 3 (inMode .disengaging silent)).openTaken (entryOn .mode 3) .mode 1 0) ∧
      (inMode .parked unchecked).modc.mode = .parked ∧ timerAt 100 (inMode .parked unchecked).port.window = true :=
  ⟨⟨running_of _ (by decide), by decide, openTaken_of _ _ _ _ _ (by decide)⟩, ⟨by decide, openTaken_of _ _ _ _ _ (by decide)⟩,
    ⟨running_of _ (by decide), by decide, by decide, openTaken_of _ _ _ _ _ (by decide)⟩, by decide⟩

/-! ### The arms -/

/-- A record short of every exclusion. -/
theorem short_of (r : ArmRecord)
    (h : r.stateTimer < 3990 ∧ r.angleLoss = none ∧ r.deflection < 1990 ∧ r.stall = none ∧ r.silence = none) : shortOfExclusion r := by
  refine ⟨.inl h.1, ?_, h.2.2.1, ?_, ?_⟩ <;> intro v hv <;> simp_all

/-- Sweeping with the left record, the machine in reverse. -/
def backing (r : ArmRecord) : State := leftArm r (sweep.setGov { gov0 with c := -1 })

/-- For the moves of ArmStepDrivesTheArms: every record used is short of every exclusion, the reverse states are reverse states. -/
theorem witness_arm_moves :
    (∀ st req, shortOfExclusion (record st req)) ∧
      ((backing (record .working .working)).running ∧ (backing (record .working .working)).gov.c < 0 ∧
        ((backing (record .working .working)).arm .left).req ≠ .stowed ∧
        ((backing (record .working .working)).arm .left).state = .working) ∧
      (rotates (record .working .stowed) = true ∧ (record .working .stowed).req = .stowed) ∧
      ((leftArm (record .raising .working) sweep).input .lUp = false ∧ sweep.reverseState = false ∧ sweep.modc.mode = .sweeping) ∧
      ((reading .lSwing 400 (leftArm (record .working .working) sweep)).deflectThreshold
          < (reading .lSwing 400 (leftArm (record .working .working) sweep)).nextSwing .left 0) ∧
      (leftArm { record .deflected .working with ret := some 290 } sweep).deflectHysteresis ≤ sweep.deflectThreshold ∧
      (leftArm { record .lifting .hover with hover := some 290 } sweep).input .lDown = false ∧
      (reading .rBrush 116279 sweep).valid (brushChannel .right) = true := by
  refine ⟨fun st req => short_of _ ⟨?_, rfl, ?_, rfl, rfl⟩, ⟨running_of _ (by decide), by decide⟩, by decide⟩
  · show 0 < 3990
    decide
  · show 0 < 1990
    decide

/-- A test that is met is the first one if the timers of the lower ranks are short of their limits. -/
theorem first_of (s : State) (a : Arm) (k : FaultKind) (d : Nat) (h : ExclusionMet s a k d)
    (h7 : k.rank ≤ FaultKind.armStuck.rank ∨ (s.arm a).stateTimer < 3990)
    (h8 : k.rank ≤ FaultKind.armAngleLost.rank ∨ timerDue 200 10 (s.arm a).angleLoss = false)
    (h9 : k.rank ≤ FaultKind.armDeflectLong.rank ∨ (s.arm a).deflection < 1990) : FirstExclusion s a k d := by
  refine ⟨h, fun k' d' h' => ?_⟩
  cases k' <;> try exact h'.elim
  · exact h7.elim id fun hs => absurd h'.1 (by omega)
  · obtain ⟨side, _, _, _, hd, _⟩ := h'
    exact h8.elim id fun hs => by simp [hs] at hd
  · exact h9.elim id fun hs => absurd h'.2.1 (by omega)
  · cases k <;> first | exact h.elim | decide

/-- No test is met if every timer is short of its limit. -/
theorem none_of (s : State) (a : Arm)
    (h : (s.arm a).stateTimer < 3990 ∧ timerDue 200 10 (s.arm a).angleLoss = false ∧ (s.arm a).deflection < 1990 ∧
      timerDue 500 10 (s.arm a).stall = false ∧ timerDue 1000 10 (s.arm a).silence = false) :
    ∀ k d, ¬ExclusionMet s a k d := by
  intro k d h'
  cases k <;> try exact h'.elim
  · exact absurd h'.1 (by omega)
  · obtain ⟨side, _, _, _, hd, _⟩ := h'
    simp [h.2.1] at hd
  · exact absurd h'.2.1 (by omega)
  · rcases h'.2.2.2 with h1 | h1
    · simp [h.2.2.2.1] at h1
    · simp [h.2.2.2.2] at h1

/-- Stuck in LOWERING. -/
def stuckArm : State := leftArm { record .lowering .working with stateTimer := 3990 } sweep
/-- Stuck in LOWERING with the swing channel lost at the same step. -/
def stuckAndBlind : State := leftArm { record .lowering .working with stateTimer := 3999, angleLoss := some 190 } sweep
/-- The swing channel lost. -/
def blindArm : State := leftArm { record .working .working with angleLoss := some 190 } sweep
/-- Deflected for 1990 ms, the return due at the same step. -/
def longArm : State := leftArm { record .deflected .working with deflection := 1990, swing := 210, ret := some 290 } sweep
/-- A stalled brush. -/
def stalledArm : State := reading .lBrush 588235 (leftArm { record .working .working with stall := some 490 } sweep)
/-- A silent brush. -/
def silentArm : State := leftArm { record .working .working with silence := some 990 } sweep
/-- LIFTING with a silent brush, HOVER due at the same step. -/
def silentLift : State := leftArm { record .lifting .hover with silence := some 990, hover := some 290 } sweep
/-- A waiting SET_ARM of slot 1 on the left arm. -/
def waitingStuck : State :=
  withOpen .armLeft 7 (leftArm { record .lowering .hover with
    stateTimer := 3990, waiting := some { slot := 1, tag := 7, takeTime := 0, req := .hover } } sweep)

/-- For ArmExpiriesSendTheArmOut: each kind as the first test met, two tests met at one step, and a waiting SET_ARM. -/
theorem witness_first_exclusions :
    (stuckArm.running ∧ FirstExclusion stuckArm .left .armStuck 1) ∧
      (ExclusionMet stuckAndBlind .left .armAngleLost 0 ∧ FirstExclusion stuckAndBlind .left .armStuck 1) ∧
      FirstExclusion blindArm .left .armAngleLost 0 ∧ FirstExclusion longArm .left .armDeflectLong 210 ∧
      (stalledArm.valid (brushChannel .left) = true ∧ FirstExclusion stalledArm .left .brushStall 17) ∧
      (silentArm.valid (brushChannel .left) = false ∧ FirstExclusion silentArm .left .brushStall 65535) ∧
      ExclusionMet waitingStuck .left .armStuck 1 ∧
      (waitingStuck.arm .left).waiting = some { slot := 1, tag := 7, takeTime := 0, req := .hover } ∧
      waitingStuck.openTaken (entryOn .armLeft 7) (armTarget .left) 1 0 := by
  have stuck : ∀ s : State, (3990 ≤ (s.arm .left).stateTimer ∧ (s.arm .left).stateTimer < 4000 ∧
      (s.arm .left).state = .lowering ∧ s.input .lDown = false) → ExclusionMet s .left .armStuck 1 :=
    fun s h => ⟨h.1, h.2.1, .inl ⟨h.2.2.1, h.2.2.2, rfl⟩⟩
  have blind : ∀ s : State, (judgesSwing (s.arm .left) = true ∧ s.valid .lSwing = false ∧
      timerDue 200 10 (s.arm .left).angleLoss = true ∧ 0 = lossDetail (s.channel .lSwing).1) →
      ExclusionMet s .left .armAngleLost 0 := fun s h => ⟨.left, rfl, h⟩
  refine ⟨⟨running_of _ (by decide), first_of _ _ _ _ (stuck _ (by decide)) (by decide) (by decide) (by decide)⟩,
    ⟨blind _ (by decide), first_of _ _ _ _ (stuck _ (by decide)) (by decide) (by decide) (by decide)⟩,
    first_of _ _ _ _ (blind _ (by decide)) (by decide) (by decide) (by decide), first_of _ _ _ _ ?_ (by decide) (by decide) (by decide),
    ⟨by decide, first_of _ _ _ _ ⟨by decide, by decide, by decide, .inl (by decide)⟩ (by decide) (by decide) (by decide)⟩,
    ⟨by decide, first_of _ _ _ _ ⟨by decide, by decide, by decide, .inr (by decide)⟩ (by decide) (by decide) (by decide)⟩,
    stuck _ (by decide), by decide, openTaken_of _ _ _ _ _ (by decide)⟩
  exact (by decide : (longArm.arm .left).state = .deflected ∧ 1990 ≤ (longArm.arm .left).deflection ∧
    (longArm.arm .left).deflection < 2000 ∧ 210 = (longArm.readArm .left).swing)

/-- The return due, the requested state and the reverse given. -/
def returning (req : ReqState) (c : Int) : State :=
  leftArm { record .deflected req with deflection := 1989, swing := 210, ret := some 290 } (sweep.setGov { gov0 with c := c })

/-- For ArmTimersMoveTheArm: a return and a hover at which an exclusion is first, and returns with no exclusion by each request. -/
theorem witness_arm_timer_moves :
    (longArm.belowRelease (longArm.readArm .left) = true ∧ timerDue 300 10 (longArm.arm .left).ret = true ∧
        (longArm.arm .left).waiting = none ∧ FirstExclusion longArm .left .armDeflectLong 210) ∧
      (silentLift.input .lDown = false ∧ timerDue 300 10 (silentLift.arm .left).hover = true ∧
        FirstExclusion silentLift .left .brushStall 65535) ∧
      (∀ req c, ((returning req c).arm .left).state = .deflected ∧ ((returning req c).arm .left).req = req ∧
        (returning req c).belowRelease ((returning req c).readArm .left) = true ∧
        timerDue 300 10 ((returning req c).arm .left).ret = true ∧ ∀ k d, ¬ExclusionMet (returning req c) .left k d) ∧
      (returning .working (-1)).reverseState = true ∧ (returning .working 0).reverseState = false := by
  refine ⟨⟨by decide, by decide, by decide, witness_first_exclusions.2.2.2.1⟩, ⟨by decide, by decide,
    first_of _ _ _ _ ⟨by decide, by decide, by decide, .inr (by decide)⟩ (by decide) (by decide) (by decide)⟩,
    fun req c => ⟨rfl, rfl, rfl, rfl, none_of _ _ ⟨?_, rfl, ?_, rfl, rfl⟩⟩, by decide⟩
  · show 0 < 3990
    decide
  · show 1989 < 1990
    decide

/-! ### The load, the distance counter and the PWM pins -/

/-- A load step's own timers: at L = 300 and at 800, absent, one step on its way and due. -/
def loadAt (load scale : Nat) (floor recovery : Timer) : State :=
  reading .engine (if load = 300 then 9470 else 8720) (sweep.setLoadm
    { resetLoadManager with load := load, scale := scale, floor := floor, recovery := recovery })

/-- The load factor after a load step. -/
def loadAfter (s : State) : Nat := (after .loadStep s).loadm.load

/-- For LoadStepMovesTheLoadFactor: L stays at 300, and stays at 800 or above. -/
theorem witness_load_timers :
    (loadAt 300 1000 none none).running ∧ (loadAt 300 1000 none none).valid .engine = true ∧
      loadAfter (loadAt 300 1000 none none) = 300 ∧ loadAfter (loadAt 300 1000 (some 980) none) = 300 ∧
      loadAfter (loadAt 300 1000 (some 990) none) = 300 ∧ 800 ≤ loadAfter (loadAt 900 700 none none) ∧
      800 ≤ loadAfter (loadAt 900 700 none (some 1980)) ∧ 800 ≤ loadAfter (loadAt 900 700 none (some 1990)) := by
  refine ⟨running_of _ (by decide), by decide⟩

/-- A distance source, a rising edge held at a wheel's pin, the sum given. -/
def edgeAt (chanA : WheelState) (ch : Channel) (sum : Nat) : State :=
  setCapture ch { resetCapture false 0 with raw := true, rawTime := 50, state := .valid, count := 2 }
    ((road.setGov { gov0 with chanA := chanA }).setTma { road.tma with
      trace := { resetTrace with enabled := true, source := .distance, interval := 100, accumulator := sum } })

/-- For the distance counter of CaptureChannelsJudgeEdges: the counted wheel A, and B while A is LOST, short of the interval and at it. -/
theorem witness_distance :
    (edgeAt .inUse .wheelA 0).running ∧ (edgeAt .inUse .wheelA 0).traceRuns = true ∧
      (edgeAt .inUse .wheelA 0).gov.chanA ≠ .lost ∧ (edgeAt .lost .wheelB 0).gov.chanA = .lost ∧
      (edgeAt .inUse .wheelA 0).umPerPulse .a < 100 * 1000 ∧ 100 * 1000 ≤ 88000 + (edgeAt .inUse .wheelA 88000).umPerPulse .a ∧
      100 * 1000 ≤ 88000 + (edgeAt .lost .wheelB 88000).umPerPulse .b ∧
      50 + filterTime .wheelA ≤ (edgeAt .inUse .wheelA 0).tma.micros + 70 := by
  refine ⟨running_of _ (by decide), by decide⟩

/-- The pump pin at a duty of 316 ‰: high for 316 µs of its period, then low (R135). -/
theorem test_pwm_level :
    ((after (.pwmPeriodStart .waterPump) (setOutputs { outputsAllOff with waterPump := ⟨316, 0, 0⟩ } road)).pwmLevel .waterPump 315 = true ∧
      (after (.pwmPeriodStart .waterPump) (setOutputs { outputsAllOff with waterPump := ⟨316, 0, 0⟩ } road)).pwmLevel .waterPump 316 = false) := by decide

/-- A stall and a stuck arm at one step: the arm goes OUT as ARM_STUCK, the lower rank (R82). -/
theorem test_exclusions_in_rank_order :
    ((after (.brushSilenceTimeout .left) (leftArm { record .lowering .working with
      stateTimer := 3990, silence := some 990 } sweep)).arm .left).cause = some .armStuck := by decide

/-- A settle timer due at the budget's end: SWEEPING (R11). -/
theorem test_settling_before_budget : (after .engageBudgetExpiry settlingState).modc.mode = .sweeping := by decide

/-- A released hold leaves its hold, count and bitmap words 0 (R121). -/
theorem test_release_hold :
    (releaseHold false ((xwriteList (faultBase + holdOffset false) [1, 2, 3] road).setFaults
      { resetFaultUnit with primary := { emptyRecordHold with hold := true, count := 2, bitmap := 3 } })).xread
        (faultBase + holdOffset false) = 0 := by decide

/-- An arm that goes OUT at an expiry has reach 0, and W falls with it at once (R71, R81). -/
theorem test_out_has_no_reach :
    (after (.angleLossTimeout .left) (leftArm { worker 400 90 with angleLoss := some 190 } sweep)).armc.width = 1800 := by decide

/-! ### Older orders superseded, the attempt to leave SAFE, and an arm's own move at its timeout -/

/-- The conditions of the superseding clauses, with the older order's slot TAKEN and with its slot written by the host. -/
theorem supersede_of (s : State) (target : Target) (kind : Nat)
    (h : (withOpen target kind s).resetHeld = false ∧ (withOpen target kind s).scanned = true ∧
      (withOpen target kind s).slotNamed s.orders.cursor = false ∧ (withOpen target kind s).owner s.orders.cursor = ownerPosted ∧
      (freed (withOpen target kind s)).owner s.orders.cursor = ownerPosted ∧ s.orders.cursor < 32 ∧
      Memory.wf (word 0) Config.xmemWords (withOpen target kind s).xmem = true ∧
      Memory.wf (word 0) Config.xmemWords (freed (withOpen target kind s)).xmem = true) :
    (withOpen target kind s).takes ∧ (freed (withOpen target kind s)).takes :=
  ⟨⟨h.1, h.2.1, h.2.2.1, h.2.2.2.1, h.2.2.2.2.2.1, h.2.2.2.2.2.2.1⟩,
    ⟨h.1, h.2.1, h.2.2.1, h.2.2.2.2.1, h.2.2.2.2.2.1, h.2.2.2.2.2.2.2⟩⟩

/-- For the superseding clauses of EngageOpensOrIsRefused, DisengageRaisesTheArms, SetPaceReplacesTheRequest, StopSupersedesAndWaits
and SetArmRequestsAState: every mode that accepts, the older order's slot TAKEN, and written by the host. -/
theorem witness_supersedes :
    (∀ m, (withOpen .mode 2 (inMode m sweep)).ordersInv ∧
        entryOn .mode 2 ∈ (freed (withOpen .mode 2 (inMode m sweep))).orders.entries) ∧
      ((withOpen .mode 2 (inMode .engaging sweep)).takes ∧ (freed (withOpen .mode 2 (inMode .engaging sweep))).takes) ∧
      ((withOpen .mode 2 (inMode .transport sweep)).takes ∧ (freed (withOpen .mode 2 (inMode .transport sweep))).takes) ∧
      ((withOpen .mode 2 (inMode .disengaging sweep)).takes ∧ (freed (withOpen .mode 2 (inMode .disengaging sweep))).takes) ∧
      ((withOpen .mode 2 sweep).takes ∧ (freed (withOpen .mode 2 sweep)).takes ∧ (withOpen .mode 2 sweep).calmArms) ∧
      ((withOpen .travel 5 sweep).takes ∧ (freed (withOpen .travel 5 sweep)).takes ∧ (withOpen .travel 5 sweep).ordersInv) ∧
      ((withOpen .armRight 7 sweep).takes ∧ (freed (withOpen .armRight 7 sweep)).takes ∧ (withOpen .armRight 7 sweep).ordersInv) ∧
      (withOpen .travel 5 sweep).owner 1 = ownerTaken ∧ (freed (withOpen .travel 5 sweep)).owner 1 ≠ ownerTaken :=
  ⟨fun m => ⟨ordersInv_of _ (by cases m <;> decide), List.mem_singleton.mpr rfl⟩,
    supersede_of _ _ _ (by decide), supersede_of _ _ _ (by decide), supersede_of _ _ _ (by decide),
    ⟨(supersede_of _ _ _ (by decide)).1, (supersede_of _ _ _ (by decide)).2, calm_of _ (by decide)⟩,
    ⟨(supersede_of _ _ _ (by decide)).1, (supersede_of _ _ _ (by decide)).2, ordersInv_of _ (by decide)⟩,
    ⟨(supersede_of _ _ _ (by decide)).1, (supersede_of _ _ _ (by decide)).2, ordersInv_of _ (by decide)⟩, by decide⟩

/-- In SAFE, both holds set, an arm OUT with its exclusion. -/
def safeHolds : State :=
  (inMode .safe (leftArm (record .out .stowed) road)).setFaults
    { resetFaultUnit with
      primary := { emptyRecordHold with hold := true, count := 2, bitmap := 3 }
      severe := { emptyRecordHold with hold := true, count := 1, bitmap := 1 }
      exclusions := ⟨true, false, false, false⟩ }

/-- For ClearFaultReleasesHolds in SAFE: the attempt succeeds, both holds released; it fails with the machine moving and with an arm
in HOVER. -/
theorem witness_clear_flag_zero :
    safeHolds.takes ∧ safeHolds.calmArms ∧ (safeHolds.modc.mode = .safe ∧ safeHolds.standstill = true ∧
        safeHolds.stopActive = false ∧ ∀ a, (safeHolds.arm a).state = .stowed ∨ (safeHolds.arm a).state = .out) ∧
      ((ord 2 0 0 0).par.p0.toNat ≤ 2 ∧ (ord 2 0 0 0).par.p1.toNat = 0) ∧
      (∀ severe, ((safeHolds.faults.served severe).hold && decide ((ord 2 0 0 0).par.p0.toNat ≠ if severe then 0 else 1)) = true) ∧
      ((safeHolds.setGov { gov0 with c := 1 }).takes ∧ (safeHolds.setGov { gov0 with c := 1 }).standstill = false) ∧
      (armsIn .hover safeHolds).takes ∧ ((armsIn .hover safeHolds).arm .main).state = .hover := by
  refine ⟨takes_of _ (by decide), calm_of _ (by decide), ⟨by decide, by decide, by decide, fun a => ?_⟩, by decide, by decide,
    ⟨takes_of _ (by decide), by decide⟩, takes_of _ (by decide), by decide⟩
  cases a <;> decide

/-- The same attempt in numbers: TRANSPORT, and detail 1 + 2 + 4 (R129). -/
theorem test_clear_flag_zero :
    (after (.clearFault (ord 2 0 0 0)) safeHolds).modc.mode = .transport ∧
      (after (.clearFault (ord 2 0 0 0)) safeHolds).xread 12 = 7 := by decide

/-- A fetch at a device that holds an image, its order's slot TAKEN. -/
def fetchStored : State := (loader .fetching 0 none road).setEeprom stored

/-- For the VALID clauses of FetchFillsTheAreaOrFails: an order that ends, one whose slot the host has written, one withdrawn. -/
theorem witness_valid_fetch :
    classifyImage (fetchStored.eeprom.image fetchStored.freeReads) = .valid ∧ fetchStored.xmemWf ∧
      fetchStored.resetHeld = false ∧ fetchStored.cal.op = .fetching ∧ fetchStored.cal.order = some (1, 0) ∧
      fetchStored.openTaken (entryOn .store 13) .store 1 0 ∧ (freed fetchStored).openLost (entryOn .store 13) .store 1 0 ∧
      ∀ e ∈ (fetchStored.setOrders resetOrderUnit).orders.entries, ¬(e.target = .store ∧ e.slot = 1 ∧ e.takeTime = 0) := by
  refine ⟨witness_valid_image, ?_, by decide, by decide, by decide, openTaken_of _ _ _ _ _ (by decide),
    openLost_of _ _ _ _ _ (by decide), fun e he => by cases he⟩
  unfold State.xmemWf; decide

/-- A SET_ARM of slot 1 that has waited for 8 s, its arm's record given. -/
def overdue (r : ArmRecord) : State :=
  atClock 8000 (withOpen .armLeft 7 (leftArm
    { r with waiting := some { slot := 1, tag := 7, takeTime := 0, req := r.req } } sweep))

/-- LIFTING, HOVER due at this step. -/
def dueHover : ArmRecord := { record .lifting .hover with hover := some 290 }
/-- LIFTING, not yet due. -/
def lateHover : ArmRecord := { record .lifting .hover with hover := some 280 }
/-- DEFLECTED for 1990 ms. -/
def dueDeflect : ArmRecord := { record .deflected .working with deflection := 1990, swing := 400 }

/-- The move of an arm in LIFTING that no stow request turns (R68). -/
theorem next_of_lifting (s : State) (a : Arm) (st : ArmState)
    (h : (s.arm a).state = .lifting ∧ (s.arm a).req ≠ .stowed ∧
      st = if s.input (downInput a) = false ∧ (timerDue 300 10 (s.arm a).hover || timerAt 300 (s.arm a).hover) = true then .hover
        else .lifting) : NextArmState s a st := by
  obtain ⟨hs, hr, rfl⟩ := h
  unfold NextArmState
  rw [if_neg (fun x => hr x.2), if_neg (by simp [hs]), hs]
  dsimp only
  split <;> rfl

/-- For the SET_ARM_TIMEOUT clauses of WaitingOrdersEnd: a match due at that step, no move, and an exclusion due. -/
theorem witness_overdue_arms :
    (∀ r, (overdue r).running ∧ ((overdue r).arm .left).waiting = some { slot := 1, tag := 7, takeTime := 0, req := r.req } ∧
        8000 ≤ (overdue r).since 0) ∧
      ((∀ k d, ¬ExclusionMet (overdue dueHover) .left k d) ∧ NextArmState (overdue dueHover) .left .hover ∧
        matchesReq .hover .hover = true) ∧
      ((∀ k d, ¬ExclusionMet (overdue lateHover) .left k d) ∧ NextArmState (overdue lateHover) .left .lifting ∧
        matchesReq .lifting .hover = false) ∧
      FirstExclusion (overdue dueDeflect) .left .armDeflectLong 400 ∧
      (overdue dueDeflect).openTaken (entryOn .armLeft 7) (armTarget .left) 1 0 := by
  refine ⟨fun r => ⟨⟨rfl, rfl⟩, rfl, (by decide : 8000 ≤ ((8000#32) - 0).toNat)⟩, ⟨none_of _ _ (by decide), next_of_lifting _ _ _ (by decide), by decide⟩,
    ⟨none_of _ _ (by decide), next_of_lifting _ _ _ (by decide), by decide⟩, first_of _ _ _ _ ?_ (by decide) (by decide) (by decide),
    openTaken_of _ _ _ _ _ (by decide)⟩
  · exact (by decide : ((overdue dueDeflect).arm .left).state = .deflected ∧ 1990 ≤ ((overdue dueDeflect).arm .left).deflection ∧
      ((overdue dueDeflect).arm .left).deflection < 2000 ∧ 400 = ((overdue dueDeflect).readArm .left).swing)

/-- The timeout after that transition: OK at a hover due, TIMED_OUT in LIFTING, FAILED with rank 9 at an exclusion due (R85). -/
theorem test_set_arm_timeout :
    (after (.setArmTimeout .left) (overdue dueHover)).xread 27 = 0 ∧
      ((after (.setArmTimeout .left) (overdue dueHover)).arm .left).state = .hover ∧
      (after (.setArmTimeout .left) (overdue lateHover)).xread 27 = 9 ∧
      (after (.setArmTimeout .left) (overdue dueDeflect)).xread 27 = 10 ∧
      (after (.setArmTimeout .left) (overdue dueDeflect)).xread 28 = word 9 := by decide

/-- A sleeping array begins no PWM period (R142). -/
theorem test_asleep_has_no_period : after (.pwmPeriodStart .waterPump) asleep = asleep := rfl

/-- A millisecond after both began, the pump's period is over and a motor's is not, the clock at its wrap too (R135). -/
theorem test_periods_last :
    (road.setTma { road.tma with clock := 4294967295, micros := 1000 }).periodOver .waterPump = true ∧
      (road.setTma { road.tma with clock := 4294967295, micros := 1000 }).periodOver .lMotor = false := by decide

/-! ### Waiting orders at a mode-change notice, the channel states, the condition ends and the prime status -/

/-- A SET_ARM for HOVER of slot 1 waits on the left arm. -/
def hoverWaits (s : State) : State :=
  withOpen .armLeft 7 (leftArm { record .lowering .hover with
    waiting := some { slot := 1, tag := 7, takeTime := 0, req := .hover } } s)

/-- A SET_PACE of slot 1 waits. -/
def paceWaits (s : State) : State := withOpen .travel 5 (s.setGov { s.gov with waiting := some (travelWait .setPace none) })

/-- For the clauses on waiting orders of DisengageRaisesTheArms, ModeCheckMovesTheMode and StopExpiriesEnterSafe: a waiting SET_ARM
whose slot is TAKEN and one whose slot the host has written, at a DISENGAGE, at each end of work and at a stopping expiry; and a
waiting SET_PACE. -/
theorem witness_notice_fails :
    ((hoverWaits sweep).takes ∧ (hoverWaits sweep).ordersInv ∧ (hoverWaits sweep).openOn .mode = none ∧
        (hoverWaits sweep).modc.mode = .sweeping ∧ (hoverWaits sweep).failsArm (entryOn .armLeft 7) = true ∧
        entryOn .armLeft 7 ∈ (hoverWaits sweep).orders.entries ∧ (hoverWaits sweep).owner 1 = ownerTaken) ∧
      ((freed (hoverWaits sweep)).takes ∧ (freed (hoverWaits sweep)).failsArm (entryOn .armLeft 7) = true ∧
        (freed (hoverWaits sweep)).owner 1 ≠ ownerTaken) ∧
      ((setArm .main (record .out .stowed) (hoverWaits sweep)).running ∧
        (setArm .main (record .out .stowed) (hoverWaits sweep)).ordersInv ∧
        (setArm .main (record .out .stowed) (hoverWaits sweep)).armc.main.state = .out ∧
        (setArm .main (record .out .stowed) (hoverWaits sweep)).openOn .mode = none) ∧
      ((hoverWaits (inMode .sweeping road)).running ∧ (hoverWaits (inMode .sweeping road)).waterGone = true ∧
        (hoverWaits (inMode .sweeping road)).armc.main.state ≠ .out ∧ (hoverWaits (inMode .sweeping road)).openOn .mode = none) ∧
      ((hoverWaits unmanned).running ∧ (travelDrive (hoverWaits unmanned)).operatorHolds = true ∧
        timerDue 1000 10 (hoverWaits unmanned).gov.operator = true ∧ (hoverWaits unmanned).atWork ∧ (hoverWaits unmanned).ordersInv ∧
        (hoverWaits unmanned).failsArm (entryOn .armLeft 7) = true) ∧
      ((paceWaits unmanned).running ∧ (travelDrive (paceWaits unmanned)).operatorHolds = true ∧
        timerDue 1000 10 (paceWaits unmanned).gov.operator = true ∧ (paceWaits unmanned).atWork ∧ (paceWaits unmanned).ordersInv ∧
        (paceWaits unmanned).failsPace (entryOn .travel 5) = true) :=
  ⟨⟨takes_of _ (by decide), ordersInv_of _ (by decide), by decide⟩, ⟨takes_of _ (by decide), by decide⟩,
    ⟨running_of _ (by decide), ordersInv_of _ (by decide), by decide⟩, ⟨running_of _ (by decide), by decide⟩,
    ⟨running_of _ (by decide), by decide, by decide, .inr (.inr (.inl rfl)), ordersInv_of _ (by decide), by decide⟩,
    ⟨running_of _ (by decide), by decide, by decide, .inr (.inr (.inl rfl)), ordersInv_of _ (by decide), by decide⟩⟩

/-- The forms of exchange memory that those clauses ask for. -/
theorem witness_notice_memory :
    (setArm .main (record .out .stowed) (hoverWaits sweep)).xmemWf ∧ (hoverWaits (inMode .sweeping road)).xmemWf ∧
      (hoverWaits unmanned).xmemWf ∧ (paceWaits unmanned).xmemWf := by
  refine ⟨?_, ?_, ?_, ?_⟩ <;> (unfold State.xmemWf; decide)

/-- A DISENGAGE fails the waiting SET_ARM with DISENGAGE_ORDER (R86). -/
theorem test_disengage_fails_set_arm :
    (after (.disengage (ord 0 0 0 0)) (hoverWaits sweep)).xread 27 = 10 ∧
      (after (.disengage (ord 0 0 0 0)) (hoverWaits sweep)).xread 28 = 19 ∧
      (after (.disengage (ord 0 0 0 0)) (hoverWaits sweep)).armc.left.waiting = none := by decide

/-- The notice to SAFE fails the waiting SET_PACE with the rank of OPERATOR_ABSENT (R61). -/
theorem test_safe_fails_set_pace :
    (after .operatorAbsentTimeout (paceWaits unmanned)).xread 27 = 10 ∧
      (after .operatorAbsentTimeout (paceWaits unmanned)).xread 28 = word FaultKind.operatorAbsent.rank ∧
      (after .operatorAbsentTimeout (paceWaits unmanned)).gov.waiting = none := by decide

/-- For the waits law of OpenOrdersLawKept: in SWEEPING, and outside it. -/
theorem witness_waits :
    (hoverWaits sweep).waitsInv ∧ road.waitsInv ∧ (∃ t, step (hoverWaits sweep) = .next t) ∧ ∃ t, step road = .next t :=
  ⟨.inl rfl, .inr (calm_of _ (by decide)), ⟨_, rfl⟩, ⟨_, rfl⟩⟩

/-- In SAFE with the water exclusion to release, a severe hold set, its water-out flag set. -/
def safeDry : State := safeHolds.setWatc { safeHolds.watc with waterOut := true }

/-- For ClearFaultReleasesExclusionsAndLeavesSafe: holds and the water exclusion released, SAFE left. -/
theorem witness_clear_water :
    (safeDry.setFaults { safeDry.faults with exclusions := ⟨true, false, false, true⟩ }).takes ∧
      (safeDry.setFaults { safeDry.faults with exclusions := ⟨true, false, false, true⟩ }).calmArms ∧
      (ord 2 1 0 0).par.p0.toNat ≤ 2 ∧ (ord 2 1 0 0).par.p1.toNat = 1 ∧
      (∀ severe, ((safeDry.faults.served severe).hold && decide ((ord 2 1 0 0).par.p0.toNat ≠ if severe then 0 else 1)) = true) ∧
      (safeDry.isActive .waterDry || safeDry.isActive .tankSensorLost) = false :=
  ⟨takes_of _ (by decide), calm_of _ (by decide), by decide⟩

/-- The water-out flag is cleared with its exclusion, and the severe hold word is 0 (R127, R128). -/
theorem test_clear_water :
    (after (.clearFault (ord 2 1 0 0)) (safeDry.setFaults { safeDry.faults with exclusions := ⟨true, false, false, true⟩ })).watc.waterOut
        = false ∧
      (after (.clearFault (ord 2 1 0 0)) (safeDry.setFaults { safeDry.faults with exclusions := ⟨true, false, false, true⟩ })).xread
        (faultBase + holdOffset true) = 0 := by decide

/-- A wheel channel A in a state, B in use at 2000 mm/s. -/
def wheelsAt (a : WheelState) (loss : Timer) (readmit : Nat) : State :=
  reading .wheelB 6000 (road.setGov { gov0 with c := 800, chanA := a, lossA := loss, readmitA := readmit })

/-- For the channel clauses of TravelStepMeasuresAndDrives: silent short of 500 ms and at it, VALID, and LOST with a first and a
second agreeing reading. -/
theorem witness_channels :
    (wheelsAt .noSignal (some 490) 0).running ∧ (wheelsAt .noSignal (some 490) 0).gov.chan .a ≠ .lost ∧
      (wheelsAt .noSignal (some 490) 0).valid .wheelA = false ∧ (wheelsAt .noSignal (some 490) 0).valid .wheelB = true ∧
      (reading .wheelA 6000 (wheelsAt .lost none 1)).gov.chan .a = .lost ∧
      (reading .wheelA 6000 (wheelsAt .lost none 1)).gov.chan .b ≠ .lost ∧
      (reading .wheelA 6000 (wheelsAt .lost none 1)).valid .wheelA = true := by
  refine ⟨running_of _ (by decide), by decide⟩

/-- The states of channel A after the step: LOST at 500 ms, NO_SIGNAL before, IN_USE at the second reading (R40, R42, R43). -/
theorem test_channel_states :
    (after .travelStep (wheelsAt .noSignal (some 490) 0)).gov.chanA = .lost ∧
      (after .travelStep (wheelsAt .noSignal (some 480) 0)).gov.chanA = .noSignal ∧
      (after .travelStep (reading .wheelA 6000 (wheelsAt .lost none 1))).gov.chanA = .inUse ∧
      (after .travelStep (reading .wheelA 6000 (wheelsAt .lost none 0))).gov.chanA = .lost := by decide

/-- A state with kinds in the active-condition set. -/
def withActive (a : BitVec 16) (s : State) : State := s.setFaults { s.faults with active := a }

/-- For the condition clauses of the travel, water and load steps: the flags and timers they judge, at their boundaries. -/
theorem witness_conditions :
    (withActive 0xFFFF sweep).running ∧ timerDue 1000 10 (some 990) = true ∧ timerDue 1000 20 (some 980) = true ∧
      (reading .flow 15873 (withActive 0xFFFF sweep)).valid .flow = true ∧ (withActive 0xFFFF sweep).valid .flow = false ∧
      (withActive 0xFFFF (sweep.setWatc { sweep.watc with dryReport := true, waterOut := true })).watc.dryReport = true ∧
      (after .waterStep (withActive 0xFFFF (sweep.setWatc { sweep.watc with dryReport := true, waterOut := true }))).watc.duty = 0 ∧
      (reading .engine 8695 (withActive 0xFFFF sweep)).valid .engine = true := by
  refine ⟨running_of _ (by decide), by decide⟩

/-- A stopped pump ends WATER_DRY, a VALID engine ENGINE_SPEED_LOST with its flag set, a seated operator OPERATOR_ABSENT (R105, R115,
R59). -/
theorem test_condition_ends :
    (after .waterStep (withActive 0xFFFF (sweep.setWatc { sweep.watc with dryReport := true, waterOut := true }))).isActive .waterDry
        = false ∧
      (after .loadStep (reading .engine 8695 (withActive 0xFFFF
        (sweep.setLoadm { resetLoadManager with engineLossFlag := true })))).isActive .engineSpeedLost = false ∧
      (after .travelStep (setInput .operator ⟨true, true, 20⟩ (withActive 0xFFFF sweep))).isActive .operatorAbsent = false := by
  decide

/-- For the prime status of WaterStepDosesTheWater: outside PRIMING, and in PRIMING with each status. -/
theorem witness_prime :
    sweep.running ∧ sweep.modc.phase ≠ .priming ∧ (engagingIn .priming).running ∧ (engagingIn .priming).modc.phase = .priming ∧
      (engagingIn .priming).watc.prime = .idle ∧ primingState.watc.prime = .running ∧
      (primingState.setWatc { primingState.watc with prime := .primed }).watc.prime = .primed := by
  refine ⟨running_of _ (by decide), by decide, running_of _ (by decide), by decide⟩

/-- RUNNING at the first step of PRIMING, PRIMED where the mask leaves nothing to prime, IDLE outside the phase (R96). -/
theorem test_prime_status :
    (after .waterStep (engagingIn .priming)).watc.prime = .running ∧
      (after .waterStep (primingState.setWatc { primingState.watc with mask := 0 })).watc.prime = .primed ∧
      (after .waterStep (sweep.setWatc { sweep.watc with prime := .primed })).watc.prime = .idle := by decide

/-- For CaptureChannelsJudgeEdges: a raw change that ends an edge held for its filter time, and a period as long as the timeout in
each state that holds a value. -/
theorem witness_late_edges :
    ((flowPin true .valid 2).running ∧ ((flowPin true .valid 2).tma.captures.get .flow).raw ≠ ((flowPin true .valid 2).tma.captures.get .flow).level ∧
        ((flowPin true .valid 2).tma.captures.get .flow).rawTime + filterTime .flow ≤ (flowPin true .valid 2).tma.micros + 100) ∧
      ∀ st : Fin 2, ((setCapture .flow { resetCapture false 0 with
          raw := true, rawTime := 1000000, state := if st = 0 then .valid else .outOfRange, count := 2 } road).tma.captures.get .flow).level
            = false ∧
        (setCapture .flow { resetCapture false 0 with
          raw := true, rawTime := 1000000, state := if st = 0 then .valid else .outOfRange, count := 2 } road).timeoutTime .flow
            ≤ 1000000 - 0 := by
  refine ⟨⟨running_of _ (by decide), by decide⟩, by decide⟩

/-- For the orphan and discard clauses of ArmExpiriesSendTheArmOut. -/
theorem witness_lost_exclusions :
    (freed waitingStuck).openLost (entryOn .armLeft 7) (armTarget .left) 1 0 ∧
      ((freed waitingStuck).arm .left).waiting = some { slot := 1, tag := 7, takeTime := 0, req := .hover } ∧
      FirstExclusion (freed waitingStuck) .left .armStuck 1 ∧
      (∀ e ∈ (waitingStuck.setOrders resetOrderUnit).orders.entries, ¬(e.target = armTarget .left ∧ e.slot = 1 ∧ e.takeTime = 0)) ∧
      FirstExclusion (waitingStuck.setOrders resetOrderUnit) .left .armStuck 1 := by
  have stuck : ∀ s : State, (3990 ≤ (s.arm .left).stateTimer ∧ (s.arm .left).stateTimer < 4000 ∧
      (s.arm .left).state = .lowering ∧ s.input .lDown = false) → ExclusionMet s .left .armStuck 1 :=
    fun s h => ⟨h.1, h.2.1, .inl ⟨h.2.2.1, h.2.2.2, rfl⟩⟩
  exact ⟨openLost_of _ _ _ _ _ (by decide), by decide, first_of _ _ _ _ (stuck _ (by decide)) (by decide) (by decide) (by decide),
    fun e he => (by cases he), first_of _ _ _ _ (stuck _ (by decide)) (by decide) (by decide) (by decide)⟩

/-- For the budget's end in SETTLING of ModeCheckMovesTheMode: the arms WORKING, a brush short of its speed, or the timer short. -/
theorem witness_budget_in_settling :
    ((engageAt .settling none 11990 wet slow).running ∧ (engageAt .settling none 11990 wet slow).engagesOn = true ∧
        ((engageAt .settling none 11990 wet slow).arm .left).state = .working ∧
        ((engageAt .settling none 11990 wet slow).arm .left).measured * 10 < 8 * ((engageAt .settling none 11990 wet slow).arm .left).target) ∧
      ((engageAt .settling (some 280) 11990 wet spun).engagesOn = true ∧
        (engageAt .settling (some 280) 11990 wet spun).modc.settle = some 280) ∧ 280 + 10 < 300 :=
  ⟨⟨(engageAt_engages _ _ _ _ _ (by decide)).1, (engageAt_engages _ _ _ _ _ (by decide)).2.2, by decide⟩,
    ⟨(engageAt_engages _ _ _ _ _ (by decide)).2.2, by decide⟩, by decide⟩

/-! ### Expiries judged on the readings of their step -/

/-- An arm's return: none with an angle now above the release level, WORKING with one now below it, whatever the last step stored
(R63, R67). -/
theorem test_return_reads_the_angle :
    ((after (.deflectReturn .left) (reading .lSwing 400 (returning .working 0))).arm .left).state = .deflected ∧
      ((after (.deflectReturn .left) (reading .lSwing 200
        (leftArm { record .deflected .working with swing := 400, ret := some 290 } sweep))).arm .left).state = .working ∧
      ((after (.deflectReturn .left) (reading .lSwing 200
        (leftArm { record .deflected .working with swing := 400, ret := some 290 } sweep))).arm .left).swing = 150 := by decide

/-- ARM_DEFLECT_LONG reports the angle of the step, not the one stored before it (R82). -/
theorem test_deflect_long_reports_the_angle :
    (after (.deflectLongTimeout .left) (reading .lSwing 400 longArm)).faults.primary.record.detail = 350 := by decide

/-- BRUSH_STALL reports the speed of the step, and is not met by a brush that now turns at 90 rpm (R78). -/
theorem test_stall_reads_the_speed :
    (after (.brushStallTimeout .left) stalledArm).faults.primary.record.detail = 17 ∧
      ((after (.brushStallTimeout .left) (reading .lBrush 111111 (leftArm { record .working .working with
        measured := 17, stall := some 490 } sweep))).arm .left).state = .working := by decide

/-- A profile that now gives 0 rpm ends a silence (R75, R79). -/
theorem test_silence_reads_the_profile :
    ((after (.brushSilenceTimeout .left) (silentArm.setModc { silentArm.modc with
      profile := { silentArm.modc.profile with brushSpeedL := 0 } })).arm .left).state = .working := by decide

/-- A v_act of the last step is no overspeed once both wheels are silent (R40, R58). -/
theorem test_overspeed_reads_the_wheels :
    (after .overspeedTimeout (sweep.setGov { gov0 with vAct := 501, overspeed := some 990 })).modc.mode = .sweeping := by decide

/-- A pump whose flow the FLOW channel now shows is not dry (R103). -/
theorem test_dry_run_reads_the_flow :
    (after .dryRunTimeout (reading .flow 30000 (spraying.setWatc { sweep.watc with dryRun := some 2980 }))).watc.waterOut = false ∧
      (after .dryRunTimeout (reading .flow 212765 (spraying.setWatc { sweep.watc with dryRun := some 2980 }))).watc.waterOut = true := by
  decide

/-! ### Clauses without a premise on the arms, the stays, the timers and the waiting orders of the steps -/

/-- The open-orders law and the form of exchange memory, as decidable conditions. -/
theorem lawful_of (s : State)
    (h : ((s.orders.entries.map fun e => e.target).Nodup ∧ (s.orders.entries.map fun e => e.slot).Nodup ∧
      s.orders.cursor < 32 ∧ ∀ e ∈ s.orders.entries, e.slot < 32) ∧ Memory.wf (word 0) Config.xmemWords s.xmem = true) :
    s.ordersInv ∧ s.xmemWf := h

/-- A waiting SET_ARM for HOVER is no calm. -/
theorem not_calm_of (s : State) (w : ArmWait) (h : (s.arm .left).waiting = some w ∧ w.req ≠ .stowed) : ¬s.calmArms :=
  fun hc => h.2 (hc _ _ h.1)

/-- For ClearFaultReleasesExclusionsAndLeavesSafe: in SWEEPING with a SET_ARM for HOVER waiting, and SAFE left with the arm at its UP
input and not left with the arm away from it. -/
theorem witness_clear_leaves :
    ((hoverWaits sweep).takes ∧ ¬(hoverWaits sweep).calmArms ∧ (hoverWaits sweep).modc.mode ≠ .safe) ∧
      ((setInput .lUp ⟨true, true, 20⟩ safeHolds).takes ∧ (setInput .lUp ⟨true, true, 20⟩ safeHolds).calmArms ∧
        (setInput .lUp ⟨true, true, 20⟩ safeHolds).modc.mode = .safe ∧ (setInput .lUp ⟨true, true, 20⟩ safeHolds).standstill = true ∧
        (setInput .lUp ⟨true, true, 20⟩ safeHolds).stopActive = false ∧
        ∀ a, if (setInput .lUp ⟨true, true, 20⟩ safeHolds).faults.exclusions.arm a = true ∧
            ((setInput .lUp ⟨true, true, 20⟩ safeHolds).arm a).causePresent = false
          then (setInput .lUp ⟨true, true, 20⟩ safeHolds).input (upInput a) = true
          else ((setInput .lUp ⟨true, true, 20⟩ safeHolds).arm a).state = .stowed ∨
            ((setInput .lUp ⟨true, true, 20⟩ safeHolds).arm a).state = .out) ∧
      safeHolds.faults.exclusions.arm .left = true ∧ (safeHolds.arm .left).causePresent = false ∧
      safeHolds.input (upInput .left) = false :=
  ⟨⟨takes_of _ (by decide), not_calm_of _ _ ⟨rfl, by decide⟩, by decide⟩,
    ⟨takes_of _ (by decide), calm_of _ (by decide), by decide, by decide, by decide, fun a => by cases a <;> decide⟩, by decide⟩

/-- CLEAR_FAULT leaves a waiting SET_ARM in SWEEPING, leaves SAFE for TRANSPORT with the released arm STOWED, and stays in SAFE with it
RAISING (R72, R128, R129). -/
theorem test_clear_leaves :
    (after (.clearFault (ord 2 1 0 0)) (hoverWaits sweep)).arm .left = (hoverWaits sweep).arm .left ∧
      (after (.clearFault (ord 2 1 0 0)) (setInput .lUp ⟨true, true, 20⟩ safeHolds)).modc.mode = .transport ∧
      (after (.clearFault (ord 2 1 0 0)) safeHolds).modc.mode = .safe ∧
      ((after (.clearFault (ord 2 1 0 0)) safeHolds).arm .left).state = .raising := by decide

/-- For ModeCheckMovesTheMode: SWEEPING with neither test of R12 met and a SET_ARM for HOVER waiting. -/
theorem witness_quiet_check :
    (hoverWaits sweep).running ∧ (hoverWaits sweep).modc.mode = .sweeping ∧ (hoverWaits sweep).mainOut = false ∧
      (hoverWaits sweep).waterGone = false ∧ ¬(hoverWaits sweep).calmArms :=
  ⟨running_of _ (by decide), by decide, by decide, by decide, not_calm_of _ _ ⟨rfl, by decide⟩⟩

/-- The two wheel channels VALID with the last rising edge of A at 0 and of B at 1 µs, at half a second. -/
def edgesAt (s : State) : State :=
  let r := reading .wheelA 6000 (reading .wheelB 6000 s)
  setCapture .wheelB { r.tma.captures.get .wheelB with rise := 1 } (r.setTma { r.tma with micros := 500000 })

/-- The same with the default calibration in the area. -/
def areaEdges : State := (edgesAt road).setXmem (xwriteList 1024 defaultCalibration road).xmem

/-- For LoadCalibrationInstallsTheArea: a valid area, wheel A at its new timeout and B 1 µs short of it (R134). -/
theorem witness_new_timeout :
    areaEdges.takes ∧ areaEdges.modc.mode = .transport ∧ areaEdges.standstill = true ∧ areaEdges.cal.op ≠ .fetching ∧
      firstBadWord areaEdges.areaWords = none ∧ areaEdges.xread 1026 = 500 ∧
      areaEdges.valid .wheelA = true ∧ areaEdges.valid .wheelB = true := by
  have form : road.xmemWf := witness_host_port.2.2
  have reads : ∀ a, areaEdges.xread a = (xwriteList 1024 defaultCalibration road).xread a := fun a => by
    simp only [areaEdges, State.xread, State.setXmem_xmem]
  have owned : areaEdges.owner 0 = ownerPosted := by
    have posted : road.xread (slotBase 0) = ownerPosted := by decide
    rw [State.owner, reads, xread_xwriteList_other _ _ _ _ (.inl (by decide)), posted]
  have wheelWord : areaEdges.xread 1026 = 500 := by
    rw [reads, show 1026 = 1024 + 2 from rfl, xread_xwriteList_same _ _ _ _ form (by decide +kernel) (by decide +kernel)]
    decide
  have area : firstBadWord areaEdges.areaWords = none := by
    have h := witness_load_calibration.2.2.2
    simpa only [areaEdges, State.areaWords, State.setXmem_xmem] using h
  have wf : areaEdges.xmemWf := by
    simpa only [areaEdges, State.xmemWf, State.setXmem_xmem] using xwriteList_xmemWf 1024 defaultCalibration road form
  exact ⟨⟨rfl, rfl, rfl, owned, (by decide : 0 < 32), wf⟩, rfl, rfl, (by decide : CalOp.idle ≠ .fetching),
    area, wheelWord, by decide, by decide⟩

/-- At a timeout of 500 ms the one channel is silent, the other stands (R134). -/
theorem test_new_timeout :
    (applyWheelTimeout (edgesAt road)).valid .wheelA = false ∧ (applyWheelTimeout (edgesAt road)).valid .wheelB = true := by decide

/-- For the VALID clause of StartupLoadEndsInAWorkingCalibration, in one state. -/
theorem witness_startup_valid :
    (State.reset.setEeprom stored).resetHeld = false ∧ (State.reset.setEeprom stored).cal.op = .loading ∧
      (State.reset.setEeprom stored).xmemWf ∧
      classifyImage ((State.reset.setEeprom stored).eeprom.image (State.reset.setEeprom stored).freeReads) = .valid := by
  refine ⟨by decide, by decide, ?_, witness_valid_image⟩
  unfold State.xmemWf; decide

/-- For stage 8 in TravelStepRampsTowardTheTarget: a SET_PACE and a STOP that wait, each open and lawful, and no order waiting. -/
theorem witness_travel_waits :
    (∀ ms w, (waitingAt ms w).running) ∧
      ((waitingAt 0 (travelWait .setPace (some 490))).ordersInv ∧ (waitingAt 0 (travelWait .setPace (some 490))).xmemWf) ∧
      ((waitingAt 0 (travelWait .stop none)).ordersInv ∧ (waitingAt 0 (travelWait .stop none)).xmemWf) ∧
      road.running ∧ road.gov.waiting = none ∧ (after .travelStep road).modc.mode = road.modc.mode :=
  ⟨fun _ _ => ⟨rfl, rfl⟩, lawful_of _ (by decide), lawful_of _ (by decide), running_of _ (by decide), by decide⟩

/-- An arrival timer on its way, an arrival, a timeout and a STOP at standstill (R48, R49). -/
theorem test_travel_waits :
    (after .travelStep (waitingAt 0 (travelWait .setPace (some 480)))).gov.waiting = some (travelWait .setPace (some 490)) ∧
      ((after .travelStep (waitingAt 0 (travelWait .setPace (some 490)))).gov.waiting = none ∧
        (after .travelStep (waitingAt 0 (travelWait .setPace (some 490)))).owner 1 = ownerDone ∧
        (after .travelStep (waitingAt 0 (travelWait .setPace (some 490)))).xread 27 = 0) ∧
      (after .travelStep (waitingAt 100 (travelWait .setPace none))).xread 27 = 9 ∧
      (after .travelStep (waitingAt 0 (travelWait .stop none))).owner 1 = ownerDone ∧
      (after .travelStep (waitingAt 0 (travelWait .stop none))).orders.entries = [] := by decide

/-- For the report clauses of TravelStepMeasuresAndDrives: a step that reports nothing, and each stopping kind first, at work, in SAFE
and in STARTING. -/
theorem witness_travel_reports :
    (road.running ∧ TravelReportsNothing road (after .travelStep road) ∧ road.gov.waiting = none ∧
        firstStop road (after .travelStep road) = none) ∧
      (firstStop silent (after .travelStep silent) = some .wheelSensorsLost ∧
        firstStop unmanned (after .travelStep unmanned) = some .operatorAbsent ∧
        firstStop runaway (after .travelStep runaway) = some .overspeed) ∧
      (firstStop (inMode .safe unmanned) (after .travelStep (inMode .safe unmanned)) = none ∧
        firstStop (inMode .safe silent) (after .travelStep (inMode .safe silent)) = some .wheelSensorsLost ∧
        firstStop (inMode .starting silent) (after .travelStep (inMode .starting silent)) = some .wheelSensorsLost) := by
  refine ⟨⟨running_of _ (by decide), ⟨by decide, by decide, by decide, by decide, fun w => ?_⟩, by decide, by decide⟩, by decide, by decide⟩
  cases w <;> decide

/-- SAFE at work with the halt latch of WHEEL_SENSORS_LOST, none for OVERSPEED, the latch alone in SAFE and nothing in STARTING (R4). -/
theorem test_travel_reports :
    ((after .travelStep silent).modc.mode = .safe ∧ (after .travelStep silent).modc.haltLatch = true) ∧
      ((after .travelStep runaway).modc.mode = .safe ∧ (after .travelStep runaway).modc.haltLatch = false) ∧
      ((after .travelStep (inMode .safe silent)).modc.haltLatch = true ∧ (inMode .safe silent).modc.haltLatch = false) ∧
      (after .travelStep (inMode .starting silent)).modc = (inMode .starting silent).modc := by decide

/-- The timers of the travel step advance by 10 ms while their condition holds, and the loss timer starts at 0 (R41 to R44, R58, R59). -/
theorem test_travel_timers :
    (after .travelStep (silent.setGov { silent.gov with silence := some 500 })).gov.silence = some 510 ∧
      (after .travelStep (unmanned.setGov { unmanned.gov with c := 500, operator := none })).gov.operator = some 0 ∧
      (after .travelStep (runaway.setGov { runaway.gov with overspeed := some 20 })).gov.overspeed = some 30 ∧
      (after .travelStep (wheelsAt .noSignal (some 480) 0)).gov.lossA = some 490 ∧
      (after .travelStep (reading .wheelA 6000 (wheelsAt .lost none 0))).gov.readmitA = 1 := by decide

/-- For the stays of ArmStepDrivesTheArms: no exclusion met, and the state of each is its own at the next step. -/
theorem witness_arm_stays :
    (∀ st req a, ∀ k d, ¬ExclusionMet (leftArm (record st req) road) a k d) ∧
      ¬(leftArm (record .stowed .stowed) road).goesDown .left ∧
      NextArmState (leftArm (record .stowed .stowed) road) .left .stowed ∧
      NextArmState (leftArm (record .lifting .hover) road) .left .lifting ∧
      NextArmState (leftArm (record .lowering .hover) road) .left .lowering ∧
      NextArmState (leftArm (record .raising .stowed) road) .left .raising := by
  have quiet : ∀ s : State, ¬(s.modc.mode = .engaging ∨ s.modc.mode = .sweeping) → ¬s.goesDown .left := fun s h x => h x.2.1
  refine ⟨fun st req a => none_of _ _ ?_, quiet _ (by decide), .inr ⟨quiet _ (by decide), rfl⟩, next_of_lifting _ _ _ (by decide), ?_,
    .inr ⟨quiet _ (by decide), rfl⟩⟩
  · cases a <;> exact ⟨(by decide : 0 < 3990), rfl, (by decide : 0 < 1990), rfl, rfl⟩
  · exact rfl

/-- No arm leaves its state without the cause that R64 names: STOWED and RAISING outside the modes of work and without a request,
LOWERING without DOWN, LIFTING with its timer on its way, HOVER asked WORKING in reverse. -/
theorem test_arm_stays :
    ((after .armStep (leftArm (record .stowed .working) road)).arm .left).state = .stowed ∧
      ((after .armStep (leftArm (record .stowed .stowed) sweep)).arm .left).state = .stowed ∧
      ((after .armStep (leftArm (record .raising .stowed) sweep)).arm .left).state = .raising ∧
      ((after .armStep (leftArm (record .lowering .working) sweep)).arm .left).state = .lowering ∧
      ((after .armStep (leftArm { record .lifting .hover with hover := some 280 } sweep)).arm .left).state = .lifting ∧
      ((after .armStep (backing (record .hover .working))).arm .left).state = .hover := by decide

/-- The timers of the arm step advance while their condition holds (R67, R68, R76, R78 to R80). -/
theorem test_arm_timers_advance :
    ((after .armStep (reading .lBrush 588235 (leftArm { record .working .working with stall := some 480 } sweep))).arm .left).stall
        = some 490 ∧
      ((after .armStep (leftArm { record .working .working with silence := some 10, angleLoss := some 20 } sweep)).arm .left).silence
        = some 20 ∧
      ((after .armStep (leftArm { record .working .working with silence := some 10, angleLoss := some 20 } sweep)).arm .left).angleLoss
        = some 30 ∧
      ((after .armStep (leftArm { record .lifting .hover with hover := some 280, spinUp := 10 } sweep)).arm .left).hover = some 290 ∧
      ((after .armStep (leftArm { record .lifting .hover with hover := some 280, spinUp := 10 } sweep)).arm .left).spinUp = 20 := by
  decide

/-- An arm in OUT for a kind, the state timer given. -/
def outFor (k : FaultKind) (timer : Nat) : State :=
  leftArm { record .out .stowed with cause := some k, causePresent := true, stateTimer := timer } (withActive 0xFFFF sweep)

/-- For the OUT clause of ArmStepDrivesTheArms: the OUT raise ends at this step, and is short of its end. -/
theorem witness_cause_ends :
    (outFor .armStuck 3990).running ∧ ((outFor .armStuck 3990).arm .left).state = .out ∧ CauseEndsAt (outFor .armStuck 3990) .left ∧
      ¬CauseEndsAt (outFor .armStuck 3980) .left ∧ CauseEndsAt (reading .lSwing 400 (outFor .armAngleLost 0)) .left := by
  have early : ¬CauseEndsAt (outFor .armStuck 3980) .left := by
    rintro (⟨-, -, h⟩ | ⟨h, -⟩ | ⟨h, -⟩)
    · exact absurd h (by decide)
    · exact absurd h (by decide)
    · exact absurd h (by decide)
  exact ⟨running_of _ (by decide), by decide, .inl ⟨.inl rfl, by decide⟩, early, .inr (.inl ⟨rfl, by decide⟩)⟩

/-- The kind ends with the flag, and stands with it (R83). -/
theorem test_cause_ends :
    ((after .armStep (outFor .armStuck 3990)).isActive .armStuck = false ∧
        ((after .armStep (outFor .armStuck 3990)).arm .left).causePresent = false) ∧
      (after .armStep (outFor .armStuck 3980)).isActive .armStuck = true ∧
      (after .armStep (outFor .armDeflectLong 3990)).isActive .armDeflectLong = true ∧
      (after .armStep (reading .lSwing 400 (outFor .armAngleLost 0))).isActive .armAngleLost = false := by decide

/-- A SET_ARM for HOVER waits on a left arm of a state. -/
def waitsIn (st : ArmState) : State :=
  withOpen .armLeft 7 (leftArm { record st .hover with
    waiting := some { slot := 1, tag := 7, takeTime := 0, req := .hover } } sweep)

/-- For the waiting orders of ArmStepDrivesTheArms: lawful, one that matches, one that fails with its arm, and none at all with no
exclusion met. -/
theorem witness_arm_waits :
    ((waitsIn .hover).running ∧ (waitsIn .hover).ordersInv ∧ (waitsIn .hover).xmemWf) ∧
      (waitingStuck.ordersInv ∧ waitingStuck.xmemWf ∧ FirstExclusion waitingStuck .left .armStuck 1) ∧
      (∀ a, (sweep.arm a).waiting = none) ∧ ∀ a k d, ¬ExclusionMet sweep a k d := by
  refine ⟨⟨running_of _ (by decide), lawful_of _ (by decide)⟩, ⟨(lawful_of _ (by decide)).1, (lawful_of _ (by decide)).2, ?_⟩,
    fun a => by cases a <;> rfl, fun a => none_of _ _ (by cases a <;> decide)⟩
  exact first_of _ _ _ _ ⟨by decide, by decide, .inl (by decide)⟩ (by decide) (by decide) (by decide)

/-- OK at the match, TIMED_OUT with the state's code at 8 s, FAILED with rank 7 at the exclusion, and waiting on (R71, R85). -/
theorem test_arm_waits :
    ((after .armStep (waitsIn .hover)).owner 1 = ownerDone ∧ (after .armStep (waitsIn .hover)).xread 27 = 0 ∧
        (after .armStep (waitsIn .hover)).orders.entries = []) ∧
      ((after .armStep (atClock 8000 (waitsIn .lowering))).xread 27 = 9 ∧
        (after .armStep (atClock 8000 (waitsIn .lowering))).xread 28 = word ArmState.lowering.code) ∧
      ((after .armStep waitingStuck).xread 27 = 10 ∧ (after .armStep waitingStuck).xread 28 = word 7) ∧
      ((after .armStep (atClock 7999 (waitsIn .lowering))).arm .left).waiting = ((waitsIn .lowering).arm .left).waiting := by decide

/-- For the loss and dry clauses of WaterStepDosesTheWater: the flow loss one step short of its time and two, the dry run due. -/
theorem witness_water_losses :
    (spraying.running ∧ spraying.valid .flow = false ∧ (waterFlow spraying).flowLossHolds = true) ∧
      (timerDue 1000 20 (some 980) = true ∧ timerDue 1000 20 (some 960) = false) ∧
      (waterFlow (reading .flow 212765 (spraying.setWatc { sweep.watc with dryRun := some 2980 }))).dryRunHolds = true ∧
      timerDue 3000 20 (some 2980) = true := by
  refine ⟨⟨running_of _ (by decide), by decide⟩, by decide⟩

/-- FLOW_SENSOR_LOST and WATER_DRY at their times, each flag set with its kind; the timers before that (R102, R103). -/
theorem test_water_losses :
    ((after .waterStep (spraying.setWatc { sweep.watc with flowLoss := some 980 })).watc.flowLossFlag = true ∧
        (after .waterStep (spraying.setWatc { sweep.watc with flowLoss := some 980 })).isActive .flowSensorLost = true) ∧
      ((after .waterStep (spraying.setWatc { sweep.watc with flowLoss := some 960 })).watc.flowLossFlag = false ∧
        (after .waterStep (spraying.setWatc { sweep.watc with flowLoss := some 960 })).watc.flowLoss = some 980) ∧
      ((after .waterStep (reading .flow 212765 (spraying.setWatc { sweep.watc with dryRun := some 2980 }))).isActive .waterDry = true ∧
        (after .waterStep (reading .flow 212765 (spraying.setWatc { sweep.watc with dryRun := some 2980 }))).watc.dryReport = true ∧
        (after .waterStep (reading .flow 212765 (spraying.setWatc { sweep.watc with dryRun := some 2980 }))).watc.waterOut = true) := by
  decide

/-- The engine loss at 500 ms and before it (R114). -/
theorem test_engine_loss :
    ((after .loadStep (sweep.setLoadm { resetLoadManager with engineLoss := some 490 })).loadm.engineLossFlag = true ∧
        (after .loadStep (sweep.setLoadm { resetLoadManager with engineLoss := some 490 })).isActive .engineSpeedLost = true) ∧
      ((after .loadStep (sweep.setLoadm { resetLoadManager with engineLoss := some 480 })).loadm.engineLossFlag = false ∧
        (after .loadStep (sweep.setLoadm { resetLoadManager with engineLoss := some 480 })).loadm.engineLoss = some 490) := by decide

/-- For the record clause of CaptureChannelsJudgeEdges: the distance interval met with the memory in its form. -/
theorem witness_distance_record : (edgeAt .inUse .wheelA 88000).running ∧ (edgeAt .inUse .wheelA 88000).xmemWf := by
  refine ⟨running_of _ (by decide), ?_⟩
  unfold State.xmemWf; decide

/-- At the interval the mode code stands in the record, and TRACE_HALF at the sixteenth (R141, R161). -/
theorem test_distance_record :
    (after (.captureEdgeAccepted .wheelA 70) (edgeAt .inUse .wheelA 88000)).xread 2050 = 1 ∧
      (after (.captureEdgeAccepted .wheelA 70) (edgeAt .inUse .wheelA 88000)).port.pendingSet = 0 ∧
      (after (.captureEdgeAccepted .wheelA 70) ((edgeAt .inUse .wheelA 88000).setPublisher { headCount := 0, traceCount := 15 })).port.pendingSet
        = Cause.traceHalf.bit := by decide

end Sys2Proof.Machine.Tests
end

namespace Sys2Proof.Machine

/-! ### The limits of a travel step (R32 to R34): what forms them, and what leaves them as formed

Stage 2 of the travel step forms v_w, v_L, v_t and the limiter from the state that the step found, since stage 1 moves the wheel
channels alone; every later stage, and every reaction to the step's own reports, leaves the four as they were formed. -/

/-- The four values that stage 2 of the travel step forms: v_w, v_L, v_t and the limiter (R32 to R34). -/
def Governor.limits (g : Governor) : Nat × Nat × Nat × Limiter := (g.vW, g.vL, g.vT, g.limiter)

/-- The pace request the governor holds (R46). -/
def Governor.request (g : Governor) : Nat × Direction := (g.reqSpeed, g.reqDir)

/-! #### Stage 1 keeps the pace request -/

/-- A wheel channel's record holds nothing of the pace request. -/
@[simp] theorem Governor.setWheel_request (g : Governor) (w : Wheel) (st : WheelState) (loss : Timer) (readmit : Nat) :
    (g.setWheel w st loss readmit).request = g.request := by
  cases w <;> rfl

/-- One channel's report keeps the pace request (R40, R43). -/
@[simp] theorem wheelReport_request (w : Wheel) (s : State) : (wheelReport w s).gov.request = s.gov.request := by
  unfold wheelReport; dsimp only; repeat' split
  all_goals simp

/-- One channel's loss test keeps the pace request (R42). -/
@[simp] theorem wheelLoss_request (w : Wheel) (s : State) : (wheelLoss w s).gov.request = s.gov.request := by
  unfold wheelLoss; dsimp only; split <;> simp

/-- Stage 1 of the travel step keeps the pace request (R40 to R44). -/
theorem travelSense_request (s : State) : (travelSense s).gov.request = s.gov.request := by
  have hloss : (wheelLoss .b (wheelLoss .a (travelReport s))).gov.request = s.gov.request := by simp [travelReport]
  unfold travelSense
  generalize wheelLoss .b (wheelLoss .a (travelReport s)) = s1 at hloss ⊢
  exact hloss

/-- The requested speed is a function of the pace request alone (R34). -/
theorem requested_congr {s t : State} (h : t.gov.request = s.gov.request) : t.requested = s.requested := by
  obtain ⟨hspeed, hdir⟩ := Prod.mk.inj h
  simp only [State.requested, hspeed, hdir]

/-! #### Stage 2 forms the limits -/

/-- The four values as stage 2 forms them from a state (R32 to R34). -/
def State.formedLimits (s : State) : Nat × Nat × Nat × Limiter :=
  (s.waterLimit, s.loadLimit, selectTarget s.requested s.ceiling s.waterLimit s.loadLimit)

/-- Stage 2 forms the limits from the state it finds. -/
theorem travelLimits_limits (s : State) : (travelLimits s).gov.limits = s.formedLimits := rfl

/-- Beside the governor's pace request, nothing of the governor enters the limits (R3, R32 to R34). -/
theorem formedLimits_setGov {s : State} {g : Governor} (h : g.request = s.gov.request) :
    (s.setGov g).formedLimits = s.formedLimits := by
  have hrequested : (s.setGov g).requested = s.requested := requested_congr h
  unfold State.formedLimits
  rw [hrequested]
  rfl

/-- What stage 1 does to the state does not enter the limits. -/
theorem formedLimits_travelSense (s : State) : (travelSense s).formedLimits = s.formedLimits := by
  have hrequest := travelSense_request s
  obtain ⟨g, hg⟩ := travelSense_gov s
  rw [hg] at hrequest ⊢
  exact formedLimits_setGov hrequest

/-! #### The later stages keep the limits -/

/-- The dwell of stage 3 keeps the limits (R52). -/
@[simp] theorem travelDwell_limits (s : State) : (travelDwell s).gov.limits = s.gov.limits := by
  unfold travelDwell; split <;> rfl

/-- Stages 1 to 3 leave the limits as formed from the state the step found. -/
theorem travelApproach_limits (s : State) : (travelApproach s).gov.limits = s.formedLimits := by
  rw [travelApproach, travelDwell_limits, travelLimits_limits, formedLimits_travelSense]

/-- Stages 4 to 6 keep the limits (R54 to R57). -/
@[simp] theorem travelMove_limits (target : Int) (s : State) : (travelMove target s).gov.limits = s.gov.limits := by
  simp [travelMove, travelOutput, travelReverse, travelRamp, Governor.limits]

/-- The timers of stage 7 keep the limits (R58, R59). -/
@[simp] theorem travelWatch_limits (s : State) : (travelWatch s).gov.limits = s.gov.limits := rfl

/-- The reports and condition ends of stage 7 leave the governor alone (R60, R45). -/
@[simp] theorem travelSupervise_gov (g0 : Governor) (s : State) : (travelSupervise g0 s).gov = s.gov := by
  simp [travelSupervise, travelEnds]

/-- Replacing the waiting order keeps the limits (R46, R50). -/
@[simp] theorem setTravelWait_limits (w : Option TravelWait) (s : State) :
    (setTravelWait w s).gov.limits = s.gov.limits := rfl

/-- The end of the waiting order keeps the limits (R50). -/
@[simp] theorem endTravelWait_limits (r : Result) (detail : Nat) (s : State) :
    (endTravelWait r detail s).gov.limits = s.gov.limits := by
  unfold endTravelWait; split <;> simp

/-- A waiting SET_PACE at stage 8 keeps the limits (R48). -/
@[simp] theorem paceTest_limits (target : Int) (w : TravelWait) (s : State) :
    (paceTest target w s).gov.limits = s.gov.limits := by
  unfold paceTest arrive; dsimp only; repeat' split
  all_goals simp

/-- A waiting STOP at stage 8 keeps the limits (R49). -/
@[simp] theorem stopTest_limits (now : State) (w : TravelWait) (s : State) :
    (stopTest now w s).gov.limits = s.gov.limits := by
  unfold stopTest; repeat' split
  all_goals simp

/-- Stage 8 keeps the limits (R48, R49). -/
@[simp] theorem travelWaiting_limits (target : Int) (s : State) : (travelWaiting target s).gov.limits = s.gov.limits := by
  unfold travelWaiting; repeat' split
  all_goals simp

/-! #### The reactions keep the limits -/

/-- A mode-change notice takes the governor's request and its waiting order, not its limits (R61). -/
@[simp] theorem govNotice_limits (new : Mode) (s : State) : (govNotice new s).gov.limits = s.gov.limits := by
  unfold govNotice; repeat' split
  all_goals simp [Governor.limits]

/-- A change of mode keeps the limits (R2). -/
@[simp] theorem changeMode_limits (new : Mode) (reason : Nat) (s : State) :
    (changeMode new reason s).gov.limits = s.gov.limits := by
  unfold changeMode sendNotices; dsimp only; repeat' split
  all_goals simp

/-- An entry to SAFE keeps the limits (R4). -/
@[simp] theorem enterSafe_limits (k : FaultKind) (halt : Bool) (s : State) :
    (enterSafe k halt s).gov.limits = s.gov.limits := by
  unfold enterSafe; split <;> simp

/-- The reaction to one report keeps the limits (R124). -/
@[simp] theorem react_limits (r : Report) (s : State) : (react r s).gov.limits = s.gov.limits := by
  unfold react; split <;> simp

/-- The reactions to a batch keep the limits (R118, R124). -/
@[simp] theorem reactAll_limits (rs : List Report) (s : State) : (reactAll rs s).gov.limits = s.gov.limits := by
  induction rs generalizing s with
  | nil => rfl
  | cons r rs ih => rw [reactAll, ih, react_limits]

/-- The travel step leaves v_w, v_L, v_t and the limiter as formed from the values that stood when it began. -/
theorem travelStep_limits (s : State) : (travelStep s).gov.limits = s.formedLimits := by
  simp [travelStep, travelDrive, travelApproach_limits]

/-- TRAVEL_STEP runs the travel step while RESET# is high and the step timers run (R139). -/
theorem exec_travelStep {s : State} (h : s.running) : exec .travelStep s = .next (travelStep s) := by
  obtain ⟨hreset, hsteps⟩ := h
  change atStep travelStep s = _
  simp [atStep, live, hreset, hsteps]

/-! ### The values of the limits -/

/-- The ceiling in SAFE: the limp speed once the machine has stopped with no halt, else 0 (R3). -/
theorem ceiling_safe {s : State} (h : s.modc.mode = .safe) :
    s.ceiling = if s.modc.safeStopped = true ∧ s.modc.haltLatch = false ∧ s.isActive .wheelSensorsLost = false ∧
      s.isActive .operatorAbsent = false then s.modc.profile.limpSpeed else 0 := by
  unfold State.ceiling State.haltActive
  simp only [h]
  split_ifs <;> simp_all

/-- The water limit outside engaging and sweeping: none (R32). -/
theorem waterLimit_idle {s : State} (hengaging : s.modc.mode ≠ .engaging) (hsweeping : s.modc.mode ≠ .sweeping) :
    s.waterLimit = 15000 := by
  simp [State.waterLimit, hengaging, hsweeping]

/-- The water limit at work with nothing to spray: none (R32). -/
theorem waterLimit_unsprayed {s : State} (hmode : s.modc.mode = .engaging ∨ s.modc.mode = .sweeping)
    (h : s.dose = 0 ∨ s.armc.width = 0) : s.waterLimit = 15000 := by
  simp [State.waterLimit, hmode, h]

/-- The water limit at work with a dose and a width: the flow's speed while water is available, else the dry crawl (R32). -/
theorem waterLimit_sprayed {s : State} (hmode : s.modc.mode = .engaging ∨ s.modc.mode = .sweeping)
    (hdose : s.dose ≠ 0) (hwidth : s.armc.width ≠ 0) :
    s.waterLimit = if 0 < s.watc.qAvail then min 15000 (s.watc.qAvail * 5000000 / (3 * s.dose * s.armc.width))
      else s.modc.profile.dryCrawl := by
  simp [State.waterLimit, hmode, hdose, hwidth, State.waterAvailable]

/-- The load limit lies between 30 % of the ceiling and the ceiling while L lies within 300 to 1000 (R33). -/
theorem loadLimit_bounds {s : State} (hlow : 300 ≤ s.loadm.load) (hhigh : s.loadm.load ≤ 1000) :
    s.ceiling * 300 / 1000 ≤ s.loadLimit ∧ s.loadLimit ≤ s.ceiling := by
  have hfloor : s.ceiling * 300 ≤ s.ceiling * s.loadm.load := Nat.mul_le_mul_left _ hlow
  have hcap : s.ceiling * s.loadm.load ≤ s.ceiling * 1000 := Nat.mul_le_mul_left _ hhigh
  unfold State.loadLimit
  omega

/-- At full load factor the load limit is the ceiling (R33). -/
theorem loadLimit_full {s : State} (h : s.loadm.load = 1000) : s.loadLimit = s.ceiling := by
  simp [State.loadLimit, h]

/-- The target speed is the smallest of the four values (R34). -/
theorem selectTarget_speed (request ceiling vW vL : Nat) :
    (selectTarget request ceiling vW vL).1 = min (min request ceiling) (min vW vL) := by
  simp [selectTarget, min_assoc]

/-- The limiter names the first of the four values that the target speed equals (R34). -/
theorem selectTarget_limiter (request ceiling vW vL : Nat) :
    ((selectTarget request ceiling vW vL).2 = .request ↔ (selectTarget request ceiling vW vL).1 = request) ∧
    ((selectTarget request ceiling vW vL).2 = .mode ↔
      (selectTarget request ceiling vW vL).1 ≠ request ∧ (selectTarget request ceiling vW vL).1 = ceiling) ∧
    ((selectTarget request ceiling vW vL).2 = .water ↔ (selectTarget request ceiling vW vL).1 ≠ request ∧
      (selectTarget request ceiling vW vL).1 ≠ ceiling ∧ (selectTarget request ceiling vW vL).1 = vW) ∧
    ((selectTarget request ceiling vW vL).2 = .load ↔ (selectTarget request ceiling vW vL).1 ≠ request ∧
      (selectTarget request ceiling vW vL).1 ≠ ceiling ∧ (selectTarget request ceiling vW vL).1 ≠ vW ∧
      (selectTarget request ceiling vW vL).1 = vL) := by
  unfold selectTarget
  dsimp only
  generalize hv : min request (min ceiling (min vW vL)) = v
  have hsome : v = request ∨ v = ceiling ∨ v = vW ∨ v = vL := by omega
  simp only [eq_comm (b := v)]
  split_ifs <;> simp_all

/-- Settles O44: the step leaves the limits as stage 2 forms them (`travelStep_limits`), and those are formed from the values that
stood when the step began; the rest is the value of each of the four. -/
theorem travelStepFormsTheTarget : Obligations.TravelStepFormsTheTarget := by
  intro s ceiling hrun hceiling
  have hexec := exec_travelStep hrun
  have hlimits := travelStep_limits s
  generalize travelStep s = t at hexec hlimits
  obtain rfl : ceiling = s.ceiling := by
    cases h : s.modc.mode <;> simp only [h] at hceiling
    case safe => rw [hceiling, ceiling_safe h]
    all_goals simp [hceiling, State.ceiling, h]
  have hvW : t.gov.vW = s.waterLimit := congrArg (·.1) hlimits
  have hvL : t.gov.vL = s.loadLimit := congrArg (·.2.1) hlimits
  have htarget : selectTarget s.requested s.ceiling t.gov.vW t.gov.vL = (t.gov.vT, t.gov.limiter) := by
    rw [hvW, hvL]
    exact (congrArg (·.2.2) hlimits).symm
  have hspeed := selectTarget_speed s.requested s.ceiling t.gov.vW t.gov.vL
  have hlimiter := selectTarget_limiter s.requested s.ceiling t.gov.vW t.gov.vL
  rw [htarget] at hspeed hlimiter
  refine ⟨t, s.requested, hexec, rfl, ?idle, ?work, hvL, ?bounds, ?full, hspeed, hlimiter⟩
  case idle =>
    intro hengaging hsweeping
    rw [hvW, waterLimit_idle hengaging hsweeping]
  case work =>
    intro hwork
    refine ⟨fun hunsprayed => by rw [hvW, waterLimit_unsprayed hwork hunsprayed], fun hdose hwidth => ?_⟩
    rw [hvW, waterLimit_sprayed hwork hdose hwidth]
    exact ⟨fun havailable => if_pos havailable, fun hdry => if_neg (by omega)⟩
  case bounds =>
    intro hlow hhigh
    rw [hvL]
    exact loadLimit_bounds hlow hhigh
  case full =>
    intro hfull
    rw [hvL, loadLimit_full hfull]

end Sys2Proof.Machine

namespace Sys2Proof.Machine

/-! ### An order completed at its dispatch (R146, R147): what the take leaves in the slot, and the blocks it leaves alone -/

/-! #### Frames -/

/-- A state agrees with itself in every block. -/
theorem SameBut.refl (blocks : List Block) (s : State) : SameBut blocks s s :=
  fun b => .inr (by cases b <;> rfl)

/-- Two moves that each leave all but the listed blocks do so in a row. -/
theorem SameBut.trans {blocks : List Block} {s t u : State} (hst : SameBut blocks s t) (htu : SameBut blocks t u) :
    SameBut blocks s u := by
  intro b
  obtain hmem | hfirst := hst b
  · exact .inl hmem
  obtain hmem | hsecond := htu b
  · exact .inl hmem
  right
  cases b <;> exact Eq.trans hsecond hfirst

/-- A frame holds for every longer list of blocks. -/
theorem SameBut.mono {blocks more : List Block} {s t : State} (h : SameBut blocks s t) (hsub : blocks ⊆ more) :
    SameBut more s t :=
  fun b => (h b).imp_left (@hsub b)

/-- The cursor is in the order unit. -/
theorem advanceCursor_sameBut (s : State) : SameBut [.orders] s (advanceCursor s) := by
  intro b
  cases b
  case orders => exact .inl (by simp)
  all_goals exact .inr rfl

/-- Replacing the water controller leaves every other block. -/
theorem setWatc_sameBut (s : State) (w : WaterControl) : SameBut [.watc] s (s.setWatc w) := by
  intro b
  cases b
  case watc => exact .inl (by simp)
  all_goals exact .inr rfl

/-- A completion at dispatch touches exchange memory, the order unit and the host port alone (R147). -/
theorem completeNow_sameBut (t : Take) (r : Result) (detail : Nat) (s : State) :
    SameBut [.xmem, .orders, .port] s (completeNow t r detail s) := by
  intro b
  cases b
  case xmem | orders | port => exact .inl (by simp)
  all_goals exact .inr (by simp [Block.same])

/-! #### The words of a completed slot -/

/-- A read of exchange memory is a function of its words. -/
theorem xread_congr {s t : State} (h : t.xmem = s.xmem) (a : Nat) : t.xread a = s.xread a := by
  unfold State.xread
  rw [h]

/-- The interrupt cause of a completion is not in exchange memory. -/
theorem xread_writeResult (slot : Nat) (notify : BitVec 8) (r : Result) (detail depth elapsed : Nat) (s : State) (a : Nat) :
    (writeResult slot notify r detail depth elapsed s).xread a =
      (xwrite (slotBase slot) ownerDone
        (xwriteList (slotBase slot + 11) (resultWords r detail depth s.tma.clock elapsed) s)).xread a :=
  xread_congr (by simp [writeResult]) a

/-- A completion leaves every word outside the owner word and the result half (section 12.2). -/
theorem xread_writeResult_outside {slot a : Nat} (notify : BitVec 8) (r : Result) (detail depth elapsed : Nat) (s : State)
    (h : outsideResult slot a) : (writeResult slot notify r detail depth elapsed s).xread a = s.xread a := by
  obtain ⟨howner, hresult⟩ := h
  rw [xread_writeResult, xread_xwrite_other _ _ _ _ howner, xread_xwriteList_other]
  exact hresult

/-- A completion sets the owner word of its slot to DONE (R147). -/
theorem owner_writeResult {slot : Nat} (notify : BitVec 8) (r : Result) (detail depth elapsed : Nat) {s : State}
    (hwf : s.xmemWf) (hslot : slot < 32) : (writeResult slot notify r detail depth elapsed s).owner slot = ownerDone := by
  unfold State.owner
  rw [xread_writeResult]
  exact xread_xwrite_same _ _ _ (xwriteList_xmemWf _ _ _ hwf) (by unfold slotBase; omega)

/-- A completion writes the five words of the result half (section 12.2). -/
theorem xread_writeResult_result {slot i : Nat} (notify : BitVec 8) (r : Result) (detail depth elapsed : Nat) {s : State}
    (hwf : s.xmemWf) (hslot : slot < 32) (hi : i < 5) :
    (writeResult slot notify r detail depth elapsed s).xread (slotBase slot + 11 + i) =
      (resultWords r detail depth s.tma.clock elapsed).getD i 0 := by
  rw [xread_writeResult, xread_xwrite_other _ _ _ _ (by omega)]
  exact xread_xwriteList_same _ _ _ _ hwf hi (by simp only [resultWords, List.length, slotBase]; omega)

/-- A completion leaves its slot done, with the clock as its done time (R147, R149). -/
theorem writeResult_slotDone {slot : Nat} (notify : BitVec 8) (r : Result) (detail depth elapsed : Nat) {s : State}
    (hwf : s.xmemWf) (hslot : slot < 32) :
    SlotDone slot r detail depth s.tma.clock elapsed s (writeResult slot notify r detail depth elapsed s) := by
  have hword (i : Nat) (hi : i < 5) := xread_writeResult_result notify r detail depth elapsed hwf hslot hi
  exact ⟨⟨owner_writeResult notify r detail depth elapsed hwf hslot, hword 0 (by decide), hword 1 (by decide),
    hword 2 (by decide), hword 3 (by decide), hword 4 (by decide)⟩,
    fun _ houtside => xread_writeResult_outside notify r detail depth elapsed s houtside⟩

/-- A completion raises ORDER_DONE exactly for an order whose notify is 1 (R147). -/
theorem writeResult_port (slot : Nat) (notify : BitVec 8) (r : Result) (detail depth elapsed : Nat) (s : State) :
    (writeResult slot notify r detail depth elapsed s).port =
      if notify = 1 then s.port.raise .orderDone else s.port := by
  unfold writeResult raiseIf
  by_cases h : notify = 1
  · rw [if_pos h, if_pos (decide_eq_true h)]
    simp [raiseCause]
  · rw [if_neg h, if_neg (by simpa using h)]
    simp

/-! #### The take -/

/-- The order unit notes the order it takes (R146). -/
@[simp] theorem noteTake_order (kind : Nat) (o : Order) (s : State) : (noteTake kind o s).order = o := rfl

/-- Where a slot can be taken, an order command is its take (R145, R146). -/
theorem orderCommand_of_takes (dispatch : Take → State → State) (kind : Nat) (o : Order) {s : State} (h : s.takes) :
    orderCommand dispatch kind o s = .next (dispatch (noteTake kind o s) (advanceCursor s)) := by
  obtain ⟨hreset, hscanned, hnamed, -⟩ := h
  simp [orderCommand, live, takeSlot, hreset, hscanned, hnamed]

/-- An order taken and completed at dispatch leaves every block but those of a completion and those its dispatch changed
(R146, R147). -/
theorem completeNow_takenSameBut {blocks : List Block} (t : Take) (r : Result) (detail : Nat) {s u : State}
    (h : SameBut blocks (advanceCursor s) u) : SameBut ([.xmem, .orders, .port] ++ blocks) s (completeNow t r detail u) := by
  have htaken := (advanceCursor_sameBut s).mono (more := [.xmem, .orders, .port] ++ blocks) (by simp)
  have hdispatched := h.mono (List.subset_append_right [.xmem, .orders, .port] blocks)
  have hcompleted := (completeNow_sameBut t r detail u).mono (List.subset_append_left _ blocks)
  exact (htaken.trans hdispatched).trans hcompleted

/-- An order taken and completed at dispatch is done at once, whatever its dispatch did to the blocks that no completion
touches (R146, R147). -/
theorem completeNow_doneAtOnce (kind : Nat) (o : Order) (r : Result) (detail : Nat) {s u : State} (h : s.takes)
    (hxmem : u.xmem = s.xmem) (horders : u.orders = (advanceCursor s).orders) (hport : u.port = s.port)
    (htma : u.tma = s.tma) : DoneAtOnce o.notify r detail s (completeNow (noteTake kind o s) r detail u) := by
  obtain ⟨-, -, -, hposted, hslot, hwf⟩ := h
  have hread (a : Nat) : u.xread a = s.xread a := xread_congr hxmem a
  have howner : u.owner (noteTake kind o s).slot = ownerPosted := (hread _).trans hposted
  have huwf : u.xmemWf := by
    unfold State.xmemWf
    rw [hxmem]
    exact hwf
  rw [completeNow, if_pos howner]
  obtain ⟨hresult, houtside⟩ :=
    writeResult_slotDone o.notify r detail (noteTake kind o s).depth 0 huwf (slot := s.orders.cursor) hslot
  refine ⟨⟨?_, fun a ha => (houtside a ha).trans (hread a)⟩, ?_, ?_⟩
  · rw [← htma]
    exact hresult
  · simp [horders, advanceCursor, nextCursor]
  · rw [writeResult_port, hport]
    rfl

/-! ### SET_WATER (R106) -/

/-- SET_WATER on a slot that can be taken is its dispatch. -/
theorem exec_setWater {o : Order} {s : State} (h : s.takes) :
    exec (.setWater o) s = .next (dispatchSetWater (noteTake 8 o s) (advanceCursor s)) :=
  orderCommand_of_takes dispatchSetWater 8 o h

/-- R106 refuses the words of a SET_WATER with this detail: the number of the first test that fails. -/
def SetWaterRefuses (o : Order) (d : Nat) : Prop :=
  (1 < o.par.p0.toNat ∧ d = 1) ∨ (o.par.p0.toNat ≤ 1 ∧ 1 < o.par.p2.toNat ∧ d = 2) ∨
    (o.par.p0.toNat ≤ 1 ∧ o.par.p2.toNat = 1 ∧ 255 < o.par.p3.toNat ∧ d = 3)

/-- The detail of an accepted SET_WATER: 1 if its dose was clamped (R106). -/
def setWaterClamps (o : Order) : Nat := if o.par.p0.toNat = 1 ∧ 5000 < o.par.p1.toNat then 1 else 0

/-- The water controller after an accepted SET_WATER (R106). -/
def setWaterControl (o : Order) (w : WaterControl) : WaterControl :=
  { w with
    override := if o.par.p0.toNat = 1 then some (min 5000 o.par.p1.toNat) else none
    mask := if o.par.p2.toNat = 1 then o.par.p3.setWidth 8 else w.mask }

/-- A refused SET_WATER completes and does nothing else (R106). -/
theorem dispatchSetWater_refused {t : Take} {d : Nat} (h : SetWaterRefuses t.order d) (s : State) :
    dispatchSetWater t s = completeNow t .refusedRange d s := by
  unfold dispatchSetWater
  obtain ⟨hmode, rfl⟩ | ⟨hmode, hflag, rfl⟩ | ⟨hmode, hflag, hmask, rfl⟩ := h
  · exact if_pos hmode
  · simp [hmode.not_gt, hflag]
  · simp [hmode.not_gt, hflag, hmask]

/-- A SET_WATER that meets the three tests sets the dose override and the mask, and completes (R106). -/
theorem dispatchSetWater_accepted {t : Take} (hmode : t.order.par.p0.toNat ≤ 1)
    (hmask : t.order.par.p2.toNat = 0 ∨ (t.order.par.p2.toNat = 1 ∧ t.order.par.p3.toNat ≤ 255)) (s : State) :
    dispatchSetWater t s =
      completeNow t (if setWaterClamps t.order = 0 then .ok else .clamped) (setWaterClamps t.order)
        (s.setWatc (setWaterControl t.order s.watc)) := by
  have hflag : ¬ 1 < t.order.par.p2.toNat := by omega
  have hrange : ¬ (t.order.par.p2.toNat = 1 ∧ 255 < t.order.par.p3.toNat) := by omega
  have hclamps : setWaterClamps t.order = bit01 (decide (t.order.par.p0.toNat = 1 ∧ 5000 < t.order.par.p1.toNat)) := by
    simp [setWaterClamps, bit01]
  rw [dispatchSetWater, if_neg hmode.not_gt, if_neg hflag, if_neg hrange, hclamps]
  rfl

/-- The dose in force is read from the override and the active profile as they stand (R94). -/
theorem dose_of_setWaterControl {o : Order} {s t : State} (hwatc : t.watc = setWaterControl o s.watc)
    (hmodc : t.modc = s.modc) :
    t.dose = if o.par.p0.toNat = 1 then min 5000 o.par.p1.toNat else s.modc.profile.dose := by
  unfold State.dose
  rw [hwatc, hmodc]
  by_cases h : o.par.p0.toNat = 1 <;> simp [setWaterControl, h]

/-- Settles O32: where the slot can be taken the command is its dispatch (`exec_setWater`), which ends in a completion either way;
accepted, it has replaced the water controller before, from which the dose in force is read. -/
theorem setWaterSetsDoseAndMask : Obligations.SetWaterSetsDoseAndMask := by
  intro o s htakes
  have hexec := exec_setWater (o := o) htakes
  refine ⟨fun d hrefuses => ?refused, fun hmode hmask => ?accepted⟩
  case refused =>
    rw [dispatchSetWater_refused (t := noteTake 8 o s) hrefuses] at hexec
    exact ⟨_, hexec, completeNow_doneAtOnce 8 o .refusedRange d htakes rfl rfl rfl rfl,
      completeNow_takenSameBut _ _ _ (SameBut.refl [] _)⟩
  case accepted =>
    have hdispatch := dispatchSetWater_accepted (t := noteTake 8 o s) hmode hmask (advanceCursor s)
    have hwatc : (dispatchSetWater (noteTake 8 o s) (advanceCursor s)).watc = setWaterControl o s.watc := by
      simp [hdispatch]
    have hmodc : (dispatchSetWater (noteTake 8 o s) (advanceCursor s)).modc = s.modc := by
      simp [hdispatch]
    refine ⟨_, setWaterClamps o, hexec, rfl, ?done, hwatc, dose_of_setWaterControl hwatc hmodc, ?frame⟩ <;> rw [hdispatch]
    case done => exact completeNow_doneAtOnce 8 o _ _ htakes rfl rfl rfl rfl
    case frame => exact completeNow_takenSameBut _ _ _ (setWatc_sameBut _ _)

end Sys2Proof.Machine

namespace Sys2Proof.Machine

/-! ### Open orders ended together with one result (R149, R151, R154): the slots, the list, the counters and the port -/

/-! #### The words of one slot against another's -/

/-- The completion of a slot writes no word of another slot (section 12.2). -/
theorem outsideResult_of_slot_ne {slot other i : Nat} (h : other ≠ slot) (hi : i < 16) :
    outsideResult slot (slotBase other + i) := by
  unfold outsideResult slotBase
  omega

/-- A slot whose words read as before still holds its result. -/
theorem SlotResult.of_reads {slot : Nat} {r : Result} {detail depth : Nat} {done : BitVec 32} {elapsed : Nat} {s t : State}
    (h : SlotResult slot r detail depth done elapsed s)
    (hreads : ∀ i, i < 16 → t.xread (slotBase slot + i) = s.xread (slotBase slot + i)) :
    SlotResult slot r detail depth done elapsed t := by
  obtain ⟨howner, hresult, hdetail, hlow, hhigh, helapsed⟩ := h
  exact ⟨(hreads 0 (by decide)).trans howner, (hreads 11 (by decide)).trans hresult, (hreads 12 (by decide)).trans hdetail,
    (hreads 13 (by decide)).trans hlow, (hreads 14 (by decide)).trans hhigh, (hreads 15 (by decide)).trans helapsed⟩

/-- A completion keeps exchange memory canonical. -/
theorem writeResult_xmemWf (slot : Nat) (notify : BitVec 8) (r : Result) (detail depth elapsed : Nat) {s : State}
    (h : s.xmemWf) : (writeResult slot notify r detail depth elapsed s).xmemWf := by
  have hwritten := xwrite_xmemWf (slotBase slot) ownerDone _
    (xwriteList_xmemWf (slotBase slot + 11) (resultWords r detail depth s.tma.clock elapsed) s h)
  unfold State.xmemWf at hwritten ⊢
  simpa [writeResult] using hwritten

/-- A completion touches exchange memory and the host port alone (R147, R149). -/
theorem writeResult_sameBut (slot : Nat) (notify : BitVec 8) (r : Result) (detail depth elapsed : Nat) (s : State) :
    SameBut [.xmem, .port] s (writeResult slot notify r detail depth elapsed s) := by
  intro b
  cases b
  case xmem | port => exact .inl (by simp)
  all_goals exact .inr (by simp [Block.same])

/-! #### The host port after an end -/

/-- The host port once ORDER_DONE has been raised, if it is to be. -/
def HostPort.notifyDone (b : Bool) (p : HostPort) : HostPort := if b then p.raise .orderDone else p

/-- Raising ORDER_DONE twice is raising it once. -/
theorem HostPort.notifyDone_notifyDone (b c : Bool) (p : HostPort) :
    (p.notifyDone b).notifyDone c = p.notifyDone (b || c) := by
  cases b <;> cases c <;> simp [notifyDone, raise, BitVec.or_assoc]

/-- ORDER_DONE changes the pending set alone. -/
theorem HostPort.notifyDone_eq (b : Bool) (p : HostPort) :
    p.notifyDone b = { p with pendingSet := (p.notifyDone b).pendingSet } := by
  cases b <;> rfl

/-- ORDER_DONE is bit 0 of the pending set (R157). -/
theorem HostPort.notifyDone_orderDone (b : Bool) (p : HostPort) :
    (p.notifyDone b).pendingSet.getLsbD 0 = (p.pendingSet.getLsbD 0 || b) := by
  cases b <;> simp [notifyDone, raise, Cause.bit]

/-- ORDER_DONE leaves every other cause as it was (R157). -/
theorem HostPort.notifyDone_other {i : Nat} (b : Bool) (p : HostPort) (hi : i ≠ 0) :
    (p.notifyDone b).pendingSet.getLsbD i = p.pendingSet.getLsbD i := by
  have hbit : Cause.orderDone.bit.getLsbD i = false := by
    simp [Cause.bit, hi]
  cases b <;> simp [notifyDone, raise, hbit]

/-! #### The end of one open order (R149) -/

/-- The end of an open order is to raise ORDER_DONE: it is written back, and its notify was 1 at the take (R149). -/
def State.notifies (s : State) (e : Entry) : Bool := decide (e.notify = 1) && decide (s.owner e.slot = ownerTaken)

/-- The end of an order whose slot is still TAKEN writes it back. -/
theorem endEntry_of_taken {e : Entry} {s : State} (r : Result) (detail : Nat) (h : s.owner e.slot = ownerTaken) :
    endEntry e r detail s = removeEntry e (writeResult e.slot e.notify r detail e.depth (s.since e.takeTime) s) := by
  rw [endEntry, if_pos h]

/-- The end of an order whose slot the host has written counts an orphan. -/
theorem endEntry_of_lost {e : Entry} {s : State} (r : Result) (detail : Nat) (h : s.owner e.slot ≠ ownerTaken) :
    endEntry e r detail s = removeEntry e (countOrphan s) := by
  rw [endEntry, if_neg h]

/-- The list is not in exchange memory. -/
theorem xread_removeEntry (e : Entry) (s : State) (a : Nat) : (removeEntry e s).xread a = s.xread a :=
  xread_congr (by simp) a

/-- The end of an order writes nothing outside its slot's owner word and result half, and nothing at all if the slot is no longer
TAKEN. -/
theorem xread_endEntry {e : Entry} {s : State} {a : Nat} (r : Result) (detail : Nat)
    (h : s.owner e.slot = ownerTaken → outsideResult e.slot a) : (endEntry e r detail s).xread a = s.xread a := by
  by_cases htaken : s.owner e.slot = ownerTaken
  · rw [endEntry_of_taken r detail htaken, xread_removeEntry]
    exact xread_writeResult_outside _ _ _ _ _ _ (h htaken)
  · rw [endEntry_of_lost r detail htaken, xread_removeEntry]
    exact xread_congr (by simp) a

/-- The end of an order on one slot leaves the owner of another. -/
theorem owner_endEntry_other {e : Entry} {slot : Nat} (r : Result) (detail : Nat) (s : State) (h : slot ≠ e.slot) :
    (endEntry e r detail s).owner slot = s.owner slot :=
  xread_endEntry r detail fun _ => outsideResult_of_slot_ne h (i := 0) (by decide)

/-- The end of an order keeps exchange memory canonical. -/
theorem endEntry_xmemWf (e : Entry) (r : Result) (detail : Nat) {s : State} (h : s.xmemWf) :
    (endEntry e r detail s).xmemWf := by
  by_cases htaken : s.owner e.slot = ownerTaken
  · rw [endEntry_of_taken r detail htaken]
    exact writeResult_xmemWf _ _ _ _ _ _ h
  · rw [endEntry_of_lost r detail htaken]
    exact h

/-- An order whose slot is still TAKEN is written back by its end (R149). -/
theorem endEntry_slotResult {e : Entry} {s : State} (r : Result) (detail : Nat) (hwf : s.xmemWf) (hslot : e.slot < 32)
    (htaken : s.owner e.slot = ownerTaken) :
    SlotResult e.slot r detail e.depth s.tma.clock (s.since e.takeTime) (endEntry e r detail s) := by
  rw [endEntry_of_taken r detail htaken]
  exact (writeResult_slotDone e.notify r detail e.depth (s.since e.takeTime) hwf hslot).1.of_reads
    fun i _ => xread_removeEntry _ _ _

/-- The end of an order takes its entry out of the list. -/
theorem endEntry_entries (e : Entry) (r : Result) (detail : Nat) (s : State) :
    (endEntry e r detail s).orders.entries = s.orders.entries.filter fun x => decide (x ≠ e) := by
  unfold endEntry
  split <;> simp [removeEntry]

/-- The end of an order clears a stall on its slot (R152). -/
theorem endEntry_stall (e : Entry) (r : Result) (detail : Nat) (s : State) :
    (endEntry e r detail s).orders.stall = (s.orders.stall && decide (s.orders.cursor ≠ e.slot)) := by
  unfold endEntry
  split <;> simp [removeEntry]

/-- The end of an order counts an orphan exactly if its slot is no longer TAKEN (R149). -/
theorem endEntry_orphans (e : Entry) (r : Result) (detail : Nat) (s : State) :
    (endEntry e r detail s).orders.orphans =
      if s.owner e.slot = ownerTaken then s.orders.orphans else min 255 (s.orders.orphans + 1) := by
  by_cases htaken : s.owner e.slot = ownerTaken
  · rw [endEntry_of_taken r detail htaken, if_pos htaken]
    simp
  · rw [endEntry_of_lost r detail htaken, if_neg htaken]
    simp [countOrphan]

/-- The end of an order raises ORDER_DONE if it is to (R149). -/
theorem endEntry_port (e : Entry) (r : Result) (detail : Nat) (s : State) :
    (endEntry e r detail s).port = s.port.notifyDone (s.notifies e) := by
  by_cases htaken : s.owner e.slot = ownerTaken
  · rw [endEntry_of_taken r detail htaken]
    simp [writeResult_port, HostPort.notifyDone, State.notifies, htaken]
  · rw [endEntry_of_lost r detail htaken]
    simp [HostPort.notifyDone, State.notifies, htaken]

/-! #### The end of a list of open orders (R151, R154)

No two open orders are on one slot (R148), so the end of one leaves the owner of every other as it was: whether an order of the list
is written back or lost is read in the state before any of them ends. -/

/-- How many of a list of open orders are no longer TAKEN. -/
def State.lostAmong (s : State) (es : List Entry) : Nat :=
  (es.filter fun e => decide (s.owner e.slot ≠ ownerTaken)).length

/-- The orphan counter after a number of orders are lost: none leaves it, and it saturates at 255 (R149). -/
def addOrphans (lost orphans : Nat) : Nat := if lost = 0 then orphans else min 255 (orphans + lost)

/-- Orphans counted one at a time saturate as they do together. -/
theorem addOrphans_min (lost orphans : Nat) : addOrphans lost (min 255 (orphans + 1)) = addOrphans (lost + 1) orphans := by
  unfold addOrphans
  split <;> simp <;> omega

/-- The end of the first of a list of orders leaves the owners of the others, since each is on a slot of its own. -/
theorem owner_endEntry_of_nodup {e x : Entry} {es : List Entry} (r : Result) (detail : Nat) (s : State)
    (hnodup : ((e :: es).map Entry.slot).Nodup) (hx : x ∈ es) :
    (endEntry e r detail s).owner x.slot = s.owner x.slot := by
  obtain ⟨hhead, -⟩ := List.nodup_cons.mp hnodup
  exact owner_endEntry_other r detail s fun heq => hhead (heq ▸ List.mem_map_of_mem hx)

/-- The orders of the list leave it, and every other one stays in its place. -/
theorem endEntries_entries (r : Result) (detail : Nat) (es : List Entry) (s : State) :
    (endEntries r detail es s).orders.entries = s.orders.entries.filter fun x => decide (x ∉ es) := by
  induction es generalizing s with
  | nil => simp [endEntries]
  | cons e es ih =>
    rw [endEntries, ih, endEntry_entries, List.filter_filter]
    simp [Bool.and_comm]

/-- A stall on the slot of one of the orders is cleared (R152). -/
theorem endEntries_stall (r : Result) (detail : Nat) (es : List Entry) (s : State) :
    (endEntries r detail es s).orders.stall = (s.orders.stall && es.all fun e => decide (s.orders.cursor ≠ e.slot)) := by
  induction es generalizing s with
  | nil => simp [endEntries]
  | cons e es ih =>
    rw [endEntries, ih, endEntry_stall]
    simp [Bool.and_assoc]

/-- Exchange memory stays canonical. -/
theorem endEntries_xmemWf (r : Result) (detail : Nat) (es : List Entry) {s : State} (h : s.xmemWf) :
    (endEntries r detail es s).xmemWf := by
  induction es generalizing s with
  | nil => exact h
  | cons e es ih => exact ih (endEntry_xmemWf e r detail h)

/-- No word outside the owner words and result halves of the orders still TAKEN is written. -/
theorem xread_endEntries {es : List Entry} {s : State} {a : Nat} (r : Result) (detail : Nat)
    (hnodup : (es.map Entry.slot).Nodup) (h : ∀ e ∈ es, s.owner e.slot = ownerTaken → outsideResult e.slot a) :
    (endEntries r detail es s).xread a = s.xread a := by
  induction es generalizing s with
  | nil => rfl
  | cons e es ih =>
    obtain ⟨hhead, hrest⟩ := List.forall_mem_cons.mp h
    have hrest' : ∀ x ∈ es, (endEntry e r detail s).owner x.slot = ownerTaken → outsideResult x.slot a := by
      intro x hx htaken
      rw [owner_endEntry_of_nodup r detail s hnodup hx] at htaken
      exact hrest x hx htaken
    exact (ih hnodup.of_cons hrest').trans (xread_endEntry r detail hhead)

/-- The words of a slot that none of the orders is on read as before. -/
theorem xread_endEntries_slot {es : List Entry} {slot i : Nat} (r : Result) (detail : Nat) (s : State)
    (hnodup : (es.map Entry.slot).Nodup) (hslot : slot ∉ es.map Entry.slot) (hi : i < 16) :
    (endEntries r detail es s).xread (slotBase slot + i) = s.xread (slotBase slot + i) :=
  xread_endEntries r detail hnodup fun _ he _ =>
    outsideResult_of_slot_ne (fun heq => hslot (heq ▸ List.mem_map_of_mem he)) hi

/-- Each of the orders whose slot is TAKEN is written back (R149). -/
theorem endEntries_slotResult {es : List Entry} {s : State} (r : Result) (detail : Nat) (hwf : s.xmemWf)
    (hnodup : (es.map Entry.slot).Nodup) (hslots : ∀ e ∈ es, e.slot < 32) :
    ∀ e ∈ es, s.owner e.slot = ownerTaken →
      SlotResult e.slot r detail e.depth s.tma.clock (s.since e.takeTime) (endEntries r detail es s) := by
  induction es generalizing s with
  | nil => simp
  | cons e es ih =>
    obtain ⟨hhead, hrest⟩ := List.nodup_cons.mp hnodup
    obtain ⟨hslot, hslots'⟩ := List.forall_mem_cons.mp hslots
    refine List.forall_mem_cons.mpr ⟨fun htaken => ?first, fun x hx htaken => ?later⟩
    case first =>
      exact (endEntry_slotResult r detail hwf hslot htaken).of_reads
        fun i hi => xread_endEntries_slot r detail _ hrest hhead hi
    case later =>
      have hstill : (endEntry e r detail s).owner x.slot = ownerTaken :=
        (owner_endEntry_of_nodup r detail s hnodup hx).trans htaken
      have hresult := ih (endEntry_xmemWf e r detail hwf) hrest hslots' x hx hstill
      have htma : (endEntry e r detail s).tma = s.tma := by simp
      rw [State.since, htma] at hresult
      exact hresult

/-- The orders of the list that are no longer TAKEN are counted as orphans (R149). -/
theorem endEntries_orphans {es : List Entry} (r : Result) (detail : Nat) (s : State) (hnodup : (es.map Entry.slot).Nodup) :
    (endEntries r detail es s).orders.orphans = addOrphans (s.lostAmong es) s.orders.orphans := by
  induction es generalizing s with
  | nil => rfl
  | cons e es ih =>
    have hlost : (endEntry e r detail s).lostAmong es = s.lostAmong es := by
      unfold State.lostAmong
      rw [List.filter_congr fun x hx => by rw [owner_endEntry_of_nodup r detail s hnodup hx]]
    rw [endEntries, ih _ hnodup.of_cons, hlost, endEntry_orphans]
    by_cases htaken : s.owner e.slot = ownerTaken
    · simp [htaken, State.lostAmong]
    · rw [if_neg htaken, addOrphans_min]
      simp [htaken, State.lostAmong]

/-- ORDER_DONE is raised if the end of one of the orders is to raise it (R149). -/
theorem endEntries_port {es : List Entry} (r : Result) (detail : Nat) (s : State) (hnodup : (es.map Entry.slot).Nodup) :
    (endEntries r detail es s).port = s.port.notifyDone (es.any s.notifies) := by
  induction es generalizing s with
  | nil => rfl
  | cons e es ih =>
    have hnotifies : es.any (endEntry e r detail s).notifies = es.any s.notifies := by
      rw [Bool.eq_iff_iff, List.any_eq_true, List.any_eq_true]
      refine exists_congr fun x => and_congr_right fun hx => ?_
      rw [State.notifies, owner_endEntry_of_nodup r detail s hnodup hx, ← State.notifies]
    rw [endEntries, ih _ hnodup.of_cons, hnotifies, endEntry_port, HostPort.notifyDone_notifyDone, List.any_cons]

/-- Orders that end touch exchange memory, the order unit and the host port alone (R149). -/
theorem endEntries_sameBut (r : Result) (detail : Nat) (es : List Entry) (s : State) :
    SameBut [.xmem, .orders, .port] s (endEntries r detail es s) := by
  intro b
  cases b
  case xmem | orders | port => exact .inl (by simp)
  all_goals exact .inr (by simp [Block.same])

/-! ### CANCEL (R151) -/

/-- The state at the completion of a CANCEL: the cursor one on, and every open order with the tag ended (R151). -/
def cancelEnds (o : Order) (s : State) : State :=
  endEntries .cancelled s.orders.cursor (s.tagged o.par.p0) (advanceCursor s)

/-- No two open orders with a tag are on one slot (R148). -/
theorem tagged_slots_nodup {s : State} (h : s.ordersInv) (tag : Word) : ((s.tagged tag).map Entry.slot).Nodup := by
  obtain ⟨-, hslots, -⟩ := h
  exact hslots.sublist (List.filter_sublist.map _)

/-- An open order with a tag is on one of the 32 slots (R148). -/
theorem tagged_slot_lt {s : State} (h : s.ordersInv) {tag : Word} {e : Entry} (he : e ∈ s.tagged tag) : e.slot < 32 := by
  obtain ⟨-, -, -, hslots⟩ := h
  exact hslots e (List.mem_of_mem_filter he)

/-- A slot that can be taken is none of those of the open orders with a tag (R145). -/
theorem cursor_notMem_tagged_slots {s : State} (h : s.takes) (tag : Word) :
    s.orders.cursor ∉ (s.tagged tag).map Entry.slot := by
  obtain ⟨-, -, hnamed, -⟩ := h
  intro hmem
  obtain ⟨e, he, hslot⟩ := List.mem_map.mp hmem
  have hfree := List.any_eq_false.mp hnamed e (List.mem_of_mem_filter he)
  simp [hslot] at hfree

/-- To leave the open orders with a tag out is to keep those with another tag. -/
theorem filter_notMem_tagged (s : State) (tag : Word) :
    s.orders.entries.filter (fun e => decide (e ∉ s.tagged tag)) =
      s.orders.entries.filter fun e => decide (e.tag ≠ tag) :=
  List.filter_congr fun e he => by simp [State.tagged, he]

/-- The ends of the orders leave the CANCEL's own slot as it was, since no open order is on it (R145). -/
theorem xread_cancelEnds_cursor {o : Order} {s : State} (h : s.takes) (hinv : s.ordersInv) {i : Nat} (hi : i < 16) :
    (cancelEnds o s).xread (slotBase s.orders.cursor + i) = s.xread (slotBase s.orders.cursor + i) :=
  xread_endEntries_slot .cancelled _ (advanceCursor s) (tagged_slots_nodup hinv _) (cursor_notMem_tagged_slots h _) hi

/-- The state after a CANCEL: the orders with the tag ended, and the CANCEL written back OK with their number, or NOT_FOUND (R151). -/
def cancelDone (o : Order) (s : State) : State :=
  writeResult s.orders.cursor o.notify (if (s.tagged o.par.p0).length = 0 then .notFound else .ok)
    (s.tagged o.par.p0).length s.orders.entries.length 0 (cancelEnds o s)

/-- A CANCEL whose slot can be taken is written back: its slot is still POSTED once the orders have ended (R147). -/
theorem exec_cancel {o : Order} {s : State} (h : s.takes) (hinv : s.ordersInv) :
    exec (.cancel o) s = .next (cancelDone o s) := by
  have howner : (cancelEnds o s).owner s.orders.cursor = ownerPosted := by
    have ⟨_, _, _, hposted, _⟩ := h
    exact (xread_cancelEnds_cursor h hinv (i := 0) (by decide)).trans hposted
  have hdispatch : dispatchCancel (noteTake 10 o s) (advanceCursor s) = cancelDone o s := if_pos howner
  rw [← hdispatch]
  exact orderCommand_of_takes dispatchCancel 10 o h

/-- The completion of a CANCEL leaves the order unit as the ends of the orders left it. -/
theorem cancelDone_orders (o : Order) (s : State) : (cancelDone o s).orders = (cancelEnds o s).orders := by
  simp [cancelDone]

/-- The completion of a CANCEL leaves the words outside its slot's owner word and result half. -/
theorem xread_cancelDone {o : Order} {s : State} {a : Nat} (h : outsideResult s.orders.cursor a) :
    (cancelDone o s).xread a = (cancelEnds o s).xread a :=
  xread_writeResult_outside _ _ _ _ _ _ h

/-- The slot of a CANCEL holds its result (R151). -/
theorem cancelDone_slotResult {o : Order} {s : State} (hslot : s.orders.cursor < 32) (hwf : s.xmemWf) :
    SlotResult s.orders.cursor (if (s.tagged o.par.p0).length = 0 then .notFound else .ok) (s.tagged o.par.p0).length
      s.orders.entries.length s.tma.clock 0 (cancelDone o s) := by
  have hends : (cancelEnds o s).xmemWf :=
    endEntries_xmemWf .cancelled s.orders.cursor (s.tagged o.par.p0) (s := advanceCursor s) hwf
  have hclock : s.tma.clock = (cancelEnds o s).tma.clock := by simp [cancelEnds]
  rw [hclock]
  exact (writeResult_slotDone _ _ _ _ _ hends hslot).1

/-- Each order with the tag whose slot is TAKEN is written back, and the completion of the CANCEL leaves its slot (R151). -/
theorem cancelDone_slotResult_tagged {o : Order} {s : State} (h : s.takes) (hinv : s.ordersInv) {e : Entry}
    (he : e ∈ s.tagged o.par.p0) (htaken : s.owner e.slot = ownerTaken) :
    SlotResult e.slot .cancelled s.orders.cursor e.depth s.tma.clock (s.since e.takeTime) (cancelDone o s) := by
  have hother : e.slot ≠ s.orders.cursor := fun heq =>
    cursor_notMem_tagged_slots h o.par.p0 (heq ▸ List.mem_map_of_mem he)
  obtain ⟨-, -, -, -, -, hwf⟩ := h
  have hended : SlotResult e.slot .cancelled s.orders.cursor e.depth s.tma.clock (s.since e.takeTime) (cancelEnds o s) :=
    endEntries_slotResult .cancelled s.orders.cursor (s := advanceCursor s) hwf (tagged_slots_nodup hinv _)
      (fun _ => tagged_slot_lt hinv) e he htaken
  exact hended.of_reads fun i hi => xread_cancelDone (outsideResult_of_slot_ne hother hi)

/-- The host port after a CANCEL: ORDER_DONE raised for the CANCEL or for one of the orders written back (R149, R151). -/
theorem cancelDone_port (o : Order) {s : State} (hinv : s.ordersInv) :
    (cancelDone o s).port = s.port.notifyDone ((s.tagged o.par.p0).any s.notifies || decide (o.notify = 1)) := by
  have hends : (cancelEnds o s).port = s.port.notifyDone ((s.tagged o.par.p0).any s.notifies) :=
    endEntries_port .cancelled s.orders.cursor (advanceCursor s) (tagged_slots_nodup hinv _)
  rw [cancelDone, writeResult_port, hends, ← HostPort.notifyDone_notifyDone]
  simp [HostPort.notifyDone]

/-- A CANCEL touches exchange memory, the order unit and the host port alone: the owning blocks are not told (R151). -/
theorem cancelDone_sameBut (o : Order) (s : State) : SameBut [.xmem, .orders, .port] s (cancelDone o s) := by
  have htaken := (advanceCursor_sameBut s).mono (more := [.xmem, .orders, .port]) (by simp)
  have hended : SameBut [.xmem, .orders, .port] (advanceCursor s) (cancelEnds o s) :=
    endEntries_sameBut .cancelled s.orders.cursor (s.tagged o.par.p0) (advanceCursor s)
  have hdone : SameBut [.xmem, .orders, .port] (cancelEnds o s) (cancelDone o s) :=
    (writeResult_sameBut _ _ _ _ _ _ (cancelEnds o s)).mono (by simp)
  exact (htaken.trans hended).trans hdone

/-- Settles O35: the command ends the orders with the tag and then writes its own result (`exec_cancel`). The list, the stall flag and
the counter are those that the ends leave; the slots of the ended orders are none of them the CANCEL's own, so its completion leaves
what their ends wrote. -/
theorem cancelEndsEveryOrderWithTheTag : Obligations.CancelEndsEveryOrderWithTheTag := by
  intro o s htakes hinv
  have hnodup := tagged_slots_nodup hinv o.par.p0
  have hport := cancelDone_port o hinv
  have ⟨_, _, _, _, hslot, hwf⟩ := htakes
  refine ⟨cancelDone o s, _, exec_cancel htakes hinv, rfl, cancelDone_slotResult hslot hwf, ?entries, ?cursor, ?stall, ?orphans,
    ?port, ?orderDone, ?causes, fun e he => cancelDone_slotResult_tagged htakes hinv he, ?words, cancelDone_sameBut o s⟩
  case entries =>
    rw [cancelDone_orders, ← filter_notMem_tagged]
    exact endEntries_entries .cancelled _ _ (advanceCursor s)
  case cursor =>
    rw [cancelDone_orders]
    simp [cancelEnds, advanceCursor, nextCursor]
  case stall =>
    rw [cancelDone_orders]
    exact endEntries_stall .cancelled _ _ (advanceCursor s)
  case orphans =>
    rintro lost rfl
    rw [cancelDone_orders]
    exact endEntries_orphans .cancelled _ (advanceCursor s) hnodup
  case port =>
    rw [hport]
    exact HostPort.notifyDone_eq _ _
  case orderDone =>
    rw [hport, HostPort.notifyDone_orderDone, Bool.or_comm (List.any _ _), Bool.or_assoc]
    rfl
  case causes =>
    intro i hi
    simp [hport, HostPort.notifyDone_other _ _ hi]
  case words =>
    intro a hcursor hended
    exact (xread_cancelDone hcursor).trans (xread_endEntries .cancelled _ (s := advanceCursor s) hnodup hended)

end Sys2Proof.Machine

namespace Sys2Proof.Machine

/-! ### What a step does: the front command's effect, or a millisecond; and which blocks a command can reach -/

/-- What a command does to a state, told apart from the outcome that says it completes. -/
def effect (c : Instr) (s : State) : State :=
  match exec c s with
  | .next t => t
  | _ => s

/-- Every command completes in every state. -/
theorem exec_effect (c : Instr) (s : State) : exec c s = .next (effect c s) := by
  cases c <;> rfl

/-- A step takes the front command's effect, or lets a millisecond pass. -/
theorem step_cases {s t : State} (h : step s = .next t) :
    (s.pending = [] ∧ t = tick s) ∨ ∃ c rest, s.pending = c :: rest ∧ t = effect c (s.setPending rest) := by
  unfold step at h
  split at h
  · rename_i hpending
    exact .inl ⟨hpending, by cases h; rfl⟩
  · rename_i c rest hpending
    rw [exec_effect] at h
    exact .inr ⟨c, rest, hpending, by cases h; rfl⟩

/-- A law that neither the queue nor a millisecond nor any command breaks is kept by every step. -/
theorem step_keeps {P : State → Prop} (htick : ∀ s, P s → P (tick s)) (hpending : ∀ s q, P s → P (s.setPending q))
    (heffect : ∀ c s, P s → P (effect c s)) {s t : State} (hs : P s) (h : step s = .next t) : P t := by
  obtain ⟨-, rfl⟩ | ⟨c, rest, -, rfl⟩ := step_cases h
  · exact htick s hs
  · exact heffect c _ (hpending s rest hs)

/-- A command acts while RESET# is high (section 12.9). -/
def whenLive (f : State → State) (s : State) : State := if s.resetHeld then s else f s

/-- A job's step event acts while RESET# is high and the step timers run (R139). -/
def whenRunning (f : State → State) (s : State) : State := whenLive (fun s => if s.tma.stepsRunning then f s else s) s

/-- A law that a command keeps is kept where the command waits RESET# out. -/
theorem whenLive_keeps {P : State → Prop} {f : State → State} {s : State} (hf : P s → P (f s)) (hs : P s) :
    P (whenLive f s) := by
  unfold whenLive
  split
  · exact hs
  · exact hf hs

/-- A law that a job's step keeps is kept where the step timers stand. -/
theorem whenRunning_keeps {P : State → Prop} {f : State → State} {s : State} (hf : P s → P (f s)) (hs : P s) :
    P (whenRunning f s) := by
  refine whenLive_keeps (fun hs => ?_) hs
  split
  · exact hf hs
  · exact hs

/-- While RESET# is low a command changes nothing. -/
theorem whenLive_of_low {f : State → State} {s : State} (h : s.resetHeld = true) : whenLive f s = s := by
  simp [whenLive, h]

/-- While the step timers stand a job's step changes nothing. -/
theorem whenRunning_of_stopped {f : State → State} {s : State} (h : s.tma.stepsRunning = false) : whenRunning f s = s := by
  simp [whenRunning, whenLive, h]

/-- A job's step, or an expiry judged at one, acts only while RESET# is high and the step timers run. -/
theorem effect_atJobStep {c : Instr} (h : atJobStep c = true) : ∃ f, ∀ s, effect c s = whenRunning f s := by
  cases c
  all_goals first
    | exact Bool.noConfusion h
    | exact ⟨_, fun _ => rfl⟩

/-- Every command but the reset's own and the pins' acts only while RESET# is high. -/
theorem effect_live {c : Instr} (h : actsInReset c = false) : ∃ f, ∀ s, effect c s = whenLive f s := by
  cases c
  case ignoredRegisterWrite => exact ⟨id, fun s => (ite_self s).symm⟩
  all_goals first
    | exact Bool.noConfusion h
    | exact ⟨_, fun _ => rfl⟩

/-- Settles O1: `step` is defined by this equation. -/
theorem stepRunsFrontCommand : Obligations.StepRunsFrontCommand :=
  fun _ _ _ => rfl

/-- Settles O4: the two kinds of command that wait, each of whose effects is a guarded one. -/
theorem commandsWaitOutResetAndSleep : Obligations.CommandsWaitOutResetAndSleep := by
  intro c s
  refine ⟨fun hreset hc => ?_, fun hsteps hc => ?_⟩
  · obtain ⟨f, hf⟩ := effect_live hc
    rw [exec_effect, hf, whenLive_of_low hreset]
  · obtain ⟨f, hf⟩ := effect_atJobStep hc
    rw [exec_effect, hf, whenRunning_of_stopped hsteps]

end Sys2Proof.Machine

namespace Sys2Proof.Machine

/-! #### The blocks a command can reach -/

/-- A block that a frame does not list holds the same. -/
theorem SameBut.same {blocks : List Block} {s t : State} (h : SameBut blocks s t) (b : Block)
    (hb : blocks.contains b = false) : b.same s t :=
  (h b).resolve_left (by simpa using hb)

/-- Two moves in a row leave every block that neither lists. -/
theorem SameBut.comp {first second more : List Block} {s t u : State} (hst : SameBut first s t) (htu : SameBut second t u)
    (hfirst : first ⊆ more) (hsecond : second ⊆ more) : SameBut more s u :=
  (hst.mono hfirst).trans (htu.mono hsecond)

/-- A command that waits RESET# out leaves what it leaves when it acts. -/
theorem whenLive_sameBut {blocks : List Block} {f : State → State} {s : State} (h : SameBut blocks s (f s)) :
    SameBut blocks s (whenLive f s) :=
  whenLive_keeps (P := SameBut blocks s) (fun _ => h) (SameBut.refl _ s)

/-- A job's step that waits leaves what it leaves when it acts. -/
theorem whenRunning_sameBut {blocks : List Block} {f : State → State} {s : State} (h : SameBut blocks s (f s)) :
    SameBut blocks s (whenRunning f s) :=
  whenRunning_keeps (P := SameBut blocks s) (fun _ => h) (SameBut.refl _ s)

/-- An event whose test fails does nothing. -/
theorem ite_sameBut {blocks : List Block} {s t : State} {p : Prop} [Decidable p] (h : SameBut blocks s t) :
    SameBut blocks s (if p then t else s) := by
  split
  · exact h
  · exact SameBut.refl _ s

/-- The blocks that a change of mode, a fault report or the end of an order can reach. -/
def noticeReach : List Block := [.xmem, .port, .orders, .modc, .gov, .armc, .watc, .faults, .tma]

/-- The blocks that a restart or an order can reach. -/
def orderReach : List Block := [.xmem, .port, .publisher, .orders, .modc, .gov, .armc, .watc, .loadm, .faults, .cal, .tma]

/-- The mode controller as a change of mode leaves it, before anything else is told (R2). -/
def ModeControl.enters (m : ModeControl) (new : Mode) (reason : Nat) : ModeControl :=
  { m with
    mode := new
    reason := reason
    phase := if new = .engaging then .slowing else .none
    settle := none
    budget := 0
    commanded := if stowsOnEntry new then ⟨false, false, false⟩ else m.commanded
    startupComplete := m.startupComplete || decide (m.mode = .starting) }

/-- The state in which the notices of a change of mode are sent (R2). -/
def modeEntered (new : Mode) (reason : Nat) (s : State) : State :=
  if stowsOnEntry new then stowRequests (s.setModc (s.modc.enters new reason)) else s.setModc (s.modc.enters new reason)

/-- A change of mode is its entry, the notices to the four jobs, and the cause (R2). -/
theorem changeMode_eq (new : Mode) (reason : Nat) (s : State) :
    changeMode new reason s = raiseCause (if s.modc.mode = .starting then .started else .modeChange)
      (sendNotices s.modc.mode new (modeEntered new reason s)) := rfl

/-- What the entry to a mode keeps, and the mode controller it leaves. -/
@[simp] theorem modeEntered_keeps (new : Mode) (reason : Nat) (s : State) :
    (modeEntered new reason s).pending = s.pending ∧ (modeEntered new reason s).resetHeld = s.resetHeld ∧
    (modeEntered new reason s).xmem = s.xmem ∧ (modeEntered new reason s).port = s.port ∧
    (modeEntered new reason s).publisher = s.publisher ∧ (modeEntered new reason s).orders = s.orders ∧
    (modeEntered new reason s).modc = s.modc.enters new reason ∧ (modeEntered new reason s).gov = s.gov ∧
    (modeEntered new reason s).watc = s.watc ∧ (modeEntered new reason s).loadm = s.loadm ∧
    (modeEntered new reason s).faults = s.faults ∧ (modeEntered new reason s).cal = s.cal ∧
    (modeEntered new reason s).tma = s.tma ∧ (modeEntered new reason s).eeprom = s.eeprom ∧
    (modeEntered new reason s).freeReads = s.freeReads ∧ (modeEntered new reason s).armc.width = s.armc.width := by
  unfold modeEntered
  split <;> simp

/-- A change of mode that does not enter PARKED leaves the load manager (R116). -/
theorem changeMode_loadm {new : Mode} (reason : Nat) (s : State) (h : new ≠ .parked) :
    (changeMode new reason s).loadm = s.loadm := by
  simp [changeMode_eq, sendNotices, loadNotice, h]

/-- An entry to SAFE leaves the load manager. -/
@[simp] theorem enterSafe_loadm (k : FaultKind) (halt : Bool) (s : State) : (enterSafe k halt s).loadm = s.loadm := by
  unfold enterSafe
  split <;> simp [changeMode_loadm]

/-- No reaction reaches the load manager (R124). -/
@[simp] theorem react_loadm (r : Report) (s : State) : (react r s).loadm = s.loadm := by
  unfold react
  split <;> simp

/-- The reactions to a batch leave the load manager. -/
@[simp] theorem reactAll_loadm (rs : List Report) (s : State) : (reactAll rs s).loadm = s.loadm := by
  induction rs generalizing s with
  | nil => rfl
  | cons r rs ih => rw [reactAll, ih, react_loadm]

/-- A batch leaves the load manager. -/
@[simp] theorem reportBatch_loadm (rs : List Report) (s : State) : (reportBatch rs s).loadm = s.loadm := by
  simp [reportBatch]

/-- Replacing the governor leaves every other block. -/
theorem setGov_sameBut (s : State) (g : Governor) : SameBut [.gov] s (s.setGov g) := by
  intro b
  cases b <;> simp [Block.same]

/-- A change of mode that does not enter PARKED. -/
theorem changeMode_sameBut {new : Mode} (reason : Nat) (s : State) (h : new ≠ .parked) :
    SameBut noticeReach s (changeMode new reason s) := by
  intro b
  cases b <;> simp [Block.same, noticeReach, changeMode_loadm reason s h]

/-- A completion of the mode controller's (R149). -/
theorem completeMode_sameBut (kinds : List Nat) (r : Result) (detail : Nat) (s : State) :
    SameBut [.xmem, .port, .orders] s (completeMode kinds r detail s) := by
  intro b
  cases b <;> simp [Block.same]

/-- A batch of reports with its reactions (R118, R124). -/
theorem reportBatch_sameBut (rs : List Report) (s : State) : SameBut noticeReach s (reportBatch rs s) := by
  intro b
  cases b <;> simp [Block.same, noticeReach]

/-! The travel step -/

theorem travelApproach_sameBut (s : State) : SameBut [.gov] s (travelApproach s) := by
  obtain ⟨g, hg⟩ := travelApproach_gov s
  exact hg ▸ setGov_sameBut s g

theorem travelMove_sameBut (target : Int) (s : State) : SameBut [.gov, .tma] s (travelMove target s) := by
  intro b
  cases b <;> simp [Block.same, travelMove, travelOutput, travelReverse, travelRamp]

theorem endTravelWait_sameBut (r : Result) (detail : Nat) (s : State) :
    SameBut [.xmem, .port, .orders, .gov] s (endTravelWait r detail s) := by
  intro b
  unfold endTravelWait
  split <;> cases b <;> simp [Block.same]

theorem arrive_sameBut (limiter : Limiter) (w : TravelWait) (s : State) :
    SameBut [.xmem, .port, .orders, .gov] s (arrive limiter w s) := by
  unfold arrive
  split <;> exact endTravelWait_sameBut _ _ s

theorem stopTest_sameBut (now : State) (w : TravelWait) (s : State) :
    SameBut [.xmem, .port, .orders, .gov] s (stopTest now w s) := by
  unfold stopTest
  repeat' split
  all_goals first
    | exact endTravelWait_sameBut _ _ s
    | exact SameBut.refl _ s

theorem travelWaiting_sameBut (target : Int) (s : State) :
    SameBut [.xmem, .port, .orders, .gov] s (travelWaiting target s) := by
  unfold travelWaiting
  split
  case h_1 => exact SameBut.refl _ s
  case h_2 w _ =>
    split
    case h_2 => exact stopTest_sameBut s w s
    case h_1 =>
      unfold paceTest
      dsimp only
      repeat' split
      · exact arrive_sameBut _ w s
      · exact endTravelWait_sameBut _ _ s
      · exact (setGov_sameBut s _).mono (by simp)


theorem travelStep_sameBut (s : State) : SameBut noticeReach s (travelStep s) := by
  have hdrive : SameBut noticeReach s (travelWatch (travelDrive s)) :=
    ((travelApproach_sameBut s).comp (travelMove_sameBut (travelApproach s).signedTarget _) (by decide) (by decide)).comp
      (setGov_sameBut _ _) (List.Subset.refl _) (by decide)
  have hsupervise (u : State) : SameBut noticeReach u (travelSupervise s.gov u) := by
    intro b
    cases b <;> simp [Block.same, noticeReach, travelSupervise, travelEnds]
  have hreact (rs : List Report) (u : State) : SameBut noticeReach u (reactAll rs u) := by
    intro b
    cases b <;> simp [Block.same, noticeReach]
  exact ((hdrive.trans (hsupervise _)).comp (travelWaiting_sameBut _ _) (List.Subset.refl _) (by decide)).trans (hreact _ _)

/-- A report of the governor's, its timer taken to its limit. -/
theorem reportBatch_setGov_sameBut (rs : List Report) (g : Governor) (s : State) :
    SameBut noticeReach s (reportBatch rs (s.setGov g)) :=
  (setGov_sameBut s g).comp (reportBatch_sameBut rs _) (by decide) (List.Subset.refl _)

/-! The arm step -/

theorem setArmc_sameBut (s : State) (k : ArmControl) : SameBut [.armc] s (s.setArmc k) := by
  intro b
  cases b <;> simp [Block.same]

theorem setArm_sameBut (a : Arm) (r : ArmRecord) (s : State) : SameBut [.armc] s (setArm a r s) :=
  setArmc_sameBut s _

theorem failWaiting_sameBut (a : Arm) (w : Option ArmWait) (detail : Nat) (s : State) :
    SameBut [.xmem, .port, .orders] s (failWaiting a w detail s) := by
  intro b
  cases b <;> simp [Block.same]

theorem armTransition_sameBut (s0 : State) (a : Arm) (s : State) :
    SameBut [.xmem, .port, .orders, .armc] s (armTransition s0 a s) := by
  unfold armTransition
  dsimp only
  repeat' split
  · exact (setArm_sameBut a _ s).mono (by simp)
  · exact (setArm_sameBut a _ s).comp (failWaiting_sameBut _ _ _ _) (by simp) (by simp)
  · exact (setArm_sameBut a _ s).mono (by simp)

theorem endArmWait_sameBut (a : Arm) (w : ArmWait) (r : Result) (detail : Nat) (s : State) :
    SameBut [.xmem, .port, .orders, .armc] s (endArmWait a w r detail s) := by
  intro b
  cases b <;> simp [Block.same, endArmWait]

theorem armWaiting_sameBut (a : Arm) (s : State) : SameBut [.xmem, .port, .orders, .armc] s (armWaiting a s) := by
  unfold armWaiting
  repeat' split
  all_goals first
    | exact SameBut.refl _ s
    | exact endArmWait_sameBut _ _ _ _ s

theorem armPublish_sameBut (s : State) : SameBut [.armc, .tma] s (armPublish s) := by
  intro b
  cases b <;> simp [Block.same, armPublish]

theorem armFinish_sameBut (reports : List Report) (s : State) : SameBut noticeReach s (armFinish reports s) := by
  have hends (u : State) : SameBut noticeReach u (armEnds u) := by
    intro b
    cases b <;> simp [Block.same, noticeReach, armEnds]
  have hwaiting (a : Arm) (u : State) : SameBut noticeReach u (armWaiting a u) := (armWaiting_sameBut a u).mono (by decide)
  exact ((((reportBatch_sameBut reports s).trans (hends _)).trans (hwaiting .left _)).trans (hwaiting .right _)).trans
    (hwaiting .main _)

theorem armStep_sameBut (s : State) : SameBut noticeReach s (armStep s) := by
  have hmove (a : Arm) (u : State) : SameBut noticeReach u (armTransition s a u) := (armTransition_sameBut s a u).mono (by decide)
  have hprepare : SameBut noticeReach s (armPrepare s) := (setArmc_sameBut s _).mono (by decide)
  have hpublish (u : State) : SameBut noticeReach u (armPublish u) := (armPublish_sameBut u).mono (by decide)
  exact ((((hprepare.trans (hmove .left _)).trans (hmove .right _)).trans (hmove .main _)).trans (hpublish _)).trans
    (armFinish_sameBut _ _)

theorem excludeArm_sameBut (a : Arm) (k : FaultKind) (detail : Nat) (s : State) :
    SameBut noticeReach s (excludeArm a k detail s) := by
  intro b
  cases b <;> simp [Block.same, noticeReach, excludeArm]

theorem excludeDue_sameBut (a : Arm) (own : Bool) (s : State) : SameBut noticeReach s (excludeDue a own s) := by
  unfold excludeDue
  repeat' split
  all_goals first
    | exact SameBut.refl _ s
    | exact excludeArm_sameBut _ _ _ s

theorem timedMove_sameBut (a : Arm) (s : State) : SameBut noticeReach s (timedMove a s) := by
  obtain ⟨k, d, -, h⟩ | ⟨-, -, h⟩ | ⟨-, -, h⟩ := timedMove_cases a s <;> rw [h]
  · exact excludeArm_sameBut a k d s
  · exact SameBut.refl _ s
  · intro b
    cases b <;> simp [Block.same, noticeReach]

theorem outRaiseEnd_sameBut (a : Arm) (s : State) : SameBut [.xmem, .armc, .faults, .tma] s (outRaiseEnd a s) := by
  unfold outRaiseEnd
  dsimp only
  split
  · intro b
    cases b <;> simp [Block.same]
  · exact SameBut.refl _ s

theorem setArmTimeout_sameBut (a : Arm) (s : State) : SameBut noticeReach s (setArmTimeout a s) := by
  obtain h | ⟨w, -, -, h⟩ := setArmTimeout_cases a s <;> rw [h]
  · exact SameBut.refl _ s
  · exact (timedMove_sameBut a s).comp (armWaiting_sameBut a _) (List.Subset.refl _) (by decide)

/-! The water step and the load step -/

theorem waterFlow_sameBut (s : State) : SameBut [.watc, .tma] s (waterFlow s) := by
  intro b
  cases b <;> simp [Block.same, waterFlow, waterPump, waterGroups, waterCommand, waterPrime, waterDemand, waterRead, waterSupply,
    waterTank]

theorem waterStep_sameBut (s : State) : SameBut noticeReach s (waterStep s) := by
  have hwatch (b : Bool) (u : State) : SameBut noticeReach u (waterWatch s.watc b u) := (setWatc_sameBut u _).mono (by decide)
  have hends (w : WaterControl) (b : Bool) (u : State) : SameBut noticeReach u (waterEnds s.watc w b u) := by
    intro b
    cases b <;> simp [Block.same, noticeReach, waterEnds]
  exact ((((waterFlow_sameBut s).mono (by decide)).trans (hwatch _ _)).trans (reportBatch_sameBut _ _)).trans (hends _ _ _)

theorem primeTimeout_sameBut (s : State) : SameBut noticeReach s (primeTimeout s) := by
  unfold primeTimeout
  split
  · intro b
    cases b <;> simp [Block.same, noticeReach]
  · exact SameBut.refl _ s

theorem reportBatch_setWatc_sameBut (rs : List Report) (w : WaterControl) (s : State) :
    SameBut noticeReach s (reportBatch rs (s.setWatc w)) :=
  (setWatc_sameBut s w).comp (reportBatch_sameBut rs _) (by decide) (List.Subset.refl _)

theorem setLoadm_sameBut (s : State) (l : LoadManager) : SameBut [.loadm] s (s.setLoadm l) := by
  intro b
  cases b <;> simp [Block.same]

/-- What a load step can reach: the load manager and what a report can reach. -/
def loadReach : List Block := .loadm :: noticeReach

theorem loadStep_sameBut (s : State) : SameBut loadReach s (loadStep s) := by
  have hform : SameBut loadReach s (loadForm s) := (loadForm_eq s ▸ setLoadm_sameBut s _).mono (by decide)
  have hscale (u : State) : SameBut loadReach u (loadScale u) := (setLoadm_sameBut u _).mono (by decide)
  have hfinish (u : State) : SameBut loadReach u (loadFinish s.loadm u) := by
    intro b
    cases b <;> simp [Block.same, loadReach, noticeReach, loadFinish]
  exact (hform.trans (hscale _)).trans (hfinish _)

/-! The resets, the wake and the mode check -/

/-- What a restart can reach (R22). -/
def restartReach : List Block := .loadm :: .cal :: noticeReach

theorem restartBlocks_sameBut (s : State) : SameBut restartReach s (restartBlocks s) := by
  intro b
  cases b <;> simp [Block.same, restartReach, noticeReach, restartBlocks]

theorem doRestart_sameBut (s : State) : SameBut restartReach s (doRestart s) := by
  have horders : SameBut restartReach s (restartOrders (outputsOff s)) := by
    intro b
    cases b <;> simp [Block.same, restartReach, noticeReach, restartOrders]
  have hmodc (u : State) : SameBut restartReach u (restartModc u) := by
    intro b
    cases b <;> simp [Block.same, restartReach, noticeReach, restartModc]
  have hnotices (prev new : Mode) (b : Bool) (u : State) :
      SameBut restartReach u (raiseIf b .modeChange (sendNotices prev new (stowRequests u))) := by
    intro b
    cases b <;> simp [Block.same, restartReach, noticeReach]
  exact ((horders.trans (restartBlocks_sameBut _)).trans (hmodc _)).trans (hnotices _ _ _ _)

theorem wakeSource_sameBut (restart : Bool) (s : State) : SameBut [.modc, .tma, .watc] s (wakeSource restart s) := by
  unfold wakeSource
  dsimp only
  split
  · intro b
    cases b <;> simp [Block.same]
  · exact SameBut.refl _ s

theorem setModc_sameBut (s : State) (m : ModeControl) : SameBut [.modc] s (s.setModc m) := by
  intro b
  cases b <;> simp [Block.same]

theorem writeRestart_sameBut (v : Word) (s : State) : SameBut restartReach s (writeRestart v s) := by
  unfold writeRestart restartRequest
  repeat' split
  all_goals first
    | exact SameBut.refl _ s
    | exact (wakeSource_sameBut _ s).mono (by decide)
    | exact (setModc_sameBut s _).mono (by decide)
    | exact doRestart_sameBut s

theorem setPort_sameBut (s : State) (p : HostPort) : SameBut [.port] s (s.setPort p) := by
  intro b
  cases b <;> simp [Block.same]

theorem writeCheck_sameBut (v : Word) (s : State) : SameBut [.port, .faults, .xmem] s (writeCheck v s) := by
  unfold writeCheck
  repeat' split
  all_goals first
    | exact SameBut.refl _ s
    | exact (setPort_sameBut s _).mono (by decide)
    | (intro b; cases b <;> simp [Block.same, completePair])

theorem checkExpiry_sameBut (s : State) : SameBut noticeReach s (checkExpiry s) := by
  unfold checkExpiry
  split
  · exact (setPort_sameBut s _).comp (reportBatch_sameBut _ _) (by decide) (List.Subset.refl _)
  · exact SameBut.refl _ s

theorem enterLowering_sameBut (s : State) : SameBut [.modc, .armc] s (enterLowering s) := by
  intro b
  cases b <;> simp [Block.same, enterLowering]

theorem reachSweeping_sameBut (s : State) : SameBut noticeReach s (reachSweeping s) :=
  (changeMode_sameBut 21 s (by decide)).comp (completeMode_sameBut _ _ _ _) (List.Subset.refl _) (by decide)

theorem phaseProgress_sameBut (s : State) : SameBut noticeReach s (phaseProgress s) := by
  have hmodc (m : ModeControl) : SameBut noticeReach s (s.setModc m) := (setModc_sameBut s m).mono (by decide)
  have hlowering (u : State) : SameBut noticeReach u (enterLowering u) := (enterLowering_sameBut u).mono (by decide)
  unfold phaseProgress
  split
  case h_1 =>
    unfold slowingCheck
    dsimp only
    repeat' split
    · exact (hmodc _).trans ((setModc_sameBut _ _).mono (by decide))
    · exact (hmodc _).trans (hlowering _)
    · exact SameBut.refl _ s
  case h_2 =>
    unfold primingCheck
    split
    · exact hlowering s
    · exact SameBut.refl _ s
  case h_3 =>
    unfold loweringCheck
    dsimp only
    split <;> exact hmodc _
  case h_4 =>
    unfold settlingCheck
    dsimp only
    split
    · exact (hmodc _).trans (reachSweeping_sameBut _)
    · exact hmodc _
  case h_5 => exact SameBut.refl _ s

theorem budgetTest_sameBut (before : Phase) (s : State) : SameBut noticeReach s (budgetTest before s) := by
  have hmodc (m : ModeControl) : SameBut noticeReach s (s.setModc m) := (setModc_sameBut s m).mono (by decide)
  have hexpired (u : State) : SameBut noticeReach u (budgetExpired u) :=
    (completeMode_sameBut _ _ _ u).comp (changeMode_sameBut 22 _ (by decide)) (by decide) (List.Subset.refl _)
  unfold budgetTest
  dsimp only
  repeat' split
  · exact (hmodc _).trans (hexpired _)
  · exact hmodc _
  · exact SameBut.refl _ s

theorem endWork_sameBut (reason detail : Nat) (s : State) : SameBut noticeReach s (endWork reason detail s) :=
  (changeMode_sameBut reason s (by decide)).comp (completeMode_sameBut _ _ _ _) (List.Subset.refl _) (by decide)

/-- The switches lead to TRANSPORT or DISENGAGING (R17, R21). -/
theorem modeFromSwitches_ne_parked (s : State) : s.modeFromSwitches ≠ .parked := by
  unfold State.modeFromSwitches
  split <;> decide

theorem endWake_sameBut (s : State) : SameBut noticeReach s (endWake s) := by
  intro b
  cases b <;> simp [Block.same, noticeReach, endWake, changeMode_loadm _ _ (modeFromSwitches_ne_parked s)]

/-- A mode check that no restart waits for. -/
theorem modeCheck_sameBut_of_no_restart {s : State}
    (h : ¬(s.modc.mode = .parked ∧ (s.modc.wake = .waking ∧ 20 ≤ s.since s.modc.wakeTime) ∧ s.modc.restartPending)) :
    SameBut noticeReach s (modeCheck s) := by
  have hwork (reason detail : Nat) := endWork_sameBut reason detail s
  unfold modeCheck
  split
  case h_1 => exact ite_sameBut (changeMode_sameBut 17 s (modeFromSwitches_ne_parked s))
  case h_2 => exact SameBut.refl _ s
  case h_3 =>
    unfold engagingCheck
    repeat' split
    · exact hwork 23 18
    · exact hwork 24 19
    · exact (phaseProgress_sameBut s).trans (budgetTest_sameBut _ _)
  case h_4 =>
    unfold sweepingCheck
    repeat' split
    · exact hwork 23 18
    · exact hwork 24 19
    · exact SameBut.refl _ s
  case h_5 =>
    exact ite_sameBut ((changeMode_sameBut 28 s (by decide)).comp (completeMode_sameBut _ _ _ _) (List.Subset.refl _) (by decide))
  case h_6 => exact ite_sameBut ((setModc_sameBut s _).mono (by decide))
  case h_7 hmode =>
    unfold wakingCheck
    split
    case isTrue hwake =>
      rw [if_neg fun hrestart => h ⟨hmode, hwake, hrestart⟩]
      exact endWake_sameBut s
    case isFalse => exact SameBut.refl _ s

theorem modeCheck_sameBut (s : State) : SameBut restartReach s (modeCheck s) := by
  by_cases h : s.modc.mode = .parked ∧ (s.modc.wake = .waking ∧ 20 ≤ s.since s.modc.wakeTime) ∧ s.modc.restartPending
  · obtain ⟨hmode, hwake, hrestart⟩ := h
    unfold modeCheck wakingCheck
    simp only [hmode]
    rw [if_pos hwake, if_pos hrestart]
    exact doRestart_sameBut s
  · exact (modeCheck_sameBut_of_no_restart h).mono (by decide)

/-! The calibration loader -/

/-- The stored image installed (R167). -/
def installImage (image : List Word) (s : State) : State :=
  applyWheelTimeout (writeArea (imageCalibration image)
    ((s.setFreeReads (s.freeReads + 1)).setCal
      { s.cal with working := imageCalibration image, status := .fromStore, buffer := image }))

/-- The defaults installed and reported (R167). -/
def installDefaults (o : ImageOutcome) (buffer : List Word) (s : State) : State :=
  reportBatch [{ kind := .calibrationDefaulted, source := .call, detail := o.code }]
    (writeArea defaultCalibration
      ((s.setFreeReads (s.freeReads + 1)).setCal
        { s.cal with working := defaultCalibration, status := .defaults, buffer := buffer }))

/-- The load-done flag set and the operation ended (R167). -/
def loadEnds (s : State) : State := s.setCal { s.cal with loadDone := true, op := .idle, link := none }

theorem startupLoad_valid {s : State} (h : s.cal.op = .loading) (ho : (readImage s).1 = .valid) :
    startupLoad s = loadEnds (installImage (readImage s).2 s) := by
  rw [startupLoad, if_pos h]
  unfold loadEnds installImage
  dsimp only
  rw [if_pos ho]

theorem startupLoad_defaults {s : State} (h : s.cal.op = .loading) (ho : (readImage s).1 ≠ .valid) :
    startupLoad s =
      loadEnds (installDefaults (readImage s).1 (bufferAfter (readImage s).1 (readImage s).2 s.cal.buffer) s) := by
  rw [startupLoad, if_pos h]
  unfold loadEnds installDefaults
  dsimp only
  rw [if_neg ho]

theorem startupLoad_other {s : State} (h : s.cal.op ≠ .loading) : startupLoad s = s := by
  rw [startupLoad, if_neg h]

theorem installImage_sameBut (image : List Word) (s : State) :
    SameBut [.cal, .freeReads, .xmem, .tma] s (installImage image s) := by
  intro b
  cases b <;> simp [Block.same, installImage]

theorem installDefaults_sameBut (o : ImageOutcome) (buffer : List Word) (s : State) :
    SameBut (.cal :: .freeReads :: noticeReach) s (installDefaults o buffer s) := by
  unfold installDefaults
  generalize defaultCalibration = ws
  intro b
  cases b <;> simp [Block.same, noticeReach]

theorem loadEnds_sameBut (s : State) : SameBut [.cal] s (loadEnds s) := by
  intro b
  cases b <;> simp [Block.same, loadEnds]

theorem startupLoad_sameBut (s : State) : SameBut (.cal :: .freeReads :: noticeReach) s (startupLoad s) := by
  by_cases hop : s.cal.op = .loading
  · by_cases ho : (readImage s).1 = .valid
    · rw [startupLoad_valid hop ho]
      exact (installImage_sameBut _ s).comp (loadEnds_sameBut _) (by decide) (by decide)
    · rw [startupLoad_defaults hop ho]
      exact (installDefaults_sameBut _ _ s).comp (loadEnds_sameBut _) (List.Subset.refl _) (by decide)
  · rw [startupLoad_other hop]
    exact SameBut.refl _ s

theorem pageTransferDone_sameBut (s : State) : SameBut [.cal, .eeprom] s (pageTransferDone s) := by
  unfold pageTransferDone
  split <;> intro b <;> cases b <;> simp [Block.same]

theorem pageReady_sameBut (s : State) : SameBut [.xmem, .port, .orders, .cal, .eeprom] s (pageReady s) := by
  unfold pageReady
  dsimp only
  repeat' split
  all_goals intro b; cases b <;> simp [Block.same]

theorem pageTimeout_sameBut (s : State) : SameBut [.xmem, .port, .orders, .cal] s (pageTimeout s) := by
  unfold pageTimeout
  split <;> intro b <;> cases b <;> simp [Block.same]

theorem fetchDone_sameBut (s : State) : SameBut [.xmem, .port, .orders, .cal, .freeReads] s (fetchDone s) := by
  unfold fetchDone
  dsimp only
  repeat' split
  all_goals intro b; cases b <;> simp [Block.same]

/-! The timing array -/

theorem judgeEdge_sameBut (ch : Channel) (now : Nat) (s : State) :
    SameBut [.xmem, .port, .publisher, .tma] s (judgeEdge ch now s) := by
  unfold judgeEdge countEdge
  dsimp only
  repeat' split
  all_goals intro b; cases b <;> simp [Block.same, setCapture]

theorem captureRaw_sameBut (ch : Channel) (level : Bool) (us : Nat) (s : State) :
    SameBut [.xmem, .port, .publisher, .tma] s (captureRaw ch level us s) := by
  have hset (k : Capture) (u : State) : SameBut [.xmem, .port, .publisher, .tma] u (setCapture ch k u) := by
    intro b
    cases b <;> simp [Block.same, setCapture]
  unfold captureRaw
  dsimp only
  repeat' split
  · exact judgeEdge_sameBut ch _ s
  · exact (judgeEdge_sameBut ch _ s).trans (hset _ _)
  · exact hset _ s

theorem settleInput_sameBut (i : Input) (s : State) : SameBut [.modc, .tma, .watc] s (settleInput i s) := by
  have hset (d : Debounced) : SameBut [.modc, .tma, .watc] s (setInput i d s) := by
    intro b
    cases b <;> simp [Block.same, setInput]
  unfold settleInput
  dsimp only
  repeat' split
  · exact (hset _).trans (wakeSource_sameBut false _)
  · exact hset _
  · exact SameBut.refl _ s

theorem tracePeriod_sameBut (s : State) : SameBut [.xmem, .port, .publisher, .tma] s (tracePeriod s) := by
  unfold tracePeriod
  split <;> intro b <;> cases b <;> simp [Block.same]

/-! The orders -/

theorem openEntry_sameBut (target : Target) (t : Take) (s : State) : SameBut [.xmem, .orders] s (openEntry target t s) := by
  intro b
  cases b <;> simp [Block.same]

theorem supersede_sameBut (target : Target) (t : Take) (s : State) :
    SameBut [.xmem, .port, .orders] s (supersede target t s) := by
  intro b
  cases b <;> simp [Block.same]

/-- An order accepted as open leaves every block but those of the list and those its owning block changed (R148, R150). -/
theorem acceptOpen_sameBut {blocks : List Block} (target : Target) (t : Take) {f : State → State}
    (hf : ∀ u, SameBut blocks u (f u)) (s : State) :
    SameBut ([.xmem, .port, .orders] ++ blocks) s (acceptOpen target t f s) :=
  ((supersede_sameBut target t s).comp (hf _) (List.subset_append_left _ _) (List.subset_append_right _ _)).comp
    (openEntry_sameBut target t _) (List.Subset.refl _) (by simp)

/-- An order completed over an older one leaves every block but those of the list and those its owning block changed (R147, R150). -/
theorem completeOn_sameBut {blocks : List Block} (target : Target) (t : Take) (r : Result) (detail : Nat) {f : State → State}
    (hf : ∀ u, SameBut blocks u (f u)) (s : State) :
    SameBut ([.xmem, .port, .orders] ++ blocks) s (completeOn target t r detail f s) :=
  ((supersede_sameBut target t s).comp (hf _) (List.subset_append_left _ _) (List.subset_append_right _ _)).comp
    (completeNow_sameBut t r detail _) (List.Subset.refl _) (by simp)

/-- The blocks that each order's dispatch can reach (R146). -/
def dispatchReach : Nat → List Block
  | 1 => [.xmem, .port, .orders, .modc, .watc]
  | 2 => noticeReach
  | 3 => noticeReach
  | 4 => orderReach
  | 5 => [.xmem, .port, .orders, .gov]
  | 6 => [.xmem, .port, .orders, .gov]
  | 7 => [.xmem, .port, .orders, .armc]
  | 8 => [.xmem, .port, .orders, .watc]
  | 9 => noticeReach
  | 10 => [.xmem, .port, .orders]
  | 11 => [.xmem, .port, .orders, .tma]
  | 12 => .cal :: noticeReach
  | 13 => [.xmem, .port, .orders, .cal]
  | 14 => [.xmem, .port, .orders, .cal]
  | _ => [.xmem, .port, .orders]

/-- A completion and nothing else is in every order's reach. -/
theorem completeNow_reach {blocks : List Block} (h : [.xmem, .orders, .port] ⊆ blocks) (t : Take) (r : Result) (detail : Nat)
    (s : State) : SameBut blocks s (completeNow t r detail s) :=
  (completeNow_sameBut t r detail s).mono h

theorem dispatchSelectProfile_sameBut (t : Take) (s : State) : SameBut (dispatchReach 1) s (dispatchSelectProfile t s) := by
  unfold dispatchSelectProfile
  dsimp only
  split
  · exact completeNow_reach (by decide) _ _ _ s
  split
  · exact completeNow_reach (by decide) _ _ _ s
  · have hset (m : ModeControl) (w : WaterControl) : SameBut [.modc, .watc] s ((s.setModc m).setWatc w) :=
      (setModc_sameBut s m).comp (setWatc_sameBut _ w) (by decide) (by decide)
    exact (hset _ _).comp (completeNow_sameBut _ _ _ _) (by decide) (by decide)

theorem dispatchEngage_sameBut (t : Take) (s : State) : SameBut (dispatchReach 2) s (dispatchEngage t s) := by
  have hchange (u : State) := changeMode_sameBut (new := .engaging) 18 u (by decide)
  unfold dispatchEngage
  repeat' split
  all_goals first
    | exact completeNow_reach (by decide) _ _ _ s
    | exact (acceptOpen_sameBut .mode t hchange s).mono (by decide)
    | exact (acceptOpen_sameBut .mode t (SameBut.refl []) s).mono (by decide)

theorem dispatchDisengage_sameBut (t : Take) (s : State) : SameBut (dispatchReach 3) s (dispatchDisengage t s) := by
  have hchange (u : State) := changeMode_sameBut (new := .disengaging) 19 u (by decide)
  unfold dispatchDisengage
  split
  all_goals first
    | exact completeNow_reach (by decide) _ _ _ s
    | exact (completeOn_sameBut .mode t _ _ (SameBut.refl []) s).mono (by decide)
    | exact (acceptOpen_sameBut .mode t hchange s).mono (by decide)
    | exact (acceptOpen_sameBut .mode t (SameBut.refl []) s).mono (by decide)

theorem sleepStages_sameBut (s : State) : SameBut [.xmem, .publisher, .port, .tma] s (sleepStages s) := by
  have hpublish : SameBut [.xmem, .publisher, .port, .tma] s (publish (outputsOff s)) := by
    intro b
    cases b <;> simp [Block.same]
  have hrest (x : TimingArray) (u : State) : SameBut [.xmem, .publisher, .port, .tma] u (disarmCheck (u.setTma x)) := by
    intro b
    cases b <;> simp [Block.same]
  exact hpublish.trans (hrest _ _)

theorem enterParked_sameBut (s : State) : SameBut orderReach s (enterParked s) := by
  have hchange : SameBut orderReach s (changeMode .parked 20 s) := by
    intro b
    cases b <;> simp [Block.same, orderReach]
  exact (hchange.comp (setModc_sameBut _ _) (List.Subset.refl _) (by decide)).comp (sleepStages_sameBut _)
    (List.Subset.refl _) (by decide)

theorem dispatchPark_sameBut (t : Take) (s : State) : SameBut (dispatchReach 4) s (dispatchPark t s) := by
  have hrefused (r : Result) (d : Nat) : SameBut (dispatchReach 4) s (completeNow t r d s) :=
    completeNow_reach (by decide) t r d s
  unfold dispatchPark
  repeat' split
  · exact hrefused _ _
  · exact hrefused _ _
  · exact hrefused _ _
  · exact hrefused _ _
  · exact hrefused _ _
  · exact (hrefused _ _).trans (enterParked_sameBut _)

theorem dispatchSetPace_sameBut (t : Take) (s : State) : SameBut (dispatchReach 5) s (dispatchSetPace t s) := by
  have hrequest (w : Option TravelWait) (speed : Nat) (dir : Direction) (u : State) :
      SameBut [.gov] u (setTravelWait w (replaceRequest speed dir u)) :=
    (setGov_sameBut u _).trans (setGov_sameBut _ _)
  unfold dispatchSetPace
  dsimp only
  split
  · exact completeNow_reach (by decide) _ _ _ s
  repeat' split
  all_goals first
    | exact completeNow_reach (by decide) _ _ _ s
    | exact completeOn_sameBut .travel t _ _ (hrequest _ _ _) s
    | exact acceptOpen_sameBut .travel t (hrequest _ _ _) s

theorem dispatchStop_sameBut (t : Take) (s : State) : SameBut (dispatchReach 6) s (dispatchStop t s) :=
  acceptOpen_sameBut .travel t (fun u => (setGov_sameBut u _).trans (setGov_sameBut _ _)) s

theorem dispatchSetArm_sameBut (t : Take) (s : State) : SameBut (dispatchReach 7) s (dispatchSetArm t s) := by
  unfold dispatchSetArm
  split
  · exact completeNow_reach (by decide) _ _ _ s
  split
  · exact completeNow_reach (by decide) _ _ _ s
  repeat' split
  all_goals first
    | exact completeNow_reach (by decide) _ _ _ s
    | exact acceptOpen_sameBut _ t (fun u => setArm_sameBut _ _ u) s

theorem dispatchSetWater_sameBut (t : Take) (s : State) : SameBut (dispatchReach 8) s (dispatchSetWater t s) := by
  have hrefused (d : Nat) : SameBut (dispatchReach 8) s (completeNow t .refusedRange d s) :=
    completeNow_reach (by decide) t _ d s
  have hset (w : WaterControl) (r : Result) (d : Nat) : SameBut (dispatchReach 8) s (completeNow t r d (s.setWatc w)) :=
    (setWatc_sameBut s w).comp (completeNow_sameBut t r d _) (by decide) (by decide)
  unfold dispatchSetWater
  dsimp only
  split
  · exact hrefused _
  split
  · exact hrefused _
  split
  · exact hrefused _
  · exact hset _ _ _

theorem releaseHolds_sameBut (which : Nat) (s : State) : SameBut [.xmem, .faults] s (releaseHolds which s) := by
  intro b
  unfold releaseHolds
  dsimp only
  repeat' split
  all_goals cases b <;> simp [Block.same]

theorem releaseArm_sameBut (a : Arm) (s : State) : SameBut [.xmem, .faults, .armc, .tma] s (releaseArm a s) := by
  unfold releaseArm
  dsimp only
  split
  · intro b
    cases b <;> simp [Block.same]
  · exact SameBut.refl _ s

theorem releaseWater_sameBut (s : State) : SameBut [.xmem, .faults, .watc] s (releaseWater s) := by
  unfold releaseWater
  dsimp only
  split
  · intro b
    cases b <;> simp [Block.same]
  · exact SameBut.refl _ s

theorem releaseExclusions_sameBut (s : State) :
    SameBut [.xmem, .faults, .armc, .watc, .tma] s (releaseExclusions s) :=
  ((((releaseArm_sameBut .left s).trans (releaseArm_sameBut .right _)).trans (releaseArm_sameBut .main _)).comp
    (releaseWater_sameBut _) (by decide) (by decide))

theorem leaveSafe_sameBut (s : State) : SameBut noticeReach s (leaveSafe s) := by
  unfold leaveSafe
  dsimp only
  split
  · exact (changeMode_sameBut 25 s (by decide)).comp (setModc_sameBut _ _) (List.Subset.refl _) (by decide)
  · exact SameBut.refl _ s

theorem dispatchClearFault_sameBut (t : Take) (s : State) : SameBut (dispatchReach 9) s (dispatchClearFault t s) := by
  have hholds (which : Nat) : SameBut noticeReach s (releaseHolds which s) := (releaseHolds_sameBut which s).mono (by decide)
  have hexclusions (u : State) : SameBut noticeReach u (releaseExclusions u) := (releaseExclusions_sameBut u).mono (by decide)
  unfold dispatchClearFault
  dsimp only
  repeat' split
  · exact completeNow_reach (by decide) _ _ _ s
  · exact completeNow_reach (by decide) _ _ _ s
  · exact (((hholds _).trans (hexclusions _)).trans (leaveSafe_sameBut _)).trans (completeNow_reach (by decide) _ _ _ _)
  · exact ((hholds _).trans (leaveSafe_sameBut _)).trans (completeNow_reach (by decide) _ _ _ _)

theorem dispatchCancel_sameBut (t : Take) (s : State) : SameBut (dispatchReach 10) s (dispatchCancel t s) :=
  (endEntries_sameBut _ _ _ s).comp (completeNow_sameBut _ _ _ _) (by decide) (by decide)

theorem dispatchSetTrace_sameBut (t : Take) (s : State) : SameBut (dispatchReach 11) s (dispatchSetTrace t s) := by
  have hrefused (d : Nat) : SameBut (dispatchReach 11) s (completeNow t .refusedRange d s) :=
    completeNow_reach (by decide) t _ d s
  have htrace (x : Trace) (r : Result) (d : Nat) : SameBut (dispatchReach 11) s (completeNow t r d (setTrace x s)) := by
    have hset : SameBut [.tma] s (setTrace x s) := by
      intro b
      cases b <;> simp [Block.same]
    exact hset.comp (completeNow_sameBut t r d _) (by decide) (by decide)
  unfold dispatchSetTrace
  dsimp only
  split
  · exact hrefused _
  split
  · exact hrefused _
  split
  · exact htrace _ _ _
  · exact htrace _ _ _

theorem installArea_sameBut (s : State) :
    SameBut [.cal, .gov, .watc, .armc, .xmem, .faults, .tma] s (installArea s) := by
  intro b
  cases b <;> simp [Block.same, installArea]

theorem dispatchLoadCalibration_sameBut (t : Take) (s : State) :
    SameBut (dispatchReach 12) s (dispatchLoadCalibration t s) := by
  unfold dispatchLoadCalibration
  repeat' split
  all_goals first
    | exact completeNow_reach (by decide) _ _ _ s
    | exact (installArea_sameBut s).comp (completeNow_sameBut _ _ _ _) (by decide) (by decide)

theorem setCal_sameBut (s : State) (k : CalLoader) : SameBut [.cal] s (s.setCal k) := by
  intro b
  cases b <;> simp [Block.same]

theorem dispatchStoreCalibration_sameBut (t : Take) (s : State) :
    SameBut (dispatchReach 13) s (dispatchStoreCalibration t s) := by
  unfold dispatchStoreCalibration
  repeat' split
  all_goals first
    | exact completeNow_reach (by decide) _ _ _ s
    | exact (setCal_sameBut s _).comp (openEntry_sameBut _ _ _) (by decide) (by decide)

theorem dispatchFetchCalibration_sameBut (t : Take) (s : State) :
    SameBut (dispatchReach 14) s (dispatchFetchCalibration t s) := by
  unfold dispatchFetchCalibration
  repeat' split
  all_goals first
    | exact completeNow_reach (by decide) _ _ _ s
    | exact (setCal_sameBut s _).comp (openEntry_sameBut _ _ _) (by decide) (by decide)

theorem dispatchKind_sameBut (t : Take) (s : State) : SameBut orderReach s (dispatchKind t s) := by
  unfold dispatchKind
  split
  · exact (dispatchSelectProfile_sameBut t s).mono (by decide)
  · exact (dispatchEngage_sameBut t s).mono (by decide)
  · exact (dispatchDisengage_sameBut t s).mono (by decide)
  · exact (dispatchPark_sameBut t s).mono (by decide)
  · exact (dispatchSetPace_sameBut t s).mono (by decide)
  · exact (dispatchStop_sameBut t s).mono (by decide)
  · exact (dispatchSetArm_sameBut t s).mono (by decide)
  · exact (dispatchSetWater_sameBut t s).mono (by decide)
  · exact (dispatchClearFault_sameBut t s).mono (by decide)
  · exact (dispatchCancel_sameBut t s).mono (by decide)
  · exact (dispatchSetTrace_sameBut t s).mono (by decide)
  · exact (dispatchLoadCalibration_sameBut t s).mono (by decide)
  · exact (dispatchStoreCalibration_sameBut t s).mono (by decide)
  · exact (dispatchFetchCalibration_sameBut t s).mono (by decide)
  · exact completeNow_reach (by decide) _ _ _ s

theorem stallScan_sameBut (s : State) : SameBut [.orders, .port] s (stallScan s) := by
  intro b
  cases b <;> simp [Block.same]

/-- A take leaves every block but the order unit and those its dispatch can reach (R146). -/
theorem takeSlot_sameBut {blocks : List Block} (hblocks : .orders ∈ blocks) {dispatch : Take → State → State}
    (hdispatch : ∀ t u, SameBut blocks u (dispatch t u)) (kind : Nat) (o : Order) (s : State) :
    SameBut blocks s (takeSlot dispatch kind o s) :=
  ((advanceCursor_sameBut s).mono (by simpa using hblocks)).trans (hdispatch _ _)

/-- A law that a stall and every take keeps is kept by a strip scan (R145, R152). -/
theorem scan_keeps {P : State → Prop} (hstall : ∀ s, P s → P (stallScan s))
    (htake : ∀ s, P s → s.owner s.orders.cursor = ownerPosted → s.slotNamed s.orders.cursor = false →
      P (takeSlot dispatchKind (s.slotKind s.orders.cursor) (s.slotOrder s.orders.cursor) s)) (n : Nat) (s : State)
    (hs : P s) : P (scan n s) := by
  induction n generalizing s with
  | zero => exact hs
  | succ n ih =>
    unfold scan
    dsimp only
    split
    case isTrue => exact hs
    case isFalse hposted =>
      split
      case isTrue => exact hstall s hs
      case isFalse hnamed =>
        have ht := htake s hs (not_not.mp hposted) (by simpa using hnamed)
        split
        · exact ht
        · exact ih _ ht

/-- What an order command does where RESET# is high (R145; log entry 3). -/
def orderEffect (dispatch : Take → State → State) (kind : Nat) (order : Order) (s : State) : State :=
  if s.scanned then
    if s.slotNamed s.orders.cursor then
      if s.owner s.orders.cursor = ownerPosted then stallScan s else s
    else takeSlot dispatch kind order s
  else s

/-- A law that a stall and a take keeps is kept by an order command (R145). -/
theorem orderEffect_keeps {P : State → Prop} {dispatch : Take → State → State} {kind : Nat} {o : Order} {s : State}
    (hstall : P s → P (stallScan s))
    (htake : s.scanned = true → s.slotNamed s.orders.cursor = false → P s → P (takeSlot dispatch kind o s)) (hs : P s) :
    P (orderEffect dispatch kind o s) := by
  unfold orderEffect
  split
  case isFalse => exact hs
  case isTrue hscanned =>
    split
    case isFalse hnamed => exact htake hscanned (by simpa using hnamed) hs
    case isTrue =>
      split
      · exact hstall hs
      · exact hs

theorem orderEffect_sameBut {blocks : List Block} (hblocks : [.orders, .port] ⊆ blocks) {dispatch : Take → State → State}
    (hdispatch : ∀ t u, SameBut blocks u (dispatch t u)) (kind : Nat) (o : Order) (s : State) :
    SameBut blocks s (orderEffect dispatch kind o s) :=
  orderEffect_keeps (P := SameBut blocks s) (fun h => h.trans ((stallScan_sameBut s).mono hblocks))
    (fun _ _ h => h.trans (takeSlot_sameBut (hblocks (by simp)) hdispatch kind o s)) (SameBut.refl _ s)

/-- The blocks that each command can reach. -/
def reach : Instr → List Block
  | .coldReset _ => .resetHeld :: orderReach
  | .resetRelease => [.resetHeld, .tma]
  | .restart _ => restartReach
  | .wake _ => [.modc, .tma, .watc]
  | .check _ => [.port, .faults, .xmem]
  | .intPending _ | .intEnable _ => [.port]
  | .ignoredRegisterWrite _ _ => []
  | .hostMemoryWrite _ _ => [.xmem]
  | .stripScanExpiry => orderReach
  | .refusedKind _ _ => [.xmem, .port, .orders]
  | .selectProfile _ => dispatchReach 1
  | .engage _ => dispatchReach 2
  | .disengage _ => dispatchReach 3
  | .park _ => dispatchReach 4
  | .setPace _ => dispatchReach 5
  | .stop _ => dispatchReach 6
  | .setArm _ => dispatchReach 7
  | .setWater _ => dispatchReach 8
  | .clearFault _ => dispatchReach 9
  | .cancel _ => dispatchReach 10
  | .setTrace _ => dispatchReach 11
  | .loadCalibration _ => dispatchReach 12
  | .storeCalibration _ => dispatchReach 13
  | .fetchCalibration _ => dispatchReach 14
  | .startupLoadDone => .cal :: .freeReads :: noticeReach
  | .storePageTransferDone => [.cal, .eeprom]
  | .storePageReady => [.xmem, .port, .orders, .cal, .eeprom]
  | .storePageTimeout => [.xmem, .port, .orders, .cal]
  | .fetchReadDone => [.xmem, .port, .orders, .cal, .freeReads]
  | .modeCheck => restartReach
  | .wheelReadmission _ | .neutralDwellElapsed => [.gov]
  | .paceArrival | .paceTimeout | .stopTimeout => [.xmem, .port, .orders, .gov]
  | .spinUpComplete _ => [.armc]
  | .outRaiseEnd _ => [.xmem, .armc, .faults, .tma]
  | .primeHeld => [.watc]
  | .loadStep | .engineLossTimeout => loadReach
  | .floorTimerExpiry | .recoveryTimerExpiry => [.loadm]
  | .statusPublication => [.xmem, .publisher]
  | .tracePeriodExpiry | .captureRawChange _ _ _ | .captureEdgeAccepted _ _ => [.xmem, .port, .publisher, .tma]
  | .captureTimeout _ _ | .debounceRawChange _ _ | .pwmPeriodStart _ => [.tma]
  | .debounceSettled _ => [.modc, .tma, .watc]
  | _ => noticeReach

theorem coldReset_sameBut (cause : ResetCause) (s : State) :
    SameBut (.resetHeld :: orderReach) s (coldReset cause s) := by
  intro b
  cases b <;> simp [Block.same, orderReach, coldReset, coldState]

theorem setTma_sameBut (s : State) (x : TimingArray) : SameBut [.tma] s (s.setTma x) := by
  intro b
  cases b <;> simp [Block.same]

theorem releaseReset_sameBut (s : State) : SameBut [.resetHeld, .tma] s (releaseReset s) := by
  refine ite_sameBut fun b => ?_
  cases b <;> simp [Block.same]

theorem xwrite_sameBut (a : Nat) (v : Word) (s : State) : SameBut [.xmem] s (xwrite a v s) := by
  intro b
  cases b <;> simp [Block.same]

theorem dispatchUnknown_sameBut (t : Take) (s : State) : SameBut [.xmem, .port, .orders] s (dispatchUnknown t s) :=
  completeNow_reach (by decide) t _ _ s

theorem publish_sameBut (s : State) : SameBut [.xmem, .publisher] s (publish s) := by
  intro b
  cases b <;> simp [Block.same]

theorem captureExpiry_sameBut (ch : Channel) (us : Nat) (s : State) : SameBut [.tma] s (captureExpiry ch us s) :=
  ite_sameBut (setTma_sameBut s _)

theorem rawInput_sameBut (i : Input) (level : Bool) (s : State) : SameBut [.tma] s (rawInput i level s) := by
  unfold rawInput
  dsimp only
  split
  · exact SameBut.refl _ s
  · exact setTma_sameBut s _

theorem beginPeriod_sameBut (o : PwmOut) (s : State) : SameBut [.tma] s (beginPeriod o s) := by
  intro b
  cases b <;> simp [Block.same]

theorem effect_sameBut (c : Instr) (s : State) : SameBut (reach c) s (effect c s) := by
  cases c
  case coldReset cause => exact coldReset_sameBut cause s
  case resetRelease => exact releaseReset_sameBut s
  case restart v => exact whenLive_sameBut (writeRestart_sameBut v s)
  case wake => exact whenLive_sameBut (wakeSource_sameBut false s)
  case check v => exact whenLive_sameBut (writeCheck_sameBut v s)
  case intPending | intEnable => exact whenLive_sameBut (setPort_sameBut s _)
  case ignoredRegisterWrite => exact SameBut.refl _ s
  case hostMemoryWrite a v => exact whenLive_sameBut (xwrite_sameBut a.toNat v s)
  case stripScanExpiry =>
    refine whenLive_sameBut (ite_sameBut ?_)
    exact scan_keeps (P := SameBut orderReach s) (fun u h => h.trans ((stallScan_sameBut u).mono (by decide)))
      (fun u h _ _ => h.trans (takeSlot_sameBut (by decide) dispatchKind_sameBut _ _ u)) 8 s (SameBut.refl _ s)
  case refusedKind k o =>
    exact whenLive_sameBut (orderEffect_sameBut (blocks := [.xmem, .port, .orders]) (by decide) dispatchUnknown_sameBut _ o s)
  case selectProfile o => exact whenLive_sameBut (orderEffect_sameBut (by decide) dispatchSelectProfile_sameBut 1 o s)
  case engage o => exact whenLive_sameBut (orderEffect_sameBut (by decide) dispatchEngage_sameBut 2 o s)
  case disengage o => exact whenLive_sameBut (orderEffect_sameBut (by decide) dispatchDisengage_sameBut 3 o s)
  case park o => exact whenLive_sameBut (orderEffect_sameBut (by decide) dispatchPark_sameBut 4 o s)
  case setPace o => exact whenLive_sameBut (orderEffect_sameBut (by decide) dispatchSetPace_sameBut 5 o s)
  case stop o => exact whenLive_sameBut (orderEffect_sameBut (by decide) dispatchStop_sameBut 6 o s)
  case setArm o => exact whenLive_sameBut (orderEffect_sameBut (by decide) dispatchSetArm_sameBut 7 o s)
  case setWater o => exact whenLive_sameBut (orderEffect_sameBut (by decide) dispatchSetWater_sameBut 8 o s)
  case clearFault o => exact whenLive_sameBut (orderEffect_sameBut (by decide) dispatchClearFault_sameBut 9 o s)
  case cancel o => exact whenLive_sameBut (orderEffect_sameBut (by decide) dispatchCancel_sameBut 10 o s)
  case setTrace o => exact whenLive_sameBut (orderEffect_sameBut (by decide) dispatchSetTrace_sameBut 11 o s)
  case loadCalibration o => exact whenLive_sameBut (orderEffect_sameBut (by decide) dispatchLoadCalibration_sameBut 12 o s)
  case storeCalibration o => exact whenLive_sameBut (orderEffect_sameBut (by decide) dispatchStoreCalibration_sameBut 13 o s)
  case fetchCalibration o => exact whenLive_sameBut (orderEffect_sameBut (by decide) dispatchFetchCalibration_sameBut 14 o s)
  case startupLoadDone => exact whenLive_sameBut (startupLoad_sameBut s)
  case storePageTransferDone => exact whenLive_sameBut (pageTransferDone_sameBut s)
  case storePageReady => exact whenLive_sameBut (pageReady_sameBut s)
  case storePageTimeout => exact whenLive_sameBut (pageTimeout_sameBut s)
  case fetchReadDone => exact whenLive_sameBut (fetchDone_sameBut s)
  case modeCheck => exact whenRunning_sameBut (modeCheck_sameBut s)
  case settleTimerExpiry =>
    exact whenRunning_sameBut (ite_sameBut
      ((setModc_sameBut s _).comp (reachSweeping_sameBut _) (by decide) (List.Subset.refl _)))
  case engageBudgetExpiry =>
    exact whenRunning_sameBut (ite_sameBut ((phaseProgress_sameBut s).trans (budgetTest_sameBut _ _)))
  case travelStep => exact whenRunning_sameBut (travelStep_sameBut s)
  case wheelDisagreeTimeout => exact whenRunning_sameBut (ite_sameBut (reportBatch_setGov_sameBut _ _ s))
  case wheelLossTimeout w => exact whenRunning_sameBut (ite_sameBut (reportBatch_setGov_sameBut _ _ s))
  case wheelReadmission w => exact whenRunning_sameBut (ite_sameBut (setGov_sameBut s _))
  case wheelSilenceTimeout => exact whenRunning_sameBut (ite_sameBut (reportBatch_setGov_sameBut _ _ s))
  case neutralDwellElapsed => exact whenRunning_sameBut (ite_sameBut (setGov_sameBut s _))
  case overspeedTimeout => exact whenRunning_sameBut (ite_sameBut (reportBatch_setGov_sameBut _ _ s))
  case operatorAbsentTimeout => exact whenRunning_sameBut (ite_sameBut (reportBatch_setGov_sameBut _ _ s))
  case paceArrival =>
    refine whenRunning_sameBut ?_
    unfold paceArrival
    split
    · exact ite_sameBut (arrive_sameBut _ _ s)
    · exact SameBut.refl _ s
  case paceTimeout =>
    refine whenRunning_sameBut ?_
    unfold paceTimeout
    split
    · exact ite_sameBut (endTravelWait_sameBut _ _ s)
    · exact SameBut.refl _ s
  case stopTimeout =>
    refine whenRunning_sameBut ?_
    unfold stopTimeout
    split
    · exact ite_sameBut (stopTest_sameBut _ _ s)
    · exact SameBut.refl _ s
  case armStep => exact whenRunning_sameBut (armStep_sameBut s)
  case armStuckTimeout a => exact whenRunning_sameBut (excludeDue_sameBut a _ s)
  case angleLossTimeout side => exact whenRunning_sameBut (excludeDue_sameBut side.arm _ s)
  case deflectLongTimeout side => exact whenRunning_sameBut (excludeDue_sameBut side.arm _ s)
  case deflectReturn side => exact whenRunning_sameBut (ite_sameBut (timedMove_sameBut side.arm s))
  case hoverReached side => exact whenRunning_sameBut (ite_sameBut (timedMove_sameBut side.arm s))
  case spinUpComplete a => exact whenRunning_sameBut (ite_sameBut (setArm_sameBut a _ s))
  case brushStallTimeout a => exact whenRunning_sameBut (excludeDue_sameBut a _ s)
  case brushSilenceTimeout a => exact whenRunning_sameBut (excludeDue_sameBut a _ s)
  case outRaiseEnd a => exact whenRunning_sameBut (outRaiseEnd_sameBut a s)
  case setArmTimeout a => exact whenRunning_sameBut (setArmTimeout_sameBut a s)
  case waterStep => exact whenRunning_sameBut (waterStep_sameBut s)
  case primeHeld => exact whenRunning_sameBut (ite_sameBut (setWatc_sameBut s _))
  case primeTimeout => exact whenRunning_sameBut (primeTimeout_sameBut s)
  case dryRunTimeout => exact whenRunning_sameBut (ite_sameBut (reportBatch_setWatc_sameBut _ _ s))
  case flowLossTimeout => exact whenRunning_sameBut (ite_sameBut (reportBatch_setWatc_sameBut _ _ s))
  case tankLossTimeout => exact whenRunning_sameBut (ite_sameBut (reportBatch_setWatc_sameBut _ _ s))
  case loadStep => exact whenRunning_sameBut (loadStep_sameBut s)
  case floorTimerExpiry => exact whenRunning_sameBut (ite_sameBut (setLoadm_sameBut s _))
  case recoveryTimerExpiry => exact whenRunning_sameBut (ite_sameBut (setLoadm_sameBut s _))
  case engineLossTimeout =>
    exact whenRunning_sameBut (ite_sameBut
      ((setLoadm_sameBut s _).comp (reportBatch_sameBut _ _) (by decide) (by decide)))
  case hostCheckExpiry => exact whenLive_sameBut (checkExpiry_sameBut s)
  case statusPublication =>
    exact whenLive_sameBut (ite_sameBut (publish_sameBut s))
  case tracePeriodExpiry => exact whenLive_sameBut (tracePeriod_sameBut s)
  case captureRawChange ch level us => exact captureRaw_sameBut ch level us s
  case captureEdgeAccepted ch us => exact whenLive_sameBut (ite_sameBut (judgeEdge_sameBut ch _ s))
  case captureTimeout ch us => exact whenLive_sameBut (captureExpiry_sameBut ch us s)
  case debounceRawChange i level => exact rawInput_sameBut i level s
  case debounceSettled i => exact whenLive_sameBut (settleInput_sameBut i s)
  case pwmPeriodStart o => exact whenLive_sameBut (beginPeriod_sameBut o s)

/-- Settles O3: every command completes (`exec_effect`), and the queue is in no command's reach. -/
theorem everyCommandCompletesAndKeepsTheQueue : Obligations.EveryCommandCompletesAndKeepsTheQueue := by
  intro c s
  have hpending : (reach c).contains .pending = false := by
    cases c <;> rfl
  exact ⟨effect c s, exec_effect c s, (effect_sameBut c s).same .pending hpending⟩

end Sys2Proof.Machine

namespace Sys2Proof.Machine

/-! ### Laws that every step keeps: the shape of the argument

A law is kept by every step if a millisecond keeps it, the taking of an order does, and each other command does; and a command keeps
it at once where it reaches none of the blocks that the law speaks of. -/

/-- The dispatch of an order by its kind (R146). -/
def orderDispatch (kind : Nat) (t : Take) (s : State) : State :=
  match kind with
  | 1 => dispatchSelectProfile t s
  | 2 => dispatchEngage t s
  | 3 => dispatchDisengage t s
  | 4 => dispatchPark t s
  | 5 => dispatchSetPace t s
  | 6 => dispatchStop t s
  | 7 => dispatchSetArm t s
  | 8 => dispatchSetWater t s
  | 9 => dispatchClearFault t s
  | 10 => dispatchCancel t s
  | 11 => dispatchSetTrace t s
  | 12 => dispatchLoadCalibration t s
  | 13 => dispatchStoreCalibration t s
  | 14 => dispatchFetchCalibration t s
  | _ => dispatchUnknown t s

/-- The scan dispatches an order by the kind it noted at the take. -/
theorem dispatchKind_eq (t : Take) (s : State) : dispatchKind t s = orderDispatch t.kind t s := rfl

theorem orderDispatch_sameBut (kind : Nat) (t : Take) (s : State) :
    SameBut (dispatchReach kind) s (orderDispatch kind t s) :=
  match kind with
  | 0 => dispatchUnknown_sameBut t s
  | 1 => dispatchSelectProfile_sameBut t s
  | 2 => dispatchEngage_sameBut t s
  | 3 => dispatchDisengage_sameBut t s
  | 4 => dispatchPark_sameBut t s
  | 5 => dispatchSetPace_sameBut t s
  | 6 => dispatchStop_sameBut t s
  | 7 => dispatchSetArm_sameBut t s
  | 8 => dispatchSetWater_sameBut t s
  | 9 => dispatchClearFault_sameBut t s
  | 10 => dispatchCancel_sameBut t s
  | 11 => dispatchSetTrace_sameBut t s
  | 12 => dispatchLoadCalibration_sameBut t s
  | 13 => dispatchStoreCalibration_sameBut t s
  | 14 => dispatchFetchCalibration_sameBut t s
  | _ + 15 => dispatchUnknown_sameBut t s

/-- The taking of an order of a kind: the cursor one on, and the order dispatched (R146). -/
def takeOrder (kind : Nat) (o : Order) (s : State) : State := orderDispatch kind (noteTake kind o s) (advanceCursor s)

/-- A command that takes an order: one of the fifteen order commands, or the strip scan. -/
def takesOrders : Instr → Bool
  | .stripScanExpiry | .refusedKind _ _ | .selectProfile _ | .engage _ | .disengage _ | .park _ | .setPace _ | .stop _ | .setArm _
  | .setWater _ | .clearFault _ | .cancel _ | .setTrace _ | .loadCalibration _ | .storeCalibration _ | .fetchCalibration _ => true
  | _ => false

/-- A law that a stall, the taking of an order and every other command keeps is kept by every command. -/
theorem effect_keeps {P : State → Prop} (hstall : ∀ s, P s → P (stallScan s))
    (htake : ∀ kind o s, s.slotNamed s.orders.cursor = false → P s → P (takeOrder kind o s))
    (hunknown : ∀ k o s, s.slotNamed s.orders.cursor = false → P s → P (takeSlot dispatchUnknown k o s))
    (hrest : ∀ c s, takesOrders c = false → P s → P (effect c s)) (c : Instr) (s : State) (hs : P s) : P (effect c s) := by
  have horder (kind : Nat) (o : Order) : P (whenLive (orderEffect (orderDispatch kind) kind o) s) :=
    whenLive_keeps (fun h => orderEffect_keeps (hstall s) (fun _ hnamed h => htake kind o s hnamed h) h) hs
  cases c
  case stripScanExpiry =>
    refine whenLive_keeps (f := fun s => if s.tma.stripRunning && s.scanned then scan 8 s else s) (fun h => ?_) hs
    split
    · exact scan_keeps hstall (fun u hu _ hnamed => htake _ _ u hnamed hu) 8 s hs
    · exact hs
  case refusedKind k o =>
    exact whenLive_keeps (f := orderEffect dispatchUnknown k.toNat o)
      (fun h => orderEffect_keeps (hstall s) (fun _ hnamed h => hunknown _ o s hnamed h) h) hs
  case selectProfile o => exact horder 1 o
  case engage o => exact horder 2 o
  case disengage o => exact horder 3 o
  case park o => exact horder 4 o
  case setPace o => exact horder 5 o
  case stop o => exact horder 6 o
  case setArm o => exact horder 7 o
  case setWater o => exact horder 8 o
  case clearFault o => exact horder 9 o
  case cancel o => exact horder 10 o
  case setTrace o => exact horder 11 o
  case loadCalibration o => exact horder 12 o
  case storeCalibration o => exact horder 13 o
  case fetchCalibration o => exact horder 14 o
  all_goals exact hrest _ s rfl hs

theorem takeUnknown_sameBut (k : Nat) (o : Order) (s : State) :
    SameBut [.xmem, .port, .orders] s (takeSlot dispatchUnknown k o s) :=
  takeSlot_sameBut (by decide) dispatchUnknown_sameBut k o s

/-- A millisecond moves the clock, the timers and the queue alone (R138). -/
theorem tick_sameBut (s : State) : SameBut [.pending, .tma, .port, .cal, .eeprom] s (tick s) := by
  unfold tick
  split
  · exact SameBut.refl _ s
  · intro b
    cases b <;> simp [Block.same, advance]

/-! #### The mode after a change, a reaction and a restart -/

/-- The mode controller after a change of mode (R2). -/
@[simp] theorem changeMode_modc (new : Mode) (reason : Nat) (s : State) :
    (changeMode new reason s).modc = s.modc.enters new reason := by
  simp [changeMode_eq]

/-- A restart ends in TRANSPORT, DISENGAGING or SAFE (R22). -/
theorem restartMode_ne_parked (s : State) : restartMode s ≠ .parked := by
  unfold restartMode
  split
  · decide
  · split <;> decide

/-- The state in which a restart sends its notices (R22). -/
def restarted (s : State) : State := restartModc (restartBlocks (restartOrders (outputsOff s)))

/-- A restart is the blocks' own restart, the notices to the four jobs, and the cause if the mode differs (R22). -/
theorem doRestart_eq (s : State) :
    doRestart s = raiseIf (decide ((restarted s).modc.mode ≠ s.modc.mode)) .modeChange
      (sendNotices s.modc.mode (restarted s).modc.mode (stowRequests (restarted s))) := rfl

/-! ### The load factor and the brush scale (R112) -/

/-- The law of R112 for a load manager. -/
def LoadManager.inRange (l : LoadManager) : Prop := 300 ≤ l.load ∧ l.load ≤ 1000 ∧ (l.scale = 700 ∨ l.scale = 1000)

/-- The law speaks of the load manager alone. -/
theorem State.loadInv_iff (s : State) : s.loadInv ↔ s.loadm.inRange := Iff.rfl

/-- The entry to PARKED puts the load manager in range (R116). -/
theorem loadNotice_parked_inRange (s : State) : (loadNotice .parked s).loadm.inRange := by
  simp [loadNotice, LoadManager.inRange]

/-- PARK keeps the load manager or puts it at rest (R116). -/
theorem dispatchPark_inRange (t : Take) {s : State} (h : s.loadm.inRange) : (dispatchPark t s).loadm.inRange := by
  have hparked (u : State) : (enterParked u).loadm.inRange := by
    have hnotice := loadNotice_parked_inRange (waterNotice .parked (armNotice u.modc.mode .parked
      (govNotice .parked (modeEntered .parked 20 u))))
    have hsleep (v : State) : (sleepStages v).loadm = v.loadm := (sleepStages_sameBut v).same .loadm rfl
    simpa [enterParked, hsleep, changeMode_eq, sendNotices] using hnotice
  have hrefused (r : Result) (d : Nat) : (completeNow t r d s).loadm.inRange := by
    simpa using h
  unfold dispatchPark
  repeat' split
  · exact hrefused _ _
  · exact hrefused _ _
  · exact hrefused _ _
  · exact hrefused _ _
  · exact hrefused _ _
  · exact hparked _

/-- A restart puts the load manager in range (R117). -/
theorem doRestart_inRange (s : State) : (doRestart s).loadm.inRange := by
  have hmode : (restarted s).modc.mode ≠ .parked := restartMode_ne_parked _
  have hnotices (prev new : Mode) (u : State) (hnew : new ≠ .parked) : (sendNotices prev new u).loadm = u.loadm := by
    simp [sendNotices, loadNotice, hnew]
  have hload : (doRestart s).loadm = restartLoad s.loadm := by
    simp [doRestart_eq, hnotices _ _ _ hmode]
    simp [restarted, restartModc, restartBlocks, restartOrders]
  rw [hload]
  simp [LoadManager.inRange, restartLoad]

/-- One step of L toward L_raw stays within 300 to 1000 (R112). -/
theorem lRawOf_bounds (d1 d2 droop : Nat) : 300 ≤ lRawOf d1 d2 droop ∧ lRawOf d1 d2 droop ≤ 1000 := by
  unfold lRawOf
  split
  · omega
  split
  · omega
  case isFalse.isFalse hlow hhigh =>
    have hdiv : (droop - d1) * 700 / (d2 - d1) ≤ 700 :=
      Nat.div_le_of_le_mul (Nat.mul_le_mul_right 700 (by omega))
    generalize (droop - d1) * 700 / (d2 - d1) = q at hdiv ⊢
    omega

/-- Stages 1 to 3 keep the range (R112, R114). -/
theorem loadForm_inRange {s : State} (h : s.loadm.inRange) : (loadForm s).loadm.inRange := by
  obtain ⟨hlow, hhigh, hscale⟩ := h
  have hsense : (loadSense s).loadm.load = s.loadm.load ∧ (loadSense s).loadm.scale = s.loadm.scale := ⟨rfl, rfl⟩
  obtain ⟨hload, hscale'⟩ := hsense
  unfold loadForm loadFactor
  repeat' split
  · exact ⟨by simp, by simp, by simpa [hscale'] using hscale⟩
  · have hraw := lRawOf_bounds (loadSense s).d1 (loadSense s).d2
      (droopOf (loadSense s).modc.profile.ratedEngineSpeed (loadSense s).loadm.n)
    refine ⟨?_, ?_, by simpa [hscale'] using hscale⟩ <;> simp only [State.setLoadm_loadm, loadToward, hload] <;> split <;> omega
  · exact ⟨by omega, by omega, by simpa [hscale'] using hscale⟩

/-- Stage 4 keeps the range (R113). -/
theorem nextScale_inRange {l : LoadManager} (h : l.inRange) : (nextScale l).inRange := by
  obtain ⟨hlow, hhigh, hscale⟩ := h
  unfold nextScale
  dsimp only
  repeat' split
  all_goals exact ⟨hlow, hhigh, by simp [hscale]⟩

/-- Stage 6 leaves the load manager. -/
theorem loadFinish_loadm (l0 : LoadManager) (s : State) : (loadFinish l0 s).loadm = s.loadm := by
  simp [loadFinish]

/-- The load manager at cold reset is in range (R117). -/
theorem resetLoadManager_inRange : resetLoadManager.inRange := by
  unfold LoadManager.inRange
  decide

/-- A restart request puts the load manager in range or leaves it (R117, R159). -/
theorem writeRestart_loadInv (v : Word) {s : State} (h : s.loadInv) : (writeRestart v s).loadInv := by
  have hwake (restart : Bool) : (wakeSource restart s).loadm = s.loadm := (wakeSource_sameBut restart s).same .loadm rfl
  unfold writeRestart restartRequest
  repeat' split
  · exact h
  · exact (State.loadInv_iff _).mpr (hwake true ▸ h)
  · exact h
  · exact doRestart_inRange s
  · exact h

/-- A mode check leaves the load manager or restarts it (R17, R22). -/
theorem modeCheck_loadInv {s : State} (h : s.loadInv) : (modeCheck s).loadInv := by
  have hsame {u : State} (hu : SameBut noticeReach s u) : u.loadInv := (State.loadInv_iff u).mpr (hu.same .loadm rfl ▸ h)
  by_cases hwakes : s.modc.mode = .parked ∧ (s.modc.wake = .waking ∧ 20 ≤ s.since s.modc.wakeTime) ∧ s.modc.restartPending
  · obtain ⟨hmode, hwake, hrestart⟩ := hwakes
    have hcheck : modeCheck s = doRestart s := by
      unfold modeCheck wakingCheck
      simp only [hmode]
      rw [if_pos hwake, if_pos hrestart]
    rw [hcheck]
    exact doRestart_inRange s
  · exact hsame (modeCheck_sameBut_of_no_restart hwakes)

/-- A load step keeps the law (R112, R113). -/
theorem loadStep_loadInv {s : State} (h : s.loadInv) : (loadStep s).loadInv := by
  rw [State.loadInv_iff, loadStep, loadFinish_loadm]
  exact nextScale_inRange (loadForm_inRange h)

theorem floorExpiry_loadInv (s : State) (h : s.loadInv) : (floorExpiry s).loadInv := by
  obtain ⟨hlow, hhigh, hscale⟩ := h
  unfold floorExpiry
  split
  · exact ⟨hlow, hhigh, .inl rfl⟩
  · exact ⟨hlow, hhigh, hscale⟩

theorem recoveryExpiry_loadInv (s : State) (h : s.loadInv) : (recoveryExpiry s).loadInv := by
  obtain ⟨hlow, hhigh, hscale⟩ := h
  unfold recoveryExpiry
  split
  · exact ⟨hlow, hhigh, .inr rfl⟩
  · exact ⟨hlow, hhigh, hscale⟩

theorem engineLossTimeout_loadInv (s : State) (h : s.loadInv) : (engineLossTimeout s).loadInv := by
  unfold engineLossTimeout
  split
  · rw [State.loadInv_iff, reportBatch_loadm]
    simp [LoadManager.inRange]
  · exact h

/-- Settles O10: only a cold reset, a restart, the entry to PARKED and the load manager's own events reach it. -/
theorem loadFactorStaysInRange : Obligations.LoadFactorStaysInRange := by
  intro s t hs hstep
  have hsame {blocks : List Block} {u v : State} (h : SameBut blocks u v) (hb : blocks.contains .loadm = false)
      (hu : u.loadInv) : v.loadInv := by
    rw [State.loadInv_iff, h.same .loadm hb]
    exact hu
  refine step_keeps (P := State.loadInv) (fun u => hsame (tick_sameBut u) rfl) (fun u q hu => hu)
    (effect_keeps (fun u => hsame (stallScan_sameBut u) rfl) ?take
      (fun k o u _ => hsame (takeUnknown_sameBut k o u) rfl) ?rest) hs hstep
  case take =>
    intro kind o u _ hu
    have hdispatch := orderDispatch_sameBut kind (noteTake kind o u) (advanceCursor u)
    match kind with
    | 4 => exact dispatchPark_inRange _ hu
    | 0 | 1 | 2 | 3 | 5 | 6 | 7 | 8 | 9 | 10 | 11 | 12 | 13 | 14 | _ + 15 => exact hsame hdispatch rfl hu
  case rest =>
    intro c u hc hu
    have hsameBut := effect_sameBut c u
    cases c
    case coldReset => exact resetLoadManager_inRange
    case restart v => exact whenLive_keeps (writeRestart_loadInv v) hu
    case modeCheck => exact whenRunning_keeps modeCheck_loadInv hu
    case loadStep => exact whenRunning_keeps loadStep_loadInv hu
    case floorTimerExpiry => exact whenRunning_keeps (floorExpiry_loadInv u) hu
    case recoveryTimerExpiry => exact whenRunning_keeps (recoveryExpiry_loadInv u) hu
    case engineLossTimeout => exact whenRunning_keeps (engineLossTimeout_loadInv u) hu
    all_goals first
      | exact Bool.noConfusion hc
      | exact hsame hsameBut rfl hu

end Sys2Proof.Machine

namespace Sys2Proof.Machine

/-! ### Sleep and the active profile (R16 to R19): what the commands other than the entry to PARKED and its end leave -/

/-- Whether the mode is PARKED, the progress of a wake, what runs, and the active profile. -/
def State.watch (s : State) : Bool × WakeState × Bool × Bool × Profile :=
  (decide (s.modc.mode = .parked), s.modc.wake, s.tma.stepsRunning, s.tma.stripRunning, s.modc.profile)

/-- A move that leaves the mode controller and the timing array leaves the watch. -/
theorem SameBut.watch {blocks : List Block} {s t : State} (h : SameBut blocks s t) (hmodc : blocks.contains .modc = false)
    (htma : blocks.contains .tma = false) : t.watch = s.watch := by
  have hm : t.modc = s.modc := h.same .modc hmodc
  have ht : t.tma = s.tma := h.same .tma htma
  rw [State.watch, hm, ht]
  rfl

/-- A change of mode on one side of sleep leaves the watch. -/
theorem changeMode_watch {new : Mode} (reason : Nat) {s : State} (hnew : new ≠ .parked) (hold : s.modc.mode ≠ .parked) :
    (changeMode new reason s).watch = s.watch := by
  simp [State.watch, ModeControl.enters, hnew, hold]

/-- The mode controller's completions leave the watch. -/
@[simp] theorem completeMode_watch (kinds : List Nat) (r : Result) (detail : Nat) (s : State) :
    (completeMode kinds r detail s).watch = s.watch :=
  (completeMode_sameBut kinds r detail s).watch rfl rfl

/-- No entry to SAFE leaves PARKED (R4). -/
@[simp] theorem enterSafe_parked (k : FaultKind) (halt : Bool) (s : State) :
    (enterSafe k halt s).modc.mode = .parked ↔ s.modc.mode = .parked := by
  unfold enterSafe
  cases h : s.modc.mode <;> simp [h, ModeControl.enters]

/-- No reaction enters or leaves PARKED. -/
@[simp] theorem react_parked (r : Report) (s : State) : (react r s).modc.mode = .parked ↔ s.modc.mode = .parked := by
  unfold react
  split <;> simp

/-- The reactions to a batch neither enter nor leave PARKED. -/
@[simp] theorem reactAll_parked (rs : List Report) (s : State) :
    (reactAll rs s).modc.mode = .parked ↔ s.modc.mode = .parked := by
  induction rs generalizing s with
  | nil => rfl
  | cons r rs ih => rw [reactAll, ih, react_parked]

/-- A batch neither enters nor leaves PARKED. -/
@[simp] theorem reportBatch_parked (rs : List Report) (s : State) :
    (reportBatch rs s).modc.mode = .parked ↔ s.modc.mode = .parked := by
  simp [reportBatch]

@[simp] theorem reactAll_watch (rs : List Report) (s : State) : (reactAll rs s).watch = s.watch := by
  simp [State.watch]

@[simp] theorem reportBatch_watch (rs : List Report) (s : State) : (reportBatch rs s).watch = s.watch := by
  simp [State.watch, reportBatch]

theorem setGov_watch (g : Governor) (s : State) : (s.setGov g).watch = s.watch := rfl

@[simp] theorem travelStep_watch (s : State) : (travelStep s).watch = s.watch := by
  have happroach : (travelApproach s).watch = s.watch := (travelApproach_sameBut s).watch rfl rfl
  have hmove (target : Int) (u : State) : (travelMove target u).watch = u.watch := by
    simp [State.watch, travelMove, travelOutput, travelReverse, travelRamp]
  have hsupervise (u : State) : (travelSupervise s.gov u).watch = u.watch := by
    simp [State.watch, travelSupervise, travelEnds]
  have hwaiting (target : Int) (u : State) : (travelWaiting target u).watch = u.watch :=
    (travelWaiting_sameBut target u).watch rfl rfl
  rw [travelStep, reactAll_watch, hwaiting, hsupervise, travelWatch, setGov_watch, travelDrive, hmove, happroach]

@[simp] theorem excludeArm_watch (a : Arm) (k : FaultKind) (detail : Nat) (s : State) :
    (excludeArm a k detail s).watch = s.watch := by
  rw [excludeArm, reportBatch_watch]
  simp [State.watch]

@[simp] theorem excludeDue_watch (a : Arm) (own : Bool) (s : State) : (excludeDue a own s).watch = s.watch := by
  unfold excludeDue
  repeat' split
  all_goals simp

@[simp] theorem timedMove_watch (a : Arm) (s : State) : (timedMove a s).watch = s.watch := by
  obtain ⟨k, d, -, h⟩ | ⟨-, -, h⟩ | ⟨-, -, h⟩ := timedMove_cases a s <;> rw [h]
  · simp
  · simp [State.watch, moveArm]

@[simp] theorem armWaiting_watch (a : Arm) (s : State) : (armWaiting a s).watch = s.watch :=
  (armWaiting_sameBut a s).watch rfl rfl

@[simp] theorem setArmTimeout_watch (a : Arm) (s : State) : (setArmTimeout a s).watch = s.watch := by
  obtain h | ⟨w, -, -, h⟩ := setArmTimeout_cases a s <;> simp [h]

@[simp] theorem armStep_watch (s : State) : (armStep s).watch = s.watch := by
  have htransition (a : Arm) (u : State) : (armTransition s a u).watch = u.watch := (armTransition_sameBut s a u).watch rfl rfl
  have hprepare : (armPrepare s).watch = s.watch := (setArmc_sameBut s _).watch rfl rfl
  have hpublish (u : State) : (armPublish u).watch = u.watch := by
    simp [State.watch, armPublish]
  have hends (u : State) : (armEnds u).watch = u.watch := by
    simp [State.watch, armEnds]
  simp [armStep, armFinish, hends, hpublish, armTransitions, htransition, hprepare]

@[simp] theorem waterStep_watch (s : State) : (waterStep s).watch = s.watch := by
  have hflow : (waterFlow s).watch = s.watch := by
    simp [State.watch, waterFlow, waterPump, waterGroups, waterCommand, waterPrime, waterDemand, waterRead, waterSupply, waterTank]
  have hwatch (b : Bool) (u : State) : (waterWatch s.watc b u).watch = u.watch := rfl
  have hends (w : WaterControl) (b : Bool) (u : State) : (waterEnds s.watc w b u).watch = u.watch := by
    simp [State.watch, waterEnds]
  simp [waterStep, waterSupervise, hends, hwatch, hflow]

@[simp] theorem loadStep_watch (s : State) : (loadStep s).watch = s.watch := by
  have hform : (loadForm s).watch = s.watch := by
    rw [loadForm_eq]
    rfl
  have hscale (u : State) : (loadScale u).watch = u.watch := rfl
  have hfinish (u : State) : (loadFinish s.loadm u).watch = u.watch := by
    simp [State.watch, loadFinish]
  rw [loadStep, hfinish, hscale, hform]

/-- An event whose test fails leaves the watch. -/
theorem ite_watch {s t : State} {p : Prop} [Decidable p] (h : t.watch = s.watch) : (if p then t else s).watch = s.watch := by
  split
  · exact h
  · rfl

theorem checkExpiry_watch (s : State) : (checkExpiry s).watch = s.watch := ite_watch (by rw [reportBatch_watch]; rfl)

theorem primeTimeout_watch (s : State) : (primeTimeout s).watch = s.watch := by
  refine ite_watch ?_
  rw [reportBatch_watch]
  simp [State.watch]

theorem startupLoad_watch (s : State) : (startupLoad s).watch = s.watch := by
  have hends (u : State) : (loadEnds u).watch = u.watch := rfl
  by_cases hop : s.cal.op = .loading
  · by_cases ho : (readImage s).1 = .valid
    · rw [startupLoad_valid hop ho, hends]
      simp [State.watch, installImage]
    · rw [startupLoad_defaults hop ho, hends, installDefaults, reportBatch_watch]
      generalize defaultCalibration = ws
      simp [State.watch]
  · rw [startupLoad_other hop]

/-! #### The mode check on one side of sleep -/

theorem enterLowering_watch (s : State) : (enterLowering s).watch = s.watch := by
  simp [State.watch, enterLowering]

theorem reachSweeping_watch {s : State} (h : s.modc.mode ≠ .parked) : (reachSweeping s).watch = s.watch := by
  rw [reachSweeping, completeMode_watch, changeMode_watch 21 (by decide) h]

/-- The progress of an engage phase leaves the watch (R7 to R10). -/
theorem phaseProgress_watch {s : State} (h : s.modc.mode ≠ .parked) : (phaseProgress s).watch = s.watch := by
  unfold phaseProgress
  split
  case h_1 =>
    refine ite_watch ?_
    split
    · rfl
    · rw [enterLowering_watch]
      rfl
  case h_2 => exact ite_watch (enterLowering_watch s)
  case h_3 =>
    unfold loweringCheck
    dsimp only
    split <;> rfl
  case h_4 =>
    unfold settlingCheck
    dsimp only
    split
    · exact (reachSweeping_watch (by exact h)).trans rfl
    · rfl
  case h_5 => rfl

/-- The budget test leaves the watch (R11). -/
theorem budgetTest_watch (before : Phase) (s : State) : (budgetTest before s).watch = s.watch := by
  unfold budgetTest
  split
  case isFalse => rfl
  case isTrue h =>
    obtain ⟨hmode, -⟩ := h
    dsimp only
    split
    · rw [budgetExpired, changeMode_watch 22 (by decide) (by simp [hmode]), completeMode_watch]
      rfl
    · rfl

theorem endWork_watch (reason detail : Nat) {s : State} (h : s.modc.mode ≠ .parked) :
    (endWork reason detail s).watch = s.watch := by
  rw [endWork, completeMode_watch, changeMode_watch reason (by decide) h]

/-- A mode check outside PARKED leaves the watch. -/
theorem modeCheck_watch {s : State} (h : s.modc.mode ≠ .parked) : (modeCheck s).watch = s.watch := by
  unfold modeCheck
  split
  case h_1 => exact ite_watch (changeMode_watch 17 (modeFromSwitches_ne_parked s) h)
  case h_2 => rfl
  case h_3 =>
    unfold engagingCheck
    repeat' split
    · exact endWork_watch 23 18 h
    · exact endWork_watch 24 19 h
    · rw [budgetTest_watch, phaseProgress_watch h]
  case h_4 =>
    unfold sweepingCheck
    repeat' split
    · exact endWork_watch 23 18 h
    · exact endWork_watch 24 19 h
    · rfl
  case h_5 => exact ite_watch (by rw [completeMode_watch, changeMode_watch 28 (by decide) h])
  case h_6 => exact ite_watch rfl
  case h_7 hmode => exact absurd hmode h

/-! #### The orders on one side of sleep -/

@[simp] theorem completeNow_watch (t : Take) (r : Result) (detail : Nat) (s : State) :
    (completeNow t r detail s).watch = s.watch :=
  (completeNow_sameBut t r detail s).watch rfl rfl

/-- An order accepted as open leaves the watch if its owning block does. -/
theorem acceptOpen_watch (target : Target) (t : Take) {f : State → State} {s : State}
    (hf : ∀ u, u.modc = s.modc → (f u).watch = u.watch) : (acceptOpen target t f s).watch = s.watch := by
  have hmodc : (supersede target t s).modc = s.modc := by
    simp
  rw [acceptOpen, (openEntry_sameBut target t _).watch rfl rfl, hf _ hmodc, (supersede_sameBut target t s).watch rfl rfl]

theorem dispatchEngage_watch (t : Take) (s : State) : (dispatchEngage t s).watch = s.watch := by
  have hchange (hmode : s.modc.mode ≠ .parked) : (acceptOpen .mode t (changeMode .engaging 18) s).watch = s.watch :=
    acceptOpen_watch .mode t fun u hu => changeMode_watch 18 (by decide) (hu ▸ hmode)
  unfold dispatchEngage
  split
  case h_1 hmode =>
    repeat' split
    · simp
    · simp
    · exact hchange (by simp [hmode])
  case h_2 => exact acceptOpen_watch .mode t fun _ _ => rfl
  case h_3 hmode => exact hchange (by simp [hmode])
  case h_4 => simp
  case h_5 => simp

theorem dispatchDisengage_watch (t : Take) (s : State) : (dispatchDisengage t s).watch = s.watch := by
  have hchange (hmode : s.modc.mode ≠ .parked) : (acceptOpen .mode t (changeMode .disengaging 19) s).watch = s.watch :=
    acceptOpen_watch .mode t fun u hu => changeMode_watch 19 (by decide) (hu ▸ hmode)
  unfold dispatchDisengage
  split
  case h_1 hmode => exact hchange (by simp [hmode])
  case h_2 hmode => exact hchange (by simp [hmode])
  case h_3 => exact acceptOpen_watch .mode t fun _ _ => rfl
  case h_4 => rw [completeOn, completeNow_watch]; exact (supersede_sameBut .mode t s).watch rfl rfl
  case h_5 => simp

theorem leaveSafe_watch (s : State) : (leaveSafe s).watch = s.watch := by
  unfold leaveSafe
  split
  case isFalse => rfl
  case isTrue h =>
    have hmode : s.modc.mode ≠ .parked := by
      intro hmode
      simp [State.canLeaveSafe, hmode] at h
    exact (changeMode_watch 25 (by decide) hmode)

theorem dispatchClearFault_watch (t : Take) (s : State) : (dispatchClearFault t s).watch = s.watch := by
  have hholds (which : Nat) : (releaseHolds which s).watch = s.watch := (releaseHolds_sameBut which s).watch rfl rfl
  have harm (a : Arm) (u : State) : (releaseArm a u).watch = u.watch := ite_watch (by simp [State.watch])
  have hwater (u : State) : (releaseWater u).watch = u.watch := (releaseWater_sameBut u).watch rfl rfl
  unfold dispatchClearFault
  dsimp only
  repeat' split
  all_goals simp [leaveSafe_watch, releaseExclusions, harm, hwater, hholds]

theorem dispatchSetTrace_watch (t : Take) (s : State) : (dispatchSetTrace t s).watch = s.watch := by
  have htrace (x : Trace) (r : Result) (d : Nat) : (completeNow t r d (setTrace x s)).watch = s.watch := by
    rw [completeNow_watch]
    simp [State.watch]
  unfold dispatchSetTrace
  dsimp only
  split
  · simp
  split
  · simp
  split
  · exact htrace _ _ _
  · exact htrace _ _ _

theorem dispatchLoadCalibration_watch (t : Take) (s : State) : (dispatchLoadCalibration t s).watch = s.watch := by
  have hinstall : (installArea s).watch = s.watch := by
    simp [State.watch, installArea]
  unfold dispatchLoadCalibration
  repeat' split
  all_goals simp [hinstall]

theorem dispatchSelectProfile_mode (t : Take) (s : State) :
    (dispatchSelectProfile t s).modc = { s.modc with profile := (dispatchSelectProfile t s).modc.profile } := by
  unfold dispatchSelectProfile
  dsimp only
  split
  · simp
  split
  · simp
  · simp

/-- Every order's dispatch but that of PARK leaves the sleep's part of the watch, and all but SELECT_PROFILE's the profile. -/
theorem orderDispatch_watch {kind : Nat} (hpark : kind ≠ 4) (hprofile : kind ≠ 1) (t : Take) (s : State) :
    (orderDispatch kind t s).watch = s.watch := by
  have hsame := orderDispatch_sameBut kind t s
  match kind with
  | 1 => exact absurd rfl hprofile
  | 2 => exact dispatchEngage_watch t s
  | 3 => exact dispatchDisengage_watch t s
  | 4 => exact absurd rfl hpark
  | 9 => exact dispatchClearFault_watch t s
  | 11 => exact dispatchSetTrace_watch t s
  | 12 => exact dispatchLoadCalibration_watch t s
  | 0 | 5 | 6 | 7 | 8 | 10 | 13 | 14 | _ + 15 => exact hsame.watch rfl rfl

/-! #### The entry to PARKED, the wake, and the restart -/

theorem sleepStages_watch (s : State) :
    (sleepStages s).watch = (decide (s.modc.mode = .parked), s.modc.wake, false, false, s.modc.profile) := by
  have hstops (u : State) (hmodc : u.modc = s.modc) :
      (disarmCheck (u.setTma { u.tma with stepsRunning := false, stripRunning := false })).watch =
        (decide (s.modc.mode = .parked), s.modc.wake, false, false, s.modc.profile) := by
    simp [State.watch, hmodc]
  exact hstops (publish (outputsOff s)) (by simp)

/-- The watch after the entry to PARKED (R16). -/
theorem enterParked_watch (s : State) : (enterParked s).watch = (true, .dormant, false, false, s.modc.profile) := by
  rw [enterParked, sleepStages_watch]
  simp [ModeControl.enters]

/-- The watch after a wake source (R17). -/
theorem wakeSource_watch {s : State} (restart : Bool) (h : s.modc.wake = .dormant) :
    (wakeSource restart s).watch = (decide (s.modc.mode = .parked), .waking, true, s.tma.stripRunning, s.modc.profile) := by
  simp [State.watch, wakeSource, State.dormant, h]

/-- A wake source does nothing unless the controller sleeps (R17). -/
theorem wakeSource_of_awake {s : State} (restart : Bool) (h : s.modc.wake ≠ .dormant) : wakeSource restart s = s := by
  simp [wakeSource, State.dormant, h]

/-- The watch after the end of a wake (R17). -/
theorem endWake_watch (s : State) : (endWake s).watch = (false, .none, s.tma.stepsRunning, true, s.modc.profile) := by
  simp [State.watch, endWake, ModeControl.enters, modeFromSwitches_ne_parked s]

/-- The watch after a restart (R22). -/
theorem doRestart_watch (s : State) : (doRestart s).watch = (false, .none, s.tma.stepsRunning, true, s.modc.profile) := by
  have hmode : (restarted s).modc.mode ≠ .parked := restartMode_ne_parked _
  have hwatch : (restarted s).watch = (false, .none, s.tma.stepsRunning, true, s.modc.profile) := by
    simp [State.watch, hmode]
    simp [restarted, restartModc, restartBlocks, restartOrders]
  rw [← hwatch]
  simp [doRestart_eq, State.watch]

/-! ### The sleep law (R16, R17, R139) -/

/-- The sleep law speaks of the watch alone. -/
theorem State.sleepInv_of_watch {s : State} {parked steps strip : Bool} {wake : WakeState} {p : Profile}
    (h : s.watch = (parked, wake, steps, strip, p)) :
    s.sleepInv ↔ (parked = true ↔ wake ≠ .none) ∧ (steps = false ↔ wake = .dormant) ∧ (strip = false ↔ parked = true) := by
  simp only [State.watch, Prod.mk.injEq] at h
  obtain ⟨rfl, rfl, rfl, rfl, -⟩ := h
  simp [State.sleepInv]

/-- A move that leaves the watch keeps the sleep law. -/
theorem State.sleepInv_congr {s t : State} (h : t.watch = s.watch) (hs : s.sleepInv) : t.sleepInv :=
  (State.sleepInv_of_watch (h.trans rfl)).mpr ((State.sleepInv_of_watch rfl).mp hs)

/-- A restart of a controller that is awake keeps the sleep law (R22). -/
theorem doRestart_sleepInv {s : State} (h : s.sleepInv) (hawake : s.modc.wake ≠ .dormant) : (doRestart s).sleepInv := by
  obtain ⟨-, hsteps, -⟩ := h
  rw [State.sleepInv_of_watch (doRestart_watch s), hsteps]
  simp [hawake]

theorem wakeSource_sleepInv (restart : Bool) {s : State} (h : s.sleepInv) : (wakeSource restart s).sleepInv := by
  by_cases hdormant : s.modc.wake = .dormant
  · obtain ⟨hparked, -, hstrip⟩ := h
    have hmode : s.modc.mode = .parked := hparked.mpr (by simp [hdormant])
    rw [State.sleepInv_of_watch (wakeSource_watch restart hdormant)]
    simp [hmode, hstrip.mpr hmode]
  · rwa [wakeSource_of_awake restart hdormant]

theorem writeRestart_sleepInv (v : Word) {s : State} (h : s.sleepInv) : (writeRestart v s).sleepInv := by
  have ⟨hparked, _, _⟩ := h
  unfold writeRestart restartRequest
  split
  case isFalse => exact h
  case isTrue =>
    split
    case h_1 => exact h
    case h_2 => 
      split
      · exact wakeSource_sleepInv true h
      · exact h
    case h_3 hmode =>
      refine doRestart_sleepInv h fun hdormant => hmode (hparked.mpr (by simp [hdormant]))

theorem settleInput_sleepInv (i : Input) {s : State} (h : s.sleepInv) : (settleInput i s).sleepInv := by
  unfold settleInput
  dsimp only
  repeat' split
  · exact wakeSource_sleepInv false h
  · exact h
  · exact h

theorem modeCheck_sleepInv {s : State} (h : s.sleepInv) : (modeCheck s).sleepInv := by
  by_cases hmode : s.modc.mode = .parked
  · unfold modeCheck wakingCheck
    simp only [hmode]
    split
    case isFalse => exact h
    case isTrue hwakes =>
      obtain ⟨hwake, -⟩ := hwakes
      split
      · exact doRestart_sleepInv h (by simp [hwake])
      · have ⟨_, hsteps, _⟩ := h
        rw [State.sleepInv_of_watch (endWake_watch s), hsteps]
        simp [hwake]
  · exact State.sleepInv_congr (modeCheck_watch hmode) h

theorem dispatchPark_sleepInv (t : Take) {s : State} (h : s.sleepInv) : (dispatchPark t s).sleepInv := by
  have hrefused (r : Result) (d : Nat) : (completeNow t r d s).sleepInv := State.sleepInv_congr (completeNow_watch t r d s) h
  have hparked (u : State) : (enterParked u).sleepInv := by
    rw [State.sleepInv_of_watch (enterParked_watch u)]
    decide
  unfold dispatchPark
  repeat' split
  · exact hrefused _ _
  · exact hrefused _ _
  · exact hrefused _ _
  · exact hrefused _ _
  · exact hrefused _ _
  · exact hparked _

/-! #### The timing array's events -/

theorem tracePeriod_watch (s : State) : (tracePeriod s).watch = s.watch := ite_watch (by simp [State.watch])

theorem setCapture_watch (ch : Channel) (k : Capture) (s : State) : (setCapture ch k s).watch = s.watch := rfl

theorem judgeEdge_watch (ch : Channel) (now : Nat) (s : State) : (judgeEdge ch now s).watch = s.watch := by
  have hcount (b : Bool) (u : State) : (countEdge ch b u).watch = u.watch := by
    unfold countEdge
    split
    · exact ite_watch (by simp [State.watch])
    · rfl
  refine ite_watch ?_
  rw [hcount, setCapture_watch]

theorem captureRaw_watch (ch : Channel) (level : Bool) (us : Nat) (s : State) : (captureRaw ch level us s).watch = s.watch := by
  unfold captureRaw
  dsimp only
  repeat' split
  · exact judgeEdge_watch ch _ s
  · rw [setCapture_watch, judgeEdge_watch]
  · rfl

theorem rawInput_watch (i : Input) (level : Bool) (s : State) : (rawInput i level s).watch = s.watch := by
  unfold rawInput
  dsimp only
  split <;> rfl

theorem dispatchSelectProfile_sleepInv (t : Take) {s : State} (h : s.sleepInv) : (dispatchSelectProfile t s).sleepInv := by
  have htma : (dispatchSelectProfile t s).tma = s.tma := (dispatchSelectProfile_sameBut t s).same .tma rfl
  unfold State.sleepInv
  rw [dispatchSelectProfile_mode, htma]
  exact h

/-- The commands that can change the watch: the resets, the wake sources, the mode check and the orders. -/
def movesWatch : Instr → Bool
  | .coldReset _ | .restart _ | .wake _ | .debounceSettled _ | .modeCheck => true
  | c => takesOrders c

/-- Every other command leaves the watch. -/
theorem effect_watch {c : Instr} (h : movesWatch c = false) (s : State) : (effect c s).watch = s.watch := by
  have hlive {f : State → State} (hf : (f s).watch = s.watch) : (whenLive f s).watch = s.watch :=
    whenLive_keeps (P := fun t => t.watch = s.watch) (fun _ => hf) rfl
  have hrunning {f : State → State} (hf : (f s).watch = s.watch) : (whenRunning f s).watch = s.watch :=
    whenRunning_keeps (P := fun t => t.watch = s.watch) (fun _ => hf) rfl
  have hgov (rs : List Report) (g : Governor) : (reportBatch rs (s.setGov g)).watch = s.watch := reportBatch_watch rs _
  have hwatc (rs : List Report) (w : WaterControl) : (reportBatch rs (s.setWatc w)).watch = s.watch := reportBatch_watch rs _
  have hloadm (rs : List Report) (l : LoadManager) : (reportBatch rs (s.setLoadm l)).watch = s.watch := reportBatch_watch rs _
  have hsame := effect_sameBut c s
  cases c
  case resetRelease => exact ite_watch rfl
  case startupLoadDone => exact hlive (startupLoad_watch s)
  case settleTimerExpiry =>
    refine hrunning ?_
    unfold settleExpiry
    split
    case isFalse => rfl
    case isTrue hdue =>
      have hmode : s.modc.mode ≠ .parked := by
        intro hmode
        simp [State.engagesOn, hmode] at hdue
      exact (reachSweeping_watch (by exact hmode)).trans rfl
  case engageBudgetExpiry =>
    refine hrunning ?_
    unfold budgetExpiry
    split
    case isFalse => rfl
    case isTrue hdue =>
      have hmode : s.modc.mode ≠ .parked := by
        intro hmode
        simp [State.engagesOn, hmode] at hdue
      rw [budgetTest_watch, phaseProgress_watch hmode]
  case travelStep => exact hrunning (travelStep_watch s)
  case wheelDisagreeTimeout => exact hrunning (ite_watch (hgov _ _))
  case wheelLossTimeout => exact hrunning (ite_watch (hgov _ _))
  case wheelSilenceTimeout => exact hrunning (ite_watch (hgov _ _))
  case overspeedTimeout => exact hrunning (ite_watch (hgov _ _))
  case operatorAbsentTimeout => exact hrunning (ite_watch (hgov _ _))
  case armStep => exact hrunning (armStep_watch s)
  case armStuckTimeout a => exact hrunning (excludeDue_watch a _ s)
  case angleLossTimeout side => exact hrunning (excludeDue_watch side.arm _ s)
  case deflectLongTimeout side => exact hrunning (excludeDue_watch side.arm _ s)
  case deflectReturn side => exact hrunning (ite_watch (timedMove_watch side.arm s))
  case hoverReached side => exact hrunning (ite_watch (timedMove_watch side.arm s))
  case brushStallTimeout a => exact hrunning (excludeDue_watch a _ s)
  case brushSilenceTimeout a => exact hrunning (excludeDue_watch a _ s)
  case outRaiseEnd a => exact hrunning (ite_watch (by simp [State.watch]))
  case setArmTimeout a => exact hrunning (setArmTimeout_watch a s)
  case waterStep => exact hrunning (waterStep_watch s)
  case primeTimeout => exact hrunning (primeTimeout_watch s)
  case dryRunTimeout => exact hrunning (ite_watch (hwatc _ _))
  case flowLossTimeout => exact hrunning (ite_watch (hwatc _ _))
  case tankLossTimeout => exact hrunning (ite_watch (hwatc _ _))
  case loadStep => exact hrunning (loadStep_watch s)
  case engineLossTimeout => exact hrunning (ite_watch (hloadm _ _))
  case hostCheckExpiry => exact hlive (checkExpiry_watch s)
  case tracePeriodExpiry => exact hlive (tracePeriod_watch s)
  case captureRawChange ch level us => exact captureRaw_watch ch level us s
  case captureEdgeAccepted ch us => exact hlive (ite_watch (judgeEdge_watch ch _ s))
  case captureTimeout => exact hlive (ite_watch rfl)
  case debounceRawChange i level => exact rawInput_watch i level s
  case pwmPeriodStart o => exact hlive (ite_watch rfl)
  all_goals first
    | exact Bool.noConfusion h
    | exact hsame.watch rfl rfl

/-- The watch after a cold reset (R21). -/
theorem coldReset_watch (cause : ResetCause) (s : State) :
    (coldReset cause s).watch = (false, .none, true, true, defaultProfile) := rfl

/-- A millisecond leaves the watch. -/
theorem tick_watch (s : State) : (tick s).watch = s.watch := by
  unfold tick
  split <;> rfl

/-- Settles O11: the watch moves only at the entry to PARKED, at a wake source, at the end of a wake and at a reset. -/
theorem sleepLawKept : Obligations.SleepLawKept := by
  intro s t hs hstep
  have hcongr {u v : State} (h : v.watch = u.watch) (hu : u.sleepInv) : v.sleepInv := State.sleepInv_congr h hu
  refine step_keeps (P := State.sleepInv) (fun u => hcongr (tick_watch u)) (fun u q hu => hu)
    (effect_keeps (fun u => hcongr ((stallScan_sameBut u).watch rfl rfl)) ?take
      (fun k o u _ => hcongr ((takeUnknown_sameBut k o u).watch rfl rfl)) ?rest) hs hstep
  case take =>
    intro kind o u _ hu
    have htaken : (advanceCursor u).sleepInv := hu
    by_cases hpark : kind = 4
    · rw [takeOrder, hpark]
      exact dispatchPark_sleepInv _ htaken
    by_cases hprofile : kind = 1
    · rw [takeOrder, hprofile]
      exact dispatchSelectProfile_sleepInv _ htaken
    · exact hcongr (orderDispatch_watch hpark hprofile _ _) htaken
  case rest =>
    intro c u hc hu
    cases c
    case coldReset cause => exact (State.sleepInv_of_watch (coldReset_watch cause u)).mpr (by decide)
    case restart v => exact whenLive_keeps (writeRestart_sleepInv v) hu
    case wake => exact whenLive_keeps (wakeSource_sleepInv false) hu
    case debounceSettled i => exact whenLive_keeps (settleInput_sleepInv i) hu
    case modeCheck => exact whenRunning_keeps modeCheck_sleepInv hu
    all_goals first
      | exact Bool.noConfusion hc
      | exact hcongr (effect_watch rfl u) hu

/-! ### The active profile (R19) -/

/-- R19's two passes leave every field in its range and the speeds in order. -/
theorem correctProfile_inRange (ws : List Word) : (correctProfile ws).inRange := by
  simp only [Profile.inRange, correctProfile, clampNat]
  omega

/-- SELECT_PROFILE leaves a profile in its ranges (R18, R19). -/
theorem dispatchSelectProfile_inRange (t : Take) {s : State} (h : s.modc.profile.inRange) :
    (dispatchSelectProfile t s).modc.profile.inRange := by
  unfold dispatchSelectProfile
  dsimp only
  split
  · simpa using h
  split
  · simpa using h
  · simpa using correctProfile_inRange _

theorem defaultProfile_inRange : defaultProfile.inRange := by
  unfold Profile.inRange
  decide

/-- The profile of the watch. -/
theorem State.profile_of_watch {s : State} {parked steps strip : Bool} {wake : WakeState} {p : Profile}
    (h : s.watch = (parked, wake, steps, strip, p)) : s.modc.profile = p :=
  congrArg (fun x => x.2.2.2.2) h

theorem dispatchPark_profile (t : Take) (s : State) : (dispatchPark t s).modc.profile = s.modc.profile := by
  have hrefused (r : Result) (d : Nat) : (completeNow t r d s).modc.profile = s.modc.profile := by simp
  unfold dispatchPark
  repeat' split
  · exact hrefused _ _
  · exact hrefused _ _
  · exact hrefused _ _
  · exact hrefused _ _
  · exact hrefused _ _
  · exact (State.profile_of_watch (enterParked_watch _)).trans (hrefused _ _)

theorem wakeSource_profile (restart : Bool) (s : State) : (wakeSource restart s).modc.profile = s.modc.profile := by
  unfold wakeSource
  dsimp only
  split <;> rfl

theorem doRestart_profile (s : State) : (doRestart s).modc.profile = s.modc.profile :=
  State.profile_of_watch (doRestart_watch s)

theorem writeRestart_profile (v : Word) (s : State) : (writeRestart v s).modc.profile = s.modc.profile := by
  unfold writeRestart restartRequest
  repeat' split
  · rfl
  · exact wakeSource_profile true s
  · rfl
  · exact doRestart_profile s
  · rfl

theorem settleInput_profile (i : Input) (s : State) : (settleInput i s).modc.profile = s.modc.profile := by
  unfold settleInput
  dsimp only
  repeat' split
  · exact wakeSource_profile false _
  · rfl
  · rfl

theorem modeCheck_profile (s : State) : (modeCheck s).modc.profile = s.modc.profile := by
  by_cases hmode : s.modc.mode = .parked
  · unfold modeCheck wakingCheck
    simp only [hmode]
    repeat' split
    · exact doRestart_profile s
    · exact State.profile_of_watch (endWake_watch s)
    · rfl
  · exact State.profile_of_watch (modeCheck_watch hmode)

/-- Settles O13: only a cold reset and SELECT_PROFILE replace the profile, each by one in range. -/
theorem activeProfileStaysInRange : Obligations.ActiveProfileStaysInRange := by
  intro s t hs hstep
  have hcongr {u v : State} (h : v.modc.profile = u.modc.profile) (hu : u.modc.profile.inRange) : v.modc.profile.inRange :=
    h ▸ hu
  have hwatch {u v : State} (h : v.watch = u.watch) : v.modc.profile = u.modc.profile := State.profile_of_watch h
  refine step_keeps (P := fun s => s.modc.profile.inRange) (fun u => hcongr (hwatch (tick_watch u))) (fun u q hu => hu)
    (effect_keeps (fun u => hcongr (hwatch ((stallScan_sameBut u).watch rfl rfl))) ?take
      (fun k o u _ => hcongr (hwatch ((takeUnknown_sameBut k o u).watch rfl rfl))) ?rest) hs hstep
  case take =>
    intro kind o u _ hu
    have htaken : (advanceCursor u).modc.profile.inRange := hu
    by_cases hpark : kind = 4
    · rw [takeOrder, hpark]
      exact hcongr (dispatchPark_profile _ _) htaken
    by_cases hprofile : kind = 1
    · rw [takeOrder, hprofile]
      exact dispatchSelectProfile_inRange _ htaken
    · exact hcongr (hwatch (orderDispatch_watch hpark hprofile _ _)) htaken
  case rest =>
    intro c u hc hu
    cases c
    case coldReset => exact defaultProfile_inRange
    case restart v => exact whenLive_keeps (P := fun s => s.modc.profile.inRange) (hcongr (writeRestart_profile v u)) hu
    case wake => exact whenLive_keeps (P := fun s => s.modc.profile.inRange) (hcongr (wakeSource_profile false u)) hu
    case debounceSettled i => exact whenLive_keeps (P := fun s => s.modc.profile.inRange) (hcongr (settleInput_profile i u)) hu
    case modeCheck => exact whenRunning_keeps (P := fun s => s.modc.profile.inRange) (hcongr (modeCheck_profile u)) hu
    all_goals first
      | exact Bool.noConfusion hc
      | exact hcongr (hwatch (effect_watch rfl u)) hu

end Sys2Proof.Machine

namespace Sys2Proof.Machine

/-! ### The working calibration (R164) -/

/-- A calibration set that a loader may install: 512 words that pass the checks (R164). -/
def validSet (ws : List Word) : Prop := ws.length = 512 ∧ firstBadWord ws = none

/-- The law of R164 is that the working calibration is such a set. -/
theorem State.calibrationInv_iff (s : State) : s.calibrationInv ↔ validSet s.cal.working := Iff.rfl

/-- The built-in defaults pass their own checks (R164). -/
theorem defaultCalibration_validSet : validSet defaultCalibration :=
  ⟨by decide +kernel, by decide +kernel⟩

/-- An image has 515 words (section 11.2). -/
@[simp] theorem Eeprom.image_length (e : Eeprom) (free : Nat) : (e.image free).length = 515 := by
  simp [Eeprom.image]

/-- The image read from the EEPROM has 515 words. -/
theorem readImage_length (s : State) : (readImage s).2.length = 515 := by
  simp [readImage]

/-- A VALID image carries a calibration that passes the checks (R165). -/
theorem firstBadWord_of_valid {image : List Word} (h : classifyImage image = .valid) :
    firstBadWord (imageCalibration image) = none := by
  unfold classifyImage at h
  split at h
  · cases h
  split at h
  · cases h
  split at h
  · cases h
  case isFalse hchecks =>
    push Not at hchecks
    obtain ⟨-, -, hfields⟩ := hchecks
    simpa using hfields

/-- A VALID image that was read carries a set that may be installed (R165). -/
theorem imageCalibration_validSet {s : State} (h : (readImage s).1 = .valid) : validSet (imageCalibration (readImage s).2) := by
  have hvalid : classifyImage (readImage s).2 = .valid := by
    simpa only [readImage] using h
  exact ⟨by simp [imageCalibration, readImage_length], firstBadWord_of_valid hvalid⟩

/-- The calibration area has 512 words. -/
@[simp] theorem areaWords_length (s : State) : s.areaWords.length = 512 := by
  simp [State.areaWords, Memory.readList]

/-- The end of the start-up read installs a set that passes the checks (R167). -/
theorem startupLoad_calibrationInv {s : State} (h : s.calibrationInv) : (startupLoad s).calibrationInv := by
  by_cases hop : s.cal.op = .loading
  · by_cases ho : (readImage s).1 = .valid
    · have hworking : (startupLoad s).cal.working = imageCalibration (readImage s).2 := by
        rw [startupLoad_valid hop ho]
        simp [loadEnds, installImage]
      rw [State.calibrationInv_iff, hworking]
      exact imageCalibration_validSet ho
    · have hworking : (startupLoad s).cal.working = defaultCalibration := by
        rw [startupLoad_defaults hop ho, loadEnds, State.setCal_cal, installDefaults]
        generalize defaultCalibration = ws
        simp
      rw [State.calibrationInv_iff, hworking]
      exact defaultCalibration_validSet
  · rwa [startupLoad_other hop]

/-- LOAD_CALIBRATION installs an area that passes the checks, or nothing (R168). -/
theorem dispatchLoadCalibration_calibrationInv (t : Take) {s : State} (h : s.calibrationInv) :
    (dispatchLoadCalibration t s).calibrationInv := by
  have hinstall : (installArea s).cal.working = s.areaWords := by
    simp [installArea]
  have hcompleted (r : Result) (d : Nat) (u : State) : (completeNow t r d u).cal = u.cal :=
    (completeNow_sameBut t r d u).same .cal rfl
  rw [State.calibrationInv_iff] at h ⊢
  unfold dispatchLoadCalibration
  split
  · rwa [hcompleted]
  split
  · rwa [hcompleted]
  split
  · rwa [hcompleted]
  case h_2 hgood =>
    rw [hcompleted, hinstall]
    exact ⟨areaWords_length s, hgood⟩

@[simp] theorem restartCal_working (k : CalLoader) : (restartCal k).working = k.working := rfl

/-- A restart keeps the working calibration (R171). -/
theorem doRestart_working (s : State) : (doRestart s).cal.working = s.cal.working := by
  simp [doRestart_eq]
  simp [restarted, restartModc, restartBlocks, restartOrders]

theorem writeRestart_working (v : Word) (s : State) : (writeRestart v s).cal.working = s.cal.working := by
  have hwake : (wakeSource true s).cal = s.cal := (wakeSource_sameBut true s).same .cal rfl
  unfold writeRestart restartRequest
  repeat' split
  · rfl
  · rw [hwake]
  · rfl
  · exact doRestart_working s
  · rfl

theorem modeCheck_working (s : State) : (modeCheck s).cal.working = s.cal.working := by
  by_cases hwakes : s.modc.mode = .parked ∧ (s.modc.wake = .waking ∧ 20 ≤ s.since s.modc.wakeTime) ∧ s.modc.restartPending
  · obtain ⟨hmode, hwake, hrestart⟩ := hwakes
    unfold modeCheck wakingCheck
    simp only [hmode]
    rw [if_pos hwake, if_pos hrestart]
    exact doRestart_working s
  · have hcal : (modeCheck s).cal = s.cal := (modeCheck_sameBut_of_no_restart hwakes).same .cal rfl
    rw [hcal]

/-- The dispatches of STORE_CALIBRATION, FETCH_CALIBRATION and PARK keep the working calibration (R169, R170). -/
theorem dispatchStoreCalibration_working (t : Take) (s : State) :
    (dispatchStoreCalibration t s).cal.working = s.cal.working := by
  unfold dispatchStoreCalibration
  repeat' split
  all_goals simp [beginStore]

theorem dispatchFetchCalibration_working (t : Take) (s : State) :
    (dispatchFetchCalibration t s).cal.working = s.cal.working := by
  unfold dispatchFetchCalibration
  repeat' split
  all_goals simp [beginFetch]

theorem enterParked_cal (s : State) : (enterParked s).cal = s.cal := by
  have hsleep (u : State) : (sleepStages u).cal = u.cal := (sleepStages_sameBut u).same .cal rfl
  simp [enterParked, hsleep]

theorem dispatchPark_cal (t : Take) (s : State) : (dispatchPark t s).cal = s.cal := by
  unfold dispatchPark
  repeat' split
  · simp
  · simp
  · simp
  · simp
  · simp
  · simp [enterParked_cal]

theorem pageTransferDone_working (s : State) : (pageTransferDone s).cal.working = s.cal.working := by
  unfold pageTransferDone
  split <;> rfl

theorem pageReady_working (s : State) : (pageReady s).cal.working = s.cal.working := by
  unfold pageReady
  dsimp only
  repeat' split
  all_goals simp

theorem pageTimeout_working (s : State) : (pageTimeout s).cal.working = s.cal.working := by
  unfold pageTimeout
  split <;> simp

theorem fetchDone_working (s : State) : (fetchDone s).cal.working = s.cal.working := by
  unfold fetchDone
  dsimp only
  repeat' split
  all_goals simp

/-- Settles O12: a set is installed at a cold reset, at the end of the start-up read and by LOAD_CALIBRATION alone, each time one
that passes the checks. -/
theorem workingCalibrationStaysValid : Obligations.WorkingCalibrationStaysValid := by
  intro s t hs hstep
  have hcongr {u v : State} (h : v.cal.working = u.cal.working) (hu : u.calibrationInv) : v.calibrationInv := by
    unfold State.calibrationInv
    rw [h]
    exact hu
  have hsame {blocks : List Block} {u v : State} (h : SameBut blocks u v) (hb : blocks.contains .cal = false)
      (hu : u.calibrationInv) : v.calibrationInv :=
    hcongr (congrArg CalLoader.working (h.same .cal hb)) hu
  have htick (u : State) : (tick u).cal.working = u.cal.working := by
    unfold tick
    split <;> rfl
  refine step_keeps (P := State.calibrationInv) (fun u => hcongr (htick u)) (fun u q hu => hu)
    (effect_keeps (fun u => hsame (stallScan_sameBut u) rfl) ?take
      (fun k o u _ => hsame (takeUnknown_sameBut k o u) rfl) ?rest) hs hstep
  case take =>
    intro kind o u _ hu
    have hdispatch := orderDispatch_sameBut kind (noteTake kind o u) (advanceCursor u)
    match kind with
    | 4 => exact hcongr (congrArg CalLoader.working (dispatchPark_cal _ _)) hu
    | 12 =>
      have htaken : (advanceCursor u).calibrationInv := hu
      exact dispatchLoadCalibration_calibrationInv (noteTake 12 o u) htaken
    | 13 => exact hcongr (dispatchStoreCalibration_working _ _) hu
    | 14 => exact hcongr (dispatchFetchCalibration_working _ _) hu
    | 0 | 1 | 2 | 3 | 5 | 6 | 7 | 8 | 9 | 10 | 11 | _ + 15 => exact hsame hdispatch rfl hu
  case rest =>
    intro c u hc hu
    have hsameBut := effect_sameBut c u
    cases c
    case coldReset => exact (State.calibrationInv_iff _).mpr defaultCalibration_validSet
    case restart v => exact whenLive_keeps (hcongr (writeRestart_working v u)) hu
    case startupLoadDone => exact whenLive_keeps startupLoad_calibrationInv hu
    case storePageTransferDone => exact whenLive_keeps (hcongr (pageTransferDone_working u)) hu
    case storePageReady => exact whenLive_keeps (hcongr (pageReady_working u)) hu
    case storePageTimeout => exact whenLive_keeps (hcongr (pageTimeout_working u)) hu
    case fetchReadDone => exact whenLive_keeps (hcongr (fetchDone_working u)) hu
    case modeCheck => exact whenRunning_keeps (hcongr (modeCheck_working u)) hu
    all_goals first
      | exact Bool.noConfusion hc
      | exact hsame hsameBut rfl hu

end Sys2Proof.Machine

namespace Sys2Proof.Machine

/-! ### Exchange memory and the open orders: what every operation but the opening of an order leaves (R148, R155) -/

/-- A move that writes whole words alone and opens no order: exchange memory stays canonical, no entry is added to the list, and the
cursor stands. -/
structure OpensNone (s t : State) : Prop where
  wf : s.xmemWf → t.xmemWf
  entries : t.orders.entries.Sublist s.orders.entries
  cursor : t.orders.cursor = s.orders.cursor

theorem OpensNone.refl (s : State) : OpensNone s s := ⟨id, List.Sublist.refl _, rfl⟩

theorem OpensNone.trans {s t u : State} (hst : OpensNone s t) (htu : OpensNone t u) : OpensNone s u :=
  ⟨htu.wf ∘ hst.wf, htu.entries.trans hst.entries, htu.cursor.trans hst.cursor⟩

/-- A move that leaves the order unit and keeps exchange memory canonical opens no order. -/
theorem OpensNone.of_orders {s t : State} (horders : t.orders = s.orders) (hwf : s.xmemWf → t.xmemWf) : OpensNone s t :=
  ⟨hwf, by rw [horders], by rw [horders]⟩

/-- A move that leaves exchange memory and the order unit opens no order. -/
theorem OpensNone.of_same {s t : State} (hxmem : t.xmem = s.xmem) (horders : t.orders = s.orders) : OpensNone s t :=
  .of_orders horders fun h => by rw [State.xmemWf, hxmem]; exact h

/-- A move whose frame lists neither exchange memory nor the order unit opens no order. -/
theorem SameBut.opensNone {blocks : List Block} {s t : State} (h : SameBut blocks s t) (hxmem : blocks.contains .xmem = false)
    (horders : blocks.contains .orders = false) : OpensNone s t :=
  .of_same (h.same .xmem hxmem) (h.same .orders horders)

theorem OpensNone.ite {s t : State} {p : Prop} [Decidable p] (h : OpensNone s t) : OpensNone s (if p then t else s) := by
  split
  · exact h
  · exact .refl s

/-! #### Writes, completions and the list -/

theorem xwrite_opensNone (a : Nat) (v : Word) (s : State) : OpensNone s (xwrite a v s) :=
  .of_orders (by simp) (xwrite_xmemWf a v s)

theorem xwriteList_opensNone (a : Nat) (vs : List Word) (s : State) : OpensNone s (xwriteList a vs s) :=
  .of_orders (by simp) (xwriteList_xmemWf a vs s)

theorem writeResult_opensNone (slot : Nat) (notify : BitVec 8) (r : Result) (detail depth elapsed : Nat) (s : State) :
    OpensNone s (writeResult slot notify r detail depth elapsed s) :=
  .of_orders (by simp) (writeResult_xmemWf slot notify r detail depth elapsed)

theorem countOrphan_opensNone (s : State) : OpensNone s (countOrphan s) := ⟨id, List.Sublist.refl _, rfl⟩

theorem completeNow_opensNone (t : Take) (r : Result) (detail : Nat) (s : State) : OpensNone s (completeNow t r detail s) := by
  unfold completeNow
  split
  · exact writeResult_opensNone _ _ _ _ _ _ s
  · exact countOrphan_opensNone s

theorem endEntry_opensNone (e : Entry) (r : Result) (detail : Nat) (s : State) : OpensNone s (endEntry e r detail s) :=
  ⟨endEntry_xmemWf e r detail, by rw [endEntry_entries]; exact List.filter_sublist, by simp⟩

theorem completionNotice_opensNone (target : Target) (slot : Nat) (time : BitVec 32) (r : Result) (detail : Nat) (s : State) :
    OpensNone s (completionNotice target slot time r detail s) := by
  unfold completionNotice
  split
  · exact endEntry_opensNone _ r detail s
  · exact .refl s

theorem completeMode_opensNone (kinds : List Nat) (r : Result) (detail : Nat) (s : State) :
    OpensNone s (completeMode kinds r detail s) := by
  unfold completeMode
  repeat' split
  · exact completionNotice_opensNone _ _ _ r detail s
  · exact .refl s
  · exact .refl s

theorem supersede_opensNone (target : Target) (t : Take) (s : State) : OpensNone s (supersede target t s) := by
  unfold supersede
  split
  · exact endEntry_opensNone _ _ _ s
  · exact .refl s

theorem endEntries_opensNone (r : Result) (detail : Nat) (es : List Entry) (s : State) :
    OpensNone s (endEntries r detail es s) := by
  induction es generalizing s with
  | nil => exact .refl s
  | cons e es ih => exact (endEntry_opensNone e r detail s).trans (ih _)

/-! #### Reports and condition ends -/

theorem setFaults_opensNone (f : FaultUnit) (s : State) : OpensNone s (s.setFaults f) := .of_same rfl rfl

theorem setTotal_opensNone (n : Nat) (s : State) : OpensNone s (setTotal n s) :=
  (setFaults_opensNone _ s).trans (xwrite_opensNone _ _ _)

theorem setActive_opensNone (a : BitVec 16) (s : State) : OpensNone s (setActive a s) :=
  (setFaults_opensNone _ s).trans (xwrite_opensNone _ _ _)

theorem setExclusions_opensNone (x : Exclusions) (s : State) : OpensNone s (setExclusions x s) :=
  (setFaults_opensNone _ s).trans (xwrite_opensNone _ _ _)

theorem raiseCause_opensNone (c : Cause) (s : State) : OpensNone s (raiseCause c s) := .of_same rfl rfl

theorem raiseIf_opensNone (b : Bool) (c : Cause) (s : State) : OpensNone s (raiseIf b c s) :=
  .ite (raiseCause_opensNone c s)

theorem recordOrCount_opensNone (r : Report) (s : State) : OpensNone s (recordOrCount r s) := by
  unfold recordOrCount
  split
  · exact ((setFaults_opensNone _ s).trans (xwrite_opensNone _ _ _)).trans (xwrite_opensNone _ _ _)
  · exact (((setFaults_opensNone _ s).trans (xwriteList_opensNone _ _ _)).trans (xwrite_opensNone _ _ _)).trans
      (raiseCause_opensNone _ _)

theorem releaseHold_opensNone (severe : Bool) (s : State) : OpensNone s (releaseHold severe s) :=
  .ite (((setFaults_opensNone _ s).trans (xwriteList_opensNone _ _ _)).trans (xwrite_opensNone _ _ _))

theorem latchExclusion_opensNone (r : Report) (s : State) : OpensNone s (latchExclusion r s) := by
  unfold latchExclusion
  split
  · exact setExclusions_opensNone _ s
  · exact setExclusions_opensNone _ s
  · exact .refl s

theorem takeReport_opensNone (r : Report) (s : State) : OpensNone s (takeReport r s) := by
  have hadd (u : State) : OpensNone u (if u.isActive r.kind then u else setActive (u.faults.active ||| kindBit r.kind) u) := by
    split
    · exact .refl u
    · exact setActive_opensNone _ u
  exact (((recordOrCount_opensNone r s).trans (setTotal_opensNone _ _)).trans (hadd _)).trans (latchExclusion_opensNone r _)

theorem takeReports_opensNone (rs : List Report) (s : State) : OpensNone s (takeReports rs s) := by
  induction rs generalizing s with
  | nil => exact .refl s
  | cons r rs ih => exact (takeReport_opensNone r s).trans (ih _)

theorem conditionEnd_opensNone (k : FaultKind) (s : State) : OpensNone s (conditionEnd k s) :=
  .ite (setActive_opensNone _ s)

theorem endIf_opensNone (b : Bool) (k : FaultKind) (s : State) : OpensNone s (endIf b k s) :=
  .ite (conditionEnd_opensNone k s)

theorem armConditionEnd_opensNone (k : FaultKind) (s : State) : OpensNone s (armConditionEnd k s) :=
  endIf_opensNone _ k s

/-! #### Notices, changes of mode and reactions -/

theorem failWaiting_opensNone (a : Arm) (w : Option ArmWait) (detail : Nat) (s : State) :
    OpensNone s (failWaiting a w detail s) := by
  unfold failWaiting
  split
  · exact .refl s
  · exact completionNotice_opensNone _ _ _ _ _ s

theorem armOutNotice_opensNone (a : Arm) (k : FaultKind) (s : State) : OpensNone s (armOutNotice a k s) := by
  have hout : OpensNone s (handRecord a 0 (setArmAndWidth a (enterOut k (s.arm a)) s)) := .of_same (by simp) (by simp)
  unfold armOutNotice
  split
  · exact .refl s
  · exact hout.trans (failWaiting_opensNone _ _ _ _)

theorem noticeWaiting_opensNone (new : Mode) (a : Arm) (s : State) : OpensNone s (noticeWaiting new a s) := by
  have hset (r : ArmRecord) : OpensNone s (setArm a r s) := .of_same rfl rfl
  unfold noticeWaiting
  split
  · exact .refl s
  split
  · exact hset _
  split
  · exact .refl s
  · exact (hset _).trans (failWaiting_opensNone _ _ _ _)

theorem govNotice_opensNone (new : Mode) (s : State) : OpensNone s (govNotice new s) := by
  have hset (g : Governor) : OpensNone s (s.setGov g) := .of_same rfl rfl
  unfold govNotice
  split
  · dsimp only
    repeat' split
    · exact (hset _).trans (completionNotice_opensNone _ _ _ _ _ _)
    · exact hset _
    · exact hset _
  · exact hset _
  · exact .refl s

/-- The arms as the switch derivation leaves them at a notice, where it is due (R87). -/
def derivedArms (prev new : Mode) (s : State) : State :=
  if (decide (new = .transport) || decide (new = .disengaging)) && (decide (prev = .starting) || decide (prev = .parked)) then
    deriveArms s
  else s

/-- The arms raised, put to rest or left at a notice, before the waiting orders are treated (R86). -/
def movedArms (new : Mode) (s : State) : State :=
  match new with
  | .disengaging => handArmsOff (mapArms (fun _ r => raiseRecord r) s)
  | .safe => handArmsOff (mapArms (fun _ r => raiseRecord r) s)
  | .parked => armConditionEnd .brushStall (armConditionEnd .armStuck (handArmsOff (mapArms (fun _ r => parkRecord r) s)))
  | _ => s

/-- The arm controller's notice in its three parts (R86, R87). -/
theorem armNotice_eq (prev new : Mode) (s : State) :
    armNotice prev new s =
      noticeWaiting new .main (noticeWaiting new .right (noticeWaiting new .left (movedArms new (derivedArms prev new s)))) := by
  cases new <;> rfl

theorem armNotice_opensNone (prev new : Mode) (s : State) : OpensNone s (armNotice prev new s) := by
  have hderive : OpensNone s (derivedArms prev new s) := .ite (.of_same (by simp) (by simp))
  have hhand (f : Arm → ArmRecord → ArmRecord) (u : State) : OpensNone u (handArmsOff (mapArms f u)) :=
    .of_same (by simp) (by simp)
  have hmove (u : State) : OpensNone u (movedArms new u) := by
    unfold movedArms
    split
    · exact hhand _ u
    · exact hhand _ u
    · exact ((hhand _ u).trans (armConditionEnd_opensNone _ _)).trans (armConditionEnd_opensNone _ _)
    · exact .refl u
  rw [armNotice_eq]
  exact (((hderive.trans (hmove _)).trans (noticeWaiting_opensNone new .left _)).trans
    (noticeWaiting_opensNone new .right _)).trans (noticeWaiting_opensNone new .main _)

theorem setLoadm_opensNone (l : LoadManager) (s : State) : OpensNone s (s.setLoadm l) := .of_same rfl rfl

theorem sendNotices_opensNone (prev new : Mode) (s : State) : OpensNone s (sendNotices prev new s) := by
  have hwater (u : State) : OpensNone u (waterNotice new u) := .of_same (by simp) (by simp)
  have hload (u : State) : OpensNone u (loadNotice new u) := by
    unfold loadNotice
    split
    · exact (setLoadm_opensNone _ u).trans (endIf_opensNone _ _ _)
    · exact .refl u
  exact (((govNotice_opensNone new s).trans (armNotice_opensNone prev new _)).trans (hwater _)).trans (hload _)

theorem changeMode_opensNone (new : Mode) (reason : Nat) (s : State) : OpensNone s (changeMode new reason s) := by
  rw [changeMode_eq]
  exact (OpensNone.trans (.of_same (by simp) (by simp)) (sendNotices_opensNone s.modc.mode new _)).trans
    (raiseCause_opensNone _ _)

theorem setModc_opensNone (m : ModeControl) (s : State) : OpensNone s (s.setModc m) := .of_same rfl rfl

theorem enterSafe_opensNone (k : FaultKind) (halt : Bool) (s : State) : OpensNone s (enterSafe k halt s) := by
  unfold enterSafe
  split
  · exact setModc_opensNone _ s
  · exact .refl s
  · exact .refl s
  · exact ((changeMode_opensNone .safe k.rank s).trans (setModc_opensNone _ _)).trans (completeMode_opensNone _ _ _ _)

theorem react_opensNone (r : Report) (s : State) : OpensNone s (react r s) := by
  unfold react
  split
  · exact armOutNotice_opensNone _ _ s
  · exact .of_same (by simp) (by simp)
  · exact enterSafe_opensNone _ _ s
  · exact enterSafe_opensNone _ _ s
  · exact .refl s

theorem reactAll_opensNone (rs : List Report) (s : State) : OpensNone s (reactAll rs s) := by
  induction rs generalizing s with
  | nil => exact .refl s
  | cons r rs ih => exact (react_opensNone r s).trans (ih _)

theorem reportBatch_opensNone (rs : List Report) (s : State) : OpensNone s (reportBatch rs s) :=
  (takeReports_opensNone rs s).trans (reactAll_opensNone rs _)

/-! #### The commands that take no order -/

theorem setGov_opensNone (g : Governor) (s : State) : OpensNone s (s.setGov g) := .of_same rfl rfl

theorem setWatc_opensNone (w : WaterControl) (s : State) : OpensNone s (s.setWatc w) := .of_same rfl rfl

theorem setCal_opensNone (k : CalLoader) (s : State) : OpensNone s (s.setCal k) := .of_same rfl rfl

theorem endTravelWait_opensNone (r : Result) (detail : Nat) (s : State) : OpensNone s (endTravelWait r detail s) := by
  unfold endTravelWait
  split
  · exact (setGov_opensNone _ s).trans (completionNotice_opensNone _ _ _ _ _ _)
  · exact .refl s

theorem arrive_opensNone (limiter : Limiter) (w : TravelWait) (s : State) : OpensNone s (arrive limiter w s) := by
  unfold arrive
  split <;> exact endTravelWait_opensNone _ _ s

theorem stopTest_opensNone (now : State) (w : TravelWait) (s : State) : OpensNone s (stopTest now w s) := by
  unfold stopTest
  repeat' split
  · exact endTravelWait_opensNone _ _ s
  · exact endTravelWait_opensNone _ _ s
  · exact .refl s

theorem travelWaiting_opensNone (target : Int) (s : State) : OpensNone s (travelWaiting target s) := by
  unfold travelWaiting
  split
  · exact .refl s
  split
  · unfold paceTest
    dsimp only
    repeat' split
    · exact arrive_opensNone _ _ s
    · exact endTravelWait_opensNone _ _ s
    · exact setGov_opensNone _ s
  · exact stopTest_opensNone s _ s

theorem travelEnds_opensNone (lostNow : Bool) (g : Governor) (seated overspeeding : Bool) (s : State) :
    OpensNone s (travelEnds lostNow g seated overspeeding s) :=
  (((endIf_opensNone _ _ s).trans (endIf_opensNone _ _ _)).trans (endIf_opensNone _ _ _)).trans (endIf_opensNone _ _ _)

theorem travelStep_opensNone (s : State) : OpensNone s (travelStep s) := by
  have hdrive : OpensNone s (travelWatch (travelDrive s)) :=
    (((travelApproach_sameBut s).opensNone rfl rfl).trans ((travelMove_sameBut _ _).opensNone rfl rfl)).trans
      (setGov_opensNone _ _)
  exact (((hdrive.trans (takeReports_opensNone _ _)).trans (travelEnds_opensNone _ _ _ _ _)).trans
    (travelWaiting_opensNone _ _)).trans (reactAll_opensNone _ _)

theorem armTransition_opensNone (s0 : State) (a : Arm) (s : State) : OpensNone s (armTransition s0 a s) := by
  have hset (r : ArmRecord) : OpensNone s (setArm a r s) := (setArm_sameBut a r s).opensNone rfl rfl
  unfold armTransition
  dsimp only
  repeat' split
  · exact hset _
  · exact (hset _).trans (failWaiting_opensNone _ _ _ _)
  · exact hset _

theorem armWaiting_opensNone (a : Arm) (s : State) : OpensNone s (armWaiting a s) := by
  have hend (w : ArmWait) (r : Result) (d : Nat) : OpensNone s (endArmWait a w r d s) :=
    ((setArm_sameBut a _ s).opensNone rfl rfl).trans (completionNotice_opensNone _ _ _ _ _ _)
  unfold armWaiting
  repeat' split
  · exact .refl s
  · exact hend _ _ _
  · exact hend _ _ _
  · exact .refl s

theorem armStep_opensNone (s : State) : OpensNone s (armStep s) := by
  have hprepare : OpensNone s (armPrepare s) := (setArmc_sameBut s _).opensNone rfl rfl
  have hmoves (u : State) : OpensNone u (armTransitions s u) :=
    ((armTransition_opensNone s .left u).trans (armTransition_opensNone s .right _)).trans (armTransition_opensNone s .main _)
  have hpublish (u : State) : OpensNone u (armPublish u) := (armPublish_sameBut u).opensNone rfl rfl
  have hends (u : State) : OpensNone u (armEnds u) :=
    (((armConditionEnd_opensNone _ u).trans (armConditionEnd_opensNone _ _)).trans (armConditionEnd_opensNone _ _)).trans
      (armConditionEnd_opensNone _ _)
  have hfinish (rs : List Report) (u : State) : OpensNone u (armFinish rs u) :=
    ((((reportBatch_opensNone rs u).trans (hends _)).trans (armWaiting_opensNone .left _)).trans
      (armWaiting_opensNone .right _)).trans (armWaiting_opensNone .main _)
  exact ((hprepare.trans (hmoves _)).trans (hpublish _)).trans (hfinish _ _)

theorem excludeArm_opensNone (a : Arm) (k : FaultKind) (detail : Nat) (s : State) : OpensNone s (excludeArm a k detail s) := by
  have hset (r : ArmRecord) : OpensNone s (setArmAndWidth a r s) := .of_same (by simp) (by simp)
  have hhand (u : State) : OpensNone u (handRecord a 0 u) := .of_same (by simp) (by simp)
  exact (((hset _).trans (failWaiting_opensNone _ _ _ _)).trans (hhand _)).trans (reportBatch_opensNone _ _)

theorem excludeDue_opensNone (a : Arm) (own : Bool) (s : State) : OpensNone s (excludeDue a own s) := by
  unfold excludeDue
  repeat' split
  · exact excludeArm_opensNone _ _ _ s
  · exact .refl s
  · exact .refl s

theorem timedMove_opensNone (a : Arm) (s : State) : OpensNone s (timedMove a s) := by
  obtain ⟨k, d, -, h⟩ | ⟨-, -, h⟩ | ⟨-, -, h⟩ := timedMove_cases a s <;> rw [h]
  · exact excludeArm_opensNone a k d s
  · exact .refl s
  · exact .of_same (by simp) (by simp)

theorem setArmTimeout_opensNone (a : Arm) (s : State) : OpensNone s (setArmTimeout a s) := by
  obtain h | ⟨w, -, -, h⟩ := setArmTimeout_cases a s <;> rw [h]
  · exact .refl s
  · exact (timedMove_opensNone a s).trans (armWaiting_opensNone a _)

theorem outRaiseEnd_opensNone (a : Arm) (s : State) : OpensNone s (outRaiseEnd a s) := by
  have hset (r : ArmRecord) : OpensNone s (handRecord a 0 (setArm a r s)) := .of_same (by simp) (by simp)
  exact .ite (((hset _).trans (armConditionEnd_opensNone _ _)).trans (armConditionEnd_opensNone _ _))

theorem waterStep_opensNone (s : State) : OpensNone s (waterStep s) := by
  have hflow : OpensNone s (waterFlow s) := (waterFlow_sameBut s).opensNone rfl rfl
  have hends (w : WaterControl) (b : Bool) (u : State) : OpensNone u (waterEnds s.watc w b u) :=
    (((endIf_opensNone _ _ u).trans (endIf_opensNone _ _ _)).trans (endIf_opensNone _ _ _)).trans (endIf_opensNone _ _ _)
  exact ((hflow.trans (setWatc_opensNone _ _)).trans (reportBatch_opensNone _ _)).trans (hends _ _ _)

theorem loadStep_opensNone (s : State) : OpensNone s (loadStep s) := by
  have hform : OpensNone s (loadForm s) := by
    rw [loadForm_eq]
    exact setLoadm_opensNone _ s
  exact ((hform.trans (setLoadm_opensNone _ _)).trans (reportBatch_opensNone _ _)).trans (endIf_opensNone _ _ _)

theorem enterLowering_opensNone (s : State) : OpensNone s (enterLowering s) :=
  (enterLowering_sameBut s).opensNone rfl rfl

theorem reachSweeping_opensNone (s : State) : OpensNone s (reachSweeping s) :=
  (changeMode_opensNone _ _ s).trans (completeMode_opensNone _ _ _ _)

theorem phaseProgress_opensNone (s : State) : OpensNone s (phaseProgress s) := by
  unfold phaseProgress
  split
  case h_1 =>
    unfold slowingCheck
    dsimp only
    repeat' split
    · exact (setModc_opensNone _ s).trans (setModc_opensNone _ _)
    · exact (setModc_opensNone _ s).trans (enterLowering_opensNone _)
    · exact .refl s
  case h_2 => exact .ite (enterLowering_opensNone s)
  case h_3 =>
    unfold loweringCheck
    dsimp only
    split <;> exact .of_same rfl rfl
  case h_4 =>
    unfold settlingCheck
    dsimp only
    split
    · exact (setModc_opensNone _ s).trans (reachSweeping_opensNone _)
    · exact setModc_opensNone _ s
  case h_5 => exact .refl s

theorem budgetTest_opensNone (before : Phase) (s : State) : OpensNone s (budgetTest before s) := by
  unfold budgetTest
  dsimp only
  repeat' split
  · exact ((setModc_opensNone _ s).trans (completeMode_opensNone _ _ _ _)).trans (changeMode_opensNone _ _ _)
  · exact setModc_opensNone _ s
  · exact .refl s

theorem endWork_opensNone (reason detail : Nat) (s : State) : OpensNone s (endWork reason detail s) :=
  (changeMode_opensNone _ reason s).trans (completeMode_opensNone _ _ _ _)

theorem endWake_opensNone (s : State) : OpensNone s (endWake s) := by
  have hwake (m : ModeControl) (x : TimingArray) (u : State) : OpensNone u (disarmCheck ((u.setModc m).setTma x)) :=
    .of_same rfl rfl
  exact (changeMode_opensNone _ _ s).trans (hwake _ _ _)

/-- A mode check that no restart waits for opens no order. -/
theorem modeCheck_opensNone {s : State}
    (h : ¬(s.modc.mode = .parked ∧ (s.modc.wake = .waking ∧ 20 ≤ s.since s.modc.wakeTime) ∧ s.modc.restartPending)) :
    OpensNone s (modeCheck s) := by
  have hwork (reason detail : Nat) := endWork_opensNone reason detail s
  unfold modeCheck
  split
  case h_1 => exact .ite (changeMode_opensNone _ 17 s)
  case h_2 => exact .refl s
  case h_3 =>
    unfold engagingCheck
    repeat' split
    · exact hwork 23 18
    · exact hwork 24 19
    · exact (phaseProgress_opensNone s).trans (budgetTest_opensNone _ _)
  case h_4 =>
    unfold sweepingCheck
    repeat' split
    · exact hwork 23 18
    · exact hwork 24 19
    · exact .refl s
  case h_5 => exact .ite ((changeMode_opensNone _ 28 s).trans (completeMode_opensNone _ _ _ _))
  case h_6 => exact .ite (setModc_opensNone _ s)
  case h_7 hmode =>
    unfold wakingCheck
    split
    case isTrue hwake =>
      rw [if_neg fun hrestart => h ⟨hmode, hwake, hrestart⟩]
      exact endWake_opensNone s
    case isFalse => exact .refl s

theorem writeArea_opensNone (ws : List Word) (s : State) : OpensNone s (writeArea ws s) := xwriteList_opensNone _ ws s

theorem startupLoad_opensNone (s : State) : OpensNone s (startupLoad s) := by
  have hcal (n : Nat) (k : CalLoader) : OpensNone s ((s.setFreeReads n).setCal k) := .of_same rfl rfl
  have hends (u : State) : OpensNone u (loadEnds u) := setCal_opensNone _ u
  have hwheel (u : State) : OpensNone u (applyWheelTimeout u) := .of_same rfl rfl
  by_cases hop : s.cal.op = .loading
  · by_cases ho : (readImage s).1 = .valid
    · rw [startupLoad_valid hop ho]
      exact (((hcal _ _).trans (writeArea_opensNone _ _)).trans (hwheel _)).trans (hends _)
    · rw [startupLoad_defaults hop ho]
      exact (((hcal _ _).trans (writeArea_opensNone _ _)).trans (reportBatch_opensNone _ _)).trans (hends _)
  · rw [startupLoad_other hop]
    exact .refl s

theorem finishStore_opensNone (r : Result) (detail : Nat) (s : State) : OpensNone s (finishStore r detail s) := by
  unfold finishStore
  dsimp only
  split
  · exact (setCal_opensNone _ s).trans (completionNotice_opensNone _ _ _ _ _ _)
  · exact setCal_opensNone _ s

theorem pageReady_opensNone (s : State) : OpensNone s (pageReady s) := by
  have hdevice (e : Eeprom) : OpensNone s (s.setEeprom e) := .of_same rfl rfl
  unfold pageReady
  dsimp only
  repeat' split
  · exact (hdevice _).trans (finishStore_opensNone _ _ _)
  · exact (hdevice _).trans (setCal_opensNone _ _)
  · exact hdevice _

theorem fetchDone_opensNone (s : State) : OpensNone s (fetchDone s) := by
  have hcal (n : Nat) (k : CalLoader) : OpensNone s ((s.setFreeReads n).setCal k) := .of_same rfl rfl
  unfold fetchDone
  dsimp only
  repeat' split
  · exact ((hcal _ _).trans (writeArea_opensNone _ _)).trans (finishStore_opensNone _ _ _)
  · exact (hcal _ _).trans (finishStore_opensNone _ _ _)
  · exact .refl s

theorem writeCheck_opensNone (v : Word) (s : State) : OpensNone s (writeCheck v s) := by
  have hport (p : HostPort) : OpensNone s (s.setPort p) := .of_same rfl rfl
  unfold writeCheck
  repeat' split
  · exact .refl s
  · exact hport _
  · exact .refl s
  · exact .refl s
  · exact (hport _).trans (conditionEnd_opensNone _ _)
  · exact hport _
  · exact hport _

theorem checkExpiry_opensNone (s : State) : OpensNone s (checkExpiry s) := by
  have hdisarm : OpensNone s (disarmCheck s) := .of_same rfl rfl
  exact .ite (hdisarm.trans (reportBatch_opensNone _ _))

theorem publish_opensNone (s : State) : OpensNone s (publish s) := by
  have hhead (p : Publisher) : OpensNone s (s.setPublisher p) := .of_same rfl rfl
  exact (hhead _).trans (xwriteList_opensNone _ _ _)

theorem writeTrace_opensNone (s : State) : OpensNone s (writeTrace s) := by
  have hcount (p : Publisher) : OpensNone s (s.setPublisher p) := .of_same rfl rfl
  exact ((hcount _).trans (xwriteList_opensNone _ _ _)).trans (raiseIf_opensNone _ _ _)

theorem setTma_opensNone (x : TimingArray) (s : State) : OpensNone s (s.setTma x) := .of_same rfl rfl

theorem judgeEdge_opensNone (ch : Channel) (now : Nat) (s : State) : OpensNone s (judgeEdge ch now s) := by
  have hcount (w : Wheel) (u : State) : OpensNone u (countDistance w u) := by
    have htrace (x : Trace) (v : State) : OpensNone v (setTrace x v) := .of_same rfl rfl
    have hcounted (inUse : Bool) (sum : Nat) (x : Trace) : OpensNone u
        (if inUse then
          if u.tma.trace.interval * 1000 ≤ sum then
            writeTrace (setTrace (takePendingInterval { x with accumulator := sum - u.tma.trace.interval * 1000 }) u)
          else setTrace { x with accumulator := sum } u
        else u) := by
      split
      · split
        · exact (htrace _ u).trans (writeTrace_opensNone _)
        · exact htrace _ u
      · exact .refl u
    exact hcounted _ _ _
  have hedge (b : Bool) (u : State) : OpensNone u (countEdge ch b u) := by
    unfold countEdge
    split
    · exact .ite (hcount _ u)
    · exact .refl u
  exact .ite ((setTma_opensNone _ s).trans (hedge _ _))

theorem captureRaw_opensNone (ch : Channel) (level : Bool) (us : Nat) (s : State) : OpensNone s (captureRaw ch level us s) := by
  unfold captureRaw
  dsimp only
  repeat' split
  · exact judgeEdge_opensNone ch _ s
  · exact (judgeEdge_opensNone ch _ s).trans (setTma_opensNone _ _)
  · exact setTma_opensNone _ s

theorem sleepStages_opensNone (s : State) : OpensNone s (sleepStages s) := by
  have hoff : OpensNone s (outputsOff s) := .of_same rfl rfl
  have hsleep (x : TimingArray) (u : State) : OpensNone u (disarmCheck (u.setTma x)) := .of_same rfl rfl
  exact (hoff.trans (publish_opensNone _)).trans (hsleep _ _)

theorem enterParked_opensNone (s : State) : OpensNone s (enterParked s) :=
  ((changeMode_opensNone _ _ s).trans (setModc_opensNone _ _)).trans (sleepStages_opensNone _)

/-! #### The taking of an order -/

/-- The opening of one order: after some ends, an entry on a target that no other entry names is added, for the slot that was taken. -/
structure OpensOne (slot : Nat) (s t : State) : Prop where
  wf : s.xmemWf → t.xmemWf
  entries : ∃ es e, t.orders.entries = es ++ [e] ∧ es.Sublist s.orders.entries ∧ e.slot = slot ∧
    ((s.orders.entries.map fun x => x.target).Nodup → ∀ x ∈ es, x.target ≠ e.target)
  cursor : t.orders.cursor = s.orders.cursor

/-- What the taking of an order does to the list. -/
def OpensAtMost (slot : Nat) (s t : State) : Prop := OpensNone s t ∨ OpensOne slot s t

/-- The entry that the opening of an order adds (R148). -/
def newEntry (target : Target) (t : Take) : Entry :=
  { slot := t.slot, kind := t.kind, tag := t.order.tag, target := target, takeTime := t.time,
    params := t.order.par, notify := t.order.notify, depth := t.depth }

@[simp] theorem openEntry_entries (target : Target) (t : Take) (s : State) :
    (openEntry target t s).orders.entries = s.orders.entries ++ [newEntry target t] := by
  simp [openEntry, newEntry]

theorem openEntry_xmemWf (target : Target) (t : Take) {s : State} (h : s.xmemWf) : (openEntry target t s).xmemWf :=
  xwrite_xmemWf _ _ _ h

theorem openEntry_cursor (target : Target) (t : Take) (s : State) :
    (openEntry target t s).orders.cursor = s.orders.cursor := by
  simp [openEntry]

/-- With one order a target, none is open on a target whose order has just been superseded (R150). -/
theorem supersede_target_free (target : Target) (t : Take) {s : State}
    (h : (s.orders.entries.map fun x => x.target).Nodup) {x : Entry} (hx : x ∈ (supersede target t s).orders.entries) :
    x.target ≠ target := by
  unfold supersede at hx
  split at hx
  case h_1 e hopen =>
    rw [endEntry_entries, List.mem_filter] at hx
    have he := List.find?_some hopen
    have hmem := List.mem_of_find?_eq_some hopen
    intro htarget
    exact of_decide_eq_true hx.2 (List.inj_on_of_nodup_map h hx.1 hmem (htarget.trans (of_decide_eq_true he).symm))
  case h_2 hopen =>
    intro htarget
    exact List.find?_eq_none.mp hopen x hx (decide_eq_true htarget)

/-- An order that is refused or ends at once opens none. -/
theorem completeOn_opensNone (target : Target) (t : Take) (r : Result) (detail : Nat) {effect : State → State}
    (heffect : ∀ u, OpensNone u (effect u)) (s : State) : OpensNone s (completeOn target t r detail effect s) :=
  ((supersede_opensNone target t s).trans (heffect _)).trans (completeNow_opensNone _ _ _ _)

/-- An accepted order opens one, whose target it has just freed (R148, R150). -/
theorem acceptOpen_opensOne (target : Target) (t : Take) {effect : State → State} (heffect : ∀ u, OpensNone u (effect u))
    (s : State) : OpensOne t.slot s (acceptOpen target t effect s) := by
  have hold := supersede_opensNone target t s
  have hact := heffect (supersede target t s)
  refine ⟨fun h => openEntry_xmemWf _ _ (hact.wf (hold.wf h)), ⟨_, _, openEntry_entries _ _ _, hact.entries.trans hold.entries,
    rfl, fun hnodup x hx => ?_⟩, (openEntry_cursor _ _ _).trans (hact.cursor.trans hold.cursor)⟩
  exact supersede_target_free target t hnodup (hact.entries.subset hx)

theorem acceptOpen_opensAtMost (target : Target) (t : Take) {effect : State → State} (heffect : ∀ u, OpensNone u (effect u))
    (s : State) : OpensAtMost t.slot s (acceptOpen target t effect s) :=
  .inr (acceptOpen_opensOne target t heffect s)

/-- An order on STORE opens where none is open there (R169, R170). -/
theorem openEntry_opensAtMost (target : Target) (t : Take) {s u : State} (hfree : s.openOn target = none)
    (h : OpensNone s u) : OpensAtMost t.slot s (openEntry target t u) := by
  refine .inr ⟨fun hwf => openEntry_xmemWf _ _ (h.wf hwf), ⟨_, _, openEntry_entries _ _ _, h.entries, rfl, fun _ x hx htarget => ?_⟩,
    (openEntry_cursor _ _ _).trans h.cursor⟩
  exact List.find?_eq_none.mp hfree x (h.entries.subset hx) (decide_eq_true htarget)

theorem completeNow_opensAtMost (t : Take) (r : Result) (detail : Nat) {s u : State} (h : OpensNone s u) :
    OpensAtMost t.slot s (completeNow t r detail u) :=
  .inl (h.trans (completeNow_opensNone t r detail u))

theorem refused_opensAtMost (t : Take) (r : Result) (detail : Nat) (s : State) :
    OpensAtMost t.slot s (completeNow t r detail s) :=
  completeNow_opensAtMost t r detail (.refl s)

theorem dispatchSelectProfile_opensAtMost (t : Take) (s : State) : OpensAtMost t.slot s (dispatchSelectProfile t s) := by
  have hrefused (r : Result) (d : Nat) := refused_opensAtMost t r d s
  unfold dispatchSelectProfile
  dsimp only
  split
  · exact hrefused _ _
  split
  · exact hrefused _ _
  · exact completeNow_opensAtMost t _ _ (.of_same rfl rfl)

theorem dispatchEngage_opensAtMost (t : Take) (s : State) : OpensAtMost t.slot s (dispatchEngage t s) := by
  have hrefused (r : Result) (d : Nat) := refused_opensAtMost t r d s
  have hengage := acceptOpen_opensAtMost .mode t (changeMode_opensNone .engaging 18) s
  unfold dispatchEngage
  repeat' split
  · exact hrefused _ _
  · exact hrefused _ _
  · exact hengage
  · exact acceptOpen_opensAtMost .mode t .refl s
  · exact hengage
  · exact hrefused _ _
  · exact hrefused _ _

theorem dispatchDisengage_opensAtMost (t : Take) (s : State) : OpensAtMost t.slot s (dispatchDisengage t s) := by
  have hraise := acceptOpen_opensAtMost .mode t (changeMode_opensNone .disengaging 19) s
  unfold dispatchDisengage
  split
  · exact hraise
  · exact hraise
  · exact acceptOpen_opensAtMost .mode t .refl s
  · exact .inl (completeOn_opensNone .mode t .ok 0 .refl s)
  · exact refused_opensAtMost t _ _ s

theorem dispatchPark_opensAtMost (t : Take) (s : State) : OpensAtMost t.slot s (dispatchPark t s) := by
  have hrefused (r : Result) (d : Nat) := refused_opensAtMost t r d s
  unfold dispatchPark
  repeat' split
  · exact hrefused _ _
  · exact hrefused _ _
  · exact hrefused _ _
  · exact hrefused _ _
  · exact hrefused _ _
  · exact .inl ((completeNow_opensNone t _ _ s).trans (enterParked_opensNone _))

theorem dispatchSetPace_opensAtMost (t : Take) (s : State) : OpensAtMost t.slot s (dispatchSetPace t s) := by
  have hrefused (r : Result) (d : Nat) := refused_opensAtMost t r d s
  have hpace (w : Option TravelWait) (speed : Nat) (dir : Direction) (u : State) :
      OpensNone u (setTravelWait w (replaceRequest speed dir u)) := .of_same rfl rfl
  unfold dispatchSetPace
  dsimp only
  split
  · exact hrefused _ _
  split
  · exact hrefused _ _
  split
  · exact hrefused _ _
  split
  · exact .inl (completeOn_opensNone .travel t _ _ (hpace _ _ _) s)
  · exact acceptOpen_opensAtMost .travel t (hpace _ _ _) s

theorem dispatchStop_opensAtMost (t : Take) (s : State) : OpensAtMost t.slot s (dispatchStop t s) := by
  have hstop (w : Option TravelWait) (u : State) : OpensNone u (setTravelWait w (replaceRequest 0 .neutral u)) :=
    .of_same rfl rfl
  exact acceptOpen_opensAtMost .travel t (hstop _) s

theorem dispatchSetArm_opensAtMost (t : Take) (s : State) : OpensAtMost t.slot s (dispatchSetArm t s) := by
  have hrefused (r : Result) (d : Nat) := refused_opensAtMost t r d s
  unfold dispatchSetArm
  split
  · exact hrefused _ _
  split
  · exact hrefused _ _
  split
  · exact hrefused _ _
  split
  · exact hrefused _ _
  split
  · exact hrefused _ _
  · refine acceptOpen_opensAtMost _ t (fun u => ?_) s
    exact (setArm_sameBut _ _ u).opensNone rfl rfl

theorem dispatchSetWater_opensAtMost (t : Take) (s : State) : OpensAtMost t.slot s (dispatchSetWater t s) := by
  have hrefused (r : Result) (d : Nat) := refused_opensAtMost t r d s
  unfold dispatchSetWater
  dsimp only
  split
  · exact hrefused _ _
  split
  · exact hrefused _ _
  split
  · exact hrefused _ _
  · exact completeNow_opensAtMost t _ _ (setWatc_opensNone _ s)

theorem releaseHolds_opensNone (which : Nat) (s : State) : OpensNone s (releaseHolds which s) := by
  have hfirst : OpensNone s (if which = 1 then s else releaseHold false s) := by
    split
    · exact .refl s
    · exact releaseHold_opensNone false s
  have hsecond (u : State) : OpensNone u (if which = 0 then u else releaseHold true u) := by
    split
    · exact .refl u
    · exact releaseHold_opensNone true u
  exact hfirst.trans (hsecond _)

theorem releaseExclusions_opensNone (s : State) : OpensNone s (releaseExclusions s) := by
  have harm (a : Arm) (u : State) : OpensNone u (releaseArm a u) := by
    have hrecord (r : ArmRecord) (v : State) : OpensNone v (handRecord a 0 (setArm a r v)) := .of_same (by simp) (by simp)
    exact .ite ((setExclusions_opensNone _ u).trans (hrecord _ _))
  have hwater (u : State) : OpensNone u (releaseWater u) :=
    .ite ((setExclusions_opensNone _ u).trans (setWatc_opensNone _ _))
  exact (((harm .left s).trans (harm .right _)).trans (harm .main _)).trans (hwater _)

theorem leaveSafe_opensNone (s : State) : OpensNone s (leaveSafe s) :=
  .ite ((changeMode_opensNone _ _ s).trans (setModc_opensNone _ _))

theorem dispatchClearFault_opensAtMost (t : Take) (s : State) : OpensAtMost t.slot s (dispatchClearFault t s) := by
  have hrefused (r : Result) (d : Nat) := refused_opensAtMost t r d s
  have hrelease (flag : Nat) (u : State) : OpensNone u (if flag = 1 then releaseExclusions u else u) :=
    .ite (releaseExclusions_opensNone u)
  unfold dispatchClearFault
  dsimp only
  split
  · exact hrefused _ _
  split
  · exact hrefused _ _
  · exact completeNow_opensAtMost t _ _ (((releaseHolds_opensNone _ s).trans (hrelease _ _)).trans (leaveSafe_opensNone _))

theorem dispatchCancel_opensAtMost (t : Take) (s : State) : OpensAtMost t.slot s (dispatchCancel t s) :=
  completeNow_opensAtMost t _ _ (endEntries_opensNone _ _ _ s)

theorem dispatchSetTrace_opensAtMost (t : Take) (s : State) : OpensAtMost t.slot s (dispatchSetTrace t s) := by
  have hrefused (r : Result) (d : Nat) := refused_opensAtMost t r d s
  have htrace (x : Trace) : OpensNone s (setTrace x s) := .of_same rfl rfl
  unfold dispatchSetTrace
  dsimp only
  split
  · exact hrefused _ _
  split
  · exact hrefused _ _
  split
  · exact completeNow_opensAtMost t _ _ (htrace _)
  · exact completeNow_opensAtMost t _ _ (htrace _)

theorem installArea_opensNone (s : State) : OpensNone s (installArea s) := by
  have htrims (u : State) : OpensNone u (clearTrims u) := .of_same (by simp) (by simp)
  have hwheel (u : State) : OpensNone u (applyWheelTimeout u) := .of_same rfl rfl
  exact (((setCal_opensNone _ s).trans (htrims _)).trans (endIf_opensNone _ _ _)).trans (hwheel _)

theorem dispatchLoadCalibration_opensAtMost (t : Take) (s : State) :
    OpensAtMost t.slot s (dispatchLoadCalibration t s) := by
  have hrefused (r : Result) (d : Nat) := refused_opensAtMost t r d s
  unfold dispatchLoadCalibration
  split
  · exact hrefused _ _
  split
  · exact hrefused _ _
  split
  · exact hrefused _ _
  · exact completeNow_opensAtMost t _ _ (installArea_opensNone s)

theorem dispatchStoreCalibration_opensAtMost (t : Take) (s : State) :
    OpensAtMost t.slot s (dispatchStoreCalibration t s) := by
  have hrefused (r : Result) (d : Nat) := refused_opensAtMost t r d s
  unfold dispatchStoreCalibration
  split
  case h_1 => exact hrefused _ _
  case h_2 hfree =>
    split
    · exact hrefused _ _
    split
    · exact hrefused _ _
    split
    · exact hrefused _ _
    · exact openEntry_opensAtMost .store t hfree (setCal_opensNone _ s)

theorem dispatchFetchCalibration_opensAtMost (t : Take) (s : State) :
    OpensAtMost t.slot s (dispatchFetchCalibration t s) := by
  have hrefused (r : Result) (d : Nat) := refused_opensAtMost t r d s
  unfold dispatchFetchCalibration
  split
  case h_1 => exact hrefused _ _
  case h_2 hfree =>
    split
    · exact hrefused _ _
    split
    · exact hrefused _ _
    · exact openEntry_opensAtMost .store t hfree (setCal_opensNone _ s)

theorem orderDispatch_opensAtMost (kind : Nat) (t : Take) (s : State) : OpensAtMost t.slot s (orderDispatch kind t s) :=
  match kind with
  | 1 => dispatchSelectProfile_opensAtMost t s
  | 2 => dispatchEngage_opensAtMost t s
  | 3 => dispatchDisengage_opensAtMost t s
  | 4 => dispatchPark_opensAtMost t s
  | 5 => dispatchSetPace_opensAtMost t s
  | 6 => dispatchStop_opensAtMost t s
  | 7 => dispatchSetArm_opensAtMost t s
  | 8 => dispatchSetWater_opensAtMost t s
  | 9 => dispatchClearFault_opensAtMost t s
  | 10 => dispatchCancel_opensAtMost t s
  | 11 => dispatchSetTrace_opensAtMost t s
  | 12 => dispatchLoadCalibration_opensAtMost t s
  | 13 => dispatchStoreCalibration_opensAtMost t s
  | 14 => dispatchFetchCalibration_opensAtMost t s
  | 0 | _ + 15 => refused_opensAtMost t .refusedKind t.kind s

end Sys2Proof.Machine

namespace Sys2Proof.Machine

/-! ### The canonical memories and the open-orders law (R148, R155, R169) -/

/-- The reports of an expiry open no order. -/
theorem reportsAfter_opensNone (rs : List Report) {s u : State} {blocks : List Block} (h : SameBut blocks s u)
    (hxmem : blocks.contains .xmem = false) (horders : blocks.contains .orders = false) :
    OpensNone s (reportBatch rs u) :=
  (h.opensNone hxmem horders).trans (reportBatch_opensNone rs u)

theorem travelExpiry_opensNone (now : State) (g : Governor) (rs : List Report) (s : State) :
    OpensNone s (reportBatch rs (s.withSpeed now g)) :=
  reportsAfter_opensNone rs (setGov_sameBut s _) rfl rfl

theorem waterExpiry_opensNone (w : WaterControl) (rs : List Report) (s : State) :
    OpensNone s (reportBatch rs (s.setWatc w)) :=
  (setWatc_opensNone w s).trans (reportBatch_opensNone rs _)

/-- The ends of a wait that the travel expiries bring (R48, R49). -/
theorem paceArrival_opensNone (s : State) : OpensNone s (paceArrival s) := by
  unfold paceArrival
  split
  · exact .ite (arrive_opensNone _ _ s)
  · exact .refl s

theorem paceTimeout_opensNone (s : State) : OpensNone s (paceTimeout s) := by
  unfold paceTimeout
  split
  · exact .ite (endTravelWait_opensNone _ _ s)
  · exact .refl s

theorem stopTimeout_opensNone (s : State) : OpensNone s (stopTimeout s) := by
  unfold stopTimeout
  split
  · exact .ite (stopTest_opensNone _ _ s)
  · exact .refl s

theorem primeTimeout_opensNone (s : State) : OpensNone s (primeTimeout s) := by
  have hwater (w : WaterControl) (u : State) : OpensNone u (handWater (u.setWatc w)) := .of_same (by simp) (by simp)
  exact .ite ((hwater _ s).trans (reportBatch_opensNone _ _))

/-- A mode check opens no order, or restarts the controller (R17, R22). -/
theorem modeCheck_opensNone_or_restarts (s : State) : OpensNone s (modeCheck s) ∨ modeCheck s = doRestart s := by
  by_cases hwakes : s.modc.mode = .parked ∧ (s.modc.wake = .waking ∧ 20 ≤ s.since s.modc.wakeTime) ∧ s.modc.restartPending
  · obtain ⟨hmode, hwake, hrestart⟩ := hwakes
    unfold modeCheck wakingCheck
    simp only [hmode]
    rw [if_pos hwake, if_pos hrestart]
    exact .inr rfl
  · exact .inl (modeCheck_opensNone hwakes)

/-- A write to RESTART opens no order, or restarts the controller (R22, R159). -/
theorem writeRestart_opensNone_or_restarts (v : Word) (s : State) :
    OpensNone s (writeRestart v s) ∨ writeRestart v s = doRestart s := by
  unfold writeRestart restartRequest
  split
  · split
    · exact .inl (.refl s)
    · split
      · exact .inl ((wakeSource_sameBut true s).opensNone rfl rfl)
      · exact .inl (setModc_opensNone _ s)
    · exact .inr rfl
  · exact .inl (.refl s)

/-! #### Every command but the orders' -/

/-- A command's effect opens no order, where its act opens none. -/
theorem whenLive_opensNone {f : State → State} {s : State} (h : OpensNone s (f s)) : OpensNone s (whenLive f s) :=
  whenLive_keeps (P := OpensNone s) (fun _ => h) (.refl s)

theorem whenRunning_opensNone {f : State → State} {s : State} (h : OpensNone s (f s)) : OpensNone s (whenRunning f s) :=
  whenRunning_keeps (P := OpensNone s) (fun _ => h) (.refl s)

/-- A command that takes no order opens none, restarts the controller, or is the cold reset. -/
theorem effect_opensNone {c : Instr} (hc : takesOrders c = false) (s : State) :
    OpensNone s (effect c s) ∨ effect c s = doRestart s ∨ ∃ cause, c = .coldReset cause := by
  have hsame := effect_sameBut c s
  cases c
  case coldReset cause => exact .inr (.inr ⟨cause, rfl⟩)
  case restart v =>
    refine (whenLive_keeps (P := fun t => OpensNone s t ∨ t = doRestart s) (f := writeRestart v)
      (fun _ => writeRestart_opensNone_or_restarts v s) (.inl (.refl s))).imp_right .inl
  case modeCheck =>
    refine (whenRunning_keeps (P := fun t => OpensNone s t ∨ t = doRestart s) (f := modeCheck)
      (fun _ => modeCheck_opensNone_or_restarts s) (.inl (.refl s))).imp_right .inl
  case check v => exact .inl (whenLive_opensNone (writeCheck_opensNone v s))
  case hostMemoryWrite a v => exact .inl (whenLive_opensNone (f := xwrite a.toNat v) (xwrite_opensNone _ v s))
  case startupLoadDone => exact .inl (whenLive_opensNone (startupLoad_opensNone s))
  case storePageReady => exact .inl (whenLive_opensNone (pageReady_opensNone s))
  case storePageTimeout => exact .inl (whenLive_opensNone (f := pageTimeout) (.ite (finishStore_opensNone _ _ s)))
  case fetchReadDone => exact .inl (whenLive_opensNone (fetchDone_opensNone s))
  case settleTimerExpiry =>
    exact .inl (whenRunning_opensNone (f := settleExpiry) (.ite ((setModc_opensNone _ s).trans (reachSweeping_opensNone _))))
  case engageBudgetExpiry =>
    exact .inl (whenRunning_opensNone (f := budgetExpiry)
      (.ite ((phaseProgress_opensNone s).trans (budgetTest_opensNone _ _))))
  case travelStep => exact .inl (whenRunning_opensNone (travelStep_opensNone s))
  case wheelDisagreeTimeout => exact .inl (whenRunning_opensNone (f := disagreeTimeout) (.ite (travelExpiry_opensNone _ _ _ s)))
  case wheelLossTimeout w => exact .inl (whenRunning_opensNone (f := lossTimeout w) (.ite (travelExpiry_opensNone _ _ _ s)))
  case wheelSilenceTimeout => exact .inl (whenRunning_opensNone (f := silenceTimeout) (.ite (travelExpiry_opensNone _ _ _ s)))
  case overspeedTimeout => exact .inl (whenRunning_opensNone (f := overspeedTimeout) (.ite (travelExpiry_opensNone _ _ _ s)))
  case operatorAbsentTimeout =>
    exact .inl (whenRunning_opensNone (f := operatorTimeout) (.ite (travelExpiry_opensNone _ _ _ s)))
  case paceArrival => exact .inl (whenRunning_opensNone (paceArrival_opensNone s))
  case paceTimeout => exact .inl (whenRunning_opensNone (paceTimeout_opensNone s))
  case stopTimeout => exact .inl (whenRunning_opensNone (stopTimeout_opensNone s))
  case armStep => exact .inl (whenRunning_opensNone (armStep_opensNone s))
  case armStuckTimeout a => exact .inl (whenRunning_opensNone (f := stuckTimeout a) (excludeDue_opensNone a _ s))
  case angleLossTimeout d => exact .inl (whenRunning_opensNone (f := angleTimeout d.arm) (excludeDue_opensNone d.arm _ s))
  case deflectLongTimeout d => exact .inl (whenRunning_opensNone (f := deflectTimeout d.arm) (excludeDue_opensNone d.arm _ s))
  case brushStallTimeout a => exact .inl (whenRunning_opensNone (f := stallTimeout a) (excludeDue_opensNone a _ s))
  case brushSilenceTimeout a => exact .inl (whenRunning_opensNone (f := brushSilenceTimeout a) (excludeDue_opensNone a _ s))
  case deflectReturn d => exact .inl (whenRunning_opensNone (f := deflectReturn d.arm) (.ite (timedMove_opensNone d.arm s)))
  case hoverReached d => exact .inl (whenRunning_opensNone (f := hoverReached d.arm) (.ite (timedMove_opensNone d.arm s)))
  case outRaiseEnd a => exact .inl (whenRunning_opensNone (outRaiseEnd_opensNone a s))
  case setArmTimeout a => exact .inl (whenRunning_opensNone (setArmTimeout_opensNone a s))
  case waterStep => exact .inl (whenRunning_opensNone (waterStep_opensNone s))
  case primeTimeout => exact .inl (whenRunning_opensNone (primeTimeout_opensNone s))
  case dryRunTimeout => exact .inl (whenRunning_opensNone (f := dryRunTimeout) (.ite (waterExpiry_opensNone _ _ s)))
  case flowLossTimeout => exact .inl (whenRunning_opensNone (f := flowLossTimeout) (.ite (waterExpiry_opensNone _ _ s)))
  case tankLossTimeout => exact .inl (whenRunning_opensNone (f := tankLossTimeout) (.ite (waterExpiry_opensNone _ _ s)))
  case loadStep => exact .inl (whenRunning_opensNone (loadStep_opensNone s))
  case engineLossTimeout =>
    exact .inl (whenRunning_opensNone (f := engineLossTimeout)
      (.ite ((setLoadm_opensNone _ s).trans (reportBatch_opensNone _ _))))
  case hostCheckExpiry => exact .inl (whenLive_opensNone (checkExpiry_opensNone s))
  case statusPublication =>
    exact .inl (whenLive_opensNone (f := fun s => if s.tma.stripRunning then publish s else s) (.ite (publish_opensNone s)))
  case tracePeriodExpiry =>
    exact .inl (whenLive_opensNone (f := tracePeriod) (.ite ((setTma_opensNone _ s).trans (writeTrace_opensNone _))))
  case captureRawChange ch level us => exact .inl (captureRaw_opensNone ch level us s)
  case captureEdgeAccepted ch us =>
    exact .inl (whenLive_opensNone (f := fun s => if s.captures then judgeEdge ch (s.instant us) s else s)
      (.ite (judgeEdge_opensNone ch _ s)))
  all_goals first
    | exact Bool.noConfusion hc
    | exact .inl (hsame.opensNone rfl rfl)

/-! #### The restart and the cold reset -/

/-- The state in which a restart's own notices are sent: no order open, the cursor at 0, exchange memory canonical if it was (R154). -/
theorem restarted_orders (s : State) : (restarted s).orders.entries = [] ∧ (restarted s).orders.cursor = 0 := by
  simp [restarted, restartModc, restartBlocks, restartOrders]

theorem restarted_xmemWf {s : State} (h : s.xmemWf) : (restarted s).xmemWf := by
  have horders : (restartOrders (outputsOff s)).xmemWf := (endEntries_opensNone .restarted 0 _ (outputsOff s)).wf h
  have hmodc (u : State) : OpensNone u (restartModc u) := .of_same rfl rfl
  have hloadm (u : State) (l : LoadManager) : OpensNone u (u.setLoadm l) := .of_same rfl rfl
  have hwater (u : State) (c : CalLoader) (g : Governor) (w : WaterControl) : OpensNone u (((u.setCal c).setGov g).setWatc w) :=
    .of_same rfl rfl
  have harms (f : Arm → ArmRecord → ArmRecord) (u : State) : OpensNone u (deriveArms (mapArms f u)) :=
    .of_same (by simp) (by simp)
  have hcheck (u : State) : OpensNone u (disarmCheck u) := .of_same rfl rfl
  have htrace (x : Trace) (u : State) : OpensNone u (setTrace x u) := .of_same rfl rfl
  have hblocks (u : State) : OpensNone u (restartBlocks u) :=
    (((((((((hwater u _ _ _).trans (hloadm _ _)).trans (endIf_opensNone _ _ _)).trans (harms _ _)).trans
      (armConditionEnd_opensNone _ _)).trans (armConditionEnd_opensNone _ _)).trans (hcheck _)).trans
      (conditionEnd_opensNone _ _)).trans (htrace _ _))
  exact (hmodc _).wf ((hblocks _).wf horders)

/-- The notices of a restart open no order. -/
theorem doRestart_opensNone (s : State) : OpensNone (restarted s) (doRestart s) := by
  have hstow (u : State) : OpensNone u (stowRequests u) := .of_same rfl rfl
  rw [doRestart_eq]
  exact ((hstow _).trans (sendNotices_opensNone _ _ _)).trans (raiseIf_opensNone _ _ _)

theorem doRestart_xmemWf {s : State} (h : s.xmemWf) : (doRestart s).xmemWf :=
  (doRestart_opensNone s).wf (restarted_xmemWf h)

theorem doRestart_entries (s : State) : (doRestart s).orders.entries = [] := by
  have hsub := (doRestart_opensNone s).entries
  rw [(restarted_orders s).1] at hsub
  exact List.sublist_nil.mp hsub

theorem doRestart_cursor (s : State) : (doRestart s).orders.cursor = 0 := by
  rw [(doRestart_opensNone s).cursor, (restarted_orders s).2]

/-- Exchange memory after a cold reset is canonical: the defaults of profile 0 written over zeros (R154). -/
theorem resetMemory_wf : Memory.wf (word 0) Config.xmemWords resetMemory = true := by decide +kernel

theorem coldReset_xmemWf (cause : ResetCause) (s : State) : (coldReset cause s).xmemWf := resetMemory_wf

/-! #### Exchange memory stays canonical -/

theorem takeOrder_opensAtMost (kind : Nat) (o : Order) (s : State) :
    OpensAtMost s.orders.cursor (advanceCursor s) (takeOrder kind o s) :=
  orderDispatch_opensAtMost kind (noteTake kind o s) (advanceCursor s)

theorem OpensAtMost.wf {slot : Nat} {s t : State} (h : OpensAtMost slot s t) (hs : s.xmemWf) : t.xmemWf := by
  obtain h | h := h
  · exact h.wf hs
  · exact h.wf hs

/-- No command takes exchange memory out of its canonical form. -/
theorem effect_xmemWf (c : Instr) (s : State) (hs : s.xmemWf) : (effect c s).xmemWf := by
  refine effect_keeps (P := State.xmemWf) (fun u hu => ?stall) (fun kind o u _ hu => ?take) (fun k o u _ hu => ?unknown)
    (fun c u hc hu => ?rest) c s hs
  case stall =>
    rw [State.xmemWf, (stallScan_sameBut u).same .xmem rfl]
    exact hu
  case take => exact (takeOrder_opensAtMost kind o u).wf hu
  case unknown => exact (completeNow_opensNone _ _ _ _).wf (s := advanceCursor u) hu
  case rest =>
    obtain h | h | ⟨cause, rfl⟩ := effect_opensNone hc u
    · exact h.wf hu
    · rw [h]
      exact doRestart_xmemWf hu
    · exact coldReset_xmemWf cause u

/-! #### The EEPROM and the page of a store -/

/-- The cells stay canonical, and the page a store is at, and the write in progress, lie in the device (R169). -/
def State.deviceInv (s : State) : Prop :=
  Memory.wf 0xFFFF Config.eepromWords s.eeprom.cells = true ∧ s.cal.page ≤ 33 ∧
    ∀ base ws, s.eeprom.inFlight = some (base, ws) → base + ws.length ≤ Config.eepromWords

/-- The law speaks of the device and of the page of a store alone. -/
theorem State.deviceInv.congr {s t : State} (h : s.deviceInv) (heeprom : t.eeprom = s.eeprom) (hpage : t.cal.page = s.cal.page) :
    t.deviceInv := by
  unfold State.deviceInv
  rw [heeprom, hpage]
  exact h

/-- A command whose frame lists neither the EEPROM nor the loader keeps the law. -/
theorem State.deviceInv.of_sameBut {blocks : List Block} {s t : State} (h : s.deviceInv) (hsame : SameBut blocks s t)
    (heeprom : blocks.contains .eeprom = false) (hcal : blocks.contains .cal = false) : t.deviceInv :=
  h.congr (hsame.same .eeprom heeprom) (congrArg CalLoader.page (hsame.same .cal hcal))

/-- The law is kept by a store that turns to an earlier or the same page. -/
theorem State.deviceInv.of_page {s t : State} (h : s.deviceInv) (heeprom : t.eeprom = s.eeprom) (hpage : t.cal.page ≤ 33) :
    t.deviceInv := by
  unfold State.deviceInv
  rw [heeprom]
  exact ⟨h.1, hpage, h.2.2⟩

/-- Every page a write may name lies in the device. -/
theorem pageOfWrite_le {index : Nat} (h : index ≤ 33) : pageOfWrite index ≤ 32 := by
  unfold pageOfWrite
  split <;> omega

/-- A page write sends at most sixteen words (R169). -/
theorem pageWords_length_le (buffer : List Word) (index : Nat) : (pageWords buffer index).length ≤ 16 := by
  unfold pageWords
  dsimp only
  split <;> simp

theorem pageTransferDone_deviceInv {s : State} (h : s.deviceInv) : (pageTransferDone s).deviceInv := by
  obtain ⟨hcells, hpage, hflight⟩ := h
  unfold pageTransferDone
  split
  case isFalse => exact ⟨hcells, hpage, hflight⟩
  case isTrue =>
    refine ⟨hcells, hpage, fun base ws hsome => ?_⟩
    obtain ⟨rfl, rfl⟩ := Prod.mk.inj (Option.some.inj hsome)
    have hindex := pageOfWrite_le hpage
    have hlength := pageWords_length_le s.cal.buffer s.cal.page
    have hsize : Config.eepromWords = 4096 := rfl
    omega

/-- The end of the device's internal write keeps the cells canonical (R169). -/
theorem Eeprom.ready_wf {e : Eeprom} (hcells : Memory.wf 0xFFFF Config.eepromWords e.cells = true)
    (hflight : ∀ base ws, e.inFlight = some (base, ws) → base + ws.length ≤ Config.eepromWords) :
    Memory.wf 0xFFFF Config.eepromWords e.ready.cells = true ∧ ∀ base ws, e.ready.inFlight ≠ some (base, ws) := by
  unfold Eeprom.ready
  split
  case h_1 hnone => exact ⟨hcells, fun base ws => by simp [hnone]⟩
  case h_2 base ws hsome =>
    exact ⟨memory_writeList_wf _ _ _ _ _ hcells (hflight base ws hsome), fun _ _ => by simp⟩

@[simp] theorem finishStore_page (r : Result) (detail : Nat) (s : State) : (finishStore r detail s).cal.page = s.cal.page := by
  unfold finishStore
  dsimp only
  split <;> simp

@[simp] theorem finishStore_eeprom (r : Result) (detail : Nat) (s : State) : (finishStore r detail s).eeprom = s.eeprom := by
  unfold finishStore
  dsimp only
  split <;> simp

theorem pageReady_deviceInv {s : State} (h : s.deviceInv) : (pageReady s).deviceInv := by
  obtain ⟨hcells, hpage, hflight⟩ := h
  obtain ⟨hready, hidle⟩ := Eeprom.ready_wf hcells hflight
  have hdevice : (s.setEeprom s.eeprom.ready).deviceInv := ⟨hready, hpage, fun base ws hsome => absurd hsome (hidle base ws)⟩
  unfold pageReady
  dsimp only
  split
  · split
    · exact hdevice.congr (finishStore_eeprom _ _ _) (finishStore_page _ _ _)
    · exact hdevice.of_page rfl (by simp only [State.setCal_cal]; omega)
  · exact hdevice

theorem pageTimeout_deviceInv {s : State} (h : s.deviceInv) : (pageTimeout s).deviceInv := by
  unfold pageTimeout
  split
  · exact h.congr (finishStore_eeprom _ _ _) (finishStore_page _ _ _)
  · exact h

theorem fetchDone_page (s : State) : (fetchDone s).cal.page = s.cal.page := by
  unfold fetchDone writeArea
  dsimp only
  repeat' split
  · simp
  · simp
  · rfl

theorem startupLoad_page (s : State) : (startupLoad s).cal.page = s.cal.page := by
  have hends (u : State) : (loadEnds u).cal.page = u.cal.page := rfl
  by_cases hop : s.cal.op = .loading
  · by_cases ho : (readImage s).1 = .valid
    · rw [startupLoad_valid hop ho, hends]
      simp [installImage, writeArea]
    · rw [startupLoad_defaults hop ho, hends]
      simp [installDefaults, writeArea]
  · rw [startupLoad_other hop]

theorem doRestart_page (s : State) : (doRestart s).cal.page = 0 := by
  have hcal : (doRestart s).cal = restartCal s.cal := by
    simp [doRestart_eq, restarted, restartModc, restartBlocks, restartOrders]
  rw [hcal]
  rfl

theorem doRestart_deviceInv {s : State} (h : s.deviceInv) : (doRestart s).deviceInv :=
  h.of_page ((doRestart_sameBut s).same .eeprom rfl) (by rw [doRestart_page]; omega)

theorem writeRestart_deviceInv (v : Word) {s : State} (h : s.deviceInv) : (writeRestart v s).deviceInv := by
  unfold writeRestart restartRequest
  repeat' split
  · exact h
  · exact h.of_sameBut (wakeSource_sameBut true s) rfl rfl
  · exact h
  · exact doRestart_deviceInv h
  · exact h

theorem modeCheck_deviceInv {s : State} (h : s.deviceInv) : (modeCheck s).deviceInv := by
  by_cases hwakes : s.modc.mode = .parked ∧ (s.modc.wake = .waking ∧ 20 ≤ s.since s.modc.wakeTime) ∧ s.modc.restartPending
  · obtain ⟨hmode, hwake, hrestart⟩ := hwakes
    have hcheck : modeCheck s = doRestart s := by
      unfold modeCheck wakingCheck
      simp only [hmode]
      rw [if_pos hwake, if_pos hrestart]
    rw [hcheck]
    exact doRestart_deviceInv h
  · exact h.of_sameBut (modeCheck_sameBut_of_no_restart hwakes) rfl rfl

theorem tick_deviceInv {s : State} (h : s.deviceInv) : (tick s).deviceInv := by
  unfold tick
  split
  · exact h
  · exact h

/-- A store that begins is at its first page; the other orders leave the page (R168 to R170). -/
@[simp] theorem installArea_page (s : State) : (installArea s).cal.page = s.cal.page := by
  simp [installArea, clearTrims]

theorem dispatchLoadCalibration_page (t : Take) (s : State) : (dispatchLoadCalibration t s).cal.page = s.cal.page := by
  unfold dispatchLoadCalibration
  repeat' split
  · simp
  · simp
  · simp
  · simp

theorem dispatchFetchCalibration_page (t : Take) (s : State) : (dispatchFetchCalibration t s).cal.page = s.cal.page := by
  unfold dispatchFetchCalibration beginFetch
  repeat' split
  · simp
  · simp
  · simp
  · simp

theorem dispatchStoreCalibration_page (t : Take) {s : State} (h : s.cal.page ≤ 33) :
    (dispatchStoreCalibration t s).cal.page ≤ 33 := by
  have hbegin : (beginStore t s).cal.page = 0 := rfl
  unfold dispatchStoreCalibration
  repeat' split
  · simpa using h
  · simpa using h
  · simpa using h
  · simpa using h
  · simp [hbegin]

theorem orderDispatch_page (kind : Nat) (t : Take) {s : State} (h : s.cal.page ≤ 33) :
    (orderDispatch kind t s).cal.page ≤ 33 := by
  have hdispatch := orderDispatch_sameBut kind t s
  have hsame {blocks : List Block} {u : State} (hu : SameBut blocks s u) (hb : blocks.contains .cal = false) :
      u.cal.page ≤ 33 := by
    rw [hu.same .cal hb]
    exact h
  match kind with
  | 4 => exact (congrArg CalLoader.page (dispatchPark_cal t s)).trans_le h
  | 12 => exact (dispatchLoadCalibration_page t s).trans_le h
  | 13 => exact dispatchStoreCalibration_page t h
  | 14 => exact (dispatchFetchCalibration_page t s).trans_le h
  | 0 | 1 | 2 | 3 | 5 | 6 | 7 | 8 | 9 | 10 | 11 | _ + 15 => exact hsame hdispatch rfl

/-- The taking of an order keeps the device and at most turns a store to its first page (R169). -/
theorem takeOrder_deviceInv (kind : Nat) (o : Order) {s : State} (h : s.deviceInv) : (takeOrder kind o s).deviceInv := by
  have hdispatch := orderDispatch_sameBut kind (noteTake kind o s) (advanceCursor s)
  have htaken : (advanceCursor s).deviceInv := h
  have heeprom : (takeOrder kind o s).eeprom = s.eeprom := by
    match kind with
    | 0 | 1 | 2 | 3 | 4 | 5 | 6 | 7 | 8 | 9 | 10 | 11 | 12 | 13 | 14 | _ + 15 => exact hdispatch.same .eeprom rfl
  exact h.of_page heeprom (orderDispatch_page kind _ htaken.2.1)

/-- No command takes the EEPROM out of its canonical form, or a page write out of the EEPROM. -/
theorem effect_deviceInv (c : Instr) (s : State) (hs : s.deviceInv) : (effect c s).deviceInv := by
  refine effect_keeps (P := State.deviceInv) (fun u hu => hu.of_sameBut (stallScan_sameBut u) rfl rfl)
    (fun kind o u _ hu => takeOrder_deviceInv kind o hu) (fun k o u _ hu => hu.of_sameBut (takeUnknown_sameBut k o u) rfl rfl)
    (fun c u hc hu => ?rest) c s hs
  have hsame := effect_sameBut c u
  cases c
  case coldReset cause => exact hu.of_page rfl (Nat.zero_le 33)
  case restart v => exact whenLive_keeps (writeRestart_deviceInv v) hu
  case modeCheck => exact whenRunning_keeps modeCheck_deviceInv hu
  case startupLoadDone =>
    exact hu.congr (hsame.same .eeprom rfl) (whenLive_keeps (P := fun t => t.cal.page = u.cal.page)
      (f := startupLoad) (fun _ => startupLoad_page u) rfl)
  case fetchReadDone =>
    exact hu.congr (hsame.same .eeprom rfl) (whenLive_keeps (P := fun t => t.cal.page = u.cal.page)
      (f := fetchDone) (fun _ => fetchDone_page u) rfl)
  case storePageTransferDone => exact whenLive_keeps pageTransferDone_deviceInv hu
  case storePageReady => exact whenLive_keeps pageReady_deviceInv hu
  case storePageTimeout => exact whenLive_keeps pageTimeout_deviceInv hu
  all_goals first
    | exact Bool.noConfusion hc
    | exact hu.of_sameBut hsame rfl rfl

/-- Settles O5: words are written into exchange memory one by one in place, and into the EEPROM a page at a time, each page within
the device. -/
theorem memoryStaysCanonical : Obligations.MemoryStaysCanonical := by
  intro s t hs hstep
  have hxmem (u : State) (h : u.xmemWf) : (tick u).xmemWf := by
    rw [State.xmemWf, (tick_sameBut u).same .xmem rfl]
    exact h
  obtain ⟨hwf, hdevice⟩ := hs
  exact ⟨step_keeps hxmem (fun _ _ h => h) effect_xmemWf hwf hstep,
    step_keeps (P := State.deviceInv) (fun _ => tick_deviceInv) (fun _ _ h => h) effect_deviceInv hdevice hstep⟩

/-! #### One open order per target, none on one slot -/

/-- The law of R148 for a list of entries and a cursor. -/
theorem State.ordersInv.of_opensNone {s t : State} (h : s.ordersInv) (ht : OpensNone s t) : t.ordersInv := by
  obtain ⟨htargets, hslots, hcursor, hbound⟩ := h
  exact ⟨htargets.sublist (ht.entries.map _), hslots.sublist (ht.entries.map _), by rw [ht.cursor]; exact hcursor,
    fun e he => hbound e (ht.entries.subset he)⟩

/-- The opening of an order on a slot that no entry names keeps the law. -/
theorem State.ordersInv.of_opensOne {s t : State} {slot : Nat} (h : s.ordersInv) (hslot : slot < 32)
    (hfree : ∀ e ∈ s.orders.entries, e.slot ≠ slot) (ht : OpensOne slot s t) : t.ordersInv := by
  obtain ⟨htargets, hslots, hcursor, hbound⟩ := h
  obtain ⟨es, e, hentries, hsub, heslot, hnew⟩ := ht.entries
  have hother := hnew htargets
  unfold State.ordersInv
  rw [hentries, ht.cursor]
  simp only [List.map_append, List.map_cons, List.map_nil, List.nodup_append, List.mem_map, List.mem_append, List.mem_singleton]
  refine ⟨⟨htargets.sublist (hsub.map _), List.nodup_singleton _, ?_⟩, ⟨hslots.sublist (hsub.map _), List.nodup_singleton _, ?_⟩,
    hcursor, ?_⟩
  · rintro _ ⟨x, hx, rfl⟩ _ rfl
    exact hother x hx
  · rintro _ ⟨x, hx, rfl⟩ _ rfl
    rw [heslot]
    exact hfree x (hsub.subset hx)
  · rintro x (hx | rfl)
    · exact hbound x (hsub.subset hx)
    · rw [heslot]
      exact hslot

/-- The cursor's step keeps the law (R145). -/
theorem advanceCursor_ordersInv {s : State} (h : s.ordersInv) : (advanceCursor s).ordersInv := by
  obtain ⟨htargets, hslots, hcursor, hbound⟩ := h
  exact ⟨htargets, hslots, Nat.mod_lt _ (by decide), hbound⟩

theorem takeOrder_ordersInv (kind : Nat) (o : Order) {s : State} (hnamed : s.slotNamed s.orders.cursor = false)
    (h : s.ordersInv) : (takeOrder kind o s).ordersInv := by
  have htaken := advanceCursor_ordersInv h
  obtain hnone | hone := takeOrder_opensAtMost kind o s
  · exact htaken.of_opensNone hnone
  · refine htaken.of_opensOne h.2.2.1 (fun e he hslot => ?_) hone
    have hfree := List.any_eq_false.mp hnamed e he
    exact hfree (decide_eq_true hslot)

theorem doRestart_ordersInv (s : State) : (doRestart s).ordersInv := by
  unfold State.ordersInv
  rw [doRestart_entries, doRestart_cursor]
  exact ⟨List.nodup_nil, List.nodup_nil, by decide, fun e he => absurd he List.not_mem_nil⟩

theorem stallScan_opensNone (s : State) : OpensNone s (stallScan s) := by
  have hflag : OpensNone s (s.setOrders { s.orders with stall := true }) := ⟨id, List.Sublist.refl _, rfl⟩
  exact hflag.trans (raiseIf_opensNone _ _ _)

/-- No command breaks the law of R148. -/
theorem effect_ordersInv (c : Instr) (s : State) (hs : s.ordersInv) : (effect c s).ordersInv := by
  refine effect_keeps (P := State.ordersInv) (fun u hu => hu.of_opensNone (stallScan_opensNone u))
    (fun kind o u hnamed hu => takeOrder_ordersInv kind o hnamed hu)
    (fun k o u _ hu => (advanceCursor_ordersInv hu).of_opensNone (completeNow_opensNone _ _ _ _)) (fun c u hc hu => ?rest) c s hs
  obtain h | h | ⟨cause, rfl⟩ := effect_opensNone hc u
  · exact hu.of_opensNone h
  · rw [h]
    exact doRestart_ordersInv u
  · exact ⟨List.nodup_nil, List.nodup_nil, Nat.zero_lt_succ 31, fun e he => absurd he List.not_mem_nil⟩

end Sys2Proof.Machine

namespace Sys2Proof.Machine

/-! ### The arms' records and outputs: one rule for each operation (R73, R86, R87) -/

@[simp] theorem ArmControl.get_set (k : ArmControl) (a b : Arm) (r : ArmRecord) :
    (k.set a r).get b = if b = a then r else k.get b := by
  cases a <;> cases b <;> rfl

/-- A move that leaves the arm controller leaves each record. -/
theorem State.arm_congr {s t : State} (h : t.armc = s.armc) (a : Arm) : t.arm a = s.arm a := by
  rw [State.arm, h, State.arm]

@[simp] theorem setArm_arm (a b : Arm) (r : ArmRecord) (s : State) :
    (setArm a r s).arm b = if b = a then r else s.arm b := by
  simp [State.arm, setArm]

@[simp] theorem publishWidth_arm (a : Arm) (s : State) : (publishWidth s).arm a = s.arm a := by
  cases a <;> rfl

@[simp] theorem setArmAndWidth_arm (a b : Arm) (r : ArmRecord) (s : State) :
    (setArmAndWidth a r s).arm b = if b = a then r else s.arm b := by
  simp [setArmAndWidth]

@[simp] theorem mapArms_arm (f : Arm → ArmRecord → ArmRecord) (a : Arm) (s : State) :
    (mapArms f s).arm a = f a (s.arm a) := by
  cases a <;> rfl

@[simp] theorem handRecord_arm (a b : Arm) (motor : Nat) (s : State) : (handRecord a motor s).arm b = s.arm b :=
  State.arm_congr (by simp) b

@[simp] theorem handArmsOff_arm (a : Arm) (s : State) : (handArmsOff s).arm a = s.arm a :=
  State.arm_congr (by simp) a

@[simp] theorem handWater_arm (a : Arm) (s : State) : (handWater s).arm a = s.arm a :=
  State.arm_congr (by simp) a

@[simp] theorem deriveArms_arm (a : Arm) (s : State) :
    (deriveArms s).arm a = deriveRecord (s.input (upInput a)) (s.arm a) := by
  simp [deriveArms]

@[simp] theorem completionNotice_arm (a : Arm) (target : Target) (slot : Nat) (time : BitVec 32) (r : Result) (d : Nat)
    (s : State) : (completionNotice target slot time r d s).arm a = s.arm a :=
  State.arm_congr (by simp) a

@[simp] theorem failWaiting_arm (a b : Arm) (w : Option ArmWait) (d : Nat) (s : State) :
    (failWaiting a w d s).arm b = s.arm b :=
  State.arm_congr (by simp) b

@[simp] theorem conditionEnd_arm (a : Arm) (k : FaultKind) (s : State) : (conditionEnd k s).arm a = s.arm a :=
  State.arm_congr (by simp) a

@[simp] theorem endIf_arm (a : Arm) (b : Bool) (k : FaultKind) (s : State) : (endIf b k s).arm a = s.arm a :=
  State.arm_congr (by simp) a

@[simp] theorem armConditionEnd_arm (a : Arm) (k : FaultKind) (s : State) : (armConditionEnd k s).arm a = s.arm a :=
  State.arm_congr (by simp) a

@[simp] theorem completeMode_arm (a : Arm) (kinds : List Nat) (r : Result) (d : Nat) (s : State) :
    (completeMode kinds r d s).arm a = s.arm a :=
  State.arm_congr (by simp) a

@[simp] theorem stowRequests_arm (a : Arm) (s : State) : (stowRequests s).arm a = { s.arm a with req := .stowed } := by
  simp [stowRequests]

/-! #### The outputs of one arm -/

/-- The four outputs of an arm: its valves, and the duties last handed to its pressure and its motor (R73). -/
structure ArmOuts where
  lower : Bool
  raise : Bool
  press : Nat
  motor : Nat

/-- The outputs of an arm as they stand. -/
def State.armOuts (s : State) (a : Arm) : ArmOuts :=
  ⟨s.tma.outputs.lower a, s.tma.outputs.raise a, (s.tma.outputs.get (pressOutput a)).held,
    (s.tma.outputs.get (motorOutput a)).held⟩

/-- The outputs that follow from a record's state, with a motor duty (R73). -/
def ArmRecord.outs (r : ArmRecord) (motor : Nat) : ArmOuts := ⟨lowerValve r, raiseValve r, r.press, motor⟩

/-- The water outputs: the open groups and the duty last handed to the pump (R90). -/
def State.waterOuts (s : State) : BitVec 8 × Nat := (s.tma.outputs.nozzles, s.tma.outputs.waterPump.held)

/-- The duties last handed to the travel solenoids (R57). -/
def State.travelOuts (s : State) : Nat × Nat := (s.tma.outputs.travelFwd.held, s.tma.outputs.travelRev.held)

theorem State.armOuts_congr {s t : State} (h : t.tma.outputs = s.tma.outputs) (a : Arm) : t.armOuts a = s.armOuts a := by
  rw [State.armOuts, h, State.armOuts]

theorem State.waterOuts_congr {s t : State} (h : t.tma.outputs = s.tma.outputs) : t.waterOuts = s.waterOuts := by
  rw [State.waterOuts, h, State.waterOuts]

theorem State.travelOuts_congr {s t : State} (h : t.tma.outputs = s.tma.outputs) : t.travelOuts = s.travelOuts := by
  rw [State.travelOuts, h, State.travelOuts]

@[simp] theorem handRecord_armOuts (a b : Arm) (motor : Nat) (s : State) :
    (handRecord a motor s).armOuts b = if b = a then (s.arm a).outs motor else s.armOuts b := by
  cases a <;> cases b <;> rfl

@[simp] theorem handRecord_waterOuts (a : Arm) (motor : Nat) (s : State) :
    (handRecord a motor s).waterOuts = s.waterOuts := by
  cases a <;> rfl

@[simp] theorem handRecord_travelOuts (a : Arm) (motor : Nat) (s : State) :
    (handRecord a motor s).travelOuts = s.travelOuts := by
  cases a <;> rfl

@[simp] theorem handArmsOff_armOuts (a : Arm) (s : State) : (handArmsOff s).armOuts a = (s.arm a).outs 0 := by
  cases a <;> simp [handArmsOff]

@[simp] theorem handArmsOff_waterOuts (s : State) : (handArmsOff s).waterOuts = s.waterOuts := by
  simp [handArmsOff]

@[simp] theorem handArmsOff_travelOuts (s : State) : (handArmsOff s).travelOuts = s.travelOuts := by
  simp [handArmsOff]

@[simp] theorem handWater_armOuts (a : Arm) (s : State) : (handWater s).armOuts a = s.armOuts a := by
  cases a <;> rfl

@[simp] theorem handWater_waterOuts (s : State) : (handWater s).waterOuts = (s.watc.openSet, s.watc.duty) := rfl

@[simp] theorem handWater_travelOuts (s : State) : (handWater s).travelOuts = s.travelOuts := rfl

/-! #### A change of mode: each record, and its outputs -/

/-- The waiting order of a record after a mode-change notice (R86). -/
def keptWait (new : Mode) : Option ArmWait → Option ArmWait
  | some w => if new ≠ .parked ∧ w.req = .stowed then some w else none
  | none => none

/-- The switch derivation is due at a notice (R87). -/
def derivesArms (prev new : Mode) : Bool :=
  (decide (new = .transport) || decide (new = .disengaging)) && (decide (prev = .starting) || decide (prev = .parked))

/-- The notice moves the arms (R86, R87), and hands their outputs. -/
def movesArms (prev new : Mode) : Bool :=
  derivesArms prev new || decide (new = .disengaging) || decide (new = .safe) || decide (new = .parked)

/-- A record as the notice of a mode moves it (R86). -/
def movedRecord (new : Mode) (r : ArmRecord) : ArmRecord :=
  match new with
  | .disengaging => raiseRecord r
  | .safe => raiseRecord r
  | .parked => parkRecord r
  | _ => r

/-- A record after a mode-change notice, `up` being its UP input (R86, R87). -/
def noticedRecord (prev new : Mode) (up : Bool) (r : ArmRecord) : ArmRecord :=
  { movedRecord new (if derivesArms prev new then deriveRecord up r else r) with waiting := keptWait new r.waiting }

/-- A record after a change of mode (R2, R86, R87). -/
def changedRecord (prev new : Mode) (up : Bool) (r : ArmRecord) : ArmRecord :=
  noticedRecord prev new up (if stowsOnEntry new then { r with req := .stowed } else r)

theorem noticeWaiting_arm (new : Mode) (a b : Arm) (s : State) :
    (noticeWaiting new a s).arm b = if b = a then { s.arm a with waiting := keptWait new (s.arm a).waiting } else s.arm b := by
  have hcases : (s.arm a).waiting = none ∨ ∃ w, (s.arm a).waiting = some w := by
    cases (s.arm a).waiting
    · exact .inl rfl
    · exact .inr ⟨_, rfl⟩
  unfold noticeWaiting
  obtain hnone | ⟨w, hsome⟩ := hcases
  · have hself : { s.arm a with waiting := none } = s.arm a := by rw [← hnone]
    simp only [hnone, keptWait, hself]
    split
    · next hb => rw [hb]
    · rfl
  · have hself : { s.arm a with waiting := some w } = s.arm a := by rw [← hsome]
    simp only [hsome, keptWait]
    by_cases hparked : new = .parked
    · simp [hparked]
    by_cases hstowed : w.req = .stowed
    · simp only [hparked, hstowed, if_true, if_false, ne_eq, not_false_eq_true, true_and, hself]
      split
      · next hb => rw [hb]
      · rfl
    · simp [hparked, hstowed]

/-- Moving the arms leaves their waiting orders (R86). -/
theorem movedRecord_waiting (new : Mode) (r : ArmRecord) : (movedRecord new r).waiting = r.waiting := by
  have hraise : (raiseRecord r).waiting = r.waiting := by
    unfold raiseRecord enterRaising enterState
    split <;> rfl
  have hpark : (parkRecord r).waiting = r.waiting := by
    unfold parkRecord clearRaiseFlag
    split
    · split <;> rfl
    · rfl
  unfold movedRecord
  split
  · exact hraise
  · exact hraise
  · exact hpark
  · rfl

theorem deriveRecord_waiting (up : Bool) (r : ArmRecord) : (deriveRecord up r).waiting = r.waiting := by
  unfold deriveRecord enterRaising enterState
  split <;> rfl

@[simp] theorem derivedArms_arm (prev new : Mode) (a : Arm) (s : State) :
    (derivedArms prev new s).arm a =
      if derivesArms prev new then deriveRecord (s.input (upInput a)) (s.arm a) else s.arm a := by
  unfold derivedArms derivesArms
  split <;> simp

@[simp] theorem movedArms_arm (new : Mode) (a : Arm) (s : State) : (movedArms new s).arm a = movedRecord new (s.arm a) := by
  unfold movedArms movedRecord
  split <;> simp

theorem armNotice_arm (prev new : Mode) (a : Arm) (s : State) :
    (armNotice prev new s).arm a = noticedRecord prev new (s.input (upInput a)) (s.arm a) := by
  have hwait : (movedRecord new (if derivesArms prev new then deriveRecord (s.input (upInput a)) (s.arm a) else s.arm a)).waiting =
      (s.arm a).waiting := by
    rw [movedRecord_waiting]
    split
    · exact deriveRecord_waiting _ _
    · rfl
  rw [armNotice_eq]
  cases a <;> simp [noticeWaiting_arm, noticedRecord, hwait]

@[simp] theorem govNotice_arm (new : Mode) (a : Arm) (s : State) : (govNotice new s).arm a = s.arm a :=
  State.arm_congr (by simp) a

@[simp] theorem waterNotice_arm (new : Mode) (a : Arm) (s : State) : (waterNotice new s).arm a = s.arm a :=
  State.arm_congr (by simp) a

@[simp] theorem loadNotice_arm (new : Mode) (a : Arm) (s : State) : (loadNotice new s).arm a = s.arm a :=
  State.arm_congr (by simp) a

theorem State.input_congr {s t : State} (h : t.tma.inputs = s.tma.inputs) (i : Input) : t.input i = s.input i := by
  rw [State.input, h, State.input]

theorem sendNotices_arm (prev new : Mode) (a : Arm) (s : State) :
    (sendNotices prev new s).arm a = noticedRecord prev new (s.input (upInput a)) (s.arm a) := by
  have hinput : (govNotice new s).input (upInput a) = s.input (upInput a) := State.input_congr (by simp) _
  simp [sendNotices, armNotice_arm, hinput]

@[simp] theorem modeEntered_arm (new : Mode) (reason : Nat) (a : Arm) (s : State) :
    (modeEntered new reason s).arm a = if stowsOnEntry new then { s.arm a with req := .stowed } else s.arm a := by
  unfold modeEntered
  split
  · exact stowRequests_arm a _
  · rfl

theorem changeMode_arm (new : Mode) (reason : Nat) (a : Arm) (s : State) :
    (changeMode new reason s).arm a = changedRecord s.modc.mode new (s.input (upInput a)) (s.arm a) := by
  have hcause (c : Cause) (u : State) : (raiseCause c u).arm a = u.arm a := rfl
  have hinput : (modeEntered new reason s).input (upInput a) = s.input (upInput a) := State.input_congr (by simp) _
  rw [changeMode_eq, hcause, sendNotices_arm, hinput, modeEntered_arm, changedRecord]

/-- A change of requests alone, or of the waiting order, leaves the outputs that a record calls for. -/
theorem noticedRecord_outs (prev new : Mode) (up : Bool) (r : ArmRecord) (motor : Nat) :
    (noticedRecord prev new up r).outs motor =
      (movedRecord new (if derivesArms prev new then deriveRecord up r else r)).outs motor := rfl

theorem derivedArms_armOuts (prev new : Mode) (a : Arm) (s : State) :
    (derivedArms prev new s).armOuts a =
      if derivesArms prev new then ((derivedArms prev new s).arm a).outs 0 else s.armOuts a := by
  rw [derivedArms_arm]
  unfold derivedArms derivesArms
  split
  · rw [deriveArms, handArmsOff_armOuts, mapArms_arm]
  · rfl

theorem movedArms_armOuts (new : Mode) (a : Arm) (s : State) :
    (movedArms new s).armOuts a =
      if new = .disengaging ∨ new = .safe ∨ new = .parked then ((movedArms new s).arm a).outs 0 else s.armOuts a := by
  have hends (k l : FaultKind) (u : State) : (armConditionEnd k (armConditionEnd l u)).armOuts a = u.armOuts a :=
    State.armOuts_congr (by simp) a
  rw [movedArms_arm]
  unfold movedArms
  cases new <;> simp [hends, movedRecord]

@[simp] theorem noticeWaiting_armOuts (new : Mode) (a b : Arm) (s : State) : (noticeWaiting new a s).armOuts b = s.armOuts b :=
  State.armOuts_congr (by simp) b

/-- The arms' outputs after a mode-change notice: handed, the motors off, where the notice moves the arms (R73, R86). -/
theorem armNotice_armOuts (prev new : Mode) (a : Arm) (s : State) :
    (armNotice prev new s).armOuts a =
      if movesArms prev new then ((armNotice prev new s).arm a).outs 0 else s.armOuts a := by
  rw [armNotice_arm, noticedRecord_outs, armNotice_eq]
  simp only [noticeWaiting_armOuts, movedArms_armOuts, derivedArms_armOuts, movedArms_arm, derivedArms_arm]
  unfold movesArms
  cases new <;> simp [movedRecord]

theorem derivedArms_waterOuts (prev new : Mode) (s : State) :
    (derivedArms prev new s).waterOuts = s.waterOuts ∧ (derivedArms prev new s).travelOuts = s.travelOuts := by
  have hmap (f : Arm → ArmRecord → ArmRecord) (u : State) :
      (mapArms f u).waterOuts = u.waterOuts ∧ (mapArms f u).travelOuts = u.travelOuts := ⟨rfl, rfl⟩
  unfold derivedArms deriveArms
  split
  · simp [hmap]
  · exact ⟨rfl, rfl⟩

theorem movedArms_waterOuts (new : Mode) (s : State) :
    (movedArms new s).waterOuts = s.waterOuts ∧ (movedArms new s).travelOuts = s.travelOuts := by
  have hmap (f : Arm → ArmRecord → ArmRecord) (u : State) :
      (mapArms f u).waterOuts = u.waterOuts ∧ (mapArms f u).travelOuts = u.travelOuts := ⟨rfl, rfl⟩
  have hends (k l : FaultKind) (u : State) : (armConditionEnd k (armConditionEnd l u)).waterOuts = u.waterOuts ∧
      (armConditionEnd k (armConditionEnd l u)).travelOuts = u.travelOuts :=
    ⟨State.waterOuts_congr (by simp), State.travelOuts_congr (by simp)⟩
  unfold movedArms
  split <;> simp [hmap, hends]

theorem armNotice_waterOuts (prev new : Mode) (s : State) :
    (armNotice prev new s).waterOuts = s.waterOuts ∧ (armNotice prev new s).travelOuts = s.travelOuts := by
  have hwait (a : Arm) (u : State) : (noticeWaiting new a u).waterOuts = u.waterOuts ∧
      (noticeWaiting new a u).travelOuts = u.travelOuts :=
    ⟨State.waterOuts_congr (by simp), State.travelOuts_congr (by simp)⟩
  rw [armNotice_eq]
  simp [hwait, movedArms_waterOuts, derivedArms_waterOuts]

/-! #### The water and the governor at a notice (R61, R107) -/

/-- A mode whose notice stops the spray (R107). -/
def stopsSpray : Mode → Bool
  | .engaging | .sweeping | .starting => false
  | _ => true

/-- The water controller after a mode-change notice (R107). -/
def noticedWater (new : Mode) (w : WaterControl) : WaterControl :=
  if stopsSpray new then primeIdle (stopSpray w) else if new = .engaging then primeIdle w else w

theorem waterNotice_watc (new : Mode) (s : State) : (waterNotice new s).watc = noticedWater new s.watc := by
  cases new <;> simp [waterNotice, noticedWater, stopsSpray]

theorem waterNotice_waterOuts (new : Mode) (s : State) :
    (waterNotice new s).waterOuts = if stopsSpray new then (0, 0) else s.waterOuts := by
  cases new <;> rfl

theorem waterNotice_travelOuts (new : Mode) (s : State) : (waterNotice new s).travelOuts = s.travelOuts := by
  cases new <;> rfl

theorem waterNotice_armOuts (new : Mode) (a : Arm) (s : State) : (waterNotice new s).armOuts a = s.armOuts a := by
  cases new <;> cases a <;> rfl

/-- The governor after a mode-change notice (R61). -/
def noticedGov (new : Mode) (g : Governor) : Governor :=
  match new with
  | .safe =>
    { g with
      reqSpeed := 0, reqDir := .neutral, reversePending := false
      waiting := match g.waiting with
        | some w => if w.kind = .setPace then none else some w
        | none => none }
  | .parked => { g with waiting := none }
  | _ => g

theorem govNotice_gov (new : Mode) (s : State) : (govNotice new s).gov = noticedGov new s.gov := by
  cases new
  case safe =>
    cases hwaiting : s.gov.waiting with
    | none => simp [govNotice, noticedGov, hwaiting]
    | some w => by_cases hkind : w.kind = .setPace <;> simp [govNotice, noticedGov, hwaiting, hkind]
  all_goals rfl

/-! #### A change of mode, block by block -/

theorem sendNotices_gov (prev new : Mode) (s : State) : (sendNotices prev new s).gov = noticedGov new s.gov := by
  simp [sendNotices, govNotice_gov]

theorem sendNotices_watc (prev new : Mode) (s : State) : (sendNotices prev new s).watc = noticedWater new s.watc := by
  simp [sendNotices, waterNotice_watc]

theorem sendNotices_armOuts (prev new : Mode) (a : Arm) (s : State) :
    (sendNotices prev new s).armOuts a =
      if movesArms prev new then ((sendNotices prev new s).arm a).outs 0 else s.armOuts a := by
  have hload (u : State) : (loadNotice new u).armOuts a = u.armOuts a := State.armOuts_congr (by simp) a
  have hgov (u : State) : (govNotice new u).armOuts a = u.armOuts a := State.armOuts_congr (by simp) a
  simp only [sendNotices, hload, waterNotice_armOuts, armNotice_armOuts, hgov, loadNotice_arm, waterNotice_arm]

theorem sendNotices_waterOuts (prev new : Mode) (s : State) :
    (sendNotices prev new s).waterOuts = if stopsSpray new then (0, 0) else s.waterOuts := by
  have hload (u : State) : (loadNotice new u).waterOuts = u.waterOuts := State.waterOuts_congr (by simp)
  have hgov (u : State) : (govNotice new u).waterOuts = u.waterOuts := State.waterOuts_congr (by simp)
  simp only [sendNotices, hload, waterNotice_waterOuts, armNotice_waterOuts, hgov]

theorem sendNotices_travelOuts (prev new : Mode) (s : State) : (sendNotices prev new s).travelOuts = s.travelOuts := by
  have hload (u : State) : (loadNotice new u).travelOuts = u.travelOuts := State.travelOuts_congr (by simp)
  have hgov (u : State) : (govNotice new u).travelOuts = u.travelOuts := State.travelOuts_congr (by simp)
  simp only [sendNotices, hload, waterNotice_travelOuts, armNotice_waterOuts, hgov]

theorem changeMode_gov (new : Mode) (reason : Nat) (s : State) : (changeMode new reason s).gov = noticedGov new s.gov := by
  simp [changeMode_eq, sendNotices_gov]

theorem changeMode_watc (new : Mode) (reason : Nat) (s : State) :
    (changeMode new reason s).watc = noticedWater new s.watc := by
  simp [changeMode_eq, sendNotices_watc]

theorem modeEntered_outputs (new : Mode) (reason : Nat) (s : State) :
    (modeEntered new reason s).tma.outputs = s.tma.outputs := by
  simp

theorem changeMode_armOuts (new : Mode) (reason : Nat) (a : Arm) (s : State) :
    (changeMode new reason s).armOuts a =
      if movesArms s.modc.mode new then ((changeMode new reason s).arm a).outs 0 else s.armOuts a := by
  have hcause (c : Cause) (u : State) : (raiseCause c u).armOuts a = u.armOuts a ∧ (raiseCause c u).arm a = u.arm a := ⟨rfl, rfl⟩
  rw [changeMode_eq]
  simp only [hcause, sendNotices_armOuts, State.armOuts_congr (modeEntered_outputs new reason s)]

theorem changeMode_waterOuts (new : Mode) (reason : Nat) (s : State) :
    (changeMode new reason s).waterOuts = if stopsSpray new then (0, 0) else s.waterOuts := by
  have hcause (c : Cause) (u : State) : (raiseCause c u).waterOuts = u.waterOuts := rfl
  rw [changeMode_eq]
  simp only [hcause, sendNotices_waterOuts, State.waterOuts_congr (modeEntered_outputs new reason s)]

@[simp] theorem changeMode_travelOuts (new : Mode) (reason : Nat) (s : State) :
    (changeMode new reason s).travelOuts = s.travelOuts := by
  have hcause (c : Cause) (u : State) : (raiseCause c u).travelOuts = u.travelOuts := rfl
  rw [changeMode_eq]
  simp only [hcause, sendNotices_travelOuts, State.travelOuts_congr (modeEntered_outputs new reason s)]

/-! #### Reports and reactions -/

/-- From a mode of work a stopping notice enters SAFE (R4). -/
theorem enterSafe_of_work {s : State} (h : s.atWork) (k : FaultKind) (halt : Bool) :
    enterSafe k halt s = completeMode [2, 3] .failed k.rank
      ((changeMode .safe k.rank s).setModc
        { (changeMode .safe k.rank s).modc with
          safeStopped := false, haltLatch := (changeMode .safe k.rank s).modc.haltLatch || halt }) := by
  unfold enterSafe
  rcases h with h | h | h | h <;> rw [h]

/-- Elsewhere it at most sets the halt latch (R4). -/
theorem enterSafe_of_rest {s : State} (h : ¬s.atWork) (k : FaultKind) (halt : Bool) :
    enterSafe k halt s =
      if s.modc.mode = .safe then s.setModc { s.modc with haltLatch := s.modc.haltLatch || halt } else s := by
  unfold enterSafe
  unfold State.atWork at h
  split
  · next hmode => rw [if_pos hmode]
  · next hmode => rw [if_neg (by simp [hmode])]
  · next hmode => rw [if_neg (by simp [hmode])]
  · next hsafe hstarting hparked =>
    exact absurd (by cases hmode : s.modc.mode <;> simp_all) h

@[simp] theorem setExclusions_exclusions (x : Exclusions) (s : State) : (setExclusions x s).faults.exclusions = x := rfl

/-- The exclusions after a report: an ARM_OUT kind sets its arm's, a WATER_OUT kind the water's (R125). -/
def Report.latches (r : Report) (x : Exclusions) : Exclusions :=
  match r.kind.cls, r.source with
  | .armOut, .armc a => x.setArm a true
  | .waterOut, _ => { x with water := true }
  | _, _ => x

theorem latchExclusion_exclusions (r : Report) (s : State) :
    (latchExclusion r s).faults.exclusions = r.latches s.faults.exclusions := by
  unfold latchExclusion Report.latches
  split <;> rename_i hcls _ <;> simp [*]

theorem takeReport_exclusions (r : Report) (s : State) :
    (takeReport r s).faults.exclusions = r.latches s.faults.exclusions := by
  have hactive (b : Bool) (x : BitVec 16) (u : State) :
      (if b then u else setActive x u).faults.exclusions = u.faults.exclusions := by
    split
    · rfl
    · simp
  unfold takeReport
  dsimp only
  rw [latchExclusion_exclusions, hactive]
  simp

end Sys2Proof.Machine

namespace Sys2Proof.Machine

/-! ### A relation that the mode check stays in -/

/-- A relation of states that the parts of the mode check keep to: the changes of mode, the completions of the MODE orders, the mode
controller's own registers, the requests of an engage, and the end of a wake. -/
structure AdmitsModeCheck (R : State → State → Prop) : Prop where
  refl : ∀ s, R s s
  trans : ∀ {s t u}, R s t → R t u → R s u
  mode : ∀ new reason s, new ≠ .starting → R s (changeMode new reason s)
  modc : ∀ s (m : ModeControl), m.mode = s.modc.mode → R s (s.setModc m)
  ends : ∀ kinds r d s, R s (completeMode kinds r d s)
  requests : ∀ k s, R s (mapArms (commandArm k) s)
  wakes : ∀ s, R s (disarmCheck (s.setTma { s.tma with stripRunning := true }))

section
variable {R : State → State → Prop}

theorem AdmitsModeCheck.ite (h : AdmitsModeCheck R) {s t : State} {p : Prop} [Decidable p] (ht : R s t) :
    R s (if p then t else s) := by
  split
  · exact ht
  · exact h.refl s

theorem AdmitsModeCheck.enterLowering (h : AdmitsModeCheck R) (s : State) : R s (enterLowering s) :=
  h.trans (h.modc s { s.modc with phase := .lowering, commanded := s.formArmSet } rfl) (h.requests _ _)

theorem AdmitsModeCheck.reachSweeping (h : AdmitsModeCheck R) (s : State) : R s (reachSweeping s) :=
  h.trans (h.mode .sweeping 21 s (by decide)) (h.ends _ _ _ _)

theorem AdmitsModeCheck.endWork (h : AdmitsModeCheck R) (reason detail : Nat) (s : State) : R s (endWork reason detail s) :=
  h.trans (h.mode .disengaging reason s (by decide)) (h.ends _ _ _ _)

theorem AdmitsModeCheck.phaseProgress (h : AdmitsModeCheck R) (s : State) : R s (phaseProgress s) := by
  unfold Machine.phaseProgress
  split
  case h_1 =>
    unfold slowingCheck
    dsimp only
    split
    · have hbudget := h.modc s { s.modc with budget := 0 } rfl
      split
      · exact h.trans hbudget (h.modc _ _ (by rfl))
      · exact h.trans hbudget (h.enterLowering _)
    · exact h.refl s
  case h_2 => exact h.ite (h.enterLowering s)
  case h_3 =>
    have hremaining := h.modc s { s.modc with commanded := s.remainingArms } rfl
    unfold loweringCheck
    dsimp only
    split
    · exact h.trans hremaining (h.modc _ _ (by rfl))
    · exact hremaining
  case h_4 =>
    unfold settlingCheck
    dsimp only
    split
    · exact h.trans (h.modc s _ (by rfl)) (h.reachSweeping _)
    · exact h.modc s _ (by rfl)
  case h_5 => exact h.refl s

theorem AdmitsModeCheck.budgetTest (h : AdmitsModeCheck R) (before : Phase) (s : State) : R s (budgetTest before s) := by
  unfold Machine.budgetTest
  dsimp only
  split
  · have hbudget := h.modc s { s.modc with budget := s.modc.budget + 10 } rfl
    split
    · exact h.trans (h.trans hbudget (h.ends _ _ _ _)) (h.mode .disengaging 22 _ (by decide))
    · exact hbudget
  · exact h.refl s

theorem modeFromSwitches_ne_starting (s : State) : s.modeFromSwitches ≠ .starting := by
  unfold State.modeFromSwitches
  split <;> decide

theorem AdmitsModeCheck.endWake (h : AdmitsModeCheck R) (s : State) : R s (endWake s) :=
  h.trans (h.trans (h.mode _ 26 s (modeFromSwitches_ne_starting s)) (h.modc _ _ (by rfl))) (h.wakes _)

/-- A mode check that no restart waits for. -/
theorem AdmitsModeCheck.modeCheck (h : AdmitsModeCheck R) {s : State}
    (hwakes : ¬(s.modc.mode = .parked ∧ (s.modc.wake = .waking ∧ 20 ≤ s.since s.modc.wakeTime) ∧ s.modc.restartPending)) :
    R s (modeCheck s) := by
  unfold Machine.modeCheck
  split
  case h_1 => exact h.ite (h.mode _ 17 s (modeFromSwitches_ne_starting s))
  case h_2 => exact h.refl s
  case h_3 =>
    unfold engagingCheck
    repeat' split
    · exact h.endWork 23 18 s
    · exact h.endWork 24 19 s
    · exact h.trans (h.phaseProgress s) (h.budgetTest _ _)
  case h_4 =>
    unfold sweepingCheck
    repeat' split
    · exact h.endWork 23 18 s
    · exact h.endWork 24 19 s
    · exact h.refl s
  case h_5 => exact h.ite (h.trans (h.mode .transport 28 s (by decide)) (h.ends _ _ _ _))
  case h_6 => exact h.ite (h.modc s _ (by rfl))
  case h_7 hmode =>
    unfold wakingCheck
    split
    case isTrue hwake =>
      rw [if_neg fun hrestart => hwakes ⟨hmode, hwake, hrestart⟩]
      exact h.endWake s
    case isFalse => exact h.refl s

end

/-- A mode check is a restart, or one that no restart waits for (R17, R22). -/
theorem modeCheck_restarts_or (s : State) : modeCheck s = doRestart s ∨
    ¬(s.modc.mode = .parked ∧ (s.modc.wake = .waking ∧ 20 ≤ s.since s.modc.wakeTime) ∧ s.modc.restartPending) := by
  by_cases hwakes : s.modc.mode = .parked ∧ (s.modc.wake = .waking ∧ 20 ≤ s.since s.modc.wakeTime) ∧ s.modc.restartPending
  · obtain ⟨hmode, hwake, hrestart⟩ := hwakes
    unfold modeCheck wakingCheck
    simp only [hmode]
    rw [if_pos hwake, if_pos hrestart]
    exact .inl rfl
  · exact .inr hwakes

/-- A write to RESTART restarts the controller, wakes it, or is kept for the end of a wake (R22, R159). -/
theorem writeRestart_cases (v : Word) (s : State) :
    writeRestart v s = s ∨ writeRestart v s = wakeSource true s ∨
      writeRestart v s = s.setModc { s.modc with restartPending := true } ∨ writeRestart v s = doRestart s := by
  unfold writeRestart restartRequest
  repeat' split
  · exact .inl rfl
  · exact .inr (.inl rfl)
  · exact .inr (.inr (.inl rfl))
  · exact .inr (.inr (.inr rfl))
  · exact .inl rfl

/-- The end of a settle timer and of an engage budget keep to the relation. -/
theorem AdmitsModeCheck.settleExpiry {R : State → State → Prop} (h : AdmitsModeCheck R) (s : State) : R s (settleExpiry s) :=
  h.ite (h.trans (h.modc s { s.modc with commanded := s.remainingArms } rfl) (h.reachSweeping _))

theorem AdmitsModeCheck.budgetExpiry {R : State → State → Prop} (h : AdmitsModeCheck R) (s : State) : R s (budgetExpiry s) :=
  h.ite (h.trans (h.phaseProgress s) (h.budgetTest _ _))

/-! ### A relation that the taking of an order stays in -/

/-- A relation of states that the parts of every order keep to: those of the mode check, all that leaves the jobs, the timing array and
the faults, and the orders' own acts on these. -/
structure AdmitsOrders (R : State → State → Prop) : Prop extends AdmitsModeCheck R where
  frame : ∀ {s t}, SameBut [.xmem, .port, .publisher, .orders, .cal, .eeprom, .freeReads] s t → R s t
  trace : ∀ x s, R s (setTrace x s)
  profile : ∀ p s, R s ((s.setModc { s.modc with profile := p }).setWatc { s.watc with override := none })
  sleeps : ∀ s, R s (sleepStages s)
  pace : ∀ w speed dir s, R s (setTravelWait w (replaceRequest speed dir s))
  request : ∀ a req w s, s.modc.mode = .sweeping → R s (setArm a { s.arm a with req := req, waiting := some w } s)
  water : ∀ o mask s, R s (s.setWatc { s.watc with override := o, mask := mask })
  holds : ∀ severe s, R s (releaseHold severe s)
  releaseArm : ∀ a s, R s (releaseArm a s)
  releaseWater : ∀ s, R s (releaseWater s)
  install : ∀ s, R s (installArea s)

section
variable {R : State → State → Prop}

theorem AdmitsOrders.completeNow (h : AdmitsOrders R) (t : Take) (r : Result) (d : Nat) {s u : State} (hu : R s u) :
    R s (completeNow t r d u) :=
  h.trans hu (h.frame (completeNow_reach (by decide) t r d u))

theorem AdmitsOrders.refused (h : AdmitsOrders R) (t : Take) (r : Result) (d : Nat) (s : State) :
    R s (Machine.completeNow t r d s) :=
  h.completeNow t r d (h.refl s)

theorem AdmitsOrders.supersede (h : AdmitsOrders R) (target : Target) (t : Take) (s : State) : R s (supersede target t s) :=
  h.frame ((supersede_sameBut target t s).mono (by decide))

theorem AdmitsOrders.openEntry (h : AdmitsOrders R) (target : Target) (t : Take) {s u : State} (hu : R s u) :
    R s (openEntry target t u) :=
  h.trans hu (h.frame ((openEntry_sameBut target t u).mono (by decide)))

theorem AdmitsOrders.completeOn (h : AdmitsOrders R) (target : Target) (t : Take) (r : Result) (d : Nat)
    {effect : State → State} (heffect : ∀ u, R u (effect u)) (s : State) : R s (completeOn target t r d effect s) :=
  h.completeNow t r d (h.trans (h.supersede target t s) (heffect _))

theorem AdmitsOrders.acceptOpen (h : AdmitsOrders R) (target : Target) (t : Take) {effect : State → State} {s : State}
    (heffect : ∀ u, u.modc = s.modc → R u (effect u)) : R s (acceptOpen target t effect s) :=
  h.openEntry target t (h.trans (h.supersede target t s) (heffect _ (by simp)))

theorem AdmitsOrders.dispatchSelectProfile (h : AdmitsOrders R) (t : Take) (s : State) : R s (dispatchSelectProfile t s) := by
  unfold Machine.dispatchSelectProfile
  dsimp only
  split
  · exact h.refused t _ _ s
  split
  · exact h.refused t _ _ s
  · exact h.completeNow t _ _ (h.profile _ s)

theorem AdmitsOrders.dispatchEngage (h : AdmitsOrders R) (t : Take) (s : State) : R s (dispatchEngage t s) := by
  have hengage : R s (Machine.acceptOpen .mode t (changeMode .engaging 18) s) :=
    h.acceptOpen .mode t fun u _ => h.mode .engaging 18 u (by decide)
  unfold Machine.dispatchEngage
  repeat' split
  · exact h.refused t _ _ s
  · exact h.refused t _ _ s
  · exact hengage
  · exact h.acceptOpen .mode t fun u _ => h.refl u
  · exact hengage
  · exact h.refused t _ _ s
  · exact h.refused t _ _ s

theorem AdmitsOrders.dispatchDisengage (h : AdmitsOrders R) (t : Take) (s : State) : R s (dispatchDisengage t s) := by
  have hraise : R s (Machine.acceptOpen .mode t (changeMode .disengaging 19) s) :=
    h.acceptOpen .mode t fun u _ => h.mode .disengaging 19 u (by decide)
  unfold Machine.dispatchDisengage
  split
  · exact hraise
  · exact hraise
  · exact h.acceptOpen .mode t fun u _ => h.refl u
  · exact h.completeOn .mode t .ok 0 h.refl s
  · exact h.refused t _ _ s

theorem AdmitsOrders.enterParked (h : AdmitsOrders R) (s : State) : R s (enterParked s) :=
  h.trans (h.trans (h.mode .parked 20 s (by decide)) (h.modc _ _ (by rfl))) (h.sleeps _)

theorem AdmitsOrders.dispatchPark (h : AdmitsOrders R) (t : Take) (s : State) : R s (dispatchPark t s) := by
  unfold Machine.dispatchPark
  repeat' split
  · exact h.refused t _ _ s
  · exact h.refused t _ _ s
  · exact h.refused t _ _ s
  · exact h.refused t _ _ s
  · exact h.refused t _ _ s
  · exact h.trans (h.refused t _ _ s) (h.enterParked _)

theorem AdmitsOrders.dispatchSetPace (h : AdmitsOrders R) (t : Take) (s : State) : R s (dispatchSetPace t s) := by
  unfold Machine.dispatchSetPace
  dsimp only
  split
  · exact h.refused t _ _ s
  split
  · exact h.refused t _ _ s
  split
  · exact h.refused t _ _ s
  split
  · exact h.completeOn .travel t _ _ (h.pace none _ _) s
  · exact h.acceptOpen .travel t fun u _ => h.pace _ _ _ u

theorem AdmitsOrders.dispatchStop (h : AdmitsOrders R) (t : Take) (s : State) : R s (dispatchStop t s) :=
  h.acceptOpen .travel t fun u _ => h.pace _ 0 .neutral u

theorem AdmitsOrders.dispatchSetArm (h : AdmitsOrders R) (t : Take) (s : State) : R s (dispatchSetArm t s) := by
  unfold Machine.dispatchSetArm
  split
  · exact h.refused t _ _ s
  split
  · exact h.refused t _ _ s
  split
  · exact h.refused t _ _ s
  split
  · exact h.refused t _ _ s
  split
  · exact h.refused t _ _ s
  · next hmode _ =>
    exact h.acceptOpen _ t fun u hu => h.request _ _ _ u (by rw [hu]; exact not_not.mp hmode)

theorem AdmitsOrders.dispatchSetWater (h : AdmitsOrders R) (t : Take) (s : State) : R s (dispatchSetWater t s) := by
  unfold Machine.dispatchSetWater
  dsimp only
  split
  · exact h.refused t _ _ s
  split
  · exact h.refused t _ _ s
  split
  · exact h.refused t _ _ s
  · exact h.completeNow t _ _ (h.water _ _ s)

theorem AdmitsOrders.releaseHolds (h : AdmitsOrders R) (which : Nat) (s : State) : R s (releaseHolds which s) := by
  have hfirst : R s (if which = 1 then s else releaseHold false s) := by
    split
    · exact h.refl s
    · exact h.holds false s
  have hsecond (u : State) : R u (if which = 0 then u else releaseHold true u) := by
    split
    · exact h.refl u
    · exact h.holds true u
  exact h.trans hfirst (hsecond _)

theorem AdmitsOrders.releaseExclusions (h : AdmitsOrders R) (s : State) : R s (releaseExclusions s) :=
  h.trans (h.trans (h.trans (h.releaseArm .left s) (h.releaseArm .right _)) (h.releaseArm .main _)) (h.releaseWater _)

theorem AdmitsOrders.leaveSafe (h : AdmitsOrders R) (s : State) : R s (leaveSafe s) :=
  h.ite (h.trans (h.mode .transport 25 s (by decide)) (h.modc _ _ (by rfl)))

theorem AdmitsOrders.dispatchClearFault (h : AdmitsOrders R) (t : Take) (s : State) : R s (dispatchClearFault t s) := by
  have hrelease (flag : Nat) (u : State) : R u (if flag = 1 then Machine.releaseExclusions u else u) :=
    h.ite (h.releaseExclusions u)
  unfold Machine.dispatchClearFault
  dsimp only
  split
  · exact h.refused t _ _ s
  split
  · exact h.refused t _ _ s
  · exact h.completeNow t _ _ (h.trans (h.trans (h.releaseHolds _ s) (hrelease _ _)) (h.leaveSafe _))

theorem AdmitsOrders.dispatchCancel (h : AdmitsOrders R) (t : Take) (s : State) : R s (dispatchCancel t s) :=
  h.frame ((dispatchCancel_sameBut t s).mono (by decide))

theorem AdmitsOrders.dispatchSetTrace (h : AdmitsOrders R) (t : Take) (s : State) : R s (dispatchSetTrace t s) := by
  unfold Machine.dispatchSetTrace
  dsimp only
  split
  · exact h.refused t _ _ s
  split
  · exact h.refused t _ _ s
  split
  · exact h.completeNow t _ _ (h.trace _ s)
  · exact h.completeNow t _ _ (h.trace _ s)

theorem AdmitsOrders.dispatchLoadCalibration (h : AdmitsOrders R) (t : Take) (s : State) :
    R s (dispatchLoadCalibration t s) := by
  unfold Machine.dispatchLoadCalibration
  repeat' split
  · exact h.refused t _ _ s
  · exact h.refused t _ _ s
  · exact h.refused t _ _ s
  · exact h.completeNow t _ _ (h.install s)

theorem AdmitsOrders.orderDispatch (h : AdmitsOrders R) (kind : Nat) (t : Take) (s : State) :
    R s (orderDispatch kind t s) :=
  match kind with
  | 1 => h.dispatchSelectProfile t s
  | 2 => h.dispatchEngage t s
  | 3 => h.dispatchDisengage t s
  | 4 => h.dispatchPark t s
  | 5 => h.dispatchSetPace t s
  | 6 => h.dispatchStop t s
  | 7 => h.dispatchSetArm t s
  | 8 => h.dispatchSetWater t s
  | 9 => h.dispatchClearFault t s
  | 10 => h.dispatchCancel t s
  | 11 => h.dispatchSetTrace t s
  | 12 => h.dispatchLoadCalibration t s
  | 13 => h.frame ((dispatchStoreCalibration_sameBut t s).mono (by decide))
  | 14 => h.frame ((dispatchFetchCalibration_sameBut t s).mono (by decide))
  | 0 | _ + 15 => h.refused t _ _ s

end

/-- A law that every move of the relation keeps is one that the orders' parts keep. -/
theorem AdmitsOrders.implies {R : State → State → Prop} {P : State → Prop} (h : AdmitsOrders R)
    (hkeeps : ∀ {s t}, R s t → P s → P t) : AdmitsOrders fun s t => P s → P t where
  refl _ hs := hs
  trans hst htu hs := htu (hst hs)
  mode new reason s hnew := hkeeps (h.mode new reason s hnew)
  modc s m hm := hkeeps (h.modc s m hm)
  ends kinds r d s := hkeeps (h.ends kinds r d s)
  requests k s := hkeeps (h.requests k s)
  wakes s := hkeeps (h.wakes s)
  frame hsame := hkeeps (h.frame hsame)
  trace x s := hkeeps (h.trace x s)
  profile p s := hkeeps (h.profile p s)
  sleeps s := hkeeps (h.sleeps s)
  pace w speed dir s := hkeeps (h.pace w speed dir s)
  request a req w s hmode := hkeeps (h.request a req w s hmode)
  water o mask s := hkeeps (h.water o mask s)
  holds severe s := hkeeps (h.holds severe s)
  releaseArm a s := hkeeps (h.releaseArm a s)
  releaseWater s := hkeeps (h.releaseWater s)
  install s := hkeeps (h.install s)

theorem setOrders_sameBut (s : State) (o : OrderUnit) : SameBut [.orders] s (s.setOrders o) := by
  intro b
  cases b <;> simp [Block.same]

/-- A law of states that the orders' parts keep is kept by every command, if every command that takes no order keeps it. -/
theorem AdmitsOrders.effect_keeps {P : State → Prop} (h : AdmitsOrders fun s t => P s → P t)
    (hrest : ∀ c s, takesOrders c = false → P s → P (effect c s)) (c : Instr) (s : State) (hs : P s) : P (effect c s) := by
  have hcursor (u : State) (hu : P u) : P (advanceCursor u) :=
    h.frame ((setOrders_sameBut u _).mono (by decide)) hu
  refine Machine.effect_keeps (P := P) (fun u hu => ?_) (fun kind o u _ hu => ?_) (fun k o u _ hu => ?_) hrest c s hs
  · exact h.frame ((stallScan_sameBut u).mono (by decide)) hu
  · exact h.orderDispatch kind _ _ (hcursor u hu)
  · exact h.refused _ _ _ _ (hcursor u hu)


/-! ### The restart, block by block (R62, R88, R108, R131) -/

theorem restartOrders_arm (a : Arm) (s : State) : (restartOrders s).arm a = s.arm a :=
  State.arm_congr (by simp [restartOrders]) a

theorem restartBlocks_arm (a : Arm) (s : State) :
    (restartBlocks s).arm a = deriveRecord (s.input (upInput a)) (restartRecord (s.arm a)) := by
  have htrace (x : Trace) (u : State) : (setTrace x u).arm a = u.arm a := rfl
  have hcheck (u : State) : (disarmCheck u).arm a = u.arm a := rfl
  have hinput (f : Arm → ArmRecord → ArmRecord) (u : State) : (mapArms f u).input (upInput a) = u.input (upInput a) := rfl
  have hload (b : Bool) (u : State) : (endIf b .engineSpeedLost u).input (upInput a) = u.input (upInput a) :=
    State.input_congr (by simp) _
  have hblocks (c : CalLoader) (g : Governor) (w : WaterControl) (l : LoadManager) (u : State) :
      ((((u.setCal c).setGov g).setWatc w).setLoadm l).input (upInput a) = u.input (upInput a) ∧
      ((((u.setCal c).setGov g).setWatc w).setLoadm l).arm a = u.arm a := ⟨rfl, rfl⟩
  simp only [restartBlocks, htrace, conditionEnd_arm, hcheck, armConditionEnd_arm, deriveArms_arm, mapArms_arm, endIf_arm,
    hinput, hload, hblocks]

theorem restarted_arm (a : Arm) (s : State) :
    (restarted s).arm a = deriveRecord (s.input (upInput a)) (restartRecord (s.arm a)) := by
  have hmodc (u : State) : (restartModc u).arm a = u.arm a := rfl
  have hoff (u : State) : (outputsOff u).arm a = u.arm a := rfl
  have hinput : (restartOrders (outputsOff s)).input (upInput a) = s.input (upInput a) :=
    State.input_congr (by simp [restartOrders]) _
  rw [restarted, hmodc, restartBlocks_arm, hinput, restartOrders_arm, hoff]

theorem restarted_exclusions (s : State) : (restarted s).faults.exclusions = s.faults.exclusions := by
  simp [restarted, restartModc, restartBlocks, restartOrders]

theorem restarted_watc (s : State) : (restarted s).watc = restartWater s.watc := by
  simp [restarted, restartModc, restartBlocks, restartOrders]

theorem restarted_gov (s : State) : (restarted s).gov = restartGovernor s.gov := by
  simp [restarted, restartModc, restartBlocks, restartOrders]

theorem doRestart_arm (a : Arm) (s : State) :
    (doRestart s).arm a = noticedRecord s.modc.mode (restarted s).modc.mode (s.input (upInput a))
      { deriveRecord (s.input (upInput a)) (restartRecord (s.arm a)) with req := .stowed } := by
  have hcause (b : Bool) (c : Cause) (u : State) : (raiseIf b c u).arm a = u.arm a := State.arm_congr (by simp) a
  have hinput : (stowRequests (restarted s)).input (upInput a) = s.input (upInput a) :=
    State.input_congr (by simp [restarted, restartModc, restartBlocks, restartOrders]) _
  rw [doRestart_eq, hcause, sendNotices_arm, stowRequests_arm, restarted_arm, hinput]

end Sys2Proof.Machine

namespace Sys2Proof.Machine

/-! ### The latched exclusions and the states they stand for (R125) -/

/-- A move that latches no exclusion, takes no arm out of OUT, and leaves the water-out flag set. -/
structure StaysOut (s t : State) : Prop where
  arms : ∀ a, t.faults.exclusions.arm a = true → s.faults.exclusions.arm a = true
  water : t.faults.exclusions.water = true → s.faults.exclusions.water = true
  out : ∀ a, (s.arm a).state = .out → (t.arm a).state = .out
  waterOut : s.watc.waterOut = true → t.watc.waterOut = true

theorem StaysOut.refl (s : State) : StaysOut s s := ⟨fun _ h => h, id, fun _ h => h, id⟩

theorem StaysOut.trans {s t u : State} (hst : StaysOut s t) (htu : StaysOut t u) : StaysOut s u :=
  ⟨fun a h => hst.arms a (htu.arms a h), hst.water ∘ htu.water, fun a h => htu.out a (hst.out a h), htu.waterOut ∘ hst.waterOut⟩

theorem StaysOut.ite {s t : State} {p : Prop} [Decidable p] (h : StaysOut s t) : StaysOut s (if p then t else s) := by
  split
  · exact h
  · exact .refl s

/-- A move that leaves the exclusions and the water-out flag, and the arms. -/
theorem StaysOut.of_same {s t : State} (hexcl : t.faults.exclusions = s.faults.exclusions) (harmc : t.armc = s.armc)
    (hwater : t.watc.waterOut = s.watc.waterOut) : StaysOut s t :=
  ⟨fun a h => by rwa [hexcl] at h, fun h => by rwa [hexcl] at h, fun a h => by rwa [State.arm_congr harmc],
    fun h => by rwa [hwater]⟩

/-- A move that leaves the exclusions and the water-out flag, and takes no arm out of OUT. -/
theorem StaysOut.of_arms {s t : State} (hexcl : t.faults.exclusions = s.faults.exclusions)
    (hout : ∀ a, (s.arm a).state = .out → (t.arm a).state = .out) (hwater : t.watc.waterOut = s.watc.waterOut) : StaysOut s t :=
  ⟨fun a h => by rwa [hexcl] at h, fun h => by rwa [hexcl] at h, hout, fun h => by rwa [hwater]⟩

/-- A move whose frame lists none of the three blocks. -/
theorem SameBut.staysOut {blocks : List Block} {s t : State} (h : SameBut blocks s t)
    (hfaults : blocks.contains .faults = false) (harmc : blocks.contains .armc = false)
    (hwatc : blocks.contains .watc = false) : StaysOut s t :=
  .of_same (congrArg FaultUnit.exclusions (h.same .faults hfaults)) (h.same .armc harmc)
    (congrArg WaterControl.waterOut (h.same .watc hwatc))

theorem StaysOut.keeps {s t : State} (h : StaysOut s t) (hs : s.exclusionInv) : t.exclusionInv :=
  ⟨fun a ha => h.out a (hs.1 a (h.arms a ha)), fun hw => h.waterOut (hs.2 (h.water hw))⟩

/-! #### Changes of mode and reactions -/

theorem movedRecord_out (new : Mode) {r : ArmRecord} (h : r.state = .out) : (movedRecord new r).state = .out := by
  have hpark : (parkRecord r).state = .out := by
    unfold parkRecord clearRaiseFlag
    split
    · split <;> exact h
    · exact h
  have hraise : raiseRecord r = r := by
    unfold raiseRecord
    rw [h]
  unfold movedRecord
  split
  · rw [hraise, h]
  · rw [hraise, h]
  · exact hpark
  · exact h

theorem deriveRecord_out (up : Bool) {r : ArmRecord} (h : r.state = .out) : deriveRecord up r = r := by
  unfold deriveRecord
  rw [h]

theorem noticedRecord_out (prev new : Mode) (up : Bool) {r : ArmRecord} (h : r.state = .out) :
    (noticedRecord prev new up r).state = .out := by
  unfold noticedRecord
  simp only [deriveRecord_out up h, ite_self]
  exact movedRecord_out new h

theorem changedRecord_out (prev new : Mode) (up : Bool) {r : ArmRecord} (h : r.state = .out) :
    (changedRecord prev new up r).state = .out := by
  unfold changedRecord
  split
  · exact noticedRecord_out prev new up (r := { r with req := .stowed }) h
  · exact noticedRecord_out prev new up h

theorem changeMode_staysOut (new : Mode) (reason : Nat) (s : State) : StaysOut s (changeMode new reason s) :=
  .of_arms (by simp) (fun a h => by rw [changeMode_arm]; exact changedRecord_out _ _ _ h) (by simp)

theorem completeMode_staysOut (kinds : List Nat) (r : Result) (d : Nat) (s : State) : StaysOut s (completeMode kinds r d s) :=
  .of_same (by simp) (by simp) (by simp)

theorem setModc_staysOut (m : ModeControl) (s : State) : StaysOut s (s.setModc m) := .of_same rfl rfl rfl

theorem enterSafe_staysOut (k : FaultKind) (halt : Bool) (s : State) : StaysOut s (enterSafe k halt s) := by
  unfold enterSafe
  split
  · exact setModc_staysOut _ s
  · exact .refl s
  · exact .refl s
  · exact ((changeMode_staysOut _ _ s).trans (setModc_staysOut _ _)).trans (completeMode_staysOut _ _ _ _)

/-- An ARM_OUT notice puts its arm OUT and leaves the other arms (R71). -/
theorem armOutNotice_state (a b : Arm) (k : FaultKind) (s : State) :
    ((armOutNotice a k s).arm b).state = if b = a then .out else (s.arm b).state := by
  unfold armOutNotice
  by_cases hout : (s.arm a).state = .out
  · rw [if_pos hout]
    split
    · next hb => rw [hb, hout]
    · rfl
  · rw [if_neg hout]
    simp only [failWaiting_arm, handRecord_arm, setArmAndWidth_arm]
    split
    · rfl
    · rfl

theorem armOutNotice_staysOut (a : Arm) (k : FaultKind) (s : State) : StaysOut s (armOutNotice a k s) := by
  refine .of_arms ?_ (fun b h => ?_) ?_
  · unfold armOutNotice
    split <;> simp
  · rw [armOutNotice_state]
    split
    · rfl
    · exact h
  · unfold armOutNotice
    split <;> simp

/-- A WATER_OUT notice leaves the supply out (R104). -/
theorem waterOutNotice_waterOut (s : State) : (waterOutNotice s).watc.waterOut = true := by
  unfold waterOutNotice
  split
  · next hout => exact hout
  · simp

theorem react_staysOut (r : Report) (s : State) : StaysOut s (react r s) := by
  have hwater : StaysOut s (waterOutNotice s) :=
    ⟨fun a h => by simpa using h, fun h => by simpa using h, fun a h => by rwa [State.arm_congr (s := s) (by simp)],
      fun _ => waterOutNotice_waterOut s⟩
  unfold react
  split
  · exact armOutNotice_staysOut _ _ s
  · exact hwater
  · exact enterSafe_staysOut _ _ s
  · exact enterSafe_staysOut _ _ s
  · exact .refl s

theorem reactAll_staysOut (rs : List Report) (s : State) : StaysOut s (reactAll rs s) := by
  induction rs generalizing s with
  | nil => exact .refl s
  | cons r rs ih => exact (react_staysOut r s).trans (ih _)

/-! #### A batch: every exclusion it latches is followed by its reaction -/

/-- A report excludes an arm, or the water (R125). -/
def Report.excludes (r : Report) (a : Arm) : Prop := r.kind.cls = .armOut ∧ r.source = .armc a

/-- A report latches its own arm's exclusion alone (R125). -/
theorem latches_arm {r : Report} {x : Exclusions} {a : Arm} (h : (r.latches x).arm a = true) :
    x.arm a = true ∨ r.excludes a := by
  unfold Report.latches at h
  split at h
  · next b hcls hsource =>
    by_cases hb : b = a
    · exact .inr ⟨hcls, by rw [hsource, hb]⟩
    · refine .inl ?_
      cases a <;> cases b <;> first | exact absurd rfl hb | exact h
  · exact .inl (by cases a <;> exact h)
  · exact .inl h

theorem latches_water {r : Report} {x : Exclusions} (h : (r.latches x).water = true) :
    x.water = true ∨ r.kind.cls = .waterOut := by
  unfold Report.latches at h
  split at h
  · next b _ _ => exact .inl (by cases b <;> exact h)
  · next hcls => exact .inr hcls
  · exact .inl h

theorem takeReports_arm_exclusion {rs : List Report} {s : State} {a : Arm}
    (h : (takeReports rs s).faults.exclusions.arm a = true) : s.faults.exclusions.arm a = true ∨ ∃ r ∈ rs, r.excludes a := by
  induction rs generalizing s with
  | nil => exact .inl h
  | cons r rs ih =>
    obtain hfirst | ⟨r', hmem, hr'⟩ := ih h
    · rw [takeReport_exclusions] at hfirst
      exact (latches_arm hfirst).imp_right fun hr => ⟨r, List.mem_cons_self, hr⟩
    · exact .inr ⟨r', List.mem_cons_of_mem r hmem, hr'⟩

theorem takeReports_water_exclusion {rs : List Report} {s : State} (h : (takeReports rs s).faults.exclusions.water = true) :
    s.faults.exclusions.water = true ∨ ∃ r ∈ rs, r.kind.cls = .waterOut := by
  induction rs generalizing s with
  | nil => exact .inl h
  | cons r rs ih =>
    obtain hfirst | ⟨r', hmem, hr'⟩ := ih h
    · rw [takeReport_exclusions] at hfirst
      exact (latches_water hfirst).imp_right fun hr => ⟨r, List.mem_cons_self, hr⟩
    · exact .inr ⟨r', List.mem_cons_of_mem r hmem, hr'⟩

/-- The reaction to a report that excludes an arm puts it OUT (R124). -/
theorem reactAll_out {rs : List Report} {r : Report} {a : Arm} (hmem : r ∈ rs) (hr : r.excludes a) (s : State) :
    ((reactAll rs s).arm a).state = .out := by
  induction rs generalizing s with
  | nil => exact absurd hmem List.not_mem_nil
  | cons x rs ih =>
    obtain rfl | hmem := List.mem_cons.mp hmem
    · obtain ⟨hcls, hsource⟩ := hr
      have hout : ((react r s).arm a).state = .out := by
        unfold react
        simp [hcls, hsource, armOutNotice_state]
      exact (reactAll_staysOut rs _).out a hout
    · exact ih hmem _

/-- The reaction to a report that withdraws the water leaves the supply out (R124). -/
theorem reactAll_waterOut {rs : List Report} {r : Report} (hmem : r ∈ rs) (hr : r.kind.cls = .waterOut) (s : State) :
    (reactAll rs s).watc.waterOut = true := by
  induction rs generalizing s with
  | nil => exact absurd hmem List.not_mem_nil
  | cons x rs ih =>
    obtain rfl | hmem := List.mem_cons.mp hmem
    · have hout : (react r s).watc.waterOut = true := by
        unfold react
        simp [hr, waterOutNotice_waterOut]
      exact (reactAll_staysOut rs _).waterOut hout
    · exact ih hmem _

/-- Reports taken, and their reactions sent after moves that take no arm out of OUT, keep the law. -/
theorem reactAll_exclusionInv {rs : List Report} {s u : State} (hu : StaysOut (takeReports rs s) u) (hs : s.exclusionInv) :
    (reactAll rs u).exclusionInv := by
  have hafter := reactAll_staysOut rs u
  refine ⟨fun a ha => ?_, fun hw => ?_⟩
  · obtain hold | ⟨r, hmem, hr⟩ := takeReports_arm_exclusion (hu.arms a (hafter.arms a ha))
    · refine hafter.out a (hu.out a ?_)
      rw [State.arm_congr (s := s) (by simp)]
      exact hs.1 a hold
    · exact reactAll_out hmem hr u
  · obtain hold | ⟨r, hmem, hr⟩ := takeReports_water_exclusion (hu.water (hafter.water hw))
    · refine hafter.waterOut (hu.waterOut ?_)
      have hsame : (takeReports rs s).watc = s.watc := by simp
      rw [hsame]
      exact hs.2 hold
    · exact reactAll_waterOut hmem hr u

theorem reportBatch_exclusionInv (rs : List Report) {s : State} (hs : s.exclusionInv) : (reportBatch rs s).exclusionInv :=
  reactAll_exclusionInv (.refl _) hs

/-! #### The commands that touch the arms, the water or the exclusions -/

theorem armTransition_staysOut (s0 : State) (a : Arm) (s : State) : StaysOut s (armTransition s0 a s) := by
  have hout (r : ArmRecord) (h : (s.arm a).state = .out → r.state = .out) : StaysOut s (setArm a r s) := by
    refine .of_arms rfl (fun b hb => ?_) rfl
    rw [setArm_arm]
    split
    · next hba => exact h (hba ▸ hb)
    · exact hb
  have hfail (w : Option ArmWait) (d : Nat) (u : State) : StaysOut u (failWaiting a w d u) :=
    .of_same (by simp) (by simp) (by simp)
  unfold armTransition
  dsimp only
  split
  case isTrue hstate =>
    refine hout _ fun h => ?_
    unfold outStep
    split <;> exact h
  case isFalse hstate =>
    split
    · exact (hout _ fun h => absurd h hstate).trans (hfail _ _ _)
    · exact hout _ fun h => absurd h hstate

theorem armWaiting_staysOut (a : Arm) (s : State) : StaysOut s (armWaiting a s) := by
  have hend (w : ArmWait) (r : Result) (d : Nat) : StaysOut s (endArmWait a w r d s) := by
    refine .of_arms (by simp [endArmWait]) (fun b hb => ?_) (by simp [endArmWait])
    unfold endArmWait
    rw [completionNotice_arm, setArm_arm]
    split
    · next hba => exact hba ▸ hb
    · exact hb
  unfold armWaiting
  repeat' split
  · exact .refl s
  · exact hend _ _ _
  · exact hend _ _ _
  · exact .refl s

theorem armPublish_staysOut (s : State) : StaysOut s (armPublish s) := by
  have hframe := armPublish_sameBut s
  refine .of_arms (congrArg FaultUnit.exclusions (hframe.same .faults rfl)) (fun a h => ?_)
    (congrArg WaterControl.waterOut (hframe.same .watc rfl))
  have hstate : ((armPublish s).arm a).state = (s.arm a).state := by
    unfold armPublish handWorking
    simp [armOutputs]
  rw [hstate, h]

theorem armPrepare_staysOut (s : State) : StaysOut s (armPrepare s) := by
  refine .of_arms rfl (fun a h => ?_) rfl
  have hstate : ((armPrepare s).arm a).state = (s.arm a).state := by
    unfold armPrepare
    simp [armTimers, armRead]
  rw [hstate, h]

theorem armEnds_staysOut (s : State) : StaysOut s (armEnds s) :=
  .of_same (by simp [armEnds]) (by simp [armEnds]) (by simp [armEnds])

theorem armStep_exclusionInv {s : State} (hs : s.exclusionInv) : (armStep s).exclusionInv := by
  have hmoves (u : State) : StaysOut u (armTransitions s u) :=
    ((armTransition_staysOut s .left u).trans (armTransition_staysOut s .right _)).trans (armTransition_staysOut s .main _)
  have hbefore := ((armPrepare_staysOut s).trans (hmoves _)).trans (armPublish_staysOut _)
  have hafter (u : State) : StaysOut u (armWaiting .main (armWaiting .right (armWaiting .left (armEnds u)))) :=
    (((armEnds_staysOut u).trans (armWaiting_staysOut .left _)).trans (armWaiting_staysOut .right _)).trans
      (armWaiting_staysOut .main _)
  exact (hafter _).keeps (reportBatch_exclusionInv _ (hbefore.keeps hs))

/-- An arm that is excluded goes OUT before its report is taken (R71). -/
theorem excludeArm_exclusionInv (a : Arm) (k : FaultKind) (d : Nat) {s : State} (hs : s.exclusionInv) :
    (excludeArm a k d s).exclusionInv := by
  refine reportBatch_exclusionInv _ (StaysOut.keeps (.of_arms (by simp) (fun b hb => ?_) (by simp)) hs)
  simp only [handRecord_arm, failWaiting_arm, setArmAndWidth_arm]
  split
  · rfl
  · exact hb

theorem excludeDue_exclusionInv (a : Arm) (own : Bool) {s : State} (hs : s.exclusionInv) :
    (excludeDue a own s).exclusionInv := by
  unfold excludeDue
  repeat' split
  · exact excludeArm_exclusionInv a _ _ hs
  · exact hs
  · exact hs

theorem transition_out (s : State) (a : Arm) {r : ArmRecord} (h : r.state = .out) : (transition s a r).state = .out := by
  have hrotates : rotates r = false := by simp [rotates, h]
  have hreversible : reversible r = false := by simp [reversible, h]
  simp [transition, stowable, hrotates, hreversible, progress, h]

theorem timedMove_exclusionInv (a : Arm) {s : State} (hs : s.exclusionInv) : (timedMove a s).exclusionInv := by
  obtain ⟨k, d, -, h⟩ | ⟨-, -, h⟩ | ⟨-, -, h⟩ := timedMove_cases a s <;> rw [h]
  · exact excludeArm_exclusionInv a k d hs
  · exact hs
  · refine StaysOut.keeps (.of_arms (by simp) (fun b hb => ?_) (by simp)) hs
    unfold moveArm
    simp only [handRecord_arm, setArmAndWidth_arm]
    split
    · next hba =>
      have hread : (s.readArm a).state = .out := hba ▸ hb
      exact transition_out s a hread
    · exact hb

theorem setArmTimeout_exclusionInv (a : Arm) {s : State} (hs : s.exclusionInv) : (setArmTimeout a s).exclusionInv := by
  obtain h | ⟨w, -, -, h⟩ := setArmTimeout_cases a s <;> rw [h]
  · exact hs
  · exact (armWaiting_staysOut a _).keeps (timedMove_exclusionInv a hs)

theorem spinUpComplete_staysOut (a : Arm) (s : State) : StaysOut s (spinUpComplete a s) := by
  refine .ite (.of_arms rfl (fun b hb => ?_) rfl)
  rw [setArm_arm]
  split
  · next hba => exact hba ▸ hb
  · exact hb

theorem outRaiseEnd_staysOut (a : Arm) (s : State) : StaysOut s (outRaiseEnd a s) := by
  refine .ite (.of_arms (by simp) (fun b hb => ?_) (by simp))
  simp only [armConditionEnd_arm, handRecord_arm, setArm_arm]
  split
  · next hba =>
    unfold clearRaiseFlag
    split <;> exact hba ▸ hb
  · exact hb

theorem waterPrime_waterOut (s : State) : (waterPrime s).watc.waterOut = s.watc.waterOut := by
  have hrunning : (primeRunning s).waterOut = s.watc.waterOut := by
    unfold primeRunning
    dsimp only
    repeat' split
    all_goals rfl
  unfold waterPrime
  split
  · rfl
  · split
    · rfl
    · exact hrunning
    · rfl
    · rfl

/-- Stages 1 to 5 of the water step leave the water-out flag (R104). -/
theorem waterFlow_waterOut (s : State) : (waterFlow s).watc.waterOut = s.watc.waterOut := by
  have hread : (waterDemand (waterRead s)).watc.waterOut = s.watc.waterOut := rfl
  have hcommand (u : State) : (waterGroups (waterCommand u)).watc.waterOut = u.watc.waterOut := rfl
  have hpump (u : State) : (waterPump u).watc.waterOut = u.watc.waterOut := by simp [waterPump]
  rw [waterFlow, hpump, hcommand, waterPrime_waterOut, hread]

/-- The water step at most withdraws the supply (R104): before its reports it leaves the water-out flag. -/
theorem waterStep_exclusionInv {s : State} (hs : s.exclusionInv) : (waterStep s).exclusionInv := by
  have hflow : StaysOut s (waterFlow s) :=
    .of_same (congrArg FaultUnit.exclusions ((waterFlow_sameBut s).same .faults rfl)) ((waterFlow_sameBut s).same .armc rfl)
      (waterFlow_waterOut s)
  have hwatch (b : Bool) (u : State) : StaysOut u (waterWatch s.watc b u) := .of_same rfl rfl rfl
  have hends (w : WaterControl) (b : Bool) (u : State) : StaysOut u (waterEnds s.watc w b u) :=
    .of_same (by simp [waterEnds]) (by simp [waterEnds]) (by simp [waterEnds])
  exact (hends _ _ _).keeps (reportBatch_exclusionInv _ ((hflow.trans (hwatch _ _)).keeps hs))

/-! #### The mode check, the orders and the restart -/

theorem StaysOut.admitsModeCheck : AdmitsModeCheck StaysOut where
  refl := .refl
  trans := .trans
  mode new reason s _ := changeMode_staysOut new reason s
  modc s m _ := setModc_staysOut m s
  ends := completeMode_staysOut
  requests k s := by
    refine .of_arms rfl (fun a h => ?_) rfl
    rw [mapArms_arm]
    unfold commandArm
    split <;> exact h
  wakes s := .of_same rfl rfl rfl

/-- The release of an exclusion takes its arm out of OUT and no other (R128, R72). -/
theorem releaseArm_exclusionInv (a : Arm) (s : State) (hs : s.exclusionInv) : (releaseArm a s).exclusionInv := by
  obtain ⟨harms, hwater⟩ := hs
  unfold releaseArm
  split
  case isFalse => exact ⟨harms, hwater⟩
  case isTrue =>
    refine ⟨fun b hb => ?_, fun hw => ?_⟩
    · have hexcl : (s.faults.exclusions.setArm a false).arm b = true := by simpa using hb
      by_cases hba : b = a
      · subst hba
        cases b <;> exact absurd hexcl Bool.false_ne_true
      · have hold : s.faults.exclusions.arm b = true := by
          cases a <;> cases b <;> first | exact absurd rfl hba | exact hexcl
        simp only [handRecord_arm, setArm_arm, if_neg hba]
        rw [State.arm_congr (s := s) (by simp)]
        exact harms b hold
    · have hexcl : (s.faults.exclusions.setArm a false).water = true := by simpa using hw
      have hold : s.faults.exclusions.water = true := by cases a <;> exact hexcl
      simpa using hwater hold

theorem releaseWater_exclusionInv {s : State} (hs : s.exclusionInv) : (releaseWater s).exclusionInv := by
  obtain ⟨harms, hwater⟩ := hs
  unfold releaseWater
  split
  case isFalse => exact ⟨harms, hwater⟩
  case isTrue =>
    refine ⟨fun b hb => ?_, fun hw => absurd hw (by simp)⟩
    have hold : s.faults.exclusions.arm b = true := by cases b <;> exact hb
    rw [State.arm_congr (s := s) (by simp)]
    exact harms b hold

theorem installArea_staysOut (u : State) : StaysOut u (installArea u) := by
  refine .of_arms (by simp [installArea, clearTrims]) (fun a h => ?_) (by simp [installArea, clearTrims])
  have hstate : ((installArea u).arm a).state = (u.arm a).state := by
    have hwheel (v : State) : (applyWheelTimeout v).arm a = v.arm a := State.arm_congr (by simp) a
    have htrims (v : State) : ((clearTrims v).arm a).state = (v.arm a).state := by
      rw [clearTrims, mapArms_arm]
      rfl
    have hcal (k : CalLoader) : ((u.setCal k).arm a).state = (u.arm a).state := rfl
    rw [installArea, hwheel, endIf_arm, htrims, hcal]
  rw [hstate, h]

theorem StaysOut.admitsOrders : AdmitsOrders fun s t => s.exclusionInv → t.exclusionInv where
  refl _ h := h
  trans hst htu h := htu (hst h)
  mode new reason s hnew := (StaysOut.admitsModeCheck.mode new reason s hnew).keeps
  modc s m hm := (StaysOut.admitsModeCheck.modc s m hm).keeps
  ends kinds r d s := (StaysOut.admitsModeCheck.ends kinds r d s).keeps
  requests k s := (StaysOut.admitsModeCheck.requests k s).keeps
  wakes s := (StaysOut.admitsModeCheck.wakes s).keeps
  frame h := (h.staysOut rfl rfl rfl).keeps
  trace _ _ := id
  profile _ _ := id
  sleeps s := ((sleepStages_sameBut s).staysOut rfl rfl rfl).keeps
  pace _ _ _ _ := id
  request a req w s _ := by
    refine StaysOut.keeps (.of_arms rfl (fun b hb => ?_) rfl)
    rw [setArm_arm]
    split
    · next hba => exact hba ▸ hb
    · exact hb
  water _ _ _ := id
  holds _ _ := StaysOut.keeps (.of_same (by simp) (by simp) (by simp))
  releaseArm := releaseArm_exclusionInv
  releaseWater _ := releaseWater_exclusionInv
  install s := (installArea_staysOut s).keeps

/-- A record in OUT stays OUT at a restart (R88). -/
theorem restartRecord_out {r : ArmRecord} (h : r.state = .out) : (restartRecord r).state = .out := by
  unfold restartRecord clearRaiseFlag
  simp only [h]
  split <;> rfl

/-- A restart leaves the exclusions, the arms in OUT and the water-out flag (R88, R108, R131). -/
theorem doRestart_staysOut (s : State) : StaysOut s (doRestart s) := by
  refine .of_arms ?_ (fun a h => ?_) ?_
  · simp [doRestart_eq, restarted_exclusions]
  · have hrestarted := restartRecord_out h
    rw [doRestart_arm, deriveRecord_out _ hrestarted]
    exact noticedRecord_out _ _ _ (r := { restartRecord (s.arm a) with req := .stowed }) hrestarted
  · simp [doRestart_eq, restarted_watc, restartWater, primeIdle, stopSpray]

/-! #### Every command -/

theorem wakeSource_staysOut (restart : Bool) (s : State) : StaysOut s (wakeSource restart s) :=
  .ite (.of_same rfl rfl rfl)

theorem writeRestart_staysOut (v : Word) (s : State) : StaysOut s (writeRestart v s) := by
  obtain h | h | h | h := writeRestart_cases v s <;> rw [h]
  · exact .refl s
  · exact wakeSource_staysOut true s
  · exact setModc_staysOut _ s
  · exact doRestart_staysOut s

theorem modeCheck_staysOut (s : State) : StaysOut s (modeCheck s) := by
  obtain hrestarts | hwakes := modeCheck_restarts_or s
  · rw [hrestarts]
    exact doRestart_staysOut s
  · exact StaysOut.admitsModeCheck.modeCheck hwakes

theorem settleInput_staysOut (i : Input) (s : State) : StaysOut s (settleInput i s) := by
  have hlevel (d : Debounced) : StaysOut s (setInput i d s) := .of_same rfl rfl rfl
  unfold settleInput
  dsimp only
  repeat' split
  · exact (hlevel _).trans (wakeSource_staysOut _ _)
  · exact hlevel _
  · exact .refl s

theorem writeCheck_staysOut (v : Word) (s : State) : StaysOut s (writeCheck v s) := by
  have hport (p : HostPort) : StaysOut s (s.setPort p) := .of_same rfl rfl rfl
  have hend (k : FaultKind) (u : State) : StaysOut u (conditionEnd k u) := .of_same (by simp) (by simp) (by simp)
  unfold writeCheck
  split
  · exact .refl s
  split
  · exact hport _
  split
  · exact .refl s
  · exact .refl s
  · split
    · exact (hport _).trans (hend _ _)
    · exact hport _

/-- The start-up load reports no exclusion before it reports (R167). -/
theorem startupLoad_exclusionInv {s : State} (hs : s.exclusionInv) : (startupLoad s).exclusionInv := by
  have hends (u : State) : StaysOut u (loadEnds u) := .of_same rfl rfl rfl
  by_cases hop : s.cal.op = .loading
  · by_cases ho : (readImage s).1 = .valid
    · rw [startupLoad_valid hop ho]
      exact (hends _).keeps (((installImage_sameBut _ s).staysOut rfl rfl rfl).keeps hs)
    · rw [startupLoad_defaults hop ho]
      refine (hends _).keeps (reportBatch_exclusionInv _ (StaysOut.keeps (s := s) ?_ hs))
      exact .of_same (by simp [writeArea]) (by simp [writeArea]) (by simp [writeArea])
  · rw [startupLoad_other hop]
    exact hs

/-- The reports of a travel step are taken at stage 7 and answered after stage 8 (R39). -/
theorem travelStep_exclusionInv {s : State} (hs : s.exclusionInv) : (travelStep s).exclusionInv := by
  have hwatch (u : State) : StaysOut u (travelWatch u) := (setGov_sameBut u _).staysOut rfl rfl rfl
  have hmove (target : Int) (u : State) : StaysOut u (travelMove target u) := (travelMove_sameBut target u).staysOut rfl rfl rfl
  have happroach : StaysOut s (travelApproach s) := (travelApproach_sameBut s).staysOut rfl rfl rfl
  have hdrive : StaysOut s (travelWatch (travelDrive s)) := (happroach.trans (hmove _ _)).trans (hwatch _)
  have hwait (target : Int) (u : State) : StaysOut u (travelWaiting target u) :=
    (travelWaiting_sameBut target u).staysOut rfl rfl rfl
  have hends (lostNow : Bool) (g : Governor) (seated overspeeding : Bool) (u : State) :
      StaysOut u (travelEnds lostNow g seated overspeeding u) :=
    .of_same (by simp [travelEnds]) (by simp [travelEnds]) (by simp [travelEnds])
  exact reactAll_exclusionInv ((hends _ _ _ _ _).trans (hwait _ _)) (hdrive.keeps hs)

theorem loadStep_exclusionInv {s : State} (hs : s.exclusionInv) : (loadStep s).exclusionInv := by
  have hform : StaysOut s (loadForm s) := by
    rw [loadForm_eq]
    exact .of_same rfl rfl rfl
  have hscale (u : State) : StaysOut u (loadScale u) := .of_same rfl rfl rfl
  have hend (b : Bool) (k : FaultKind) (u : State) : StaysOut u (endIf b k u) := .of_same (by simp) (by simp) (by simp)
  exact (hend _ _ _).keeps (reportBatch_exclusionInv _ ((hform.trans (hscale _)).keeps hs))

theorem checkExpiry_exclusionInv {s : State} (hs : s.exclusionInv) : (checkExpiry s).exclusionInv := by
  unfold checkExpiry
  split
  · exact reportBatch_exclusionInv _ hs
  · exact hs

/-- No command breaks the law of R125. -/
theorem effect_exclusionInv (c : Instr) (s : State) (hs : s.exclusionInv) : (effect c s).exclusionInv := by
  refine StaysOut.admitsOrders.effect_keeps (P := State.exclusionInv) (fun c u hc hu => ?_) c s hs
  have hsame := effect_sameBut c u
  have htravel (now : State) (g : Governor) : (u.withSpeed now g).exclusionInv := hu
  have hwater {w : WaterControl} (h : u.watc.waterOut = true → w.waterOut = true) : (u.setWatc w).exclusionInv :=
    ⟨hu.1, fun hw => h (hu.2 hw)⟩
  have hload (l : LoadManager) : (u.setLoadm l).exclusionInv := hu
  have hite {p : Prop} [Decidable p] {v : State} (hv : v.exclusionInv) : (if p then v else u).exclusionInv := by
    split
    · exact hv
    · exact hu
  cases c
  case coldReset cause =>
    refine ⟨fun a ha => absurd ha ?_, fun hw => absurd hw ?_⟩
    · cases a <;> exact Bool.false_ne_true
    · exact Bool.false_ne_true
  case restart v => exact whenLive_keeps (writeRestart_staysOut v u).keeps hu
  case wake v => exact whenLive_keeps (f := wakeSource false) (wakeSource_staysOut false u).keeps hu
  case check v => exact whenLive_keeps (writeCheck_staysOut v u).keeps hu
  case startupLoadDone => exact whenLive_keeps startupLoad_exclusionInv hu
  case modeCheck => exact whenRunning_keeps (modeCheck_staysOut u).keeps hu
  case settleTimerExpiry =>
    exact whenRunning_keeps (StaysOut.admitsModeCheck.settleExpiry u).keeps hu
  case engageBudgetExpiry =>
    exact whenRunning_keeps (StaysOut.admitsModeCheck.budgetExpiry u).keeps hu
  case travelStep => exact whenRunning_keeps travelStep_exclusionInv hu
  case wheelDisagreeTimeout => exact whenRunning_keeps (f := disagreeTimeout) (fun _ => hite (reportBatch_exclusionInv _ (htravel _ _))) hu
  case wheelLossTimeout w => exact whenRunning_keeps (f := lossTimeout w) (fun _ => hite (reportBatch_exclusionInv _ (htravel _ _))) hu
  case wheelSilenceTimeout => exact whenRunning_keeps (f := silenceTimeout) (fun _ => hite (reportBatch_exclusionInv _ (htravel _ _))) hu
  case overspeedTimeout => exact whenRunning_keeps (f := overspeedTimeout) (fun _ => hite (reportBatch_exclusionInv _ (htravel _ _))) hu
  case operatorAbsentTimeout =>
    exact whenRunning_keeps (f := operatorTimeout) (fun _ => hite (reportBatch_exclusionInv _ (htravel _ _))) hu
  case armStep => exact whenRunning_keeps armStep_exclusionInv hu
  case armStuckTimeout a => exact whenRunning_keeps (f := stuckTimeout a) (excludeDue_exclusionInv a _) hu
  case angleLossTimeout d => exact whenRunning_keeps (f := angleTimeout d.arm) (excludeDue_exclusionInv d.arm _) hu
  case deflectLongTimeout d => exact whenRunning_keeps (f := deflectTimeout d.arm) (excludeDue_exclusionInv d.arm _) hu
  case brushStallTimeout a => exact whenRunning_keeps (f := stallTimeout a) (excludeDue_exclusionInv a _) hu
  case brushSilenceTimeout a => exact whenRunning_keeps (f := brushSilenceTimeout a) (excludeDue_exclusionInv a _) hu
  case deflectReturn d =>
    exact whenRunning_keeps (f := deflectReturn d.arm) (fun _ => hite (timedMove_exclusionInv d.arm hu)) hu
  case hoverReached d =>
    exact whenRunning_keeps (f := hoverReached d.arm) (fun _ => hite (timedMove_exclusionInv d.arm hu)) hu
  case spinUpComplete a => exact whenRunning_keeps (spinUpComplete_staysOut a u).keeps hu
  case outRaiseEnd a => exact whenRunning_keeps (outRaiseEnd_staysOut a u).keeps hu
  case setArmTimeout a => exact whenRunning_keeps (setArmTimeout_exclusionInv a) hu
  case waterStep => exact whenRunning_keeps waterStep_exclusionInv hu
  case primeHeld => exact whenRunning_keeps (f := primeHeld) (fun _ => hite (hwater id)) hu
  case primeTimeout => 
    refine whenRunning_keeps (f := primeTimeout) (fun _ => hite (reportBatch_exclusionInv _ ?_)) hu
    exact StaysOut.keeps (s := u) (.of_same (by simp) (by simp) (by simp)) hu
  case dryRunTimeout => exact whenRunning_keeps (f := dryRunTimeout) (fun _ => hite (reportBatch_exclusionInv _ (hwater id))) hu
  case flowLossTimeout => exact whenRunning_keeps (f := flowLossTimeout) (fun _ => hite (reportBatch_exclusionInv _ (hwater id))) hu
  case tankLossTimeout => exact whenRunning_keeps (f := tankLossTimeout) (fun _ => hite (reportBatch_exclusionInv _ (hwater id))) hu
  case loadStep => exact whenRunning_keeps loadStep_exclusionInv hu
  case engineLossTimeout => exact whenRunning_keeps (f := engineLossTimeout) (fun _ => hite (reportBatch_exclusionInv _ (hload _))) hu
  case hostCheckExpiry => exact whenLive_keeps checkExpiry_exclusionInv hu
  case debounceSettled i => exact whenLive_keeps (settleInput_staysOut i u).keeps hu
  all_goals first
    | exact Bool.noConfusion hc
    | exact (hsame.staysOut rfl rfl rfl).keeps hu

/-- Settles O9: an exclusion is latched with its reaction, and released with its arm's return (R72, R104, R128). -/
theorem exclusionsMatchStates : Obligations.ExclusionsMatchStates :=
  fun _ _ hs hstep => step_keeps (P := State.exclusionInv)
    (fun u hu => ((tick_sameBut u).staysOut rfl rfl rfl).keeps hu) (fun _ _ hu => hu) effect_exclusionInv hs hstep

end Sys2Proof.Machine

namespace Sys2Proof.Machine

/-! ### The reverse law: no side arm on the road while the command is negative (R53) -/

/-- A move that leaves the travel command, and puts no side arm on the road. -/
structure StaysClear (s t : State) : Prop where
  command : t.gov.c = s.gov.c
  clear : ∀ side : Side, forbidsReverse (s.arm side.arm) = false → forbidsReverse (t.arm side.arm) = false

theorem StaysClear.refl (s : State) : StaysClear s s := ⟨rfl, fun _ h => h⟩

theorem StaysClear.trans {s t u : State} (hst : StaysClear s t) (htu : StaysClear t u) : StaysClear s u :=
  ⟨htu.command.trans hst.command, fun side h => htu.clear side (hst.clear side h)⟩

theorem StaysClear.ite {s t : State} {p : Prop} [Decidable p] (h : StaysClear s t) : StaysClear s (if p then t else s) := by
  split
  · exact h
  · exact .refl s

theorem StaysClear.of_same {s t : State} (hcommand : t.gov.c = s.gov.c) (harmc : t.armc = s.armc) : StaysClear s t :=
  ⟨hcommand, fun side h => by rwa [State.arm_congr harmc]⟩

/-- A move that leaves the command and takes each record to a state that the reverse law allows, or leaves its state. -/
theorem StaysClear.of_arms {s t : State} (hcommand : t.gov.c = s.gov.c)
    (hclear : ∀ a, forbidsReverse (s.arm a) = false → forbidsReverse (t.arm a) = false) : StaysClear s t :=
  ⟨hcommand, fun side => hclear side.arm⟩

theorem SameBut.staysClear {blocks : List Block} {s t : State} (h : SameBut blocks s t)
    (hgov : blocks.contains .gov = false) (harmc : blocks.contains .armc = false) : StaysClear s t :=
  .of_same (congrArg Governor.c (h.same .gov hgov)) (h.same .armc harmc)

/-- The law, side by side. -/
theorem State.reverseInv_iff (s : State) :
    s.reverseInv ↔ (s.gov.c < 0 → ∀ side : Side, forbidsReverse (s.arm side.arm) = false) := by
  constructor
  · intro h hc side
    obtain ⟨hleft, hright⟩ := h hc
    cases side
    · exact hleft
    · exact hright
  · intro h hc
    exact ⟨h hc .left, h hc .right⟩

theorem StaysClear.keeps {s t : State} (h : StaysClear s t) (hs : s.reverseInv) : t.reverseInv := by
  rw [State.reverseInv_iff] at hs ⊢
  intro hc side
  rw [h.command] at hc
  exact h.clear side (hs hc side)

/-- A move that brings the command to zero or forward keeps the law. -/
theorem reverseInv_of_nonneg {s : State} (h : 0 ≤ s.gov.c) : s.reverseInv := fun hc => absurd hc (by omega)

/-! #### Changes of mode and reactions -/

/-- The reverse law speaks of a record's state alone. -/
theorem forbidsReverse_congr {r r' : ArmRecord} (h : r'.state = r.state) : forbidsReverse r' = forbidsReverse r := by
  rw [forbidsReverse, h, forbidsReverse]

theorem enterRaising_clear (r : ArmRecord) : forbidsReverse (enterRaising r) = false := rfl

theorem movedRecord_clear (new : Mode) {r : ArmRecord} (h : forbidsReverse r = false) :
    forbidsReverse (movedRecord new r) = false := by
  have hraise : forbidsReverse (raiseRecord r) = false := by
    unfold raiseRecord
    split
    · exact h
    · exact h
    · exact h
    · exact enterRaising_clear r
  have hpark : forbidsReverse (parkRecord r) = false := by
    unfold parkRecord clearRaiseFlag
    split
    · split <;> exact h
    · exact h
  unfold movedRecord
  split
  · exact hraise
  · exact hraise
  · exact hpark
  · exact h

/-- The switch derivation takes a record off the road (R87). -/
theorem deriveRecord_clear (up : Bool) (r : ArmRecord) : forbidsReverse (deriveRecord up r) = false := by
  unfold deriveRecord
  split
  · next h => simp [forbidsReverse, h]
  · cases up <;> rfl

theorem noticedRecord_clear (prev new : Mode) (up : Bool) {r : ArmRecord} (h : forbidsReverse r = false) :
    forbidsReverse (noticedRecord prev new up r) = false := by
  have hderived : forbidsReverse (if derivesArms prev new then deriveRecord up r else r) = false := by
    split
    · exact deriveRecord_clear up r
    · exact h
  exact movedRecord_clear new hderived

theorem changedRecord_clear (prev new : Mode) (up : Bool) {r : ArmRecord} (h : forbidsReverse r = false) :
    forbidsReverse (changedRecord prev new up r) = false := by
  unfold changedRecord
  split
  · exact noticedRecord_clear prev new up (r := { r with req := .stowed }) h
  · exact noticedRecord_clear prev new up h

theorem changeMode_staysClear (new : Mode) (reason : Nat) (s : State) : StaysClear s (changeMode new reason s) :=
  .of_arms (by simp) fun a h => by rw [changeMode_arm]; exact changedRecord_clear _ _ _ h

theorem completeMode_staysClear (kinds : List Nat) (r : Result) (d : Nat) (s : State) :
    StaysClear s (completeMode kinds r d s) := .of_same (by simp) (by simp)

theorem failWaiting_staysClear (a : Arm) (w : Option ArmWait) (d : Nat) (s : State) :
    StaysClear s (failWaiting a w d s) := .of_same (by simp) (by simp)

theorem completionNotice_staysClear (target : Target) (slot : Nat) (time : BitVec 32) (r : Result) (d : Nat) (s : State) :
    StaysClear s (completionNotice target slot time r d s) := .of_same (by simp) (by simp)

theorem enterSafe_staysClear (k : FaultKind) (halt : Bool) (s : State) : StaysClear s (enterSafe k halt s) := by
  have hmodc (m : ModeControl) (u : State) : StaysClear u (u.setModc m) := .of_same rfl rfl
  unfold enterSafe
  split
  · exact hmodc _ s
  · exact .refl s
  · exact .refl s
  · exact ((changeMode_staysClear _ _ s).trans (hmodc _ _)).trans (completeMode_staysClear _ _ _ _)

theorem setArm_staysClear (a : Arm) {r : ArmRecord} {s : State} (h : forbidsReverse (s.arm a) = false → forbidsReverse r = false) :
    StaysClear s (setArm a r s) := by
  refine .of_arms rfl fun b hb => ?_
  rw [setArm_arm]
  split
  · next hba => exact h (hba ▸ hb)
  · exact hb

theorem armOutNotice_staysClear (a : Arm) (k : FaultKind) (s : State) : StaysClear s (armOutNotice a k s) := by
  refine .of_arms ?_ fun b hb => ?_
  · unfold armOutNotice
    split <;> simp
  · have hstate := armOutNotice_state a b k s
    split at hstate
    · simp [forbidsReverse, hstate]
    · rw [forbidsReverse_congr hstate]
      exact hb

theorem react_staysClear (r : Report) (s : State) : StaysClear s (react r s) := by
  unfold react
  split
  · exact armOutNotice_staysClear _ _ s
  · exact .of_same (by simp) (by simp)
  · exact enterSafe_staysClear _ _ s
  · exact enterSafe_staysClear _ _ s
  · exact .refl s

theorem reactAll_staysClear (rs : List Report) (s : State) : StaysClear s (reactAll rs s) := by
  induction rs generalizing s with
  | nil => exact .refl s
  | cons r rs ih => exact (react_staysClear r s).trans (ih _)

theorem reportBatch_staysClear (rs : List Report) (s : State) : StaysClear s (reportBatch rs s) :=
  StaysClear.trans (.of_same (by simp) (by simp)) (reactAll_staysClear rs (takeReports rs s))

theorem enterOut_clear (k : FaultKind) (r : ArmRecord) : forbidsReverse (enterOut k r) = false := rfl

/-! #### The mode check, the orders and the restart -/

theorem StaysClear.admitsModeCheck : AdmitsModeCheck StaysClear where
  refl := .refl
  trans := .trans
  mode new reason s _ := changeMode_staysClear new reason s
  modc s m _ := .of_same rfl rfl
  ends kinds r d s := .of_same (by simp) (by simp)
  requests k s := by
    refine .of_arms rfl fun a h => ?_
    rw [mapArms_arm]
    unfold commandArm
    split <;> exact h
  wakes s := .of_same rfl rfl

theorem releasedRecord_clear (up : Bool) (r : ArmRecord) : forbidsReverse (releasedRecord up r) = false := by
  cases up <;> rfl

theorem releaseArm_staysClear (a : Arm) (s : State) : StaysClear s (releaseArm a s) := by
  have hexcl (x : Exclusions) : StaysClear s (setExclusions x s) := .of_same rfl rfl
  have hhand (u : State) : StaysClear u (handRecord a 0 u) := .of_same (by simp) (by simp)
  exact .ite (((hexcl _).trans (setArm_staysClear a fun _ => releasedRecord_clear _ _)).trans (hhand _))

theorem StaysClear.admitsOrders : AdmitsOrders StaysClear where
  toAdmitsModeCheck := StaysClear.admitsModeCheck
  frame h := h.staysClear rfl rfl
  trace _ _ := .of_same rfl rfl
  profile _ _ := .of_same rfl rfl
  sleeps s := (sleepStages_sameBut s).staysClear rfl rfl
  pace _ _ _ _ := .of_same rfl rfl
  request a _ _ _ _ := setArm_staysClear a id
  water _ _ _ := .of_same rfl rfl
  holds _ _ := .of_same (by simp) (by simp)
  releaseArm := releaseArm_staysClear
  releaseWater s := .ite (.of_same rfl rfl)
  install s := by
    refine .of_arms (by simp [installArea, clearTrims]) fun a h => ?_
    have hstate : ((installArea s).arm a).state = (s.arm a).state := by
      have hwheel (v : State) : (applyWheelTimeout v).arm a = v.arm a := State.arm_congr (by simp) a
      have htrims (v : State) : ((clearTrims v).arm a).state = (v.arm a).state := by
        rw [clearTrims, mapArms_arm]
        rfl
      have hcal (k : CalLoader) : ((s.setCal k).arm a).state = (s.arm a).state := rfl
      rw [installArea, hwheel, endIf_arm, htrims, hcal]
    rw [forbidsReverse_congr hstate, h]

/-- A restart puts the travel command to 0 (R62). -/
theorem doRestart_reverseInv (s : State) : (doRestart s).reverseInv := by
  have hc : (doRestart s).gov.c = 0 := by
    simp [doRestart_eq, restarted_gov, restartGovernor, resetGovernor]
  exact reverseInv_of_nonneg (by rw [hc])

/-! #### The arm step and the arms' expiries -/

/-- In reverse a record off the road stays off it (R53, R64 to R70). -/
theorem transition_clear {s : State} (hrev : s.reverseState = true) (side : Side) {r : ArmRecord}
    (h : forbidsReverse r = false) : forbidsReverse (transition s side.arm r) = false := by
  have hlower (r : ArmRecord) : s.mayLower side.arm r = false := by
    cases side <;> simp [State.mayLower, armSide, Side.arm, hrev]
  have hreversible : reversible r = false := by
    unfold forbidsReverse at h
    unfold reversible
    cases hstate : r.state <;> simp_all
  unfold transition
  split
  · exact enterRaising_clear r
  · rw [if_neg (by simp [hreversible])]
    unfold forbidsReverse at h
    unfold progress
    cases hstate : r.state <;> simp only [hstate] at h ⊢
    case stowed => simp [hlower, forbidsReverse, hstate]
    case hover => simp [hoverProgress, hrev, forbidsReverse, hstate]
    case raising =>
      unfold raiseProgress
      rw [hlower]
      split
      · rfl
      · simp [forbidsReverse, hstate]
    case out => simp [forbidsReverse, hstate]
    all_goals exact absurd h (by decide)

theorem settleAngle_clear (s : State) (a : Arm) {r : ArmRecord} (h : forbidsReverse r = false) :
    forbidsReverse (settleAngle s a r) = false := h

theorem armTransition_staysClear (s0 : State) (side : Side) {s : State} (hc : s.gov.c < 0) (b : Arm)
    (hb : b = side.arm) : StaysClear s (armTransition s0 b s) := by
  have hrev : s.reverseState = true := by simp [State.reverseState, hc]
  subst hb
  unfold armTransition
  dsimp only
  split
  · refine setArm_staysClear _ fun h => ?_
    unfold outStep
    split <;> exact h
  split
  · exact (setArm_staysClear _ fun _ => settleAngle_clear _ _ (enterOut_clear _ _)).trans (failWaiting_staysClear _ _ _ _)
  · exact setArm_staysClear _ fun h => transition_clear hrev side h

/-- The transition of the main broom moves no side arm. -/
theorem armTransition_main_staysClear (s0 s : State) : StaysClear s (armTransition s0 .main s) := by
  have hmain (r : ArmRecord) (u : State) : StaysClear u (setArm .main r u) :=
    ⟨rfl, fun side h => by rw [setArm_arm]; cases side <;> exact h⟩
  unfold armTransition
  dsimp only
  split
  · exact hmain _ s
  split
  · exact (hmain _ s).trans (failWaiting_staysClear _ _ _ _)
  · exact hmain _ s

theorem armWaiting_staysClear (a : Arm) (s : State) : StaysClear s (armWaiting a s) := by
  have hend (w : ArmWait) (r : Result) (d : Nat) : StaysClear s (endArmWait a w r d s) :=
    (setArm_staysClear a (r := { s.arm a with waiting := none }) id).trans (completionNotice_staysClear _ _ _ _ _ _)
  unfold armWaiting
  repeat' split
  · exact .refl s
  · exact hend _ _ _
  · exact hend _ _ _
  · exact .refl s

theorem armStep_reverseInv {s : State} (hs : s.reverseInv) : (armStep s).reverseInv := by
  have hgov (a : Arm) (u : State) : (armTransition s a u).gov = u.gov := (armTransition_sameBut s a u).same .gov rfl
  have hcommand (u : State) : (armTransitions s u).gov.c = u.gov.c := by
    simp [armTransitions, hgov]
  have hprepare : StaysClear s (armPrepare s) := by
    refine .of_arms rfl fun a h => ?_
    have hstate : ((armPrepare s).arm a).state = (s.arm a).state := by
      simp [armPrepare, armTimers, armRead]
    rw [forbidsReverse_congr hstate, h]
  have hpublish (u : State) : StaysClear u (armPublish u) := by
    refine .of_arms (by simp [armPublish]) fun a h => ?_
    have hstate : ((armPublish u).arm a).state = (u.arm a).state := by
      simp [armPublish, handWorking, armOutputs]
    rw [forbidsReverse_congr hstate, h]
  have hends (u : State) : StaysClear u (armEnds u) := .of_same (by simp [armEnds]) (by simp [armEnds])
  have hfinish (rs : List Report) (u : State) : StaysClear u (armFinish rs u) :=
    ((((reportBatch_staysClear rs u).trans (hends _)).trans (armWaiting_staysClear .left _)).trans
      (armWaiting_staysClear .right _)).trans (armWaiting_staysClear .main _)
  have hafter (u : State) : StaysClear u (armFinish (armReports s (armPrepare s)) (armPublish u)) :=
    (hpublish u).trans (hfinish _ _)
  by_cases hc : s.gov.c < 0
  · have hleft := armTransition_staysClear s .left (s := armPrepare s) hc .left rfl
    have hright (u : State) (hu : u.gov.c = s.gov.c) := armTransition_staysClear s .right (s := u) (by rw [hu]; exact hc) .right rfl
    have hmoves : StaysClear (armPrepare s) (armTransitions s (armPrepare s)) :=
      (hleft.trans (hright _ hleft.command)).trans (armTransition_main_staysClear s _)
    exact ((hprepare.trans hmoves).trans (hafter _)).keeps hs
  · refine reverseInv_of_nonneg ?_
    have hsame : (armStep s).gov.c = s.gov.c := (hafter _).command.trans (hcommand _)
    omega

theorem excludeArm_staysClear (a : Arm) (k : FaultKind) (d : Nat) (s : State) : StaysClear s (excludeArm a k d s) := by
  refine StaysClear.trans (.of_arms (by simp) fun b hb => ?_) (reportBatch_staysClear _ _)
  simp only [handRecord_arm, failWaiting_arm, setArmAndWidth_arm]
  split
  · rfl
  · exact hb

theorem timedMove_command (a : Arm) (s : State) : (timedMove a s).gov.c = s.gov.c := by
  obtain ⟨k, d, -, h⟩ | ⟨-, -, h⟩ | ⟨-, -, h⟩ := timedMove_cases a s <;> rw [h]
  · exact (excludeArm_staysClear a k d s).command
  · simp [moveArm]

theorem timedMove_staysClear (side : Side) {s : State} (hc : s.gov.c < 0) : StaysClear s (timedMove side.arm s) := by
  have hrev : s.reverseState = true := by simp [State.reverseState, hc]
  obtain ⟨k, d, -, h⟩ | ⟨-, -, h⟩ | ⟨-, -, h⟩ := timedMove_cases side.arm s <;> rw [h]
  · exact excludeArm_staysClear side.arm k d s
  · exact .refl s
  · refine .of_arms (by simp [moveArm]) fun b hb => ?_
    unfold moveArm
    simp only [handRecord_arm, setArmAndWidth_arm]
    split
    · next hba =>
      subst hba
      exact transition_clear hrev side (r := { s.readArm side.arm with
        ret := (s.dueRecord side.arm).ret, hover := (s.dueRecord side.arm).hover }) hb
    · exact hb

theorem timedMove_reverseInv (side : Side) {s : State} (hs : s.reverseInv) : (timedMove side.arm s).reverseInv := by
  by_cases hc : s.gov.c < 0
  · exact (timedMove_staysClear side hc).keeps hs
  · refine reverseInv_of_nonneg ?_
    have hsame : (timedMove side.arm s).gov.c = s.gov.c := timedMove_command side.arm s
    omega

/-! #### The travel step -/

/-- A step of the ramp from zero or forward toward a target that is zero or forward ends zero or forward (R55). -/
theorem rampToward_nonneg {up down : Nat} {c target : Int} (hc : 0 ≤ c) (htarget : 0 ≤ target) :
    0 ≤ rampToward up down c target := by
  unfold rampToward
  dsimp only
  generalize (if c.natAbs < target.natAbs then up else down) = step
  split
  · exact htarget
  · split <;> omega

/-- From a standing or forward command the gate lets the target turn negative only with no side arm on the road (R51, R53). -/
theorem signedTarget_nonneg {s : State} (hc : 0 ≤ s.gov.c)
    (hroad : (forbidsReverse s.armc.left || forbidsReverse s.armc.right) = true ∨ 0 < s.gov.c) : 0 ≤ s.signedTarget := by
  unfold State.signedTarget
  split
  case isTrue hmoving =>
    have hsign : signOf s.gov.c = .positive := by
      unfold signOf
      rw [if_pos (by omega)]
    split
    · next h =>
      rw [h, hsign]
      exact Int.natCast_nonneg _
    · exact Int.le_refl 0
  case isFalse hstands =>
    have hforbids := hroad.resolve_right (by omega)
    split
    · exact Int.le_refl 0
    · split
      · next hgate =>
        have hforward : s.sign ≠ .negative := fun hneg => by simp [State.gateOpen, hneg, hforbids] at hgate
        cases hsign : s.sign
        case negative => exact absurd hsign hforward
        case positive => exact Int.natCast_nonneg _
        case none => exact Int.le_refl 0
      · exact Int.le_refl 0

@[simp] theorem Governor.setWheel_c (g : Governor) (w : Wheel) (st : WheelState) (loss : Timer) (n : Nat) :
    (g.setWheel w st loss n).c = g.c := by
  cases w <;> rfl

theorem wheelReport_c (w : Wheel) (s : State) : (wheelReport w s).gov.c = s.gov.c := by
  unfold wheelReport
  dsimp only
  repeat' split
  all_goals simp

theorem wheelLoss_c (w : Wheel) (s : State) : (wheelLoss w s).gov.c = s.gov.c := by
  unfold wheelLoss
  dsimp only
  split <;> simp

/-- Stages 1 to 3 leave the travel command (R39). -/
theorem travelApproach_c (s : State) : (travelApproach s).gov.c = s.gov.c := by
  have hsense (u : State) : (travelSense u).gov.c = u.gov.c := by
    simp [travelSense, travelReport, wheelLoss_c, wheelReport_c]
  have hlimits (u : State) : (travelLimits u).gov.c = u.gov.c := rfl
  have hdwell (u : State) : (travelDwell u).gov.c = u.gov.c := by
    unfold travelDwell
    split <;> rfl
  rw [travelApproach, hdwell, hlimits, hsense]

/-- Stages 4 to 6 bring the command one step toward the target (R55). -/
theorem travelMove_c (target : Int) (s : State) :
    (travelMove target s).gov.c = rampToward s.rampUp s.rampDown s.gov.c target := by
  have houtput (u : State) : (travelOutput u).gov.c = u.gov.c := by
    simp [travelOutput]
  rw [travelMove, houtput]
  rfl

theorem endTravelWait_c (r : Result) (d : Nat) (s : State) : (endTravelWait r d s).gov.c = s.gov.c := by
  unfold endTravelWait setTravelWait
  split <;> simp

theorem arrive_c (limiter : Limiter) (w : TravelWait) (s : State) : (arrive limiter w s).gov.c = s.gov.c := by
  unfold arrive
  split <;> exact endTravelWait_c _ _ s

theorem stopTest_c (now : State) (w : TravelWait) (s : State) : (stopTest now w s).gov.c = s.gov.c := by
  unfold stopTest
  repeat' split
  · exact endTravelWait_c _ _ s
  · exact endTravelWait_c _ _ s
  · rfl

theorem travelWaiting_c (target : Int) (s : State) : (travelWaiting target s).gov.c = s.gov.c := by
  unfold travelWaiting
  split
  · rfl
  split
  · unfold paceTest
    dsimp only
    repeat' split
    · exact arrive_c _ _ s
    · exact endTravelWait_c _ _ s
    · rfl
  · exact stopTest_c s _ s

/-- The stages after the output leave the command and put no side arm on the road (R39). -/
theorem travelStep_staysClear (s : State) : StaysClear (travelDrive s) (travelStep s) := by
  have hwatch (u : State) : StaysClear u (travelWatch u) := .of_same rfl rfl
  have htake (rs : List Report) (u : State) : StaysClear u (takeReports rs u) := .of_same (by simp) (by simp)
  have hends (lostNow : Bool) (g : Governor) (seated overspeeding : Bool) (u : State) :
      StaysClear u (travelEnds lostNow g seated overspeeding u) := .of_same (by simp [travelEnds]) (by simp [travelEnds])
  have hwait (target : Int) (u : State) : StaysClear u (travelWaiting target u) :=
    .of_same (travelWaiting_c target u) ((travelWaiting_sameBut target u).same .armc rfl)
  exact ((((hwatch _).trans (htake _ _)).trans (hends _ _ _ _ _)).trans (hwait _ _)).trans (reactAll_staysClear _ _)

theorem travelStep_reverseInv {s : State} (hs : s.reverseInv) : (travelStep s).reverseInv := by
  have harmc : (travelDrive s).armc = s.armc :=
    ((travelMove_sameBut _ _).same .armc rfl).trans ((travelApproach_sameBut s).same .armc rfl)
  have happroach : (travelApproach s).armc = s.armc := (travelApproach_sameBut s).same .armc rfl
  refine (travelStep_staysClear s).keeps ?_
  by_cases hnonneg : 0 ≤ (travelDrive s).gov.c
  · exact reverseInv_of_nonneg hnonneg
  · rw [State.reverseInv, harmc]
    intro _
    by_cases hc : s.gov.c < 0
    · exact hs hc
    · have hroad : ¬((forbidsReverse s.armc.left || forbidsReverse s.armc.right) = true ∨ 0 < s.gov.c) := by
        intro hroad
        have htarget : 0 ≤ (travelApproach s).signedTarget :=
          signedTarget_nonneg (by rw [travelApproach_c]; omega) (by rwa [happroach, travelApproach_c])
        have hramp := rampToward_nonneg (up := (travelApproach s).rampUp) (down := (travelApproach s).rampDown)
          (c := (travelApproach s).gov.c) (by rw [travelApproach_c]; omega) htarget
        exact hnonneg (by rw [travelDrive, travelMove_c]; exact hramp)
      simpa using (not_or.mp hroad).1

/-! #### Every command -/

theorem writeRestart_reverseInv (v : Word) {s : State} (hs : s.reverseInv) : (writeRestart v s).reverseInv := by
  obtain h | h | h | h := writeRestart_cases v s <;> rw [h]
  · exact hs
  · exact ((wakeSource_sameBut true s).staysClear rfl rfl).keeps hs
  · exact hs
  · exact doRestart_reverseInv s

theorem modeCheck_reverseInv {s : State} (hs : s.reverseInv) : (modeCheck s).reverseInv := by
  obtain hrestarts | hwakes := modeCheck_restarts_or s
  · rw [hrestarts]
    exact doRestart_reverseInv s
  · exact (StaysClear.admitsModeCheck.modeCheck hwakes).keeps hs

theorem setGov_staysClear {g : Governor} {s : State} (h : g.c = s.gov.c) : StaysClear s (s.setGov g) := .of_same h rfl

/-- The reports of an expiry that leaves the command and the arms. -/
theorem reportsAfter_staysClear (rs : List Report) {s u : State} (h : StaysClear s u) : StaysClear s (reportBatch rs u) :=
  h.trans (reportBatch_staysClear rs u)

theorem endTravelWait_staysClear (r : Result) (d : Nat) (s : State) : StaysClear s (endTravelWait r d s) :=
  .of_same (endTravelWait_c r d s) ((endTravelWait_sameBut r d s).same .armc rfl)

theorem arrive_staysClear (limiter : Limiter) (w : TravelWait) (s : State) : StaysClear s (arrive limiter w s) := by
  unfold arrive
  split <;> exact endTravelWait_staysClear _ _ s

theorem stopTest_staysClear (now : State) (w : TravelWait) (s : State) : StaysClear s (stopTest now w s) := by
  unfold stopTest
  repeat' split
  · exact endTravelWait_staysClear _ _ s
  · exact endTravelWait_staysClear _ _ s
  · exact .refl s

theorem paceArrival_staysClear (s : State) : StaysClear s (paceArrival s) := by
  unfold paceArrival
  split
  · exact .ite (arrive_staysClear _ _ s)
  · exact .refl s

theorem paceTimeout_staysClear (s : State) : StaysClear s (paceTimeout s) := by
  unfold paceTimeout
  split
  · exact .ite (endTravelWait_staysClear _ _ s)
  · exact .refl s

theorem stopTimeout_staysClear (s : State) : StaysClear s (stopTimeout s) := by
  unfold stopTimeout
  split
  · exact .ite (stopTest_staysClear _ _ s)
  · exact .refl s

theorem excludeDue_staysClear (a : Arm) (own : Bool) (s : State) : StaysClear s (excludeDue a own s) := by
  unfold excludeDue
  repeat' split
  · exact excludeArm_staysClear a _ _ s
  · exact .refl s
  · exact .refl s

/-- The main broom's own move leaves the side arms. -/
theorem timedMove_main_staysClear (s : State) : StaysClear s (timedMove .main s) := by
  obtain ⟨k, d, -, h⟩ | ⟨-, -, h⟩ | ⟨-, -, h⟩ := timedMove_cases .main s <;> rw [h]
  · exact excludeArm_staysClear .main k d s
  · exact .refl s
  · refine ⟨by simp [moveArm], fun side hb => ?_⟩
    unfold moveArm
    simp only [handRecord_arm, setArmAndWidth_arm]
    cases side <;> exact hb

theorem setArmTimeout_reverseInv (a : Arm) {s : State} (hs : s.reverseInv) : (setArmTimeout a s).reverseInv := by
  have hmove : (timedMove a s).reverseInv := by
    cases a
    case left => exact timedMove_reverseInv .left hs
    case right => exact timedMove_reverseInv .right hs
    case main => exact (timedMove_main_staysClear s).keeps hs
  obtain h | ⟨w, -, -, h⟩ := setArmTimeout_cases a s <;> rw [h]
  · exact hs
  · exact (armWaiting_staysClear a _).keeps hmove

theorem spinUpComplete_staysClear (a : Arm) (s : State) : StaysClear s (spinUpComplete a s) :=
  .ite (setArm_staysClear a id)

theorem outRaiseEnd_staysClear (a : Arm) (s : State) : StaysClear s (outRaiseEnd a s) := by
  refine .ite (.of_arms (by simp) fun b hb => ?_)
  simp only [armConditionEnd_arm, handRecord_arm, setArm_arm]
  split
  · next hba =>
    unfold clearRaiseFlag
    split <;> exact hba ▸ hb
  · exact hb

theorem waterStep_staysClear (s : State) : StaysClear s (waterStep s) := by
  have hflow : StaysClear s (waterFlow s) := (waterFlow_sameBut s).staysClear rfl rfl
  have hwatch (b : Bool) (u : State) : StaysClear u (waterWatch s.watc b u) := .of_same rfl rfl
  have hends (w : WaterControl) (b : Bool) (u : State) : StaysClear u (waterEnds s.watc w b u) :=
    .of_same (by simp [waterEnds]) (by simp [waterEnds])
  exact ((hflow.trans (hwatch _ _)).trans (reportBatch_staysClear _ _)).trans (hends _ _ _)

theorem loadStep_staysClear (s : State) : StaysClear s (loadStep s) := by
  have hform : StaysClear s (loadForm s) := by
    rw [loadForm_eq]
    exact .of_same rfl rfl
  have hscale (u : State) : StaysClear u (loadScale u) := .of_same rfl rfl
  have hend (b : Bool) (k : FaultKind) (u : State) : StaysClear u (endIf b k u) := .of_same (by simp) (by simp)
  exact ((hform.trans (hscale _)).trans (reportBatch_staysClear _ _)).trans (hend _ _ _)

theorem startupLoad_staysClear (s : State) : StaysClear s (startupLoad s) := by
  have hends (u : State) : StaysClear u (loadEnds u) := .of_same rfl rfl
  have hdefaults (o : ImageOutcome) (ws : List Word) : StaysClear s (installDefaults o ws s) :=
    reportsAfter_staysClear _ (.of_same (by simp [writeArea]) (by simp [writeArea]))
  by_cases hop : s.cal.op = .loading
  · by_cases ho : (readImage s).1 = .valid
    · rw [startupLoad_valid hop ho]
      exact ((installImage_sameBut _ s).staysClear rfl rfl).trans (hends _)
    · rw [startupLoad_defaults hop ho]
      exact (hdefaults _ _).trans (hends _)
  · rw [startupLoad_other hop]
    exact .refl s

theorem deflectReturn_reverseInv (side : Side) {s : State} (hs : s.reverseInv) : (deflectReturn side.arm s).reverseInv := by
  unfold deflectReturn
  dsimp only
  split
  · exact timedMove_reverseInv side hs
  · exact hs

theorem hoverReached_reverseInv (side : Side) {s : State} (hs : s.reverseInv) : (hoverReached side.arm s).reverseInv := by
  unfold hoverReached
  dsimp only
  split
  · exact timedMove_reverseInv side hs
  · exact hs

/-- No command breaks the law of R53. -/
theorem effect_reverseInv (c : Instr) (s : State) (hs : s.reverseInv) : (effect c s).reverseInv := by
  refine (StaysClear.admitsOrders.implies fun h => h.keeps).effect_keeps (P := State.reverseInv) (fun c u hc hu => ?_) c s hs
  have hsame := effect_sameBut c u
  have hwheel (now : State) (w : Wheel) (st : WheelState) (loss : Timer) (n : Nat) :
      StaysClear u (u.withSpeed now (u.gov.setWheel w st loss n)) :=
    setGov_staysClear (Governor.setWheel_c u.gov w st loss n)
  have hrunning {f : State → State} (h : StaysClear u (f u)) : (whenRunning f u).reverseInv :=
    whenRunning_keeps (P := State.reverseInv) h.keeps hu
  have hlive {f : State → State} (h : StaysClear u (f u)) : (whenLive f u).reverseInv :=
    whenLive_keeps (P := State.reverseInv) h.keeps hu
  cases c
  case coldReset cause => exact reverseInv_of_nonneg (Int.le_refl 0)
  case restart v => exact whenLive_keeps (writeRestart_reverseInv v) hu
  case startupLoadDone => exact hlive (startupLoad_staysClear u)
  case modeCheck => exact whenRunning_keeps modeCheck_reverseInv hu
  case settleTimerExpiry => exact hrunning (StaysClear.admitsModeCheck.settleExpiry u)
  case engageBudgetExpiry => exact hrunning (StaysClear.admitsModeCheck.budgetExpiry u)
  case travelStep => exact whenRunning_keeps travelStep_reverseInv hu
  case wheelDisagreeTimeout =>
    exact hrunning (f := disagreeTimeout) (.ite (reportsAfter_staysClear _ (setGov_staysClear rfl)))
  case wheelLossTimeout w =>
    exact hrunning (f := lossTimeout w) (.ite (reportsAfter_staysClear _ (hwheel _ _ _ _ _)))
  case wheelReadmission w => exact hrunning (f := readmission w) (.ite (hwheel _ _ _ _ _))
  case wheelSilenceTimeout => exact hrunning (f := silenceTimeout) (.ite (reportsAfter_staysClear _ (setGov_staysClear rfl)))
  case neutralDwellElapsed => exact hrunning (f := dwellElapsed) (.ite (setGov_staysClear rfl))
  case overspeedTimeout => exact hrunning (f := overspeedTimeout) (.ite (reportsAfter_staysClear _ (setGov_staysClear rfl)))
  case operatorAbsentTimeout =>
    exact hrunning (f := operatorTimeout) (.ite (reportsAfter_staysClear _ (setGov_staysClear rfl)))
  case paceArrival => exact hrunning (paceArrival_staysClear u)
  case paceTimeout => exact hrunning (paceTimeout_staysClear u)
  case stopTimeout => exact hrunning (stopTimeout_staysClear u)
  case armStep => exact whenRunning_keeps armStep_reverseInv hu
  case armStuckTimeout a => exact hrunning (f := stuckTimeout a) (excludeDue_staysClear a _ u)
  case angleLossTimeout d => exact hrunning (f := angleTimeout d.arm) (excludeDue_staysClear d.arm _ u)
  case deflectLongTimeout d => exact hrunning (f := deflectTimeout d.arm) (excludeDue_staysClear d.arm _ u)
  case brushStallTimeout a => exact hrunning (f := stallTimeout a) (excludeDue_staysClear a _ u)
  case brushSilenceTimeout a => exact hrunning (f := brushSilenceTimeout a) (excludeDue_staysClear a _ u)
  case deflectReturn d => exact whenRunning_keeps (f := deflectReturn d.arm) (deflectReturn_reverseInv d) hu
  case hoverReached d => exact whenRunning_keeps (f := hoverReached d.arm) (hoverReached_reverseInv d) hu
  case spinUpComplete a => exact hrunning (spinUpComplete_staysClear a u)
  case outRaiseEnd a => exact hrunning (outRaiseEnd_staysClear a u)
  case setArmTimeout a => exact whenRunning_keeps (setArmTimeout_reverseInv a) hu
  case waterStep => exact hrunning (waterStep_staysClear u)
  case primeTimeout =>
    exact hrunning (f := primeTimeout) (.ite (reportsAfter_staysClear _ (.of_same (by simp) (by simp))))
  case dryRunTimeout => exact hrunning (f := dryRunTimeout) (.ite (reportsAfter_staysClear _ (.of_same rfl rfl)))
  case flowLossTimeout => exact hrunning (f := flowLossTimeout) (.ite (reportsAfter_staysClear _ (.of_same rfl rfl)))
  case tankLossTimeout => exact hrunning (f := tankLossTimeout) (.ite (reportsAfter_staysClear _ (.of_same rfl rfl)))
  case loadStep => exact hrunning (loadStep_staysClear u)
  case engineLossTimeout => exact hrunning (f := engineLossTimeout) (.ite (reportsAfter_staysClear _ (.of_same rfl rfl)))
  case hostCheckExpiry => exact hlive (f := checkExpiry) (.ite (reportsAfter_staysClear _ (.of_same rfl rfl)))
  all_goals first
    | exact Bool.noConfusion hc
    | exact (hsame.staysClear rfl rfl).keeps hu

/-- Settles O8: the gate lets the command leave zero in reverse with both side arms off the road alone, and in reverse no side arm goes
down. -/
theorem reverseLawKept : Obligations.ReverseLawKept :=
  fun _ _ hs hstep => step_keeps (P := State.reverseInv)
    (fun u hu => ((tick_sameBut u).staysClear rfl rfl).keeps hu) (fun _ _ hu => hu) effect_reverseInv hs hstep

end Sys2Proof.Machine

namespace Sys2Proof.Machine

/-! ### Waiting SET_ARMs: for WORKING or HOVER one waits only in SWEEPING (R84, R86) -/

/-- A move that leaves the mode and adds no waiting order, or leaves none that a mode change would fail. -/
def CalmsOrKeeps (s t : State) : Prop :=
  t.calmArms ∨ (t.modc.mode = s.modc.mode ∧ ∀ a w, (t.arm a).waiting = some w → (s.arm a).waiting = some w)

theorem CalmsOrKeeps.refl (s : State) : CalmsOrKeeps s s := .inr ⟨rfl, fun _ _ h => h⟩

theorem CalmsOrKeeps.trans {s t u : State} (hst : CalmsOrKeeps s t) (htu : CalmsOrKeeps t u) : CalmsOrKeeps s u := by
  obtain hcalm | ⟨hmode, hwaits⟩ := htu
  · exact .inl hcalm
  · obtain hcalm | ⟨hmode', hwaits'⟩ := hst
    · exact .inl fun a w h => hcalm a w (hwaits a w h)
    · exact .inr ⟨hmode.trans hmode', fun a w h => hwaits' a w (hwaits a w h)⟩

theorem CalmsOrKeeps.ite {s t : State} {p : Prop} [Decidable p] (h : CalmsOrKeeps s t) :
    CalmsOrKeeps s (if p then t else s) := by
  split
  · exact h
  · exact .refl s

theorem CalmsOrKeeps.of_same {s t : State} (hmode : t.modc.mode = s.modc.mode) (harmc : t.armc = s.armc) : CalmsOrKeeps s t :=
  .inr ⟨hmode, fun a w h => by rwa [State.arm_congr harmc] at h⟩

theorem CalmsOrKeeps.of_arms {s t : State} (hmode : t.modc.mode = s.modc.mode)
    (hwaits : ∀ a w, (t.arm a).waiting = some w → (s.arm a).waiting = some w) : CalmsOrKeeps s t := .inr ⟨hmode, hwaits⟩

theorem SameBut.calmsOrKeeps {blocks : List Block} {s t : State} (h : SameBut blocks s t)
    (hmodc : blocks.contains .modc = false) (harmc : blocks.contains .armc = false) : CalmsOrKeeps s t :=
  .of_same (congrArg ModeControl.mode (h.same .modc hmodc)) (h.same .armc harmc)

theorem CalmsOrKeeps.keeps {s t : State} (h : CalmsOrKeeps s t) (hs : s.waitsInv) : t.waitsInv := by
  obtain hcalm | ⟨hmode, hwaits⟩ := h
  · exact .inr hcalm
  · obtain hsweeping | hcalm := hs
    · exact .inl (hmode.trans hsweeping)
    · exact .inr fun a w h => hcalm a w (hwaits a w h)

/-! #### Changes of mode and reactions -/

/-- A notice leaves no waiting order but for STOWED (R86). -/
theorem keptWait_calm {new : Mode} {o : Option ArmWait} {w : ArmWait} (h : keptWait new o = some w) : w.req = .stowed := by
  unfold keptWait at h
  split at h
  · split at h
    · next hkept =>
      obtain rfl := Option.some.inj h
      exact hkept.2
    · exact absurd h (by simp)
  · exact absurd h (by simp)

theorem changeMode_calm (new : Mode) (reason : Nat) (s : State) : (changeMode new reason s).calmArms := by
  intro a w h
  rw [changeMode_arm] at h
  exact keptWait_calm h

theorem changeMode_calmsOrKeeps (new : Mode) (reason : Nat) (s : State) : CalmsOrKeeps s (changeMode new reason s) :=
  .inl (changeMode_calm new reason s)

theorem completionNotice_calmsOrKeeps (target : Target) (slot : Nat) (time : BitVec 32) (r : Result) (d : Nat) (s : State) :
    CalmsOrKeeps s (completionNotice target slot time r d s) := .of_same (by simp) (by simp)

theorem completeMode_calmsOrKeeps (kinds : List Nat) (r : Result) (d : Nat) (s : State) :
    CalmsOrKeeps s (completeMode kinds r d s) := .of_same (by simp) (by simp)

theorem failWaiting_calmsOrKeeps (a : Arm) (w : Option ArmWait) (d : Nat) (s : State) :
    CalmsOrKeeps s (failWaiting a w d s) := .of_same (by simp) (by simp)

theorem enterSafe_calmsOrKeeps (k : FaultKind) (halt : Bool) (s : State) : CalmsOrKeeps s (enterSafe k halt s) := by
  by_cases hwork : s.atWork
  · rw [enterSafe_of_work hwork]
    have hmodc (m : ModeControl) (u : State) (hm : m.mode = u.modc.mode) : CalmsOrKeeps u (u.setModc m) := .of_same hm rfl
    exact ((changeMode_calmsOrKeeps _ _ s).trans (hmodc _ _ (by rfl))).trans (completeMode_calmsOrKeeps _ _ _ _)
  · rw [enterSafe_of_rest hwork]
    exact .ite (.of_same rfl rfl)

/-- A record replaced by one with the same waiting order, or none. -/
theorem setArm_calmsOrKeeps (a : Arm) {r : ArmRecord} {s : State}
    (h : ∀ w, r.waiting = some w → (s.arm a).waiting = some w) : CalmsOrKeeps s (setArm a r s) := by
  refine .of_arms rfl fun b w hw => ?_
  rw [setArm_arm] at hw
  split at hw
  · next hba => exact hba ▸ h w hw
  · exact hw

theorem setArmAndWidth_calmsOrKeeps (a : Arm) {r : ArmRecord} {s : State}
    (h : ∀ w, r.waiting = some w → (s.arm a).waiting = some w) : CalmsOrKeeps s (setArmAndWidth a r s) := by
  refine .of_arms rfl fun b w hw => ?_
  rw [setArmAndWidth_arm] at hw
  split at hw
  · next hba => exact hba ▸ h w hw
  · exact hw

/-- An arm that goes OUT holds no waiting order (R71). -/
theorem enterOut_waits (k : FaultKind) (r : ArmRecord) (w : ArmWait) {p : Prop} (h : (enterOut k r).waiting = some w) : p := by
  simp [enterOut] at h

theorem handRecord_calmsOrKeeps (a : Arm) (motor : Nat) (s : State) : CalmsOrKeeps s (handRecord a motor s) :=
  .of_same (by simp) (by simp)

theorem armOutNotice_calmsOrKeeps (a : Arm) (k : FaultKind) (s : State) : CalmsOrKeeps s (armOutNotice a k s) := by
  unfold armOutNotice
  split
  · exact .refl s
  · exact ((setArmAndWidth_calmsOrKeeps a fun w h => enterOut_waits k _ w h).trans (handRecord_calmsOrKeeps _ _ _)).trans
      (failWaiting_calmsOrKeeps _ _ _ _)

theorem react_calmsOrKeeps (r : Report) (s : State) : CalmsOrKeeps s (react r s) := by
  unfold react
  split
  · exact armOutNotice_calmsOrKeeps _ _ s
  · exact .of_same (by simp) (by simp)
  · exact enterSafe_calmsOrKeeps _ _ s
  · exact enterSafe_calmsOrKeeps _ _ s
  · exact .refl s

theorem reactAll_calmsOrKeeps (rs : List Report) (s : State) : CalmsOrKeeps s (reactAll rs s) := by
  induction rs generalizing s with
  | nil => exact .refl s
  | cons r rs ih => exact (react_calmsOrKeeps r s).trans (ih _)

theorem reportBatch_calmsOrKeeps (rs : List Report) (s : State) : CalmsOrKeeps s (reportBatch rs s) :=
  CalmsOrKeeps.trans (.of_same (by simp) (by simp)) (reactAll_calmsOrKeeps rs (takeReports rs s))

theorem reportsAfter_calmsOrKeeps (rs : List Report) {s u : State} (h : CalmsOrKeeps s u) : CalmsOrKeeps s (reportBatch rs u) :=
  h.trans (reportBatch_calmsOrKeeps rs u)

/-! #### The mode check, the orders and the restart -/

theorem CalmsOrKeeps.admitsModeCheck : AdmitsModeCheck CalmsOrKeeps where
  refl := .refl
  trans := .trans
  mode new reason s _ := changeMode_calmsOrKeeps new reason s
  modc s m hm := .of_same hm rfl
  ends := completeMode_calmsOrKeeps
  requests k s := by
    refine .of_arms rfl fun a w h => ?_
    rw [mapArms_arm] at h
    unfold commandArm at h
    split at h <;> exact h
  wakes s := .of_same rfl rfl

theorem releaseArm_calmsOrKeeps (a : Arm) (s : State) : CalmsOrKeeps s (releaseArm a s) := by
  have hexcl (x : Exclusions) : CalmsOrKeeps s (setExclusions x s) := .of_same rfl rfl
  have hrecord (up : Bool) (u : State) (w : ArmWait) (h : (releasedRecord up (u.arm a)).waiting = some w) :
      (u.arm a).waiting = some w := h
  exact .ite (((hexcl _).trans (setArm_calmsOrKeeps a (hrecord _ _))).trans (handRecord_calmsOrKeeps _ _ _))

theorem installArea_calmsOrKeeps (s : State) : CalmsOrKeeps s (installArea s) := by
  refine .of_arms (by simp [installArea, clearTrims]) fun a w h => ?_
  have hwaiting : ((installArea s).arm a).waiting = (s.arm a).waiting := by
    have hwheel (v : State) : (applyWheelTimeout v).arm a = v.arm a := State.arm_congr (by simp) a
    have htrims (v : State) : ((clearTrims v).arm a).waiting = (v.arm a).waiting := by
      rw [clearTrims, mapArms_arm]
      rfl
    have hcal (k : CalLoader) : ((s.setCal k).arm a).waiting = (s.arm a).waiting := rfl
    rw [installArea, hwheel, endIf_arm, htrims, hcal]
  rwa [hwaiting] at h

/-- A SET_ARM is accepted in SWEEPING alone (R84). -/
theorem CalmsOrKeeps.admitsOrders : AdmitsOrders fun s t => s.waitsInv → t.waitsInv where
  refl _ h := h
  trans hst htu h := htu (hst h)
  mode new reason s hnew := (CalmsOrKeeps.admitsModeCheck.mode new reason s hnew).keeps
  modc s m hm := (CalmsOrKeeps.admitsModeCheck.modc s m hm).keeps
  ends kinds r d s := (CalmsOrKeeps.admitsModeCheck.ends kinds r d s).keeps
  requests k s := (CalmsOrKeeps.admitsModeCheck.requests k s).keeps
  wakes s := (CalmsOrKeeps.admitsModeCheck.wakes s).keeps
  frame h := (h.calmsOrKeeps rfl rfl).keeps
  trace _ _ := id
  profile _ _ := id
  sleeps s := ((sleepStages_sameBut s).calmsOrKeeps rfl rfl).keeps
  pace _ _ _ _ := id
  request _ _ _ _ hmode _ := .inl hmode
  water _ _ _ := id
  holds _ _ := CalmsOrKeeps.keeps (.of_same (by simp) (by simp))
  releaseArm a s := (releaseArm_calmsOrKeeps a s).keeps
  releaseWater _ := CalmsOrKeeps.keeps (.ite (.of_same rfl rfl))
  install s := (installArea_calmsOrKeeps s).keeps

/-- A restart leaves no waiting order (R88). -/
theorem doRestart_calm (s : State) : (doRestart s).calmArms := by
  intro a w h
  rw [doRestart_arm] at h
  exact keptWait_calm h

/-! #### The arm step and the arms' expiries -/

/-- The moves of R64 leave the waiting order. -/
theorem progress_waiting (s : State) (a : Arm) (r : ArmRecord) : (progress s a r).waiting = r.waiting := by
  unfold progress
  split
  · split <;> rfl
  · unfold lowerProgress
    repeat' split
    all_goals rfl
  · unfold workProgress
    repeat' split
    all_goals rfl
  · unfold deflectProgress
    repeat' split
    all_goals rfl
  · unfold liftProgress
    split <;> rfl
  · unfold hoverProgress
    split <;> rfl
  · unfold raiseProgress
    repeat' split
    all_goals rfl
  · rfl

theorem transition_waiting (s : State) (a : Arm) (r : ArmRecord) : (transition s a r).waiting = r.waiting := by
  unfold transition
  split
  · rfl
  split
  · rfl
  · exact progress_waiting s a r

theorem armTransition_calmsOrKeeps (s0 : State) (a : Arm) (s : State) : CalmsOrKeeps s (armTransition s0 a s) := by
  unfold armTransition
  dsimp only
  split
  · refine setArm_calmsOrKeeps a fun w h => ?_
    unfold outStep at h
    split at h <;> exact h
  split
  · refine CalmsOrKeeps.trans (setArm_calmsOrKeeps a fun w h => ?_) (failWaiting_calmsOrKeeps _ _ _ _)
    exact absurd h (by simp [settleAngle, enterOut])
  · refine setArm_calmsOrKeeps a fun w h => ?_
    have hwaiting : (settleAngle s a (transition s a (s.arm a))).waiting = (s.arm a).waiting := transition_waiting s a _
    rwa [hwaiting] at h

theorem armWaiting_calmsOrKeeps (a : Arm) (s : State) : CalmsOrKeeps s (armWaiting a s) := by
  have hend (w : ArmWait) (r : Result) (d : Nat) : CalmsOrKeeps s (endArmWait a w r d s) :=
    (setArm_calmsOrKeeps a (r := { s.arm a with waiting := none }) fun w h => absurd h (by simp)).trans
      (completionNotice_calmsOrKeeps _ _ _ _ _ _)
  unfold armWaiting
  repeat' split
  · exact .refl s
  · exact hend _ _ _
  · exact hend _ _ _
  · exact .refl s

theorem armStep_calmsOrKeeps (s : State) : CalmsOrKeeps s (armStep s) := by
  have hprepare : CalmsOrKeeps s (armPrepare s) := by
    refine .of_arms rfl fun a w h => ?_
    have hwaiting : ((armPrepare s).arm a).waiting = (s.arm a).waiting := by
      simp [armPrepare, armTimers, armRead]
    rwa [hwaiting] at h
  have hpublish (u : State) : CalmsOrKeeps u (armPublish u) := by
    refine .of_arms (congrArg ModeControl.mode ((armPublish_sameBut u).same .modc rfl)) fun a w h => ?_
    have hwaiting : ((armPublish u).arm a).waiting = (u.arm a).waiting := by
      simp [armPublish, handWorking, armOutputs]
    rwa [hwaiting] at h
  have hends (u : State) : CalmsOrKeeps u (armEnds u) := .of_same (by simp [armEnds]) (by simp [armEnds])
  have hmoves (u : State) : CalmsOrKeeps u (armTransitions s u) :=
    ((armTransition_calmsOrKeeps s .left u).trans (armTransition_calmsOrKeeps s .right _)).trans
      (armTransition_calmsOrKeeps s .main _)
  have hfinish (rs : List Report) (u : State) : CalmsOrKeeps u (armFinish rs u) :=
    ((((reportBatch_calmsOrKeeps rs u).trans (hends _)).trans (armWaiting_calmsOrKeeps .left _)).trans
      (armWaiting_calmsOrKeeps .right _)).trans (armWaiting_calmsOrKeeps .main _)
  exact ((hprepare.trans (hmoves _)).trans (hpublish _)).trans (hfinish _ _)

theorem excludeArm_calmsOrKeeps (a : Arm) (k : FaultKind) (d : Nat) (s : State) : CalmsOrKeeps s (excludeArm a k d s) := by
  have hout (w : ArmWait) (h : ({ enterOut k (s.readArm a) with angleLoss := none } : ArmRecord).waiting = some w) :
      (s.arm a).waiting = some w := enterOut_waits k (s.readArm a) w h
  exact (((setArmAndWidth_calmsOrKeeps a hout).trans (failWaiting_calmsOrKeeps _ _ _ _)).trans
    (handRecord_calmsOrKeeps _ _ _)).trans (reportBatch_calmsOrKeeps _ _)

theorem excludeDue_calmsOrKeeps (a : Arm) (own : Bool) (s : State) : CalmsOrKeeps s (excludeDue a own s) := by
  unfold excludeDue
  repeat' split
  · exact excludeArm_calmsOrKeeps a _ _ s
  · exact .refl s
  · exact .refl s

theorem timedMove_calmsOrKeeps (a : Arm) (s : State) : CalmsOrKeeps s (timedMove a s) := by
  obtain ⟨k, d, -, h⟩ | ⟨-, -, h⟩ | ⟨-, -, h⟩ := timedMove_cases a s <;> rw [h]
  · exact excludeArm_calmsOrKeeps a k d s
  · exact .refl s
  · unfold moveArm
    refine (setArmAndWidth_calmsOrKeeps a fun w h => ?_).trans (handRecord_calmsOrKeeps _ _ _)
    have hwaiting : (s.dueTransition a).waiting = (s.arm a).waiting := transition_waiting s a _
    rw [← hwaiting]
    exact h

theorem setArmTimeout_calmsOrKeeps (a : Arm) (s : State) : CalmsOrKeeps s (setArmTimeout a s) := by
  obtain h | ⟨w, -, -, h⟩ := setArmTimeout_cases a s <;> rw [h]
  · exact .refl s
  · exact (timedMove_calmsOrKeeps a s).trans (armWaiting_calmsOrKeeps a _)

theorem outRaiseEnd_calmsOrKeeps (a : Arm) (s : State) : CalmsOrKeeps s (outRaiseEnd a s) := by
  have hclear (r : ArmRecord) : (clearRaiseFlag r).waiting = r.waiting := by
    unfold clearRaiseFlag
    split <;> rfl
  have hend (k : FaultKind) (u : State) : CalmsOrKeeps u (armConditionEnd k u) := .of_same (by simp) (by simp)
  refine .ite ((((setArm_calmsOrKeeps a fun w h => ?_).trans (handRecord_calmsOrKeeps _ _ _)).trans (hend _ _)).trans (hend _ _))
  rwa [hclear] at h

/-! #### The other jobs' steps -/

theorem travelStep_calmsOrKeeps (s : State) : CalmsOrKeeps s (travelStep s) := by
  have happroach : CalmsOrKeeps s (travelApproach s) := (travelApproach_sameBut s).calmsOrKeeps rfl rfl
  have hmove (target : Int) (u : State) : CalmsOrKeeps u (travelMove target u) := (travelMove_sameBut target u).calmsOrKeeps rfl rfl
  have hwatch (u : State) : CalmsOrKeeps u (travelWatch u) := .of_same rfl rfl
  have htake (rs : List Report) (u : State) : CalmsOrKeeps u (takeReports rs u) := .of_same (by simp) (by simp)
  have hends (lostNow : Bool) (g : Governor) (seated overspeeding : Bool) (u : State) :
      CalmsOrKeeps u (travelEnds lostNow g seated overspeeding u) :=
    .of_same (by simp [travelEnds]) (by simp [travelEnds])
  have hwait (target : Int) (u : State) : CalmsOrKeeps u (travelWaiting target u) :=
    (travelWaiting_sameBut target u).calmsOrKeeps rfl rfl
  have hdrive : CalmsOrKeeps s (travelWatch (travelDrive s)) := (happroach.trans (hmove _ _)).trans (hwatch _)
  exact (((hdrive.trans (htake _ _)).trans (hends _ _ _ _ _)).trans (hwait _ _)).trans (reactAll_calmsOrKeeps _ _)

theorem waterStep_calmsOrKeeps (s : State) : CalmsOrKeeps s (waterStep s) := by
  have hflow : CalmsOrKeeps s (waterFlow s) := (waterFlow_sameBut s).calmsOrKeeps rfl rfl
  have hwatch (b : Bool) (u : State) : CalmsOrKeeps u (waterWatch s.watc b u) := .of_same rfl rfl
  have hends (w : WaterControl) (b : Bool) (u : State) : CalmsOrKeeps u (waterEnds s.watc w b u) :=
    .of_same (by simp [waterEnds]) (by simp [waterEnds])
  exact ((hflow.trans (hwatch _ _)).trans (reportBatch_calmsOrKeeps _ _)).trans (hends _ _ _)

theorem loadStep_calmsOrKeeps (s : State) : CalmsOrKeeps s (loadStep s) := by
  have hform : CalmsOrKeeps s (loadForm s) := by
    rw [loadForm_eq]
    exact .of_same rfl rfl
  have hscale (u : State) : CalmsOrKeeps u (loadScale u) := .of_same rfl rfl
  have hend (b : Bool) (k : FaultKind) (u : State) : CalmsOrKeeps u (endIf b k u) := .of_same (by simp) (by simp)
  exact ((hform.trans (hscale _)).trans (reportBatch_calmsOrKeeps _ _)).trans (hend _ _ _)

theorem startupLoad_calmsOrKeeps (s : State) : CalmsOrKeeps s (startupLoad s) := by
  have hends (u : State) : CalmsOrKeeps u (loadEnds u) := .of_same rfl rfl
  have hdefaults (o : ImageOutcome) (ws : List Word) : CalmsOrKeeps s (installDefaults o ws s) :=
    reportsAfter_calmsOrKeeps _ (.of_same (by simp [writeArea]) (by simp [writeArea]))
  by_cases hop : s.cal.op = .loading
  · by_cases ho : (readImage s).1 = .valid
    · rw [startupLoad_valid hop ho]
      exact ((installImage_sameBut _ s).calmsOrKeeps rfl rfl).trans (hends _)
    · rw [startupLoad_defaults hop ho]
      exact (hdefaults _ _).trans (hends _)
  · rw [startupLoad_other hop]
    exact .refl s

theorem wakeSource_calmsOrKeeps (restart : Bool) (s : State) : CalmsOrKeeps s (wakeSource restart s) :=
  .ite (.of_same rfl rfl)

theorem settleInput_calmsOrKeeps (i : Input) (s : State) : CalmsOrKeeps s (settleInput i s) := by
  have hlevel (d : Debounced) : CalmsOrKeeps s (setInput i d s) := .of_same rfl rfl
  unfold settleInput
  dsimp only
  repeat' split
  · exact (hlevel _).trans (wakeSource_calmsOrKeeps _ _)
  · exact hlevel _
  · exact .refl s

theorem writeRestart_calmsOrKeeps (v : Word) (s : State) : CalmsOrKeeps s (writeRestart v s) := by
  obtain h | h | h | h := writeRestart_cases v s <;> rw [h]
  · exact .refl s
  · exact wakeSource_calmsOrKeeps true s
  · exact .of_same rfl rfl
  · exact .inl (doRestart_calm s)

theorem modeCheck_calmsOrKeeps (s : State) : CalmsOrKeeps s (modeCheck s) := by
  obtain hrestarts | hwakes := modeCheck_restarts_or s
  · rw [hrestarts]
    exact .inl (doRestart_calm s)
  · exact CalmsOrKeeps.admitsModeCheck.modeCheck hwakes

theorem coldReset_calm (cause : ResetCause) (s : State) : (coldReset cause s).calmArms := by
  intro a w h
  have hnone : ((coldReset cause s).arm a).waiting = none := by cases a <;> rfl
  rw [hnone] at h
  exact absurd h (by simp)

/-! #### Every command -/

/-- No command lets a SET_ARM for WORKING or HOVER wait outside SWEEPING. -/
theorem effect_waitsInv (c : Instr) (s : State) (hs : s.waitsInv) : (effect c s).waitsInv := by
  refine CalmsOrKeeps.admitsOrders.effect_keeps (P := State.waitsInv) (fun c u hc hu => ?_) c s hs
  have hsame := effect_sameBut c u
  have hgov (now : State) (g : Governor) : CalmsOrKeeps u (u.withSpeed now g) := .of_same rfl rfl
  have hrunning {f : State → State} (h : CalmsOrKeeps u (f u)) : (whenRunning f u).waitsInv :=
    whenRunning_keeps (P := State.waitsInv) h.keeps hu
  have hlive {f : State → State} (h : CalmsOrKeeps u (f u)) : (whenLive f u).waitsInv :=
    whenLive_keeps (P := State.waitsInv) h.keeps hu
  cases c
  case coldReset cause => exact .inr (coldReset_calm cause u)
  case restart v => exact hlive (writeRestart_calmsOrKeeps v u)
  case wake v => exact hlive (f := wakeSource false) (wakeSource_calmsOrKeeps false u)
  case startupLoadDone => exact hlive (startupLoad_calmsOrKeeps u)
  case modeCheck => exact hrunning (modeCheck_calmsOrKeeps u)
  case settleTimerExpiry => exact hrunning (CalmsOrKeeps.admitsModeCheck.settleExpiry u)
  case engageBudgetExpiry => exact hrunning (CalmsOrKeeps.admitsModeCheck.budgetExpiry u)
  case travelStep => exact hrunning (travelStep_calmsOrKeeps u)
  case wheelDisagreeTimeout => exact hrunning (f := disagreeTimeout) (.ite (reportsAfter_calmsOrKeeps _ (hgov _ _)))
  case wheelLossTimeout w => exact hrunning (f := lossTimeout w) (.ite (reportsAfter_calmsOrKeeps _ (hgov _ _)))
  case wheelSilenceTimeout => exact hrunning (f := silenceTimeout) (.ite (reportsAfter_calmsOrKeeps _ (hgov _ _)))
  case overspeedTimeout => exact hrunning (f := overspeedTimeout) (.ite (reportsAfter_calmsOrKeeps _ (hgov _ _)))
  case operatorAbsentTimeout => exact hrunning (f := operatorTimeout) (.ite (reportsAfter_calmsOrKeeps _ (hgov _ _)))
  case armStep => exact hrunning (armStep_calmsOrKeeps u)
  case armStuckTimeout a => exact hrunning (f := stuckTimeout a) (excludeDue_calmsOrKeeps a _ u)
  case angleLossTimeout d => exact hrunning (f := angleTimeout d.arm) (excludeDue_calmsOrKeeps d.arm _ u)
  case deflectLongTimeout d => exact hrunning (f := deflectTimeout d.arm) (excludeDue_calmsOrKeeps d.arm _ u)
  case brushStallTimeout a => exact hrunning (f := stallTimeout a) (excludeDue_calmsOrKeeps a _ u)
  case brushSilenceTimeout a => exact hrunning (f := brushSilenceTimeout a) (excludeDue_calmsOrKeeps a _ u)
  case deflectReturn d => exact hrunning (f := deflectReturn d.arm) (.ite (timedMove_calmsOrKeeps d.arm u))
  case hoverReached d => exact hrunning (f := hoverReached d.arm) (.ite (timedMove_calmsOrKeeps d.arm u))
  case spinUpComplete a => exact hrunning (f := spinUpComplete a) (.ite (setArm_calmsOrKeeps a fun _ h => h))
  case outRaiseEnd a => exact hrunning (outRaiseEnd_calmsOrKeeps a u)
  case setArmTimeout a => exact hrunning (setArmTimeout_calmsOrKeeps a u)
  case waterStep => exact hrunning (waterStep_calmsOrKeeps u)
  case primeTimeout => exact hrunning (f := primeTimeout) (.ite (reportsAfter_calmsOrKeeps _ (.of_same (by simp) (by simp))))
  case dryRunTimeout => exact hrunning (f := dryRunTimeout) (.ite (reportsAfter_calmsOrKeeps _ (.of_same rfl rfl)))
  case flowLossTimeout => exact hrunning (f := flowLossTimeout) (.ite (reportsAfter_calmsOrKeeps _ (.of_same rfl rfl)))
  case tankLossTimeout => exact hrunning (f := tankLossTimeout) (.ite (reportsAfter_calmsOrKeeps _ (.of_same rfl rfl)))
  case loadStep => exact hrunning (loadStep_calmsOrKeeps u)
  case engineLossTimeout => exact hrunning (f := engineLossTimeout) (.ite (reportsAfter_calmsOrKeeps _ (.of_same rfl rfl)))
  case hostCheckExpiry => exact hlive (f := checkExpiry) (.ite (reportsAfter_calmsOrKeeps _ (.of_same rfl rfl)))
  case debounceSettled i => exact hlive (settleInput_calmsOrKeeps i u)
  all_goals first
    | exact Bool.noConfusion hc
    | exact (hsame.calmsOrKeeps rfl rfl).keeps hu

/-- Settles O6: an order opens on a target it has freed and a slot that no entry names, and a SET_ARM for WORKING or HOVER is taken up in
SWEEPING alone and ended by the notice of a mode change. -/
theorem openOrdersLawKept : Obligations.OpenOrdersLawKept := by
  intro s t
  have hticks (u : State) (hu : u.ordersInv) : (tick u).ordersInv := by
    rw [State.ordersInv, (tick_sameBut u).same .orders rfl]
    exact hu
  exact ⟨fun hs hstep => step_keeps (P := State.ordersInv) hticks (fun _ _ hu => hu) effect_ordersInv hs hstep,
    fun hs hstep => step_keeps (P := State.waitsInv) (fun u hu => ((tick_sameBut u).calmsOrKeeps rfl rfl).keeps hu)
      (fun _ _ hu => hu) effect_waitsInv hs hstep⟩

end Sys2Proof.Machine

namespace Sys2Proof.Machine

/-! ### The interlocks of the outputs (R57, R73, R74, R76, R101) -/

/-- The interlocks of one arm, for its record and its outputs. -/
def ArmSafe (r : ArmRecord) (o : ArmOuts) : Prop :=
  (o.lower = false ∨ o.raise = false) ∧ (r.press ≠ 0 → r.state = .working) ∧ (o.press ≠ 0 → r.state = .working) ∧
    (o.motor ≠ 0 → rotates r = true)

theorem State.armOutputsSafe_iff (s : State) (a : Arm) : s.armOutputsSafe a ↔ ArmSafe (s.arm a) (s.armOuts a) := Iff.rfl

/-- The pressure of a record stands in WORKING alone (R74). -/
def ArmRecord.pressesRight (r : ArmRecord) : Prop := r.press ≠ 0 → r.state = .working

/-- The valves of a state never open together (R73). -/
theorem valves_exclude (r : ArmRecord) : lowerValve r = false ∨ raiseValve r = false := by
  unfold lowerValve raiseValve
  cases r.state <;> simp

/-- The outputs that a record calls for meet the interlocks, with a motor duty for a record that rotates or 0. -/
theorem armSafe_outs {r : ArmRecord} {motor : Nat} (hpress : r.pressesRight) (hmotor : motor ≠ 0 → rotates r = true) :
    ArmSafe r (r.outs motor) :=
  ⟨valves_exclude r, hpress, hpress, hmotor⟩

/-- The interlocks speak of a record's state and pressure alone. -/
theorem ArmSafe.congr {r r' : ArmRecord} {o : ArmOuts} (h : ArmSafe r o) (hstate : r'.state = r.state) (hpress : r'.press = r.press) :
    ArmSafe r' o := by
  obtain ⟨hvalves, hrecord, hheld, hmotor⟩ := h
  have hrotates : rotates r' = rotates r := by rw [rotates, hstate, rotates]
  exact ⟨hvalves, by rwa [hstate, hpress], by rwa [hstate], by rwa [hrotates]⟩

theorem ArmRecord.pressesRight.congr {r r' : ArmRecord} (h : r.pressesRight) (hstate : r'.state = r.state)
    (hpress : r'.press = r.press) : r'.pressesRight := by
  unfold ArmRecord.pressesRight at h ⊢
  rwa [hstate, hpress]

theorem pressesRight_of_zero {r : ArmRecord} (h : r.press = 0) : r.pressesRight := fun hpress => absurd h hpress

/-- A move that keeps every interlock. -/
structure KeepsSafe (s t : State) : Prop where
  arms : ∀ a, s.armOutputsSafe a → t.armOutputsSafe a
  pump : s.pumpSafe → t.pumpSafe
  travel : s.travelSafe → t.travelSafe

theorem KeepsSafe.refl (s : State) : KeepsSafe s s := ⟨fun _ => id, id, id⟩

theorem KeepsSafe.trans {s t u : State} (hst : KeepsSafe s t) (htu : KeepsSafe t u) : KeepsSafe s u :=
  ⟨fun a => htu.arms a ∘ hst.arms a, htu.pump ∘ hst.pump, htu.travel ∘ hst.travel⟩

theorem KeepsSafe.ite {s t : State} {p : Prop} [Decidable p] (h : KeepsSafe s t) : KeepsSafe s (if p then t else s) := by
  split
  · exact h
  · exact .refl s

/-- The pump's interlock speaks of the water controller, the mode and the water outputs alone. -/
theorem State.pumpSafe.congr {s t : State} (h : s.pumpSafe) (hmode : t.modc.mode = s.modc.mode)
    (hduty : t.watc.duty = s.watc.duty) (hopen : t.watc.openSet = s.watc.openSet) (houts : t.waterOuts = s.waterOuts) :
    t.pumpSafe := by
  have hworks : t.worksMode = s.worksMode := by rw [State.worksMode, hmode, State.worksMode]
  have hnozzles : t.tma.outputs.nozzles = s.tma.outputs.nozzles := congrArg Prod.fst houts
  have hpump : t.tma.outputs.waterPump.held = s.tma.outputs.waterPump.held := congrArg Prod.snd houts
  unfold State.pumpSafe
  rw [hworks, hduty, hopen, hnozzles, hpump]
  exact h

theorem State.travelSafe.congr {s t : State} (h : s.travelSafe) (houts : t.travelOuts = s.travelOuts) : t.travelSafe := by
  have hfwd : t.tma.outputs.travelFwd.held = s.tma.outputs.travelFwd.held := congrArg Prod.fst houts
  have hrev : t.tma.outputs.travelRev.held = s.tma.outputs.travelRev.held := congrArg Prod.snd houts
  unfold State.travelSafe
  rw [hfwd, hrev]
  exact h

/-- A move that leaves the mode, the arms, the water controller and the outputs. -/
theorem KeepsSafe.of_same {s t : State} (hmode : t.modc.mode = s.modc.mode) (harmc : t.armc = s.armc)
    (hwatc : t.watc = s.watc) (houts : t.tma.outputs = s.tma.outputs) : KeepsSafe s t where
  arms a h := by
    rw [State.armOutputsSafe_iff, State.arm_congr harmc, State.armOuts_congr houts]
    exact h
  pump h := h.congr hmode (by rw [hwatc]) (by rw [hwatc]) (State.waterOuts_congr houts)
  travel h := h.congr (State.travelOuts_congr houts)

theorem SameBut.keepsSafe {blocks : List Block} {s t : State} (h : SameBut blocks s t) (hmodc : blocks.contains .modc = false)
    (harmc : blocks.contains .armc = false) (hwatc : blocks.contains .watc = false) (htma : blocks.contains .tma = false) :
    KeepsSafe s t :=
  .of_same (congrArg ModeControl.mode (h.same .modc hmodc)) (h.same .armc harmc) (h.same .watc hwatc)
    (congrArg TimingArray.outputs (h.same .tma htma))

/-- A move that leaves the mode, the water's duty and groups, and the outputs, and each record's state and pressure. -/
theorem KeepsSafe.of_records {s t : State} (hmode : t.modc.mode = s.modc.mode)
    (hrecords : ∀ a, (t.arm a).state = (s.arm a).state ∧ (t.arm a).press = (s.arm a).press)
    (hduty : t.watc.duty = s.watc.duty) (hopen : t.watc.openSet = s.watc.openSet)
    (houts : t.tma.outputs = s.tma.outputs) : KeepsSafe s t where
  arms a h := by
    obtain ⟨hstate, hpress⟩ := hrecords a
    rw [State.armOutputsSafe_iff, State.armOuts_congr houts]
    exact ArmSafe.congr h hstate hpress
  pump h := h.congr hmode hduty hopen (State.waterOuts_congr houts)
  travel h := h.congr (State.travelOuts_congr houts)

/-- A move that hands an arm's outputs anew, by the record it then holds, and leaves the others. -/
theorem KeepsSafe.of_handed {s t : State} (a : Arm) (hmode : t.modc.mode = s.modc.mode) (hwatc : t.watc = s.watc)
    (hsafe : s.armOutputsSafe a → t.armOutputsSafe a) (hother : ∀ b, b ≠ a → t.arm b = s.arm b ∧ t.armOuts b = s.armOuts b)
    (hwater : t.waterOuts = s.waterOuts) (htravel : t.travelOuts = s.travelOuts) : KeepsSafe s t where
  arms b h := by
    by_cases hb : b = a
    · subst hb
      exact hsafe h
    · obtain ⟨hrecord, houts⟩ := hother b hb
      rw [State.armOutputsSafe_iff, hrecord, houts]
      exact h
  pump h := h.congr hmode (by rw [hwatc]) (by rw [hwatc]) hwater
  travel h := h.congr htravel

/-- The law in its parts. -/
theorem State.outputsInv_iff (s : State) : s.outputsInv ↔ (∀ a, s.armOutputsSafe a) ∧ s.pumpSafe ∧ s.travelSafe := by
  constructor
  · rintro ⟨hleft, hright, hmain, hpump, htravel⟩
    refine ⟨fun a => ?_, hpump, htravel⟩
    cases a
    · exact hleft
    · exact hright
    · exact hmain
  · rintro ⟨harms, hpump, htravel⟩
    exact ⟨harms .left, harms .right, harms .main, hpump, htravel⟩

theorem KeepsSafe.keeps {s t : State} (h : KeepsSafe s t) (hs : s.outputsInv) : t.outputsInv := by
  rw [State.outputsInv_iff] at hs ⊢
  obtain ⟨harms, hpump, htravel⟩ := hs
  exact ⟨fun a => h.arms a (harms a), h.pump hpump, h.travel htravel⟩

/-! #### Changes of mode and reactions -/

theorem movedRecord_pressesRight (new : Mode) {r : ArmRecord} (h : r.pressesRight) : (movedRecord new r).pressesRight := by
  have hraise : (raiseRecord r).pressesRight := by
    unfold raiseRecord
    split
    · exact h
    · exact h
    · exact h
    · exact pressesRight_of_zero rfl
  have hpark : (parkRecord r).pressesRight := by
    unfold parkRecord clearRaiseFlag
    split
    · split <;> exact h
    · exact h
  unfold movedRecord
  split
  · exact hraise
  · exact hraise
  · exact hpark
  · exact h

theorem deriveRecord_pressesRight (up : Bool) {r : ArmRecord} (h : r.pressesRight) : (deriveRecord up r).pressesRight := by
  unfold deriveRecord
  split
  · exact h
  · exact pressesRight_of_zero rfl

theorem noticedRecord_pressesRight (prev new : Mode) (up : Bool) {r : ArmRecord} (h : r.pressesRight) :
    (noticedRecord prev new up r).pressesRight := by
  have hderived : (if derivesArms prev new then deriveRecord up r else r).pressesRight := by
    split
    · exact deriveRecord_pressesRight up h
    · exact h
  exact (movedRecord_pressesRight new hderived).congr rfl rfl

/-- Where a notice moves no arm each record keeps its state and its pressure. -/
theorem noticedRecord_still {prev new : Mode} (hstill : movesArms prev new = false) (up : Bool) (r : ArmRecord) :
    (noticedRecord prev new up r).state = r.state ∧ (noticedRecord prev new up r).press = r.press := by
  unfold movesArms at hstill
  unfold noticedRecord
  cases hderive : derivesArms prev new
  · cases new
    case disengaging => simp at hstill
    case safe => simp at hstill
    case parked => simp at hstill
    all_goals simp [movedRecord]
  · simp [hderive] at hstill

/-- The notices of a mode keep the interlocks: they hand the outputs of the arms they move, and stop the spray outside work (R86, R107). -/
theorem sendNotices_keepsSafe (prev : Mode) {new : Mode} (hnew : new ≠ .starting) {s u : State}
    (hmode : u.modc.mode = new) (hrecords : ∀ a, (u.arm a).state = (s.arm a).state ∧ (u.arm a).press = (s.arm a).press)
    (hwatc : u.watc = s.watc) (houts : u.tma.outputs = s.tma.outputs) : KeepsSafe s (sendNotices prev new u) where
  arms a h := by
    obtain ⟨hstate, hpress⟩ := hrecords a
    rw [State.armOutputsSafe_iff, sendNotices_armOuts, sendNotices_arm]
    cases hmoves : movesArms prev new
    · obtain ⟨hstate', hpress'⟩ := noticedRecord_still hmoves (u.input (upInput a)) (u.arm a)
      rw [if_neg Bool.false_ne_true, State.armOuts_congr houts]
      exact ArmSafe.congr h (hstate'.trans hstate) (hpress'.trans hpress)
    · rw [if_pos rfl]
      have hright : (u.arm a).pressesRight := ArmRecord.pressesRight.congr (r := s.arm a) h.2.1 hstate hpress
      exact armSafe_outs (noticedRecord_pressesRight _ _ _ hright) fun hmotor => absurd rfl hmotor
  pump h := by
    obtain ⟨hduty, hheld⟩ := h
    have hworks : stopsSpray new = false → (sendNotices prev new u).worksMode = true := by
      intro hspray
      rw [State.worksMode, (sendNotices_keeps prev new u).2.2.2.1, hmode]
      cases new <;> first | rfl | exact absurd rfl hnew | exact Bool.noConfusion hspray
    have hwaterOuts := sendNotices_waterOuts prev new u
    rw [State.waterOuts_congr houts] at hwaterOuts
    have hwater := sendNotices_watc prev new u
    rw [hwatc] at hwater
    unfold noticedWater at hwater
    cases hspray : stopsSpray new
    · rw [hspray, if_neg Bool.false_ne_true] at hwater hwaterOuts
      have hdutySame : (sendNotices prev new u).watc.duty = s.watc.duty ∧
          (sendNotices prev new u).watc.openSet = s.watc.openSet := by
        rw [hwater]
        split <;> exact ⟨rfl, rfl⟩
      obtain ⟨hduty', hopen'⟩ := hdutySame
      have hnozzles : (sendNotices prev new u).tma.outputs.nozzles = s.tma.outputs.nozzles := congrArg Prod.fst hwaterOuts
      have hpump : (sendNotices prev new u).tma.outputs.waterPump.held = s.tma.outputs.waterPump.held :=
        congrArg Prod.snd hwaterOuts
      refine ⟨fun hd => ⟨?_, hworks hspray⟩, fun hd => ⟨?_, hworks hspray⟩⟩
      · rw [hopen']
        exact (hduty (hduty' ▸ hd)).1
      · rw [hnozzles]
        exact (hheld (hpump ▸ hd)).1
    · rw [hspray, if_pos rfl] at hwater hwaterOuts
      have hpump : (sendNotices prev new u).tma.outputs.waterPump.held = 0 := congrArg Prod.snd hwaterOuts
      exact ⟨fun hd => absurd (by rw [hwater]; rfl) hd, fun hd => absurd hpump hd⟩
  travel h := h.congr (by rw [sendNotices_travelOuts, State.travelOuts_congr houts])

theorem changeMode_keepsSafe {new : Mode} (reason : Nat) (s : State) (hnew : new ≠ .starting) :
    KeepsSafe s (changeMode new reason s) := by
  have hcause (c : Cause) (u : State) : KeepsSafe u (raiseCause c u) := .of_same rfl rfl rfl rfl
  rw [changeMode_eq]
  refine (sendNotices_keepsSafe s.modc.mode hnew (by simp; rfl) (fun a => ?_) (by simp) (by simp)).trans (hcause _ _)
  rw [modeEntered_arm]
  split <;> exact ⟨rfl, rfl⟩

theorem completeMode_keepsSafe (kinds : List Nat) (r : Result) (d : Nat) (s : State) :
    KeepsSafe s (completeMode kinds r d s) := .of_same (by simp) (by simp) (by simp) (by simp)

theorem failWaiting_keepsSafe (a : Arm) (w : Option ArmWait) (d : Nat) (s : State) :
    KeepsSafe s (failWaiting a w d s) := .of_same (by simp) (by simp) (by simp) (by simp)

theorem completionNotice_keepsSafe (target : Target) (slot : Nat) (time : BitVec 32) (r : Result) (d : Nat) (s : State) :
    KeepsSafe s (completionNotice target slot time r d s) := .of_same (by simp) (by simp) (by simp) (by simp)

theorem enterSafe_keepsSafe (k : FaultKind) (halt : Bool) (s : State) : KeepsSafe s (enterSafe k halt s) := by
  by_cases hwork : s.atWork
  · rw [enterSafe_of_work hwork]
    have hmodc (m : ModeControl) (u : State) (hm : m.mode = u.modc.mode) : KeepsSafe u (u.setModc m) := .of_same hm rfl rfl rfl
    exact ((changeMode_keepsSafe _ s (by decide)).trans (hmodc _ _ (by rfl))).trans (completeMode_keepsSafe _ _ _ _)
  · rw [enterSafe_of_rest hwork]
    exact .ite (.of_same rfl rfl rfl rfl)

/-- A record put in place and its outputs handed at once. -/
theorem handRecord_keepsSafe (a : Arm) (r : ArmRecord) (motor : Nat) (s : State)
    (hsafe : s.armOutputsSafe a → ArmSafe r (r.outs motor)) : KeepsSafe s (handRecord a motor (setArm a r s)) := by
  refine .of_handed a (by simp) (by simp) (fun h => ?_) (fun b hb => ?_) (by simp; rfl) (by simp; rfl)
  · rw [State.armOutputsSafe_iff]
    simpa using hsafe h
  · have houts : (setArm a r s).armOuts b = s.armOuts b := rfl
    simp [hb, houts]

theorem handRecord_width_keepsSafe (a : Arm) (r : ArmRecord) (motor : Nat) (s : State)
    (hsafe : s.armOutputsSafe a → ArmSafe r (r.outs motor)) : KeepsSafe s (handRecord a motor (setArmAndWidth a r s)) := by
  refine .of_handed a (by simp) (by simp) (fun h => ?_) (fun b hb => ?_) (by simp; rfl) (by simp; rfl)
  · rw [State.armOutputsSafe_iff]
    simpa using hsafe h
  · have houts : (setArmAndWidth a r s).armOuts b = s.armOuts b := rfl
    simp [hb, houts]

/-- A record that has gone OUT carries no pressure and no motor (R71). -/
theorem enterOut_safe (k : FaultKind) (r : ArmRecord) : ArmSafe (enterOut k r) ((enterOut k r).outs 0) :=
  armSafe_outs (pressesRight_of_zero rfl) fun hmotor => absurd rfl hmotor

theorem armOutNotice_keepsSafe (a : Arm) (k : FaultKind) (s : State) : KeepsSafe s (armOutNotice a k s) := by
  unfold armOutNotice
  split
  · exact .refl s
  · exact (handRecord_width_keepsSafe a _ 0 s fun _ => enterOut_safe k _).trans (failWaiting_keepsSafe _ _ _ _)

/-- Water outputs that are handed from a controller whose pump stands. -/
theorem handWater_still_keepsSafe {w : WaterControl} (hduty : w.duty = 0) (s : State) :
    KeepsSafe s (handWater (s.setWatc w)) where
  arms a h := by
    rw [State.armOutputsSafe_iff, handWater_arm, handWater_armOuts]
    exact h
  pump _ := by
    have hheld : (handWater (s.setWatc w)).tma.outputs.waterPump.held = w.duty := rfl
    refine ⟨fun hd => absurd ?_ hd, fun hd => absurd ?_ hd⟩
    · simpa using hduty
    · rw [hheld, hduty]
  travel h := h

theorem waterOutNotice_keepsSafe (s : State) : KeepsSafe s (waterOutNotice s) := by
  unfold waterOutNotice
  split
  · exact .refl s
  · exact handWater_still_keepsSafe rfl s

theorem react_keepsSafe (r : Report) (s : State) : KeepsSafe s (react r s) := by
  unfold react
  split
  · exact armOutNotice_keepsSafe _ _ s
  · exact waterOutNotice_keepsSafe s
  · exact enterSafe_keepsSafe _ _ s
  · exact enterSafe_keepsSafe _ _ s
  · exact .refl s

theorem reactAll_keepsSafe (rs : List Report) (s : State) : KeepsSafe s (reactAll rs s) := by
  induction rs generalizing s with
  | nil => exact .refl s
  | cons r rs ih => exact (react_keepsSafe r s).trans (ih _)

theorem takeReports_keepsSafe (rs : List Report) (s : State) : KeepsSafe s (takeReports rs s) :=
  .of_same (by simp) (by simp) (by simp) (by simp)

theorem reportBatch_keepsSafe (rs : List Report) (s : State) : KeepsSafe s (reportBatch rs s) :=
  (takeReports_keepsSafe rs s).trans (reactAll_keepsSafe rs _)

theorem reportsAfter_keepsSafe (rs : List Report) {s u : State} (h : KeepsSafe s u) : KeepsSafe s (reportBatch rs u) :=
  h.trans (reportBatch_keepsSafe rs u)

/-! #### The mode check and the orders -/

/-- A record changed in anything but its state and its pressure. -/
theorem setArm_keepsSafe (a : Arm) {r : ArmRecord} {s : State} (hstate : r.state = (s.arm a).state)
    (hpress : r.press = (s.arm a).press) : KeepsSafe s (setArm a r s) := by
  refine .of_records rfl (fun b => ?_) rfl rfl rfl
  rw [setArm_arm]
  split
  · next hba => exact hba ▸ ⟨hstate, hpress⟩
  · exact ⟨rfl, rfl⟩

theorem KeepsSafe.admitsModeCheck : AdmitsModeCheck KeepsSafe where
  refl := .refl
  trans := .trans
  mode new reason s hnew := changeMode_keepsSafe reason s hnew
  modc s m hm := .of_same hm rfl rfl rfl
  ends := completeMode_keepsSafe
  requests k s := by
    refine .of_records rfl (fun a => ?_) rfl rfl rfl
    rw [mapArms_arm]
    unfold commandArm
    split <;> exact ⟨rfl, rfl⟩
  wakes s := .of_same rfl rfl rfl rfl

/-- Every output off meets every interlock (R136). -/
theorem outputsOff_keepsSafe (s : State) : KeepsSafe s (outputsOff s) where
  arms a h := by
    refine ⟨.inl (by cases a <;> rfl), h.2.1, fun hp => absurd ?_ hp, fun hm => absurd ?_ hm⟩ <;> cases a <;> rfl
  pump h := ⟨h.1, fun hd => absurd rfl hd⟩
  travel _ := .inl rfl

theorem sleepStages_keepsSafe (s : State) : KeepsSafe s (sleepStages s) := by
  have hpublish (u : State) : KeepsSafe u (publish u) := (publish_sameBut u).keepsSafe rfl rfl rfl rfl
  have hsleep (u : State) : KeepsSafe u
      (disarmCheck (u.setTma { u.tma with stepsRunning := false, stripRunning := false })) := .of_same rfl rfl rfl rfl
  exact ((outputsOff_keepsSafe s).trans (hpublish _)).trans (hsleep _)

theorem clearTrims_keepsSafe (s : State) : KeepsSafe s (clearTrims s) := by
  refine .of_records rfl (fun a => ?_) rfl rfl rfl
  rw [clearTrims, mapArms_arm]
  exact ⟨rfl, rfl⟩

theorem installArea_keepsSafe (s : State) : KeepsSafe s (installArea s) := by
  have hcal (k : CalLoader) : KeepsSafe s (s.setCal k) := .of_same rfl rfl rfl rfl
  have hend (b : Bool) (k : FaultKind) (u : State) : KeepsSafe u (endIf b k u) :=
    .of_same (by simp) (by simp) (by simp) (by simp)
  have hwheel (u : State) : KeepsSafe u (applyWheelTimeout u) := .of_same rfl rfl rfl rfl
  exact (((hcal _).trans (clearTrims_keepsSafe _)).trans (hend _ _ _)).trans (hwheel _)

/-- The release of an exclusion hands the outputs of a record in OUT, whose pressure is 0 (R72, R74). -/
theorem releaseArm_outputsInv (a : Arm) {s : State} (hexcl : s.exclusionInv) (hs : s.outputsInv) :
    (releaseArm a s).outputsInv := by
  unfold releaseArm
  split
  case isFalse => exact hs
  case isTrue hrelease =>
    have hlatched : s.faults.exclusions.arm a = true := by
      simp only [Bool.and_eq_true] at hrelease
      exact hrelease.1
    have hout := hexcl.1 a hlatched
    have hset (x : Exclusions) : KeepsSafe s (setExclusions x s) := .of_same rfl rfl rfl rfl
    refine ((hset _).trans (handRecord_keepsSafe a _ 0 _ fun h => ?_)).keeps hs
    refine armSafe_outs (fun hpress => ?_) fun hmotor => absurd rfl hmotor
    have hworking : (s.arm a).state = .working := h.2.1 hpress
    rw [hout] at hworking
    exact absurd hworking (by decide)

/-- The interlocks together with the law of R125, which the release of an exclusion rests on. -/
def State.interlocked (s : State) : Prop := s.exclusionInv ∧ s.outputsInv

theorem KeepsSafe.admitsOrders : AdmitsOrders fun s t => s.interlocked → t.interlocked where
  refl _ h := h
  trans hst htu h := htu (hst h)
  mode new reason s hnew h := ⟨StaysOut.admitsOrders.mode new reason s hnew h.1, (KeepsSafe.admitsModeCheck.mode new reason s hnew).keeps h.2⟩
  modc s m hm h := ⟨StaysOut.admitsOrders.modc s m hm h.1, (KeepsSafe.admitsModeCheck.modc s m hm).keeps h.2⟩
  ends kinds r d s h := ⟨StaysOut.admitsOrders.ends kinds r d s h.1, (KeepsSafe.admitsModeCheck.ends kinds r d s).keeps h.2⟩
  requests k s h := ⟨StaysOut.admitsOrders.requests k s h.1, (KeepsSafe.admitsModeCheck.requests k s).keeps h.2⟩
  wakes s h := ⟨StaysOut.admitsOrders.wakes s h.1, (KeepsSafe.admitsModeCheck.wakes s).keeps h.2⟩
  frame hsame h := ⟨StaysOut.admitsOrders.frame hsame h.1, (hsame.keepsSafe rfl rfl rfl rfl).keeps h.2⟩
  trace _ _ h := h
  profile _ _ h := h
  sleeps s h := ⟨StaysOut.admitsOrders.sleeps s h.1, (sleepStages_keepsSafe s).keeps h.2⟩
  pace _ _ _ _ h := h
  request a req w s hmode h := ⟨StaysOut.admitsOrders.request a req w s hmode h.1, (setArm_keepsSafe a (r := { s.arm a with req := req, waiting := some w }) rfl rfl).keeps h.2⟩
  water _ _ _ h := h
  holds severe s h := ⟨StaysOut.admitsOrders.holds severe s h.1,
    KeepsSafe.keeps (s := s) (.of_same (by simp) (by simp) (by simp) (by simp)) h.2⟩
  releaseArm a s h := ⟨StaysOut.admitsOrders.releaseArm a s h.1, releaseArm_outputsInv a h.1 h.2⟩
  releaseWater s h := by
    have hset (x : Exclusions) : KeepsSafe s (setExclusions x s) := .of_same rfl rfl rfl rfl
    have hwater (u : State) : KeepsSafe u (u.setWatc { u.watc with waterOut := false }) :=
      .of_records rfl (fun _ => ⟨rfl, rfl⟩) rfl rfl rfl
    exact ⟨StaysOut.admitsOrders.releaseWater s h.1, (KeepsSafe.ite ((hset _).trans (hwater _))).keeps h.2⟩
  install s h := ⟨StaysOut.admitsOrders.install s h.1, (installArea_keepsSafe s).keeps h.2⟩

/-! #### The arm step and the arms' expiries -/

theorem pressDuty_working {s : State} {a : Arm} {r : ArmRecord} (h : s.pressDuty a r ≠ 0) : r.state = .working := by
  unfold State.pressDuty at h
  split at h
  · assumption
  · exact absurd rfl h

theorem motorDuty_rotates {s : State} {a : Arm} {r : ArmRecord} (h : s.motorDuty a r ≠ 0) : rotates r = true := by
  unfold State.motorDuty at h
  split at h
  · assumption
  · exact absurd rfl h

/-- Stages 4 and 5 of the arm step hand every arm outputs that meet the interlocks (R73, R74, R77). -/
theorem armPublish_armSafe (a : Arm) (s : State) : (armPublish s).armOutputsSafe a := by
  have hwidth (b : Arm) (u : State) : (publishWidth u).armOuts b = u.armOuts b := rfl
  have hsafe (u v : State) (b : Arm) :
      ArmSafe (armOutputs s b (s.arm b)) ((armOutputs s b (s.arm b)).outs (u.motorDuty b (armOutputs s b (s.arm b)))) :=
    armSafe_outs (fun hpress => pressDuty_working (s := s) (a := b) hpress) fun hmotor => motorDuty_rotates hmotor
  rw [State.armOutputsSafe_iff]
  unfold armPublish handWorking
  cases a <;> simp [hwidth, hsafe _ s]

/-- Stages 4 and 5 leave the mode, the water and its outputs, and the travel outputs. -/
theorem armPublish_others (s : State) : (armPublish s).modc = s.modc ∧ (armPublish s).watc = s.watc ∧
    (armPublish s).waterOuts = s.waterOuts ∧ (armPublish s).travelOuts = s.travelOuts := by
  have hwidth (u : State) : (publishWidth u).waterOuts = u.waterOuts ∧ (publishWidth u).travelOuts = u.travelOuts := ⟨rfl, rfl⟩
  have hmap (f : Arm → ArmRecord → ArmRecord) (u : State) :
      (mapArms f u).waterOuts = u.waterOuts ∧ (mapArms f u).travelOuts = u.travelOuts := ⟨rfl, rfl⟩
  refine ⟨(armPublish_sameBut s).same .modc rfl, (armPublish_sameBut s).same .watc rfl, ?_, ?_⟩ <;>
    simp [armPublish, handWorking, hwidth, hmap]

theorem armWaiting_keepsSafe (a : Arm) (s : State) : KeepsSafe s (armWaiting a s) := by
  have hend (w : ArmWait) (r : Result) (d : Nat) : KeepsSafe s (endArmWait a w r d s) :=
    (setArm_keepsSafe a (r := { s.arm a with waiting := none }) rfl rfl).trans (completionNotice_keepsSafe _ _ _ _ _ _)
  unfold armWaiting
  repeat' split
  · exact .refl s
  · exact hend _ _ _
  · exact hend _ _ _
  · exact .refl s

theorem armStep_keepsSafe (s : State) : KeepsSafe s (armStep s) := by
  have hprepare : SameBut [.armc] s (armPrepare s) := setArmc_sameBut s _
  have hmove (a : Arm) (u : State) : SameBut [.xmem, .port, .orders, .armc] u (armTransition s a u) := armTransition_sameBut s a u
  have hmoves : SameBut [.xmem, .port, .orders, .armc] s (armTransitions s (armPrepare s)) :=
    (((hprepare.mono (by decide)).comp (hmove .left _) (List.Subset.refl _) (List.Subset.refl _)).comp (hmove .right _)
      (List.Subset.refl _) (List.Subset.refl _)).comp (hmove .main _) (List.Subset.refl _) (List.Subset.refl _)
  have hpublished : KeepsSafe s (armPublish (armTransitions s (armPrepare s))) := by
    obtain ⟨hmodc, hwatc, hwater, htravel⟩ := armPublish_others (armTransitions s (armPrepare s))
    have hmodc' := hmoves.same .modc rfl
    have hwatc' := hmoves.same .watc rfl
    have houts : (armTransitions s (armPrepare s)).tma.outputs = s.tma.outputs := congrArg TimingArray.outputs (hmoves.same .tma rfl)
    refine ⟨fun a _ => armPublish_armSafe a _, fun h => h.congr ?_ ?_ ?_ ?_, fun h => h.congr ?_⟩
    · rw [hmodc, hmodc']
    · rw [hwatc, hwatc']
    · rw [hwatc, hwatc']
    · rw [hwater, State.waterOuts_congr houts]
    · rw [htravel, State.travelOuts_congr houts]
  have hends (u : State) : KeepsSafe u (armEnds u) :=
    .of_same (by simp [armEnds]) (by simp [armEnds]) (by simp [armEnds]) (by simp [armEnds])
  have hfinish (rs : List Report) (u : State) : KeepsSafe u (armFinish rs u) :=
    ((((reportBatch_keepsSafe rs u).trans (hends _)).trans (armWaiting_keepsSafe .left _)).trans
      (armWaiting_keepsSafe .right _)).trans (armWaiting_keepsSafe .main _)
  exact hpublished.trans (hfinish _ _)

/-- The waiting order's end stands between a record and its outputs, and touches neither (R71). -/
theorem excludeArm_keepsSafe (a : Arm) (k : FaultKind) (d : Nat) (s : State) : KeepsSafe s (excludeArm a k d s) := by
  refine KeepsSafe.trans (.of_handed a (by simp) (by simp) (fun _ => ?_) (fun b hb => ?_) ?_ ?_) (reportBatch_keepsSafe _ _)
  · rw [State.armOutputsSafe_iff]
    simp only [handRecord_arm, handRecord_armOuts, failWaiting_arm, setArmAndWidth_arm, if_true]
    exact armSafe_outs (pressesRight_of_zero rfl) fun hmotor => absurd rfl hmotor
  · have houts (w : Option ArmWait) (n : Nat) (u : State) : (failWaiting a w n u).armOuts b = u.armOuts b :=
      State.armOuts_congr (by simp) b
    have hset (r : ArmRecord) (u : State) : (setArmAndWidth a r u).armOuts b = u.armOuts b := rfl
    simp [hb, houts, hset]
  · have houts (w : Option ArmWait) (n : Nat) (u : State) : (failWaiting a w n u).waterOuts = u.waterOuts :=
      State.waterOuts_congr (by simp)
    have hset (r : ArmRecord) (u : State) : (setArmAndWidth a r u).waterOuts = u.waterOuts := rfl
    simp [houts, hset]
  · have houts (w : Option ArmWait) (n : Nat) (u : State) : (failWaiting a w n u).travelOuts = u.travelOuts :=
      State.travelOuts_congr (by simp)
    have hset (r : ArmRecord) (u : State) : (setArmAndWidth a r u).travelOuts = u.travelOuts := rfl
    simp [houts, hset]

theorem excludeDue_keepsSafe (a : Arm) (own : Bool) (s : State) : KeepsSafe s (excludeDue a own s) := by
  unfold excludeDue
  repeat' split
  · exact excludeArm_keepsSafe a _ _ s
  · exact .refl s
  · exact .refl s

/-- A motor keeps its duty only while its record goes on rotating (R76). -/
theorem movedMotor_rotates {s : State} {a : Arm} {r : ArmRecord} (h : s.movedMotor a r ≠ 0) : rotates r = true := by
  unfold State.movedMotor at h
  split at h
  · next hrotates =>
    simp only [Bool.and_eq_true] at hrotates
    exact hrotates.1
  · exact motorDuty_rotates h

theorem timedMove_keepsSafe (a : Arm) (s : State) : KeepsSafe s (timedMove a s) := by
  obtain ⟨k, d, -, h⟩ | ⟨-, -, h⟩ | ⟨-, -, h⟩ := timedMove_cases a s <;> rw [h]
  · exact excludeArm_keepsSafe a k d s
  · exact .refl s
  · refine handRecord_width_keepsSafe a _ _ s fun _ => armSafe_outs (fun hpress => ?_) fun hmotor => ?_
    · exact pressDuty_working (s := s) (a := a) hpress
    · exact movedMotor_rotates (s := s) (a := a) hmotor

theorem setArmTimeout_keepsSafe (a : Arm) (s : State) : KeepsSafe s (setArmTimeout a s) := by
  obtain h | ⟨w, -, -, h⟩ := setArmTimeout_cases a s <;> rw [h]
  · exact .refl s
  · exact (timedMove_keepsSafe a s).trans (armWaiting_keepsSafe a _)

theorem outRaiseEnd_keepsSafe (a : Arm) (s : State) : KeepsSafe s (outRaiseEnd a s) := by
  have hend (k : FaultKind) (u : State) : KeepsSafe u (armConditionEnd k u) := .of_same (by simp) (by simp) (by simp) (by simp)
  have hclear (r : ArmRecord) : (clearRaiseFlag r).state = r.state ∧ (clearRaiseFlag r).press = r.press := by
    unfold clearRaiseFlag
    split <;> exact ⟨rfl, rfl⟩
  refine .ite (((handRecord_keepsSafe a _ 0 s fun h => ?_).trans (hend _ _)).trans (hend _ _))
  obtain ⟨hstate, hpress⟩ := hclear { s.arm a with stateTimer := (s.arm a).stateTimer + 10 }
  exact armSafe_outs (ArmRecord.pressesRight.congr (r := s.arm a) h.2.1 hstate hpress) fun hmotor => absurd rfl hmotor

/-! #### The water step and the travel step -/

/-- A flow is commanded at work alone (R95). -/
theorem flowCommand_works {s : State} (h : s.flowCommand ≠ 0) : s.worksMode = true := by
  unfold State.flowCommand at h
  unfold State.worksMode
  dsimp only at h
  cases hmode : s.modc.mode <;> simp_all

/-- Stages 3 to 5 of the water step open groups at work alone, and drive the pump with an open group alone (R100, R101). -/
theorem waterFlow_pumpSafe (s : State) : (waterFlow s).pumpSafe := by
  have hgroups (u : State) (h : (waterGroups (waterCommand u)).watc.openSet ≠ 0) : u.worksMode = true := by
    refine flowCommand_works fun hzero => h ?_
    have hq : (waterCommand u).watc.qCmd = u.flowCommand := rfl
    have hopen : (waterGroups (waterCommand u)).watc.openSet = (waterCommand u).groupsOpen := rfl
    rw [hopen, State.groupsOpen, hq, if_pos hzero]
  have hpump (u : State) : (waterPump u).watc.openSet = u.watc.openSet ∧ (waterPump u).tma.outputs.nozzles = u.watc.openSet ∧
      (waterPump u).tma.outputs.waterPump.held = (waterPump u).watc.duty ∧ (waterPump u).modc = u.modc := by
    unfold waterPump handWater
    exact ⟨rfl, rfl, rfl, rfl⟩
  have hduty (u : State) (h : (waterPump u).watc.duty ≠ 0) : u.watc.openSet ≠ 0 := by
    intro hzero
    refine h ?_
    have hd : (waterPump u).watc.duty = (u.setWatc { u.watc with trim := u.nextFlowTrim }).pumpDuty := by
      simp [waterPump]
    rw [hd, State.pumpDuty]
    exact if_pos hzero
  have hworks (u : State) (h : (waterPump (waterGroups (waterCommand u))).watc.duty ≠ 0) :
      (waterPump (waterGroups (waterCommand u))).worksMode = true := by
    have hmodc : (waterPump (waterGroups (waterCommand u))).modc = u.modc := (hpump _).2.2.2
    rw [State.worksMode, hmodc]
    exact hgroups u (hduty _ h)
  have hsafe (u : State) : (waterPump (waterGroups (waterCommand u))).pumpSafe := by
    obtain ⟨hopen, hnozzles, hheld, -⟩ := hpump (waterGroups (waterCommand u))
    refine ⟨fun hd => ⟨?_, hworks u hd⟩, fun hd => ⟨?_, hworks u (hheld ▸ hd)⟩⟩
    · rw [hopen]
      exact hduty _ hd
    · rw [hnozzles]
      exact hduty _ (hheld ▸ hd)
  exact hsafe _

theorem waterFlow_others (s : State) : (∀ a, (waterFlow s).armOuts a = s.armOuts a) ∧ (waterFlow s).travelOuts = s.travelOuts := by
  have hread (u : State) : (waterPrime (waterDemand (waterRead u))).tma = u.tma := rfl
  have hcommand (u : State) : (waterGroups (waterCommand u)).tma = u.tma := rfl
  have hpump (u : State) (a : Arm) : (waterPump u).armOuts a = u.armOuts a := by
    rw [waterPump, handWater_armOuts]
    rfl
  have hpump' (u : State) : (waterPump u).travelOuts = u.travelOuts := rfl
  have houts (u : State) : (waterGroups (waterCommand (waterPrime (waterDemand (waterRead u))))).tma.outputs = u.tma.outputs := by
    rw [hcommand, hread]
  refine ⟨fun a => ?_, ?_⟩
  · rw [waterFlow, hpump, State.armOuts_congr (houts s)]
  · rw [waterFlow, hpump', State.travelOuts_congr (houts s)]

theorem waterStep_keepsSafe (s : State) : KeepsSafe s (waterStep s) := by
  obtain ⟨harms, htravel⟩ := waterFlow_others s
  have hflow : KeepsSafe s (waterFlow s) := by
    refine ⟨fun a h => ?_, fun _ => waterFlow_pumpSafe s, fun h => h.congr htravel⟩
    rw [State.armOutputsSafe_iff, State.arm_congr ((waterFlow_sameBut s).same .armc rfl), harms]
    exact h
  have hwatch (b : Bool) (u : State) : KeepsSafe u (waterWatch s.watc b u) :=
    .of_records rfl (fun _ => ⟨rfl, rfl⟩) rfl rfl rfl
  have hends (w : WaterControl) (b : Bool) (u : State) : KeepsSafe u (waterEnds s.watc w b u) :=
    .of_same (by simp [waterEnds]) (by simp [waterEnds]) (by simp [waterEnds]) (by simp [waterEnds])
  exact ((hflow.trans (hwatch _ _)).trans (reportBatch_keepsSafe _ _)).trans (hends _ _ _)

/-- One solenoid at most is driven (R57). -/
theorem travelMove_keepsSafe (target : Int) (s : State) : KeepsSafe s (travelMove target s) := by
  have houtput (u : State) : KeepsSafe u (travelOutput u) := by
    refine ⟨fun a h => ?_, fun h => h, fun _ => ?_⟩
    · rw [State.armOutputsSafe_iff]
      cases a <;> exact h
    · unfold State.travelSafe
      have hfwd : (travelOutput u).tma.outputs.travelFwd.held =
          if 0 < u.gov.c then (u.setGov { u.gov with trim := u.nextTravelTrim }).travelDuty else 0 := rfl
      have hrev : (travelOutput u).tma.outputs.travelRev.held =
          if u.gov.c < 0 then (u.setGov { u.gov with trim := u.nextTravelTrim }).travelDuty else 0 := rfl
      by_cases hc : 0 < u.gov.c
      · exact .inr (by rw [hrev, if_neg (by omega)])
      · exact .inl (by rw [hfwd, if_neg hc])
  have hgov (g : Governor) (u : State) : KeepsSafe u (u.setGov g) := .of_same rfl rfl rfl rfl
  exact ((hgov _ s).trans (hgov _ _)).trans (houtput _)

theorem travelStep_keepsSafe (s : State) : KeepsSafe s (travelStep s) := by
  have happroach : KeepsSafe s (travelApproach s) := (travelApproach_sameBut s).keepsSafe rfl rfl rfl rfl
  have hwatch (u : State) : KeepsSafe u (travelWatch u) := .of_same rfl rfl rfl rfl
  have hends (lostNow : Bool) (g : Governor) (seated overspeeding : Bool) (u : State) :
      KeepsSafe u (travelEnds lostNow g seated overspeeding u) :=
    .of_same (by simp [travelEnds]) (by simp [travelEnds]) (by simp [travelEnds]) (by simp [travelEnds])
  have hwait (target : Int) (u : State) : KeepsSafe u (travelWaiting target u) :=
    (travelWaiting_sameBut target u).keepsSafe rfl rfl rfl rfl
  have hdrive : KeepsSafe s (travelWatch (travelDrive s)) := (happroach.trans (travelMove_keepsSafe _ _)).trans (hwatch _)
  exact (((hdrive.trans (takeReports_keepsSafe _ _)).trans (hends _ _ _ _ _)).trans (hwait _ _)).trans (reactAll_keepsSafe _ _)

theorem loadStep_keepsSafe (s : State) : KeepsSafe s (loadStep s) := by
  have hform : KeepsSafe s (loadForm s) := by
    rw [loadForm_eq]
    exact .of_same rfl rfl rfl rfl
  have hscale (u : State) : KeepsSafe u (loadScale u) := .of_same rfl rfl rfl rfl
  have hend (b : Bool) (k : FaultKind) (u : State) : KeepsSafe u (endIf b k u) := .of_same (by simp) (by simp) (by simp) (by simp)
  exact ((hform.trans (hscale _)).trans (reportBatch_keepsSafe _ _)).trans (hend _ _ _)

/-! #### The restart -/

/-- A restart hands the outputs of every arm, its motor off (R88, R73). -/
theorem restarted_armOuts (a : Arm) (s : State) : (restarted s).armOuts a = ((restarted s).arm a).outs 0 := by
  have hmodc (u : State) : (restartModc u).armOuts a = u.armOuts a ∧ (restartModc u).arm a = u.arm a := ⟨rfl, rfl⟩
  have htrace (x : Trace) (u : State) : (setTrace x u).armOuts a = u.armOuts a ∧ (setTrace x u).arm a = u.arm a := ⟨rfl, rfl⟩
  have hcheck (u : State) : (disarmCheck u).armOuts a = u.armOuts a ∧ (disarmCheck u).arm a = u.arm a := ⟨rfl, rfl⟩
  have hend (k : FaultKind) (u : State) : (conditionEnd k u).armOuts a = u.armOuts a := State.armOuts_congr (by simp) a
  have harmEnd (k : FaultKind) (u : State) : (armConditionEnd k u).armOuts a = u.armOuts a := State.armOuts_congr (by simp) a
  simp only [restarted, restartBlocks, hmodc, htrace, hcheck, hend, harmEnd, conditionEnd_arm, armConditionEnd_arm, deriveArms,
    handArmsOff_armOuts, handArmsOff_arm]

/-- A restart takes the pressure off every arm (R88). -/
theorem restarted_pressesRight (a : Arm) (s : State) : ((restarted s).arm a).pressesRight := by
  have hclear (r : ArmRecord) : (clearRaiseFlag r).press = r.press := by
    unfold clearRaiseFlag
    split <;> rfl
  have hrestart (r : ArmRecord) : (restartRecord r).pressesRight := by
    unfold restartRecord
    split
    · exact pressesRight_of_zero (hclear _)
    · exact pressesRight_of_zero rfl
  rw [restarted_arm]
  exact deriveRecord_pressesRight _ (hrestart _)

/-- The pump stands after a restart's resets (R108). -/
theorem restarted_pumpSafe (s : State) : (restarted s).pumpSafe ∧ (restarted s).travelSafe := by
  have hoff : (outputsOff s).waterOuts = (0, 0) ∧ (outputsOff s).travelOuts = (0, 0) := ⟨rfl, rfl⟩
  have horders (u : State) : (restartOrders u).tma.outputs = u.tma.outputs := by simp [restartOrders]
  have hend (k : FaultKind) (u : State) : (conditionEnd k u).tma.outputs = u.tma.outputs := by simp
  have harmEnd (k : FaultKind) (u : State) : (armConditionEnd k u).tma.outputs = u.tma.outputs := by simp
  have hload (b : Bool) (k : FaultKind) (u : State) : (endIf b k u).tma.outputs = u.tma.outputs := by simp
  have hderive (f : Arm → ArmRecord → ArmRecord) (u : State) :
      (deriveArms (mapArms f u)).waterOuts = u.waterOuts ∧ (deriveArms (mapArms f u)).travelOuts = u.travelOuts := by
    have hmap (g : Arm → ArmRecord → ArmRecord) (v : State) :
        (mapArms g v).waterOuts = v.waterOuts ∧ (mapArms g v).travelOuts = v.travelOuts := ⟨rfl, rfl⟩
    simp [deriveArms, hmap]
  have htail (u : State) : (restartModc (setTrace (restartTrace u.tma.trace) u)).waterOuts = u.waterOuts ∧
      (restartModc (setTrace (restartTrace u.tma.trace) u)).travelOuts = u.travelOuts := ⟨rfl, rfl⟩
  have hcheck (u : State) : (disarmCheck u).waterOuts = u.waterOuts ∧ (disarmCheck u).travelOuts = u.travelOuts := ⟨rfl, rfl⟩
  have hblocks (c : CalLoader) (g : Governor) (w : WaterControl) (l : LoadManager) (u : State) :
      ((((u.setCal c).setGov g).setWatc w).setLoadm l).waterOuts = u.waterOuts ∧
      ((((u.setCal c).setGov g).setWatc w).setLoadm l).travelOuts = u.travelOuts := ⟨rfl, rfl⟩
  have hboth : (restarted s).waterOuts = (0, 0) ∧ (restarted s).travelOuts = (0, 0) := by
    rw [restarted, restartBlocks]
    simp only [htail, State.waterOuts_congr (hend _ _), State.travelOuts_congr (hend _ _), hcheck,
      State.waterOuts_congr (harmEnd _ _), State.travelOuts_congr (harmEnd _ _), hderive,
      State.waterOuts_congr (hload _ _ _), State.travelOuts_congr (hload _ _ _), hblocks,
      State.waterOuts_congr (horders _), State.travelOuts_congr (horders _), hoff, and_self]
  obtain ⟨hwater, htravel⟩ := hboth
  have hduty : (restarted s).watc.duty = 0 := by
    rw [restarted_watc]
    rfl
  have hheld : (restarted s).tma.outputs.waterPump.held = 0 := congrArg Prod.snd hwater
  exact ⟨⟨fun hd => absurd hduty hd, fun hd => absurd hheld hd⟩, .inl (congrArg Prod.fst htravel)⟩

theorem restarted_outputsInv (s : State) : (restarted s).outputsInv := by
  obtain ⟨hpump, htravel⟩ := restarted_pumpSafe s
  refine (State.outputsInv_iff _).mpr ⟨fun a => ?_, hpump, htravel⟩
  rw [State.armOutputsSafe_iff, restarted_armOuts]
  exact armSafe_outs (restarted_pressesRight a s) fun hmotor => absurd rfl hmotor

theorem restartMode_ne_starting (s : State) : restartMode s ≠ .starting := by
  unfold restartMode
  split
  · decide
  · split <;> decide

/-- After a restart every interlock holds (R22). -/
theorem doRestart_outputsInv (s : State) : (doRestart s).outputsInv := by
  have hcause (b : Bool) (c : Cause) (u : State) : KeepsSafe u (raiseIf b c u) := .of_same (by simp) (by simp) (by simp) (by simp)
  have hmode : (restarted s).modc.mode ≠ .starting := restartMode_ne_starting _
  have hnotices : KeepsSafe (restarted s)
      (sendNotices s.modc.mode (restarted s).modc.mode (stowRequests (restarted s))) := by
    refine sendNotices_keepsSafe _ hmode (by simp) (fun a => ?_) (by simp) (by simp)
    rw [stowRequests_arm]
    exact ⟨rfl, rfl⟩
  rw [doRestart_eq]
  exact (hnotices.trans (hcause _ _ _)).keeps (restarted_outputsInv s)

/-! #### Every command -/

theorem wakeSource_keepsSafe (restart : Bool) (s : State) : KeepsSafe s (wakeSource restart s) :=
  .ite (.of_records rfl (fun _ => ⟨rfl, rfl⟩) rfl rfl rfl)

theorem writeRestart_outputsInv (v : Word) {s : State} (hs : s.outputsInv) : (writeRestart v s).outputsInv := by
  obtain h | h | h | h := writeRestart_cases v s <;> rw [h]
  · exact hs
  · exact (wakeSource_keepsSafe true s).keeps hs
  · exact hs
  · exact doRestart_outputsInv s

theorem modeCheck_outputsInv {s : State} (hs : s.outputsInv) : (modeCheck s).outputsInv := by
  obtain hrestarts | hwakes := modeCheck_restarts_or s
  · rw [hrestarts]
    exact doRestart_outputsInv s
  · exact (KeepsSafe.admitsModeCheck.modeCheck hwakes).keeps hs

/-- A move of the timing array that leaves the outputs. -/
theorem setTma_keepsSafe {x : TimingArray} {s : State} (houts : x.outputs = s.tma.outputs) : KeepsSafe s (s.setTma x) :=
  .of_same rfl rfl rfl houts

theorem startupLoad_keepsSafe (s : State) : KeepsSafe s (startupLoad s) := by
  have hends (u : State) : KeepsSafe u (loadEnds u) := .of_same rfl rfl rfl rfl
  have himage (image : List Word) : KeepsSafe s (installImage image s) :=
    .of_same (by simp [installImage, writeArea]) (by simp [installImage, writeArea]) (by simp [installImage, writeArea])
      (by simp [installImage, writeArea])
  have hdefaults (o : ImageOutcome) (ws : List Word) : KeepsSafe s (installDefaults o ws s) :=
    reportsAfter_keepsSafe _ (.of_same (by simp [writeArea]) (by simp [writeArea]) (by simp [writeArea]) (by simp [writeArea]))
  by_cases hop : s.cal.op = .loading
  · by_cases ho : (readImage s).1 = .valid
    · rw [startupLoad_valid hop ho]
      exact (himage _).trans (hends _)
    · rw [startupLoad_defaults hop ho]
      exact (hdefaults _ _).trans (hends _)
  · rw [startupLoad_other hop]
    exact .refl s

theorem settleInput_keepsSafe (i : Input) (s : State) : KeepsSafe s (settleInput i s) := by
  have hlevel (d : Debounced) : KeepsSafe s (setInput i d s) := setTma_keepsSafe rfl
  unfold settleInput
  dsimp only
  repeat' split
  · exact (hlevel _).trans (wakeSource_keepsSafe _ _)
  · exact hlevel _
  · exact .refl s

theorem rawInput_keepsSafe (i : Input) (level : Bool) (s : State) : KeepsSafe s (rawInput i level s) := by
  have hlevel (d : Debounced) : KeepsSafe s (setInput i d s) := setTma_keepsSafe rfl
  unfold rawInput
  dsimp only
  split
  · exact .refl s
  · exact hlevel _

theorem writeTrace_keepsSafe (s : State) : KeepsSafe s (writeTrace s) := .of_same (by simp) (by simp) (by simp) (by simp)

theorem setTrace_keepsSafe (x : Trace) (s : State) : KeepsSafe s (setTrace x s) := setTma_keepsSafe rfl

theorem setCapture_keepsSafe (ch : Channel) (k : Capture) (s : State) : KeepsSafe s (setCapture ch k s) := setTma_keepsSafe rfl

theorem judgeEdge_keepsSafe (ch : Channel) (now : Nat) (s : State) : KeepsSafe s (judgeEdge ch now s) := by
  have hcount (inUse : Bool) (sum : Nat) (x : Trace) (u : State) : KeepsSafe u
      (if inUse then
        if u.tma.trace.interval * 1000 ≤ sum then
          writeTrace (setTrace (takePendingInterval { x with accumulator := sum - u.tma.trace.interval * 1000 }) u)
        else setTrace { x with accumulator := sum } u
      else u) := by
    split
    · split
      · exact (setTrace_keepsSafe _ u).trans (writeTrace_keepsSafe _)
      · exact setTrace_keepsSafe _ u
    · exact .refl u
  have hedge (b : Bool) (u : State) : KeepsSafe u (countEdge ch b u) := by
    unfold countEdge
    split
    · exact .ite (hcount _ _ _ u)
    · exact .refl u
  exact .ite ((setCapture_keepsSafe ch _ s).trans (hedge _ _))

theorem captureRaw_keepsSafe (ch : Channel) (level : Bool) (us : Nat) (s : State) : KeepsSafe s (captureRaw ch level us s) := by
  unfold captureRaw
  dsimp only
  repeat' split
  · exact judgeEdge_keepsSafe ch _ s
  · exact (judgeEdge_keepsSafe ch _ s).trans (setCapture_keepsSafe ch _ _)
  · exact setCapture_keepsSafe ch _ s

/-- The beginning of a PWM period leaves the duties that stand (R135). -/
theorem beginPeriod_keepsSafe (o : PwmOut) (s : State) : KeepsSafe s (beginPeriod o s) := by
  have hheld (o' : PwmOut) : ((beginPeriod o s).tma.outputs.get o').held = (s.tma.outputs.get o').held := by
    by_cases hsteps : s.tma.stepsRunning = true
    · by_cases ho : o' = o
      · rw [ho, beginPeriod_same o s hsteps]
      · rw [beginPeriod_other o o' s ho]
    · rw [beginPeriod_asleep o s (by simpa using hsteps)]
  have hvalves : (∀ a, (beginPeriod o s).tma.outputs.lower a = s.tma.outputs.lower a ∧
      (beginPeriod o s).tma.outputs.raise a = s.tma.outputs.raise a) ∧
      (beginPeriod o s).tma.outputs.nozzles = s.tma.outputs.nozzles := by
    unfold beginPeriod
    split
    · exact ⟨fun a => by cases o <;> cases a <;> exact ⟨rfl, rfl⟩, by cases o <;> rfl⟩
    · exact ⟨fun _ => ⟨rfl, rfl⟩, rfl⟩
  obtain ⟨harms, hnozzles⟩ := hvalves
  have hkeeps := beginPeriod_keeps o s
  refine ⟨fun a h => ?_, fun h => h.congr (by simp) (by simp) (by simp) (Prod.ext hnozzles (hheld .waterPump)),
    fun h => h.congr (Prod.ext (hheld .travelFwd) (hheld .travelRev))⟩
  obtain ⟨hlower, hraise⟩ := harms a
  have houts : (beginPeriod o s).armOuts a = s.armOuts a := by
    rw [State.armOuts, hlower, hraise, hheld, hheld, State.armOuts]
  rw [State.armOutputsSafe_iff, State.arm_congr (s := s) (by simp), houts]
  exact h

theorem coldReset_outputsInv (cause : ResetCause) (s : State) : (coldReset cause s).outputsInv := by
  refine (State.outputsInv_iff _).mpr ⟨fun a => ?_, ⟨fun hd => absurd rfl hd, fun hd => absurd rfl hd⟩, .inl rfl⟩
  cases a <;> exact ⟨.inl rfl, fun hp => absurd rfl hp, fun hp => absurd rfl hp, fun hm => absurd rfl hm⟩

/-- No command breaks an interlock while exclusions and states agree. -/
theorem effect_interlocked (c : Instr) (s : State) (hs : s.interlocked) : (effect c s).interlocked := by
  refine KeepsSafe.admitsOrders.effect_keeps (P := State.interlocked) (fun c u hc hu => ?_) c s hs
  refine ⟨effect_exclusionInv c u hu.1, ?_⟩
  replace hu := hu.2
  have hsame := effect_sameBut c u
  have hgov (now : State) (g : Governor) : KeepsSafe u (u.withSpeed now g) := .of_same rfl rfl rfl rfl
  have hwater {w : WaterControl} (hduty : w.duty = u.watc.duty) (hopen : w.openSet = u.watc.openSet) : KeepsSafe u (u.setWatc w) :=
    .of_records rfl (fun _ => ⟨rfl, rfl⟩) hduty hopen rfl
  have hrunning {f : State → State} (h : KeepsSafe u (f u)) : (whenRunning f u).outputsInv :=
    whenRunning_keeps (P := State.outputsInv) h.keeps hu
  have hlive {f : State → State} (h : KeepsSafe u (f u)) : (whenLive f u).outputsInv :=
    whenLive_keeps (P := State.outputsInv) h.keeps hu
  cases c
  case coldReset cause => exact coldReset_outputsInv cause u
  case restart v => exact whenLive_keeps (writeRestart_outputsInv v) hu
  case wake v => exact hlive (f := wakeSource false) (wakeSource_keepsSafe false u)
  case startupLoadDone => exact hlive (startupLoad_keepsSafe u)
  case modeCheck => exact whenRunning_keeps modeCheck_outputsInv hu
  case settleTimerExpiry => exact hrunning (KeepsSafe.admitsModeCheck.settleExpiry u)
  case engageBudgetExpiry => exact hrunning (KeepsSafe.admitsModeCheck.budgetExpiry u)
  case travelStep => exact hrunning (travelStep_keepsSafe u)
  case wheelDisagreeTimeout => exact hrunning (f := disagreeTimeout) (.ite (reportsAfter_keepsSafe _ (hgov _ _)))
  case wheelLossTimeout w => exact hrunning (f := lossTimeout w) (.ite (reportsAfter_keepsSafe _ (hgov _ _)))
  case wheelSilenceTimeout => exact hrunning (f := silenceTimeout) (.ite (reportsAfter_keepsSafe _ (hgov _ _)))
  case overspeedTimeout => exact hrunning (f := overspeedTimeout) (.ite (reportsAfter_keepsSafe _ (hgov _ _)))
  case operatorAbsentTimeout => exact hrunning (f := operatorTimeout) (.ite (reportsAfter_keepsSafe _ (hgov _ _)))
  case armStep => exact hrunning (armStep_keepsSafe u)
  case armStuckTimeout a => exact hrunning (f := stuckTimeout a) (excludeDue_keepsSafe a _ u)
  case angleLossTimeout d => exact hrunning (f := angleTimeout d.arm) (excludeDue_keepsSafe d.arm _ u)
  case deflectLongTimeout d => exact hrunning (f := deflectTimeout d.arm) (excludeDue_keepsSafe d.arm _ u)
  case brushStallTimeout a => exact hrunning (f := stallTimeout a) (excludeDue_keepsSafe a _ u)
  case brushSilenceTimeout a => exact hrunning (f := brushSilenceTimeout a) (excludeDue_keepsSafe a _ u)
  case deflectReturn d => exact hrunning (f := deflectReturn d.arm) (.ite (timedMove_keepsSafe d.arm u))
  case hoverReached d => exact hrunning (f := hoverReached d.arm) (.ite (timedMove_keepsSafe d.arm u))
  case spinUpComplete a =>
    exact hrunning (f := spinUpComplete a) (.ite (setArm_keepsSafe a (r := { u.arm a with spinUp := 1500 }) rfl rfl))
  case outRaiseEnd a => exact hrunning (outRaiseEnd_keepsSafe a u)
  case setArmTimeout a => exact hrunning (setArmTimeout_keepsSafe a u)
  case waterStep => exact hrunning (waterStep_keepsSafe u)
  case primeHeld => exact hrunning (f := primeHeld) (.ite (hwater rfl rfl))
  case primeTimeout => exact hrunning (f := primeTimeout) (.ite (reportsAfter_keepsSafe _ (handWater_still_keepsSafe rfl u)))
  case dryRunTimeout => exact hrunning (f := dryRunTimeout) (.ite (reportsAfter_keepsSafe _ (hwater rfl rfl)))
  case flowLossTimeout => exact hrunning (f := flowLossTimeout) (.ite (reportsAfter_keepsSafe _ (hwater rfl rfl)))
  case tankLossTimeout => exact hrunning (f := tankLossTimeout) (.ite (reportsAfter_keepsSafe _ (hwater rfl rfl)))
  case loadStep => exact hrunning (loadStep_keepsSafe u)
  case engineLossTimeout => exact hrunning (f := engineLossTimeout) (.ite (reportsAfter_keepsSafe _ (.of_same rfl rfl rfl rfl)))
  case hostCheckExpiry => exact hlive (f := checkExpiry) (.ite (reportsAfter_keepsSafe _ (.of_same rfl rfl rfl rfl)))
  case tracePeriodExpiry =>
    exact hlive (f := tracePeriod) (.ite ((setTrace_keepsSafe _ u).trans (writeTrace_keepsSafe _)))
  case captureRawChange ch level us => exact (captureRaw_keepsSafe ch level us u).keeps hu
  case captureEdgeAccepted ch us =>
    exact hlive (f := fun s => if s.captures then judgeEdge ch (s.instant us) s else s) (.ite (judgeEdge_keepsSafe ch _ u))
  case captureTimeout ch us => exact hlive (f := captureExpiry ch us) (.ite (setCapture_keepsSafe ch _ u))
  case debounceRawChange i level => exact (rawInput_keepsSafe i level u).keeps hu
  case debounceSettled i => exact hlive (settleInput_keepsSafe i u)
  case pwmPeriodStart o => exact hlive (beginPeriod_keepsSafe o u)
  case resetRelease =>
    have hrelease : KeepsSafe u (releaseReset u) := .ite (.of_same rfl rfl rfl rfl)
    exact hrelease.keeps hu
  all_goals first
    | exact Bool.noConfusion hc
    | exact (hsame.keepsSafe rfl rfl rfl rfl).keeps hu

/-- Settles O7: outputs are handed with the record, the groups and the command that call for them. -/
theorem outputInterlocksKept : Obligations.OutputInterlocksKept := by
  intro s t hs hexcl hstep
  have htick (u : State) (hu : u.interlocked) : (tick u).interlocked := by
    have hkeeps : KeepsSafe u (tick u) := by
      unfold tick
      split
      · exact .refl u
      · exact .of_same rfl rfl rfl rfl
    exact ⟨((tick_sameBut u).staysOut rfl rfl rfl).keeps hu.1, hkeeps.keeps hu.2⟩
  exact (step_keeps (P := State.interlocked) htick (fun _ _ hu => hu) effect_interlocked ⟨hexcl, hs⟩ hstep).2

end Sys2Proof.Machine

namespace Sys2Proof.Machine

/-! ### The resets and the host port -/

/-- A command acts while RESET# is high. -/
theorem live_of_high {f : State → State} {s : State} (h : s.resetHeld = false) : live f s = .next (f s) := by
  simp [live, h]

/-- A job's step event acts while RESET# is high and the step timers run. -/
theorem atStep_of_running {f : State → State} {s : State} (h : s.running) : atStep f s = .next (f s) := by
  obtain ⟨hreset, hsteps⟩ := h
  simp [atStep, live, hreset, hsteps]

/-- A command that changes nothing while RESET# is high never changes anything. -/
theorem live_of_same {f : State → State} {s : State} (h : f s = s) : live f s = .next s := by
  simp [live, h]

/-! #### Cold reset and the release of RESET# -/

/-- The arms at cold reset (R88). -/
theorem coldReset_arm (cause : ResetCause) (s : State) (a : Arm) : (coldReset cause s).arm a = resetArmRecord := by
  cases a <;> rfl

/-- The latched exclusions at cold reset (R131). -/
theorem resetFaultUnit_arm (a : Arm) : resetFaultUnit.exclusions.arm a = false := by
  cases a <;> rfl

/-- The fault unit's records at cold reset (R131). -/
theorem resetFaultUnit_served (severe : Bool) : resetFaultUnit.served severe = emptyRecordHold := by
  cases severe <;> rfl

/-- The capture channels after a reset, each by name (R143). -/
theorem resetCaptures_get (k : Captures) (now : Nat) (ch : Channel) :
    (resetCaptures k now).get ch = resetCapture (k.get ch).raw now := by
  cases ch <;> rfl

/-- The debounced inputs after a reset, each by name (R143). -/
theorem resetInputs_get (k : Inputs) (i : Input) : (resetInputs k).get i = resetDebounced (k.get i).raw := by
  cases i <;> rfl

/-- A PWM output after outputs-off (R136). -/
theorem outputsAllOff_get (o : PwmOut) : outputsAllOff.get o = ⟨0, 0, 0⟩ := by
  cases o <;> rfl

/-- The valves after outputs-off (R136). -/
theorem outputsAllOff_valves (a : Arm) : outputsAllOff.lower a = false ∧ outputsAllOff.raise a = false := by
  cases a <;> exact ⟨rfl, rfl⟩

/-- Outside the range of a list of writes an empty memory stays empty; inside it reads what was written. -/
theorem memory_read_writeList_nil (d : Word) (base a : Nat) (vs : List Word) :
    Memory.read d (Memory.writeList d [] base vs) a = if base ≤ a ∧ a < base + vs.length then vs.getD (a - base) d else d := by
  split
  · rename_i h
    obtain ⟨i, rfl⟩ := Nat.exists_eq_add_of_le h.1
    rw [memory_read_writeList_same d [] base i vs rfl (by omega), Nat.add_sub_cancel_left]
  · rw [memory_read_writeList_other d [] base a vs (by omega)]
    rfl

/-- Exchange memory at cold reset (R21). -/
theorem coldReset_xread (cause : ResetCause) (s : State) (a : Nat) :
    (coldReset cause s).xread a = if 512 ≤ a ∧ a < 531 then (profileWords defaultProfile).getD (a - 512) 0 else 0 :=
  memory_read_writeList_nil (word 0) 512 a (profileWords defaultProfile)

/-- Settles O14, each invariant by what the cold reset leaves in its block. -/
theorem resetMeetsEveryInvariant : Obligations.ResetMeetsEveryInvariant := by
  have hreset : State.reset = coldReset .powerOn State.reset := rfl
  refine ⟨⟨resetMemory_wf, rfl, Nat.zero_le 33, nofun⟩, ⟨List.nodup_nil, List.nodup_nil, by decide, nofun⟩,
    .inr (hreset ▸ coldReset_calm .powerOn State.reset), hreset ▸ coldReset_outputsInv .powerOn State.reset, ?_, ⟨?_, nofun⟩, ?_, ?_,
    defaultCalibration_validSet, defaultProfile_inRange⟩
  · exact fun _ => ⟨rfl, rfl⟩
  · intro a h
    cases (resetFaultUnit_arm a).symm.trans h
  · exact ⟨by decide, by decide, .inr rfl⟩
  · simp only [State.sleepInv]
    decide

/-- Settles O15. -/
theorem coldResetLeavesResetValues : Obligations.ColdResetLeavesResetValues := by
  intro cause s
  refine ⟨coldReset cause s, rfl, rfl, rfl, coldReset_xread cause s, rfl, coldReset_arm cause s, rfl, rfl, rfl,
    resetFaultUnit_served, rfl, rfl, rfl, rfl, rfl, rfl, rfl, rfl, rfl, rfl, outputsAllOff_get, rfl, outputsAllOff_valves, rfl,
    rfl, rfl, rfl, ?_, ?_, rfl, rfl⟩
  · intro ch
    have hch : (coldReset cause s).tma.captures.get ch = resetCapture (s.tma.captures.get ch).raw 0 := resetCaptures_get _ _ ch
    rw [hch]
    exact ⟨rfl, rfl, rfl, rfl⟩
  · exact resetInputs_get s.tma.inputs

/-- Settles O16. -/
theorem resetReleaseStartsTheChannels : Obligations.ResetReleaseStartsTheChannels := by
  intro s
  refine ⟨fun h => ?_, fun h => ⟨releaseReset s, rfl, ?_, ?_, ?_, releaseReset_sameBut s⟩⟩
  · show Host.Outcome.next (releaseReset s) = _
    simp [releaseReset, h]
  all_goals simp only [releaseReset, h, if_true]
  · rfl
  · rfl
  · intro ch
    simp [resetCaptures_get, resetCapture]

/-! #### Waking -/

/-- The first wake source starts WAKING (R17). -/
theorem wakeSource_of_dormant (restart : Bool) {s : State} (h : s.modc.wake = .dormant) :
    (wakeSource restart s).modc = { s.modc with wake := .waking, wakeTime := s.tma.clock, restartPending := restart } ∧
    (wakeSource restart s).tma = { s.tma with
      stepsRunning := true
      captures := resetCaptures s.tma.captures s.tma.micros
      inputs := thawInputs s.tma.inputs } ∧
    (wakeSource restart s).watc = { s.watc with tankLoss := none } := by
  simp [wakeSource, State.dormant, h]

/-- A frozen input takes its raw level (R137). -/
theorem thawInputs_get (k : Inputs) {i : Input} (h : i ≠ .operator) : (thawInputs k).get i = thawInput (k.get i) := by
  cases i
  case operator => exact absurd rfl h
  all_goals rfl

/-- A restart request while PARKED (R159). -/
theorem writeRestart_of_parked {s : State} (h : s.modc.mode = .parked) :
    writeRestart 0x00A5 s =
      if s.dormant then wakeSource true s else s.setModc { s.modc with restartPending := true } := by
  simp [writeRestart, restartRequest, h]

/-- Settles O18, by the two cases of a wake source. -/
theorem wakeSourcesStartWaking : Obligations.WakeSourcesStartWaking := by
  refine ⟨fun v s h => live_of_same (wakeSource_of_awake false h), fun s hreset hparked hwaking => ?_,
    fun restart v s hreset hparked hdormant => ⟨wakeSource restart s, ?_, ?_⟩⟩
  · refine (live_of_high hreset).trans ?_
    rw [writeRestart_of_parked hparked]
    simp [State.dormant, hwaking]
  · cases restart
    · exact live_of_high hreset
    · refine (live_of_high hreset).trans ?_
      rw [writeRestart_of_parked hparked]
      simp [State.dormant, hdormant]
  · obtain ⟨hmodc, htma, hwatc⟩ := wakeSource_of_dormant restart hdormant
    refine ⟨hmodc, ?_⟩
    simp only [State.input, htma]
    refine ⟨trivial, trivial, trivial, trivial, trivial, fun ch => ?_, fun i hi => ?_, rfl, hwatc, wakeSource_sameBut restart s⟩
    · simp [resetCaptures_get, resetCapture]
    · simp [thawInputs_get _ hi, thawInput]

/-! #### The registers of the control window -/

/-- A condition end leaves every word but that of the active set (R122). -/
theorem conditionEnd_wordsKept (k : FaultKind) (s : State) : WordsKept 1825 1 s (conditionEnd k s) := by
  intro a ha
  unfold conditionEnd
  split
  · exact xread_xwrite_other _ a _ _ (by simp only [faultBase]; omega)
  · rfl

/-- A kind outside a set is not in it after it is taken out, and the others stand. -/
theorem clearedKind_of_absent {x : BitVec 16} {k : FaultKind} (h : x.getLsbD k.rank = false) : x &&& ~~~(kindBit k) = x := by
  apply BitVec.eq_of_getLsbD_eq
  intro i hi
  by_cases hik : i = k.rank
  · simp [hik, h]
  · simp [kindBit, hik, hi]

/-- What a condition end does to the fault unit (R122): the kind leaves the active set. -/
theorem conditionEnd_faults (k : FaultKind) (s : State) :
    (conditionEnd k s).faults = { s.faults with active := s.faults.active &&& ~~~(kindBit k) } := by
  unfold conditionEnd
  split
  · simp [setActive]
  · next h =>
    have habsent : s.faults.active.getLsbD k.rank = false := by simpa [State.isActive] using h
    rw [clearedKind_of_absent habsent]

/-- Settles O19, by the rows of R158's table. -/
theorem checkWritesMoveTheHostCheck : Obligations.CheckWritesMoveTheHostCheck := by
  intro s hreset
  have hexec (v : Word) : exec (.check v) s = .next (writeCheck v s) := live_of_high hreset
  simp only [hexec]
  refine ⟨fun hparked v => ?_, fun hawake => ⟨?_, fun hcheck v hv => ?_, fun hcheck v hfirst hsecond => ?_, fun hcheck =>
    ⟨_, rfl, ?_, ?_, ?_, writeCheck_sameBut _ s⟩⟩⟩
  · simp [writeCheck, hparked]
  · simp [writeCheck, hawake]
  · cases hstate : s.port.check <;> simp_all [writeCheck]
  · cases hwindow : s.port.window <;> simp only [writeCheck, hawake, hfirst, hsecond, hcheck, hwindow, if_false] <;> rfl
  all_goals simp only [writeCheck, hawake, hcheck, completePair, if_false, if_true, show (0x003C : Word) ≠ 0x00C3 by decide]
  · simp
  · simp [conditionEnd_faults]
  · exact conditionEnd_wordsKept .hostSilent _

/-- INT# is low exactly while a pending cause is enabled (R157). -/
theorem State.intLow_iff {s : State} (h : s.resetHeld = false) :
    s.intLow = true ↔ ∃ i, i < 7 ∧ (s.port.pendingSet.getLsbD i && s.port.enableSet.getLsbD i) = true := by
  simp only [State.intLow, h, Bool.not_false, Bool.true_and, decide_eq_true_eq]
  rw [← not_iff_not, not_not, not_exists]
  refine ⟨fun hzero i => ?_, fun hnone => BitVec.eq_of_getLsbD_eq fun i hi => ?_⟩
  · rintro ⟨-, hi⟩
    rw [← BitVec.getLsbD_and, hzero] at hi
    simp at hi
  · have := hnone i
    simp_all

/-- Settles O20. -/
theorem interruptRegistersAndLine : Obligations.InterruptRegistersAndLine := by
  intro v s hreset
  refine ⟨⟨writePending v s, live_of_high hreset, fun i hi => ?_, rfl, rfl, rfl, State.intLow_iff hreset, setPort_sameBut s _⟩,
    ⟨writeEnable v s, live_of_high hreset, fun i hi => ?_, rfl, rfl, rfl, State.intLow_iff hreset, setPort_sameBut s _⟩⟩
  · simp [writePending, hi]
  · simp [writeEnable, hi]

/-- The number that the STATE register's parts spell (R173). -/
theorem State.stateRegister_toNat (s : State) : s.stateRegister.toNat =
    s.modc.mode.code + 8 * bit01 s.modc.startupComplete + 16 * bit01 (decide (s.modc.wake = .dormant)) +
      32 * bit01 s.faults.primary.hold + 64 * bit01 s.faults.severe.hold + 128 * bit01 s.orders.stall +
      256 * s.cal.status.code := by
  have hmode : s.modc.mode.code < 8 := by cases s.modc.mode <;> decide
  have hstatus : s.cal.status.code < 3 := by cases s.cal.status <;> decide
  have hbit (b : Bool) : bit01 b ≤ 1 := by cases b <;> decide
  have h1 := hbit s.modc.startupComplete
  have h2 := hbit (decide (s.modc.wake = .dormant))
  have h3 := hbit s.faults.primary.hold
  have h4 := hbit s.faults.severe.hold
  have h5 := hbit s.orders.stall
  simp only [State.stateRegister, word, BitVec.toNat_ofNat]
  omega

/-- A flag bit of a number: the flag that its digit spells. -/
theorem getLsbD_of_digit {w : Word} {i : Nat} {b : Bool} (h : w.toNat / 2 ^ i % 2 = bit01 b) : w.getLsbD i = b := by
  rw [BitVec.getLsbD, Nat.testBit_eq_decide_div_mod_eq, h]
  cases b <;> rfl

/-- The STATE register's fields (R173). -/
theorem State.stateRegister_fields (s : State) :
    s.stateRegister.toNat % 8 = s.modc.mode.code ∧ s.stateRegister.getLsbD 3 = s.modc.startupComplete ∧
      s.stateRegister.getLsbD 4 = decide (s.modc.wake = .dormant) ∧ s.stateRegister.getLsbD 5 = s.faults.primary.hold ∧
      s.stateRegister.getLsbD 6 = s.faults.severe.hold ∧ s.stateRegister.getLsbD 7 = s.orders.stall ∧
      s.stateRegister.toNat / 256 = s.cal.status.code := by
  have hreg := s.stateRegister_toNat
  have hmode : s.modc.mode.code < 8 := by cases s.modc.mode <;> decide
  have hbit (b : Bool) : bit01 b ≤ 1 := by cases b <;> decide
  have h1 := hbit s.modc.startupComplete
  have h2 := hbit (decide (s.modc.wake = .dormant))
  have h3 := hbit s.faults.primary.hold
  have h4 := hbit s.faults.severe.hold
  have h5 := hbit s.orders.stall
  refine ⟨by omega, getLsbD_of_digit ?_, getLsbD_of_digit ?_, getLsbD_of_digit ?_, getLsbD_of_digit ?_, getLsbD_of_digit ?_,
    by omega⟩
  all_goals omega

/-- Settles O21, the reads by their addresses. -/
theorem ignoredWritesAndFixedReads : Obligations.IgnoredWritesAndFixedReads := by
  intro a v s
  refine ⟨rfl, fun h b => by simp [State.hostRead, h], fun h => ?_⟩
  have hcheck : (word s.port.check.code).toNat = s.port.check.code := by cases s.port.check <;> rfl
  refine ⟨fun b hb => by simp [State.hostRead, h, hb], by simp [State.hostRead, h],
    ⟨s.stateRegister, by simp [State.hostRead, h], s.stateRegister_fields⟩,
    ⟨s.port.pendingSet.setWidth 16, by simp [State.hostRead, h], fun i => ?_⟩,
    ⟨s.port.enableSet.setWidth 16, by simp [State.hostRead, h], fun i => ?_⟩,
    ⟨word s.port.check.code, by simp [State.hostRead, h], hcheck⟩, fun b hb => ?_⟩
  · simp only [BitVec.getLsbD_setWidth, Bool.and_eq_right_iff_imp, decide_eq_true_eq]
    intro hi
    have := BitVec.lt_of_getLsbD hi
    omega
  · simp only [BitVec.getLsbD_setWidth, Bool.and_eq_right_iff_imp, decide_eq_true_eq]
    intro hi
    have := BitVec.lt_of_getLsbD hi
    omega
  · simp only [State.hostRead, h, Bool.false_eq_true, if_false]
    repeat rw [if_neg (by omega)]

/-- Settles O22. -/
theorem hostMemoryWriteReadsBack : Obligations.HostMemoryWriteReadsBack := by
  intro a v s hreset hwf
  have ha : a.toNat < 8192 := a.isLt
  have hheld : (xwrite a.toNat v s).resetHeld = false := by simpa using hreset
  refine ⟨xwrite a.toNat v s, live_of_high hreset, ?_, fun b hb => xread_xwrite_other _ b v s hb, xwrite_sameBut _ v s⟩
  simp only [State.hostRead, hheld, ha, xread_xwrite_same _ v s hwf ha, Bool.false_eq_true, if_false, if_true]

end Sys2Proof.Machine

namespace Sys2Proof.Machine

/-! ### Orders completed at dispatch, and the strip scan -/

/-- What a completion at dispatch writes, whatever the dispatch did before it: the slot, the port's cause, and nothing of the order unit
(R147). -/
theorem completeNow_taken (kind : Nat) (o : Order) (r : Result) (detail : Nat) {s u : State} (hslot : s.orders.cursor < 32)
    (hwf : u.xmemWf) (howner : u.owner s.orders.cursor = ownerPosted) (hclock : u.tma.clock = s.tma.clock) :
    SlotDone s.orders.cursor r detail s.orders.entries.length s.tma.clock 0 u (completeNow (noteTake kind o s) r detail u) ∧
      (completeNow (noteTake kind o s) r detail u).orders = u.orders ∧
      (completeNow (noteTake kind o s) r detail u).port = if o.notify = 1 then u.port.raise .orderDone else u.port := by
  have hwrite : completeNow (noteTake kind o s) r detail u =
      writeResult s.orders.cursor o.notify r detail s.orders.entries.length 0 u := if_pos howner
  rw [hwrite]
  refine ⟨?_, by simp [writeResult], writeResult_port _ _ _ _ _ _ u⟩
  rw [← hclock]
  exact writeResult_slotDone o.notify r detail _ 0 hwf hslot

/-- An order completed at dispatch where the dispatch changed nothing of a slot or the clock (R147). -/
theorem completeNow_doneAtOnce_of_clock (kind : Nat) (o : Order) (r : Result) (detail : Nat) {s u : State} (h : s.takes)
    (hxmem : u.xmem = s.xmem) (horders : u.orders = (advanceCursor s).orders) (hport : u.port = s.port)
    (hclock : u.tma.clock = s.tma.clock) : DoneAtOnce o.notify r detail s (completeNow (noteTake kind o s) r detail u) := by
  obtain ⟨-, -, -, hposted, hslot, hwf⟩ := h
  have hread (a : Nat) : u.xread a = s.xread a := xread_congr hxmem a
  have huwf : u.xmemWf := by
    unfold State.xmemWf
    rw [hxmem]
    exact hwf
  obtain ⟨⟨hresult, houtside⟩, hkept, hcause⟩ :=
    completeNow_taken kind o r detail hslot huwf ((hread _).trans hposted) hclock
  exact ⟨⟨hresult, fun a ha => (houtside a ha).trans (hread a)⟩, hkept.trans horders, hcause.trans (by rw [hport])⟩

/-- Where its slot can be taken, an order whose dispatch only completes it is done at once, and nothing else changes. -/
theorem doneAtOnce_of_completeNow {c : Instr} {dispatch : Take → State → State} {kind : Nat} {o : Order} {s : State}
    (hexec : exec c s = orderCommand dispatch kind o s) (h : s.takes) {r : Result} {detail : Nat}
    (hdispatch : dispatch (noteTake kind o s) (advanceCursor s) = completeNow (noteTake kind o s) r detail (advanceCursor s)) :
    ∃ t, exec c s = .next t ∧ DoneAtOnce o.notify r detail s t ∧ SameBut [.xmem, .orders, .port] s t :=
  ⟨_, hexec.trans ((orderCommand_of_takes dispatch kind o h).trans (congrArg _ hdispatch)),
    completeNow_doneAtOnce kind o r detail h rfl rfl rfl rfl, completeNow_takenSameBut _ _ _ (SameBut.refl [] _)⟩

/-! #### The scan (R145, R146, R152) -/

/-- A slot's kind code is a byte. -/
theorem State.slotKind_lt (s : State) (slot : Nat) : s.slotKind slot < 256 := Nat.mod_lt _ (by decide)

/-- The command that a slot's kind spells takes the slot as the scan does (R146). -/
theorem exec_slotCommand {s : State} {kind : Nat} (o : Order) (hkind : kind < 256) (hreset : s.resetHeld = false)
    (hscanned : s.scanned = true) (hnamed : s.slotNamed s.orders.cursor = false) :
    exec (slotCommand kind o) s = .next (takeSlot dispatchKind kind o s) := by
  have hcommand (dispatch : Take → State → State) (k : Nat) :
      orderCommand dispatch k o s = .next (takeSlot dispatch k o s) := by
    simp [orderCommand, live, hreset, hscanned, hnamed]
  unfold slotCommand
  split
  case h_15 =>
    have hcode : (BitVec.ofNat 8 kind).toNat = kind := Nat.mod_eq_of_lt hkind
    refine (hcommand dispatchUnknown _).trans ?_
    rw [hcode]
    simp [takeSlot, dispatchKind, noteTake]
  all_goals exact hcommand _ _

/-- A take leaves RESET# as it is. -/
theorem takeSlot_resetHeld (kind : Nat) (o : Order) (s : State) :
    (takeSlot dispatchKind kind o s).resetHeld = s.resetHeld :=
  (takeSlot_sameBut (by decide) dispatchKind_sameBut kind o s).same .resetHeld (by decide)

/-- The scan goes on past a slot that it takes, unless the mode has become PARKED (R145). -/
theorem scan_of_taken {n : Nat} {s : State} (hposted : s.owner s.orders.cursor = ownerPosted)
    (hnamed : s.slotNamed s.orders.cursor = false) :
    scan (n + 1) s =
      if (takeSlot dispatchKind (s.slotKind s.orders.cursor) (s.slotOrder s.orders.cursor) s).modc.mode = .parked then
        takeSlot dispatchKind (s.slotKind s.orders.cursor) (s.slotOrder s.orders.cursor) s
      else scan n (takeSlot dispatchKind (s.slotKind s.orders.cursor) (s.slotOrder s.orders.cursor) s) := by
  rw [scan]
  simp [hposted, hnamed]

/-- A scanned mode is not PARKED. -/
theorem State.scanned_ne_parked {s : State} (h : s.scanned = true) : s.modc.mode ≠ .parked := by
  simp [State.scanned] at h
  exact h.2

/-- A run of takes ends in PARKED only with its last one, and the scan with it; otherwise the scan goes on from its end (R145). -/
theorem scan_of_run {n : Nat} (k : Nat) {s t : State} (hreset : s.resetHeld = false) (hscanned : s.scanned = true)
    (hrun : ScanRun n s t) : scan (n + k) s = if t.modc.mode = .parked then t else scan k t := by
  induction n generalizing s with
  | zero =>
    obtain rfl : t = s := hrun
    rw [Nat.zero_add, if_neg (State.scanned_ne_parked hscanned)]
  | succ n ih =>
    obtain ⟨-, hposted, hnamed, m, hexec, hrest⟩ := hrun
    rw [exec_slotCommand _ (s.slotKind_lt _) hreset hscanned hnamed] at hexec
    obtain rfl := Host.Outcome.next.inj hexec
    rw [Nat.succ_add, scan_of_taken hposted hnamed]
    split
    case isFalse hawake =>
      cases n with
      | zero =>
        obtain rfl : t = _ := hrest
        rw [if_neg hawake, Nat.zero_add]
      | succ n => exact ih ((takeSlot_resetHeld _ _ s).trans hreset) hrest.1 hrest
    case isTrue hparked =>
      cases n with
      | zero =>
        obtain rfl : t = _ := hrest
        rw [if_pos hparked]
      | succ n => exact absurd hparked (State.scanned_ne_parked hrest.1)

/-- The scan ends at a slot that is not POSTED (R145). -/
theorem scan_of_unposted (n : Nat) {s : State} (h : s.owner s.orders.cursor ≠ ownerPosted) : scan n s = s := by
  cases n <;> simp [scan, h]

/-- The scan stalls at a POSTED slot that an entry names (R152). -/
theorem scan_of_named (n : Nat) {s : State} (hposted : s.owner s.orders.cursor = ownerPosted)
    (hnamed : s.slotNamed s.orders.cursor = true) : scan (n + 1) s = stallScan s := by
  simp [scan, hposted, hnamed]

/-- Settles O23: the scan is the run of takes, then what its next slot calls for. -/
theorem stripScanTakesTheCursorSlot : Obligations.StripScanTakesTheCursorSlot := by
  refine ⟨fun s h => live_of_same ?_, fun s t n hreset hstrip hscanned hn hrun => ?_⟩
  · obtain h | h | h := h <;> simp [State.scanned, h]
  · have hexec : exec .stripScanExpiry s = .next (scan (n + (8 - n)) s) := by
      rw [Nat.add_sub_cancel' hn]
      refine (live_of_high hreset).trans ?_
      simp [hstrip, hscanned]
    rw [scan_of_run _ hreset hscanned hrun] at hexec
    rw [hexec]
    refine ⟨?_, fun hlt hawake hposted hnamed => ?_⟩
    · rintro (rfl | hparked | hunposted)
      · rw [Nat.sub_self, scan, ite_self]
      · rw [if_pos hparked]
      · rw [scan_of_unposted _ hunposted, ite_self]
    · obtain ⟨k, hk⟩ : ∃ k, 8 - n = k + 1 := ⟨7 - n, by omega⟩
      rw [if_neg hawake, hk, scan_of_named k hposted hnamed]
      cases hstall : t.orders.stall
      · simp [stallScan, raiseIf, raiseCause, hstall]
      · simp only [stallScan, raiseIf, raiseCause, hstall, Bool.not_true, Bool.false_eq_true, if_false, if_true]
        rfl

/-- Settles O24. -/
theorem unknownKindIsRefused : Obligations.UnknownKindIsRefused := by
  intro k o s _
  refine ⟨fun htakes => doneAtOnce_of_completeNow (dispatch := dispatchUnknown) (kind := k.toNat) rfl htakes rfl,
    fun hreset hscanned hnamed hback => ?_⟩
  have hback' : (advanceCursor s).owner (noteTake k.toNat o s).slot ≠ ownerPosted := hback
  refine (live_of_high hreset).trans ?_
  simp only [hscanned, hnamed, if_true, Bool.false_eq_true, if_false, takeSlot, dispatchUnknown, completeNow, if_neg hback']
  rfl

/-! #### SELECT_PROFILE (R18, R19) -/

/-- A word of a profile record as the correction reads it. -/
theorem State.profileRecord_getD (s : State) (index : Nat) {i : Nat} (h : i < 19) :
    (s.profileRecord index).getD i 0 = s.xread (512 + 128 * index + i) := by
  simp [State.profileRecord, Memory.readList, List.getD, h, State.xread, profileBase]

/-- The corrected record, each field by the word it is read from (R19). -/
theorem correctProfile_record (s : State) (index : Nat) {base : Nat} {f : Nat → Nat} (hbase : base = 512 + 128 * index)
    (hf : f = fun i => (s.xread (base + i)).toNat) :
    correctProfile (s.profileRecord index) =
      { transportMax := min 12000 (f 0)
        sweepMax := min (min 6000 (f 1)) (min 12000 (f 0))
        engageLimit := min (min 3000 (f 2)) (min (min 6000 (f 1)) (min 12000 (f 0)))
        limpSpeed := min (min 1500 (f 3)) (min 12000 (f 0))
        dryCrawl := min 2000 (f 4)
        accel := max 100 (min 2000 (f 5))
        decel := max 100 (min 3000 (f 6))
        emergencyDecel := max 2000 (min 6000 (f 7))
        dose := min 5000 (f 8)
        sprayMinSpeed := min 1000 (f 9)
        selectLeft := (s.xread (base + 10)).getLsbD 0
        selectRight := (s.xread (base + 10)).getLsbD 1
        downPressureL := min 60 (f 11)
        downPressureR := min 60 (f 12)
        downPressureM := min 60 (f 13)
        brushSpeedL := min 200 (f 14)
        brushSpeedR := min 200 (f 15)
        brushSpeedM := min 250 (f 16)
        ratedEngineSpeed := max 1200 (min 3600 (f 17))
        hostCheckWindow := max 100 (min 2000 (f 18)) } := by
  subst hbase hf
  simp (disch := decide) only [correctProfile, State.profileRecord_getD, clampNat, Nat.zero_max]

/-- The count of changed fields, by the words of the record (R19). -/
theorem changedFields_record (s : State) (index : Nat) {base : Nat} {f : Nat → Nat} (hbase : base = 512 + 128 * index)
    (hf : f = fun i => (s.xread (base + i)).toNat) {p : Profile} (hp : p = correctProfile (s.profileRecord index)) :
    changedFields (s.profileRecord index) =
      ((List.range 19).filter fun i => decide (i ≠ 10 ∧ ((profileWords p).getD i 0).toNat ≠ f i)).length := by
  subst hbase hf hp
  unfold changedFields
  congr 1
  refine List.filter_congr fun i hi => ?_
  rw [State.profileRecord_getD s index (List.mem_range.mp hi), ← Bool.decide_and]
  simp only [ne_eq, BitVec.toNat_inj]

/-- Settles O25. -/
theorem selectProfileLatchesTheCorrectedRecord : Obligations.SelectProfileLatchesTheCorrectedRecord := by
  intro o s htakes
  have hexec : exec (.selectProfile o) s = orderCommand dispatchSelectProfile 1 o s := rfl
  refine ⟨fun hindex => doneAtOnce_of_completeNow hexec htakes ?_, fun hindex hmode => doneAtOnce_of_completeNow hexec htakes ?_,
    fun hindex hengaging hdisengaging base f hbase hf => ?_⟩
  · exact if_pos hindex
  · exact (if_neg hindex.not_gt).trans (if_pos hmode)
  · have hdispatch : dispatchSelectProfile (noteTake 1 o s) (advanceCursor s) = _ :=
      (if_neg hindex.not_gt).trans (if_neg (not_or.mpr ⟨hengaging, hdisengaging⟩))
    have hprofile := correctProfile_record s o.par.p0.toNat hbase hf
    refine ⟨_, changedFields (s.profileRecord o.par.p0.toNat),
      hexec.trans ((orderCommand_of_takes _ 1 o htakes).trans (congrArg _ hdispatch)), ?_,
      completeNow_doneAtOnce 1 o _ _ htakes rfl rfl rfl rfl, ?_, ?_, ?_, ?_⟩
    · exact changedFields_record s _ hbase hf (by simp only [completeNow_keeps]; rfl)
    · rw [← hprofile]
      simp only [completeNow_keeps]
      rfl
    · simp only [completeNow_keeps]
      exact correctProfile_inRange _
    · simp only [completeNow_keeps]
      rfl
    · exact completeNow_takenSameBut (blocks := [.modc, .watc]) _ _ _
        ((setModc_sameBut _ _).comp (setWatc_sameBut _ _) (by decide) (by decide))

/-! #### SET_TRACE (R162, R140) -/

/-- SET_TRACE with a disabling order (R162). -/
theorem dispatchSetTrace_disabling {t : Take} (h : t.order.par.p0.toNat = 0) (s : State) :
    dispatchSetTrace t s = completeNow t .ok 0 (setTrace (takeTraceSettings false .period 0 s.tma.trace) s) := by
  unfold dispatchSetTrace
  rw [if_neg (by omega), if_neg (by omega), if_pos h]

/-- An enabling order restarts the source, or leaves the new interval pending under the same one (R140). -/
theorem takeTraceSettings_enabling (source : TraceSource) (interval : Nat) (t : Trace) :
    takeTraceSettings true source interval t =
      if t.enabled = true ∧ t.source = source then { t with pendingInterval := some interval }
      else
        { enabled := true, source := source, interval := interval, periodTimer := 0, accumulator := 0,
          pendingInterval := none } := by
  unfold takeTraceSettings
  by_cases h : t.enabled = true ∧ t.source = source
  · simp [h]
  · rw [if_neg (by simp), if_neg (by simpa using h), if_neg h]

/-- SET_TRACE with an enabling order of a source (R162). -/
theorem dispatchSetTrace_enabling {t : Take} {source : TraceSource} (h : t.order.par.p0.toNat = 1)
    (hsource : (t.order.par.p1.toNat = 0 ∧ source = TraceSource.period) ∨ (t.order.par.p1.toNat = 1 ∧ source = .distance))
    (s : State) :
    dispatchSetTrace t s =
      completeNow t (if clampInterval source t.order.par.p2.toNat = t.order.par.p2.toNat then .ok else .clamped)
        (if clampInterval source t.order.par.p2.toNat = t.order.par.p2.toNat then 0 else 1)
        (setTrace (takeTraceSettings true source (clampInterval source t.order.par.p2.toNat) s.tma.trace) s) := by
  have hname : (if t.order.par.p1.toNat = 0 then TraceSource.period else .distance) = source := by
    obtain ⟨hword, rfl⟩ | ⟨hword, rfl⟩ := hsource <;> simp [hword]
  unfold dispatchSetTrace
  rw [if_neg (by omega), if_neg (by omega), if_neg (by omega)]
  simp only [hname, bit01]
  by_cases hclamped : clampInterval source t.order.par.p2.toNat = t.order.par.p2.toNat
  · simp only [hclamped, ne_eq, not_true_eq_false, decide_false, Bool.false_eq_true, if_false, if_true]
  · simp only [hclamped, ne_eq, not_false_eq_true, decide_true, if_true, if_false, Nat.one_ne_zero]

/-- Settles O36. -/
theorem setTraceHandsOverSettings : Obligations.SetTraceHandsOverSettings := by
  intro o s htakes
  have hexec : exec (.setTrace o) s = orderCommand dispatchSetTrace 11 o s := rfl
  have htaken {t : State} (h : dispatchSetTrace (noteTake 11 o s) (advanceCursor s) = t) : exec (.setTrace o) s = .next t :=
    hexec.trans ((orderCommand_of_takes _ 11 o htakes).trans (congrArg _ h))
  have hreach (r : Result) (detail : Nat) (x : Trace) :
      SameBut [.xmem, .orders, .port, .tma] s (completeNow (noteTake 11 o s) r detail (setTrace x (advanceCursor s))) :=
    completeNow_takenSameBut (blocks := [.tma]) _ _ _ (setTma_sameBut _ _)
  have hdone (r : Result) (detail : Nat) (x : Trace) :
      DoneAtOnce o.notify r detail s (completeNow (noteTake 11 o s) r detail (setTrace x (advanceCursor s))) :=
    completeNow_doneAtOnce_of_clock 11 o r detail htakes rfl rfl rfl rfl
  have htma (r : Result) (detail : Nat) (x : Trace) :
      (completeNow (noteTake 11 o s) r detail (setTrace x (advanceCursor s))).tma = { s.tma with trace := x } := by
    simp only [completeNow_keeps]
    rfl
  refine ⟨fun d h => doneAtOnce_of_completeNow hexec htakes ?_, fun henable => ?_, fun source henable hsource => ?_⟩
  · obtain ⟨h, rfl⟩ | ⟨henable, h, rfl⟩ := h
    · exact if_pos h
    · simp [dispatchSetTrace, henable, h]
  · refine ⟨_, htaken (dispatchSetTrace_disabling henable _), hdone _ _ _, ?_, ?_, ?_, hreach _ _ _⟩
    all_goals simp only [htma, takeTraceSettings]
    · cases henabled : s.tma.trace.enabled <;> simp [advanceCursor, henabled]
    · intro h
      simp [advanceCursor, h]
  · refine ⟨_, clampInterval source o.par.p2.toNat, htaken (dispatchSetTrace_enabling henable hsource _), ?_, hdone _ _ _, ?_,
      hreach _ _ _⟩
    · cases source <;> rfl
    · rw [htma, takeTraceSettings_enabling]
      rfl

/-! #### The calibration orders (R168 to R170) -/

/-- A word of the calibration area. -/
theorem State.areaWords_getD (s : State) {i : Nat} (h : i < 512) : s.areaWords.getD i 0 = s.xread (1024 + i) := by
  simp [State.areaWords, Memory.readList, List.getD, h, State.xread, calibrationBase]

/-- The sum of a list of words, split at a place. -/
theorem sum16_append (xs ys : List Word) : sum16 (xs ++ ys) = sum16 xs + sum16 ys := by
  induction xs with
  | nil => simp [sum16]
  | cons x xs ih => simp [sum16, ih, BitVec.add_assoc]

/-- The checksum makes the sum of an image 0 (section 11.2). -/
theorem sum16_buildImage (cal : List Word) : sum16 (buildImage cal) = 0 := by
  have hsum (body : List Word) : sum16 (body ++ [-(sum16 body)]) = 0 := by
    simp [sum16_append, sum16]
  exact hsum _

/-- An order that opens with no older one on its target (R148). -/
theorem openEntry_opened (kind : Nat) (target : Target) (o : Order) {s u : State} (h : s.takes) (hxmem : u.xmem = s.xmem)
    (horders : u.orders = (advanceCursor s).orders) : Opened kind target o s (openEntry target (noteTake kind o s) u) := by
  obtain ⟨-, -, -, -, hslot, hwf⟩ := h
  have hopened (x : OrderUnit) :
      (xwrite (slotBase s.orders.cursor) ownerTaken (u.setOrders x)).owner s.orders.cursor = ownerTaken ∧
        ∀ a, a ≠ slotBase s.orders.cursor →
          (xwrite (slotBase s.orders.cursor) ownerTaken (u.setOrders x)).xread a = s.xread a := by
    have hread : (u.setOrders x).xmem = s.xmem := hxmem
    have huwf : (u.setOrders x).xmemWf := by
      unfold State.xmemWf
      rw [hread]
      exact hwf
    exact ⟨xread_xwrite_same _ _ _ huwf (by simp only [slotBase]; omega),
      fun a ha => (xread_xwrite_other _ a _ _ ha).trans (xread_congr hread a)⟩
  refine ⟨(hopened _).1, (hopened _).2, ?_⟩
  simp [openEntry, horders, advanceCursor, nextCursor, openedEntry, noteTake]

/-- Settles O38. -/
theorem storeAndFetchOpenOnTheStore : Obligations.StoreAndFetchOpenOnTheStore := by
  intro o s htakes
  have hstore : exec (.storeCalibration o) s = orderCommand dispatchStoreCalibration 13 o s := rfl
  have hfetch : exec (.fetchCalibration o) s = orderCommand dispatchFetchCalibration 14 o s := rfl
  have hopenOn : (advanceCursor s).openOn .store = s.openOn .store := rfl
  have hwp : (advanceCursor s).input .wp = s.input .wp := rfl
  have hreach {kind : Nat} (x : CalLoader) :
      SameBut [.xmem, .orders, .cal] s (openEntry .store (noteTake kind o s) ((advanceCursor s).setCal x)) :=
    ((advanceCursor_sameBut s).comp (more := [.orders, .cal]) (setCal_sameBut _ x) (by decide) (by decide)).comp
      (openEntry_sameBut _ _ _) (by decide) (by decide)
  refine ⟨fun e he => ⟨doneAtOnce_of_completeNow hstore htakes ?_, doneAtOnce_of_completeNow hfetch htakes ?_⟩,
    fun hnone => ⟨fun hprotected => doneAtOnce_of_completeNow hstore htakes ?_, fun d hd =>
      ⟨doneAtOnce_of_completeNow hfetch htakes ?_, fun hopen => doneAtOnce_of_completeNow hstore htakes ?_⟩,
      fun hidle hready => ⟨⟨_, hfetch.trans (orderCommand_of_takes _ 14 o htakes), ?_⟩, fun hopen hlength =>
        ⟨_, hstore.trans (orderCommand_of_takes _ 13 o htakes), ?_⟩⟩⟩⟩
  · simp [dispatchStoreCalibration, hopenOn, he]
  · simp [dispatchFetchCalibration, hopenOn, he]
  · simp [dispatchStoreCalibration, hopenOn, hnone, hwp, hprotected]
  · obtain ⟨h, rfl⟩ | ⟨h, hb, rfl⟩ := hd
    · simp [dispatchFetchCalibration, hopenOn, hnone, h]
    · simp [dispatchFetchCalibration, hopenOn, hnone, h, hb]
  · obtain ⟨h, rfl⟩ | ⟨h, hb, rfl⟩ := hd
    · simp [dispatchStoreCalibration, hopenOn, hnone, hwp, hopen, h]
    · simp [dispatchStoreCalibration, hopenOn, hnone, hwp, hopen, h, hb]
  · have hdispatch : dispatchFetchCalibration (noteTake 14 o s) (advanceCursor s) =
        openEntry .store (noteTake 14 o s) (beginFetch (noteTake 14 o s) (advanceCursor s)) := by
      simp [dispatchFetchCalibration, hopenOn, hnone, hidle, hready]
    rw [hdispatch]
    exact ⟨openEntry_opened 14 .store o htakes rfl rfl, by simp only [openEntry_keeps]; rfl, hreach _⟩
  · have hdispatch : dispatchStoreCalibration (noteTake 13 o s) (advanceCursor s) =
        openEntry .store (noteTake 13 o s) (beginStore (noteTake 13 o s) (advanceCursor s)) := by
      simp [dispatchStoreCalibration, hopenOn, hnone, hwp, hopen, hidle, hready]
    have hbuffer : (openEntry .store (noteTake 13 o s) (beginStore (noteTake 13 o s) (advanceCursor s))).cal.buffer =
        buildImage s.cal.working := by
      simp only [openEntry_keeps]
      rfl
    rw [hdispatch]
    refine ⟨openEntry_opened 13 .store o htakes rfl rfl, by simp only [openEntry_keeps]; rfl, ?_, ?_, ?_, ?_, ?_, hreach _⟩
    all_goals rw [hbuffer]
    · simp [buildImage, hlength]
    · rfl
    · rfl
    · simp [buildImage, ← hlength]
    · exact sum16_buildImage _

/-- The state in which LOAD_CALIBRATION is refused, or the calibration area installed (R168). -/
theorem dispatchLoadCalibration_accepted {t : Take} {s : State} (hmode : s.modc.mode = .transport ∨ s.modc.mode = .safe)
    (hstill : s.standstill = true) (hop : s.cal.op ≠ .fetching) (hgood : firstBadWord s.areaWords = none) :
    dispatchLoadCalibration t s = completeNow t .ok 0 (installArea s) := by
  unfold dispatchLoadCalibration
  rw [if_neg (by obtain hmode | hmode := hmode <;> simp [hmode, hstill]), if_neg hop, hgood]

/-- A channel after a new wheel timeout (R134). -/
theorem applyWheelTimeout_get (s : State) (ch : Channel) : (applyWheelTimeout s).tma.captures.get ch =
    if ch = .wheelA ∨ ch = .wheelB then expireWheel s.wheelTimeout s.tma.micros (s.tma.captures.get ch)
    else s.tma.captures.get ch := by
  cases ch <;> rfl

/-- A new working calibration and what is set with it, before the condition end and the new timeout (R168). -/
def installed (ws : List Word) (s : State) : State := clearTrims (s.setCal { s.cal with working := ws, status := .fromHost })

/-- The install is the new calibration, the end of CALIBRATION_DEFAULTED, and the new wheel timeout (R168, R134). -/
theorem installArea_eq (s : State) : installArea s =
    applyWheelTimeout (endIf (decide (s.cal.status = .defaults)) .calibrationDefaulted (installed s.areaWords s)) := rfl

/-- What the new calibration sets: itself, its status and the five trims (R168). -/
@[simp] theorem installed_fields (ws : List Word) (s : State) :
    (installed ws s).xmem = s.xmem ∧ (installed ws s).port = s.port ∧ (installed ws s).orders = s.orders ∧
      (installed ws s).faults = s.faults ∧ (installed ws s).tma = s.tma ∧
      (installed ws s).cal = { s.cal with working := ws, status := .fromHost } ∧
      (installed ws s).gov = { s.gov with trim := 0 } ∧ (installed ws s).watc = { s.watc with trim := 0 } :=
  ⟨rfl, rfl, rfl, rfl, rfl, rfl, rfl, rfl⟩

/-- The brush trims are 0 under the new calibration (R168). -/
theorem installed_arm (ws : List Word) (s : State) (a : Arm) : (installed ws s).arm a = { s.arm a with trim := 0 } := by
  cases a <;> rfl

/-- A condition end if a test holds, in the active set (R122). -/
theorem endIf_active (b : Bool) (k : FaultKind) (s : State) :
    (endIf b k s).faults.active = if b then s.faults.active &&& ~~~(kindBit k) else s.faults.active := by
  cases b
  · rfl
  · exact congrArg FaultUnit.active (conditionEnd_faults k s)

/-- A condition end if a test holds leaves every word but that of the active set (R122). -/
theorem endIf_wordsKept (b : Bool) (k : FaultKind) (s : State) : WordsKept 1825 1 s (endIf b k s) := by
  cases b
  · exact fun _ _ => rfl
  · exact conditionEnd_wordsKept k s

/-- The calibration installed, and its condition ended: what stands before the new wheel timeout (R168). -/
def installEnded (ws : List Word) (s : State) : State :=
  endIf (decide (s.cal.status = .defaults)) .calibrationDefaulted (installed ws s)

/-- What an install keeps and sets, but for the captures, the fault unit and exchange memory (R168). -/
theorem installEnded_fields (ws : List Word) (s : State) :
    (installEnded ws s).port = s.port ∧ (installEnded ws s).orders = s.orders ∧ (installEnded ws s).tma = s.tma ∧
      (installEnded ws s).cal = { s.cal with working := ws, status := .fromHost } ∧
      (installEnded ws s).gov = { s.gov with trim := 0 } ∧ (installEnded ws s).watc = { s.watc with trim := 0 } := by
  simp [installEnded]

/-- The wheel timeout in force after the install is that of the new words (R134). -/
theorem applyWheelTimeout_installEnded_get (ws : List Word) (s : State) (ch : Channel) :
    (applyWheelTimeout (installEnded ws s)).tma.captures.get ch =
      if ch = .wheelA ∨ ch = .wheelB then expireWheel (ws.getD 2 0).toNat s.tma.micros (s.tma.captures.get ch)
      else s.tma.captures.get ch := by
  obtain ⟨-, -, htma, hcal, -⟩ := installEnded_fields ws s
  rw [applyWheelTimeout_get, htma, State.wheelTimeout, State.calWord, hcal]

/-- Settles O37. -/
theorem loadCalibrationInstallsTheArea : Obligations.LoadCalibrationInstallsTheArea := by
  intro o s htakes
  have hexec : exec (.loadCalibration o) s = orderCommand dispatchLoadCalibration 12 o s := rfl
  have harea : (advanceCursor s).areaWords = s.areaWords := rfl
  have hstand : (advanceCursor s).standstill = s.standstill := rfl
  refine ⟨fun r d h => doneAtOnce_of_completeNow hexec htakes ?_, fun hmode hstill hop hgood => ?_⟩
  · obtain ⟨hmode | hstill, rfl, rfl⟩ | ⟨hmode, hstill, hop, rfl, rfl⟩ | ⟨hmode, hstill, hop, hbad, rfl⟩ := h
    · simp [dispatchLoadCalibration, hmode]
    · simp [dispatchLoadCalibration, hstand, hstill]
    · obtain hmode | hmode := hmode <;> simp [dispatchLoadCalibration, hmode, hstand, hstill, hop]
    · obtain hmode | hmode := hmode <;> simp [dispatchLoadCalibration, hmode, hstand, hstill, hop, harea, hbad]
  · have hdispatch : dispatchLoadCalibration (noteTake 12 o s) (advanceCursor s) =
        completeNow (noteTake 12 o s) .ok 0 (applyWheelTimeout (installEnded s.areaWords (advanceCursor s))) :=
      dispatchLoadCalibration_accepted hmode hstill hop hgood
    have hgetD (i : Nat) (hi : i < 512) := State.areaWords_getD s hi
    have hwf : (installArea (advanceCursor s)).xmemWf := (installArea_opensNone (advanceCursor s)).wf htakes.2.2.2.2.2
    have hreach : SameBut [.xmem, .orders, .port, .cal, .gov, .watc, .armc, .faults, .tma] s _ :=
      (completeNow_takenSameBut (noteTake 12 o s) .ok 0 (installArea_sameBut (advanceCursor s))).mono (by decide)
    have heq : installArea (advanceCursor s) = applyWheelTimeout (installEnded s.areaWords (advanceCursor s)) := rfl
    rw [heq] at hwf hreach
    generalize s.areaWords = ws at hdispatch hgetD hwf hreach
    clear heq
    have hother (a : Nat) (ha : a ≠ 1825) :
        (applyWheelTimeout (installEnded ws (advanceCursor s))).xread a = s.xread a :=
      endIf_wordsKept (decide (s.cal.status = .defaults)) .calibrationDefaulted (installed ws (advanceCursor s)) a (by omega)
    obtain ⟨hinstport, hinstorders, hinsttma, hcal, hgov, hwatc⟩ := installEnded_fields ws (advanceCursor s)
    have hexec' := hexec.trans ((orderCommand_of_takes _ 12 o htakes).trans (congrArg _ hdispatch))
    obtain ⟨-, -, -, hposted, hslot, -⟩ := htakes
    have howner : (applyWheelTimeout (installEnded ws (advanceCursor s))).owner s.orders.cursor = ownerPosted :=
      (hother _ (by simp only [slotBase]; omega)).trans hposted
    obtain ⟨⟨hresult, houtside⟩, horders, hport⟩ :=
      completeNow_taken 12 o .ok 0 (s := s) hslot hwf howner (by simp [hinsttma])
    refine ⟨_, hexec', hresult, fun i hi => ?_, ?_, ?_, ?_, fun a => ?_, ?_, fun a ha hne => (houtside a ha).trans (hother a hne),
      ?_, fun ch k hk => ?_, hport.trans (by simp [hinstport]), horders.trans hinstorders, hreach⟩
    · simp only [State.calWord, completeNow_keeps, applyWheelTimeout_keeps, hcal, hgetD i hi]
    · simp only [completeNow_keeps, applyWheelTimeout_keeps, hcal]
      rfl
    · simp only [completeNow_keeps, applyWheelTimeout_keeps, hgov]
      rfl
    · simp only [completeNow_keeps, applyWheelTimeout_keeps, hwatc]
      rfl
    · refine (State.arm_congr (s := installed ws (advanceCursor s)) ?_ a).trans (installed_arm ws (advanceCursor s) a)
      simp [installEnded]
    · simp only [completeNow_keeps, applyWheelTimeout_keeps, installEnded, endIf_active]
      by_cases hdefaults : s.cal.status = .defaults <;> simp [advanceCursor, hdefaults]
    · simp only [completeNow_keeps]
      simp only [applyWheelTimeout, hinsttma, State.setTma_tma]
      rfl
    · simp only [completeNow_keeps, applyWheelTimeout_installEnded_get, hgetD 2 (by decide)]
      subst hk
      by_cases hwheel : ch = .wheelA ∨ ch = .wheelB
      · simp only [hwheel, if_true, true_and]
        rfl
      · simp only [hwheel, if_false, false_and]
        rfl

end Sys2Proof.Machine

namespace Sys2Proof.Machine

/-! ### The status page, the trace and the timing array's events -/

/-- A word of a list of zeros. -/
theorem getD_replicate_zero (n i : Nat) : (List.replicate n (0 : Word)).getD i 0 = 0 := by
  by_cases h : i < n <;> simp [List.getD, h]

/-- A word of a list with zeros behind it. -/
theorem getD_append_zeros (xs : List Word) (n i : Nat) : (xs ++ List.replicate n (0 : Word)).getD i 0 = xs.getD i 0 := by
  by_cases h : i < xs.length
  · exact List.getD_append xs _ 0 i h
  · rw [List.getD_append_right xs _ 0 i (not_lt.mp h), getD_replicate_zero, List.getD_eq_default xs 0 (not_lt.mp h)]

/-! #### The status page (R160, section 12.5) -/

/-- The word of the latched exclusions, a bit each (section 12.5). -/
theorem exclusionWord_eq (x : Exclusions) : exclusionWord x = word ((if x.left then 1 else 0) + (if x.right then 2 else 0) +
    (if x.main then 4 else 0) + (if x.water then 8 else 0)) := by
  obtain ⟨left, right, main, water⟩ := x
  cases left <;> cases right <;> cases main <;> cases water <;> rfl

/-- The two hold bits of the status page (section 12.5). -/
theorem holdBits_eq (primary severe : Bool) :
    bit01 primary + 2 * bit01 severe = (if primary then 1 else 0) + (if severe then 2 else 0) := by
  cases primary <;> cases severe <;> rfl

/-- The fields of the page: 58 words. -/
theorem statusFields_length (head : Word) (s : State) : (statusFields head s).length = 58 := rfl

/-- The whole page: the fields, the reserved words and the tail count (section 12.5). -/
def statusPage (s : State) : List Word :=
  statusFields (s.publisher.headCount + 1) s ++ List.replicate 197 (word 0) ++ [s.publisher.headCount + 1]

/-- The page is 256 words. -/
theorem statusPage_length (s : State) : (statusPage s).length = 256 := by
  simp only [statusPage, List.length_append, statusFields_length, List.length_replicate, List.length_cons, List.length_nil]

/-- A field of the page. -/
theorem statusPage_field (s : State) {i : Nat} (h : i < 58) :
    (statusPage s).getD i 0 = (statusFields (s.publisher.headCount + 1) s).getD i 0 := by
  rw [statusPage, List.append_assoc, List.getD_append _ _ _ _ (by rwa [statusFields_length])]

/-- A reserved word of the page. -/
theorem statusPage_reserved (s : State) {i : Nat} (hlow : 58 ≤ i) (hhigh : i < 255) : (statusPage s).getD i 0 = 0 := by
  rw [statusPage, List.append_assoc, List.getD_append_right _ _ _ _ (by rwa [statusFields_length]), statusFields_length,
    List.getD_append _ _ _ _ (by simp only [List.length_replicate]; omega)]
  exact getD_replicate_zero 197 _

/-- The tail count. -/
theorem statusPage_tail (s : State) : (statusPage s).getD 255 0 = s.publisher.headCount + 1 := by
  rw [statusPage, List.getD_append_right _ _ _ _ (by simp only [List.length_append, statusFields_length, List.length_replicate]; omega)]
  simp only [List.length_append, statusFields_length, List.length_replicate]
  rfl

/-- A publication writes the page (R160). -/
theorem publish_eq (s : State) :
    publish s = xwriteList statusBase (statusPage s) (s.setPublisher { s.publisher with headCount := s.publisher.headCount + 1 }) :=
  rfl

/-- A word of the page as published (R160). -/
theorem publish_page {s : State} (hwf : s.xmemWf) {i : Nat} (h : i < 256) :
    (publish s).xread (statusBase + i) = (statusPage s).getD i 0 := by
  have hlength := statusPage_length s
  rw [publish_eq]
  generalize statusPage s = ws at hlength
  exact xread_xwriteList_same statusBase i ws (s.setPublisher _) hwf (by omega) (by simp only [hlength, statusBase]; decide)

/-- A publication writes its page alone (R160). -/
theorem publish_wordsKept (s : State) : WordsKept statusBase 256 s (publish s) := by
  have hlength := statusPage_length s
  intro a ha
  rw [publish_eq]
  generalize statusPage s = ws at hlength
  exact xread_xwriteList_other statusBase a ws (s.setPublisher _) (by omega)

/-- A publication counts itself (R160). -/
theorem publish_publisher (s : State) :
    (publish s).publisher = { s.publisher with headCount := s.publisher.headCount + 1 } := by
  rw [publish_eq]
  generalize statusPage s = ws
  simp

/-- Settles O57. -/
theorem statusPublicationWritesThePage : Obligations.StatusPublicationWritesThePage := by
  intro s hreset
  have hexec : exec .statusPublication s = .next (if s.tma.stripRunning then publish s else s) := live_of_high hreset
  refine ⟨fun hstopped => ?_, fun hstrip hwf => ?_⟩
  · rw [hexec, hstopped]
    rfl
  · rw [hstrip, if_pos rfl] at hexec
    refine ⟨publish s, _, hexec, rfl, publish_publisher s, fun i hi => ?_, fun a hlow hhigh => ?_, ?_, publish_wordsKept s,
      publish_sameBut s⟩
    · rw [publish_page hwf (by omega), statusPage_field s hi]
      simp only [statusFields, exclusionWord_eq, holdBits_eq]
      rfl
    · obtain ⟨i, rfl⟩ := Nat.exists_eq_add_of_le (Nat.le_trans (Nat.le_add_right _ _) hlow)
      rw [publish_page hwf (by omega), statusPage_reserved s (by omega) (by omega)]
    · rw [publish_page hwf (by decide), statusPage_tail]

/-! #### The trace (R140, R161, section 12.7) -/

/-- The trace record written next starts here (section 12.7). -/
def State.nextTraceBase (s : State) : Nat := 2048 + 32 * (s.publisher.traceCount.toNat % 32)

/-- A trace event before its cause: the count, and the record (R161). -/
def traceRecorded (s : State) : State :=
  xwriteList s.nextTraceBase (traceWords s) (s.setPublisher { s.publisher with traceCount := s.publisher.traceCount + 1 })

/-- The trace writer records the event, and raises TRACE_HALF at each sixteenth (R161). -/
theorem writeTrace_eq (s : State) :
    writeTrace s = raiseIf (decide ((s.publisher.traceCount + 1).toNat % 16 = 0)) .traceHalf (traceRecorded s) := rfl

/-- A recorded event keeps the port and the timing array. -/
@[simp] theorem traceRecorded_fields (s : State) :
    (traceRecorded s).publisher = { s.publisher with traceCount := s.publisher.traceCount + 1 } ∧
      (traceRecorded s).port = s.port ∧ (traceRecorded s).tma = s.tma := by
  unfold traceRecorded
  generalize traceWords s = ws
  simp

/-- An interrupt cause if a test holds (R157). -/
theorem raiseIf_port (b : Bool) (c : Cause) (s : State) : (raiseIf b c s).port = if b then s.port.raise c else s.port := by
  cases b <;> rfl

/-- The trace writer counts its record, and raises TRACE_HALF at each sixteenth (R161). -/
theorem writeTrace_fields (s : State) :
    (writeTrace s).publisher = { s.publisher with traceCount := s.publisher.traceCount + 1 } ∧
      (writeTrace s).port = (if (s.publisher.traceCount + 1).toNat % 16 = 0 then s.port.raise .traceHalf else s.port) ∧
      (writeTrace s).tma = s.tma := by
  obtain ⟨hpublisher, hport, htma⟩ := traceRecorded_fields s
  rw [writeTrace_eq, raiseIf_port, hport]
  refine ⟨by simp, ?_, by simp⟩
  by_cases h : (s.publisher.traceCount + 1).toNat % 16 = 0
  · rw [if_pos (decide_eq_true h), if_pos h]
  · rw [if_neg (by simpa using h), if_neg h]

/-- The trace writer's record (section 12.7). -/
theorem writeTrace_record {s : State} (hwf : s.xmemWf) {i : Nat} (h : i < 32) :
    (writeTrace s).xread (s.nextTraceBase + i) =
      [lowHalf s.tma.clock, highHalf s.tma.clock, word s.modc.mode.code, word s.gov.vT, word s.gov.limiter.code,
        signedWord s.gov.c, word s.gov.vAct, word s.armc.width, word s.watc.qCmd, word s.watc.qMeas, word s.loadm.load,
        word s.loadm.n, word s.armc.left.state.code, word s.armc.right.state.code, word s.armc.main.state.code].getD i 0 := by
  have hbase : s.nextTraceBase + 32 ≤ 8192 := by
    unfold State.nextTraceBase
    omega
  have hlength : (traceWords s).length = 32 := rfl
  have hread : (writeTrace s).xread (s.nextTraceBase + i) = (traceWords s).getD i 0 := by
    refine (xread_congr (t := writeTrace s) (s := traceRecorded s) (by rw [writeTrace_eq]; simp) _).trans ?_
    unfold traceRecorded
    generalize traceWords s = ws at hlength
    exact xread_xwriteList_same s.nextTraceBase i ws (s.setPublisher _) hwf (by omega) (by omega)
  rw [hread]
  exact getD_append_zeros _ 17 i

/-- The trace writer writes its record's words alone (R161). -/
theorem writeTrace_wordsKept (s : State) : WordsKept s.nextTraceBase 32 s (writeTrace s) := by
  have hlength : (traceWords s).length = 32 := rfl
  intro a ha
  refine (xread_congr (t := writeTrace s) (s := traceRecorded s) (by rw [writeTrace_eq]; simp) _).trans ?_
  unfold traceRecorded
  generalize traceWords s = ws at hlength
  exact xread_xwriteList_other s.nextTraceBase a ws (s.setPublisher _) (by omega)

/-- Settles O58. -/
theorem tracePeriodWritesARecord : Obligations.TracePeriodWritesARecord := by
  intro s hreset
  have hexec : exec .tracePeriodExpiry s = .next (tracePeriod s) := live_of_high hreset
  refine ⟨fun h => ?_, fun hruns hsource hdue hwf => ?_⟩
  · rw [hexec]
    obtain h | h | h := h
    · simp [tracePeriod, h]
    · simp [tracePeriod, h]
    · simp [tracePeriod, Nat.not_le.mpr h]
  · have heq : tracePeriod s = writeTrace (setTrace (takePendingInterval { s.tma.trace with periodTimer := 0 }) s) := by
      simp [tracePeriod, hruns, hsource, hdue]
    obtain ⟨hpublisher, hport, htma⟩ := writeTrace_fields (setTrace (takePendingInterval { s.tma.trace with periodTimer := 0 }) s)
    have hrecord {i : Nat} (hi : i < 32) :=
      writeTrace_record (s := setTrace (takePendingInterval { s.tma.trace with periodTimer := 0 }) s) hwf hi
    have hkept := writeTrace_wordsKept (setTrace (takePendingInterval { s.tma.trace with periodTimer := 0 }) s)
    rw [← heq] at hpublisher hport htma hrecord hkept
    exact ⟨_, s.nextTraceBase, hexec, rfl, hpublisher, fun i hi => hrecord hi, hport, htma, hkept,
      (tracePeriod_sameBut s).mono (by decide)⟩

/-! #### The capture channels (R132, R133, R141) -/

/-- The channel that is replaced. -/
@[simp] theorem Captures.get_set_same (k : Captures) (ch : Channel) (x : Capture) : (k.set ch x).get ch = x := by
  cases ch <;> rfl

/-- Every other channel stands. -/
theorem Captures.get_set_other (k : Captures) {ch other : Channel} (x : Capture) (h : other ≠ ch) :
    (k.set ch x).get other = k.get other := by
  cases ch <;> cases other <;> first | exact absurd rfl h | rfl

/-- An edge that has held is accepted, and the distance counter takes it (R132, R141). -/
theorem judgeEdge_of_held {ch : Channel} {now : Nat} {s : State}
    (hedge : (s.tma.captures.get ch).raw ≠ (s.tma.captures.get ch).level)
    (hheld : (s.tma.captures.get ch).rawTime + filterTime ch ≤ now) :
    judgeEdge ch now s = countEdge ch (s.tma.captures.get ch).raw
      (setCapture ch (acceptedEdge ch (s.timeoutTime ch) (s.tma.captures.get ch)) s) := by
  simp only [judgeEdge, hedge, hheld, decide_true, Bool.and_self, if_true, ne_eq, not_false_eq_true]

/-- With no edge, or one that has not held, nothing is accepted (R132). -/
theorem judgeEdge_of_quiet {ch : Channel} {now : Nat} {s : State}
    (h : (s.tma.captures.get ch).raw = (s.tma.captures.get ch).level ∨ now < (s.tma.captures.get ch).rawTime + filterTime ch) :
    judgeEdge ch now s = s := by
  obtain h | h := h
  · simp [judgeEdge, h]
  · simp [judgeEdge, Nat.not_le.mpr h]

/-- A falling edge counts no distance (R141). -/
theorem countEdge_falling (ch : Channel) (s : State) : countEdge ch false s = s := by
  unfold countEdge
  split <;> rfl

/-- What a rising edge leaves of the channel beside its state, its value and its count (R132). -/
theorem risingTransition_keeps (ch : Channel) (timeout : Nat) (k : Capture) (t : Nat) :
    (risingTransition ch timeout k t).fall = k.fall ∧ (risingTransition ch timeout k t).raw = k.raw := by
  unfold risingTransition qualify
  repeat' split
  all_goals exact ⟨rfl, rfl⟩

/-- An accepted edge leaves the level at the pin (R132). -/
theorem acceptedEdge_raw (ch : Channel) (timeout : Nat) (k : Capture) : (acceptedEdge ch timeout k).raw = k.raw := by
  unfold acceptedEdge
  split
  · exact (risingTransition_keeps ch timeout k k.rawTime).2
  · rfl

/-- The period that a rising edge closes is judged by its duty (R133). -/
theorem judgedState_eq (ch : Channel) (value : Nat) :
    judgedState ch value = if isDuty ch = true ∧ (value < 50 ∨ 950 < value) then .outOfRange else .valid := by
  unfold judgedState
  by_cases h : isDuty ch = true ∧ (value < 50 ∨ 950 < value)
  · rw [if_pos h, if_pos]
    simp only [h.1, within, Bool.true_and, Bool.not_eq_true', Bool.and_eq_false_iff, decide_eq_false_iff_not]
    omega
  · rw [if_neg h, if_neg]
    simp only [within, Bool.and_eq_true, Bool.not_eq_true', Bool.and_eq_false_iff, decide_eq_false_iff_not]
    rintro ⟨hduty, hrange⟩
    exact h ⟨hduty, by omega⟩

/-- The channel whose edges the distance counter counts (R141). -/
def State.countedChannel (s : State) : Channel := if s.gov.chanA = .lost then .wheelB else .wheelA

/-- The distance counter passes the edges of other channels, and every edge while the source DISTANCE does not run (R141). -/
theorem countEdge_passed {ch : Channel} {s : State}
    (h : s.traceRuns = false ∨ s.tma.trace.source = .period ∨ ch ≠ s.countedChannel) : countEdge ch true s = s := by
  unfold countEdge
  split
  case h_2 => rfl
  case h_1 w hw =>
    rw [if_pos rfl]
    obtain h | h | h := h
    · simp [countDistance, h]
    · simp [countDistance, h]
    · have hwheel : w ≠ if s.gov.chanA = .lost then .b else .a := by
        rintro rfl
        refine h ?_
        unfold State.countedChannel
        split at hw <;> cases ch <;> simp_all [channelWheel]
      simp [countDistance, hwheel]

/-- The distance counter at an edge of the channel it counts (R141). -/
theorem countEdge_counted {ch : Channel} {w : Wheel} {s : State} {sum : Nat} (hw : channelWheel ch = some w) (hruns : s.traceRuns = true)
    (hsource : s.tma.trace.source = .distance) (hcounted : w = if s.gov.chanA = .lost then .b else .a)
    (hsum : sum = s.tma.trace.accumulator + s.umPerPulse w) :
    countEdge ch true s =
      if s.tma.trace.interval * 1000 ≤ sum then
        writeTrace (setTrace (takePendingInterval { s.tma.trace with accumulator := sum - s.tma.trace.interval * 1000 }) s)
      else setTrace { s.tma.trace with accumulator := sum } s := by
  subst hsum
  unfold countEdge
  rw [hw]
  simp [countDistance, hruns, hsource, ← hcounted]

/-- The distance counter changes the trace alone of the timing array (R141). -/
theorem countEdge_tma (ch : Channel) (rising : Bool) (s : State) :
    (countEdge ch rising s).tma = { s.tma with trace := (countEdge ch rising s).tma.trace } := by
  have hdistance (w : Wheel) : (countDistance w s).tma = { s.tma with trace := (countDistance w s).tma.trace } := by
    unfold countDistance
    dsimp only
    repeat' split
    all_goals simp [setTrace]
  unfold countEdge
  split
  · split
    · exact hdistance _
    · rfl
  · rfl

/-- The channel record after an accepted rising edge, before the distance counter (R132, R133). -/
theorem acceptedEdge_rising {ch : Channel} {timeout : Nat} {k : Capture} (h : k.raw = true) :
    acceptedEdge ch timeout k = { risingTransition ch timeout k k.rawTime with rise := k.rawTime, level := true } := by
  simp [acceptedEdge, h]

/-- The channel record after an accepted falling edge (R132). -/
theorem acceptedEdge_falling {ch : Channel} {timeout : Nat} {k : Capture} (h : k.raw = false) :
    acceptedEdge ch timeout k = { k with fall := k.rawTime, level := false } := by
  simp [acceptedEdge, h]

/-- A rising edge that closes a period not shorter than the timeout acquires afresh; in NO_SIGNAL every one does (R133). -/
theorem risingTransition_afresh {ch : Channel} {timeout : Nat} {k : Capture} {t : Nat}
    (h : k.state = .noSignal ∨ timeout ≤ t - k.rise) :
    (risingTransition ch timeout k t).state = .acquiring ∧ (risingTransition ch timeout k t).count = 0 ∧
      (k.state ≠ .acquiring → (risingTransition ch timeout k t).value = 0) := by
  obtain h | h := h
  · simp [risingTransition, h]
  · have hlate : ¬t - k.rise < timeout := Nat.not_lt.mpr h
    cases hstate : k.state <;> simp [risingTransition, hstate, hlate]

/-- The first period after acquiring is counted and not yet judged (R133). -/
theorem risingTransition_first {ch : Channel} {timeout : Nat} {k : Capture} {t : Nat} (hstate : k.state = .acquiring)
    (hcount : k.count = 0) (hshort : t - k.rise < timeout) :
    (risingTransition ch timeout k t).state = .acquiring ∧ (risingTransition ch timeout k t).count = 1 := by
  simp [risingTransition, hstate, hcount, hshort]

/-- A later period gives the channel its value and its state (R133). -/
theorem risingTransition_qualified {ch : Channel} {timeout : Nat} {k : Capture} {t : Nat}
    (hstate : (k.state = .acquiring ∧ 1 ≤ k.count) ∨ k.state = .valid ∨ k.state = .outOfRange) (hshort : t - k.rise < timeout) :
    risingTransition ch timeout k t = qualify ch k t := by
  obtain ⟨hstate, hcount⟩ | hstate | hstate := hstate
  · simp [risingTransition, hstate, hcount, hshort]
  · simp [risingTransition, hstate, hshort]
  · simp [risingTransition, hstate, hshort]

/-- What the channel's record is after an accepted rising edge (R132, R133). -/
theorem judged_rising {ch : Channel} {timeout gap value : Nat} {k r : Capture} (hraw : k.raw = true)
    (hgap : gap = k.rawTime - k.rise) (hvalue : value = if isDuty ch then (k.fall - k.rise) * 1000 / gap else gap)
    (hr : r = acceptedEdge ch timeout k) :
    r.rise = k.rawTime ∧ r.level = true ∧ r.fall = k.fall ∧
      (k.state = .noSignal → r.state = .acquiring ∧ r.count = 0) ∧
      (k.state = .acquiring → k.count = 0 → gap < timeout → r.state = .acquiring ∧ r.count = 1) ∧
      (k.state = .acquiring → timeout ≤ gap → r.state = .acquiring ∧ r.count = 0) ∧
      (k.state = .valid ∨ k.state = .outOfRange → timeout ≤ gap → r.state = .acquiring ∧ r.count = 0 ∧ r.value = 0) ∧
      ((k.state = .acquiring ∧ 1 ≤ k.count) ∨ k.state = .valid ∨ k.state = .outOfRange → gap < timeout →
        r.value = value ∧ r.state = (if isDuty ch = true ∧ (value < 50 ∨ 950 < value) then .outOfRange else .valid)) := by
  rw [acceptedEdge_rising hraw] at hr
  subst hr hgap
  refine ⟨rfl, rfl, (risingTransition_keeps _ _ _ _).1, fun h => ?_, fun h hcount hshort => risingTransition_first h hcount hshort,
    fun h hlate => ?_, fun h hlate => ?_, fun h hshort => ?_⟩
  · obtain ⟨hstate, hcount, -⟩ := risingTransition_afresh (ch := ch) (timeout := timeout) (t := k.rawTime) (.inl h)
    exact ⟨hstate, hcount⟩
  · obtain ⟨hstate, hcount, -⟩ := risingTransition_afresh (ch := ch) (.inr hlate)
    exact ⟨hstate, hcount⟩
  · obtain ⟨hstate, hcount, hzero⟩ := risingTransition_afresh (ch := ch) (.inr hlate)
    exact ⟨hstate, hcount, hzero (by obtain h | h := h <;> simp [h])⟩
  · simp only [risingTransition_qualified h hshort, qualify, closedValue, ← hvalue]
    exact ⟨trivial, judgedState_eq ch value⟩

/-- A channel's commands while RESET# is low or the array sleeps (R142, section 12.9). -/
theorem live_of_asleep {f : State → State} {s : State} (h : s.resetHeld = true ∨ s.tma.stepsRunning = false)
    (hf : s.tma.stepsRunning = false → f s = s) : live f s = .next s := by
  obtain h | h := h
  · simp [live, h]
  · simp [live, hf h]

/-- A raw change while RESET# is low or the array sleeps (log entry 6). -/
theorem captureRaw_of_asleep {ch : Channel} {level : Bool} {us : Nat} {s : State}
    (h : s.resetHeld = true ∨ s.tma.stepsRunning = false) :
    captureRaw ch level us s = setCapture ch { s.tma.captures.get ch with raw := level } s := by
  have hcond : (s.captures && !s.resetHeld) = false := by
    obtain h | h := h <;> simp [State.captures, h]
  simp [captureRaw, hcond]

/-- A raw change while the array captures: the edge held at the pin is judged first, then the new level noted (log entry 12). -/
theorem captureRaw_of_running {ch : Channel} {level : Bool} {us : Nat} {s m : State} (h : s.running)
    (hm : m = judgeEdge ch (s.tma.micros + us) s) (hmicros : m.tma.micros = s.tma.micros) :
    captureRaw ch level us s =
      if level = (m.tma.captures.get ch).raw then m
      else setCapture ch { m.tma.captures.get ch with raw := level, rawTime := s.tma.micros + us } m := by
  obtain ⟨hreset, hsteps⟩ := h
  subst hm
  simp only [captureRaw, State.captures, hsteps, hreset, State.instant, hmicros, Bool.not_false, Bool.and_self, if_true]

/-- CAPTURE_EDGE_ACCEPTED while the array captures. -/
theorem exec_captureEdgeAccepted (ch : Channel) (us : Nat) {s : State} (h : s.running) :
    exec (.captureEdgeAccepted ch us) s = .next (judgeEdge ch (s.tma.micros + us) s) := by
  obtain ⟨hreset, hsteps⟩ := h
  refine (live_of_high hreset).trans ?_
  simp only [State.captures, hsteps, State.instant, if_true]

/-- Settles O59, each clause by the case of the edge, of the timeout or of the distance counter that it names. -/
theorem captureChannelsJudgeEdges : Obligations.CaptureChannelsJudgeEdges := by
  intro s ch us k hk
  subst hk
  have hraw (level : Bool) : exec (.captureRawChange ch level us) s = .next (captureRaw ch level us s) := rfl
  have haccept := fun h : s.running => exec_captureEdgeAccepted ch us h
  have hexpire : exec (.captureTimeout ch us) s = live (captureExpiry ch us) s := rfl
  refine ⟨fun level h => (hraw level).trans (congrArg _ (captureRaw_of_asleep h)), fun h =>
    ⟨live_of_asleep h fun hsteps => ?_, live_of_asleep h fun hsteps => ?_⟩, fun level hrun hquiet => ?_,
    fun level hrun hedge hheld => ?_, fun hrun hquiet => ?_, fun hrun hlevel hpin hheld => ?_, fun hrun hlevel hpin hheld => ?_,
    fun hrun hstate hdue => ?_, fun hrun hnone => ?_⟩
  · simp [State.captures, hsteps]
  · simp [captureExpiry, State.captures, hsteps]
  · rw [hraw, captureRaw_of_running hrun (judgeEdge_of_quiet hquiet).symm rfl]
  · refine ⟨_, haccept hrun, ?_⟩
    have htma : (judgeEdge ch (s.tma.micros + us) s).tma.micros = s.tma.micros ∧
        ((judgeEdge ch (s.tma.micros + us) s).tma.captures.get ch).raw = (s.tma.captures.get ch).raw := by
      rw [judgeEdge_of_held hedge hheld, countEdge_tma]
      refine ⟨rfl, ?_⟩
      simp [setCapture, acceptedEdge_raw]
    rw [hraw, captureRaw_of_running hrun rfl htma.1, htma.2]
  · rw [haccept hrun, judgeEdge_of_quiet hquiet]
  · rw [haccept hrun, judgeEdge_of_held (by simp [hlevel, hpin]) hheld, acceptedEdge_falling hpin, hpin, countEdge_falling]
  · have hjudge : judgeEdge ch (s.tma.micros + us) s = _ := judgeEdge_of_held (by simp [hlevel, hpin]) hheld
    have hexec := haccept hrun
    have hreach := (judgeEdge_sameBut ch (s.tma.micros + us) s).mono (more := [.tma, .xmem, .publisher, .port]) (by decide)
    rw [hjudge, hpin] at hexec hreach
    generalize hu : setCapture ch (acceptedEdge ch (s.timeoutTime ch) (s.tma.captures.get ch)) s = u at hexec hreach
    have hutma : u.tma =
        { s.tma with captures := s.tma.captures.set ch (acceptedEdge ch (s.timeoutTime ch) (s.tma.captures.get ch)) } := by
      rw [← hu]
      rfl
    have husame : SameBut [.tma] s u := hu ▸ setTma_sameBut s _
    have htma := countEdge_tma ch true u
    have hget : (countEdge ch true u).tma.captures.get ch = acceptedEdge ch (s.timeoutTime ch) (s.tma.captures.get ch) := by
      rw [htma, hutma]
      simp
    obtain ⟨hrise, hlevelAfter, hfall, hnoSignal, hfirst, hacquiring, hlate, hqualified⟩ :=
      judged_rising (gap := (s.tma.captures.get ch).rawTime - (s.tma.captures.get ch).rise) hpin rfl rfl hget
    refine ⟨_, _, _, hexec, rfl, rfl, hrise, hlevelAfter, hfall, hnoSignal, hfirst, hacquiring, hlate, hqualified,
      fun other hother => ?_, ?_, fun hpassed => ?_, fun sum hruns hsource hcounted => ?_, hreach⟩
    · rw [htma, hutma]
      exact Captures.get_set_other _ _ hother
    · rw [htma, hutma]
    · have hsame : countEdge ch true u = u := countEdge_passed (by rw [← hu]; exact hpassed)
      rw [hsame, hutma]
      exact ⟨rfl, husame⟩
    · obtain ⟨w, hw, hwheel, hsum⟩ : ∃ w, channelWheel ch = some w ∧ (w = if s.gov.chanA = .lost then .b else .a) ∧
          sum = s.tma.trace.accumulator + s.umPerPulse w := by
        obtain ⟨rfl, hchan, hsum⟩ | ⟨rfl, hchan, hsum⟩ := hcounted
        · exact ⟨.a, rfl, by rw [if_neg hchan], hsum⟩
        · exact ⟨.b, rfl, by rw [if_pos hchan], hsum⟩
      have hcount : countEdge ch true u = _ := countEdge_counted (sum := sum) hw (by rw [← hu]; exact hruns) (by rw [← hu]; exact hsource)
        (by rw [← hu]; exact hwheel) (by rw [← hu]; exact hsum)
      have htrace : u.tma.trace = s.tma.trace := by rw [hutma]
      rw [htrace] at hcount
      refine ⟨fun hshort => ?_, fun hdue => ?_⟩
      · rw [hcount, if_neg (Nat.not_le.mpr hshort)]
        exact ⟨rfl, husame.trans (setTma_sameBut u _)⟩
      · rw [if_pos hdue] at hcount
        obtain ⟨hpublisher, hport, htma'⟩ := writeTrace_fields (setTrace (takePendingInterval
          { s.tma.trace with accumulator := sum - s.tma.trace.interval * 1000 }) u)
        have hrecord (hwf : s.xmemWf) {i : Nat} (hi : i < 32) := writeTrace_record (s := setTrace (takePendingInterval
          { s.tma.trace with accumulator := sum - s.tma.trace.interval * 1000 }) u) (by rw [← hu]; exact hwf) hi
        have hkept := writeTrace_wordsKept (setTrace (takePendingInterval
          { s.tma.trace with accumulator := sum - s.tma.trace.interval * 1000 }) u)
        rw [← hcount] at hpublisher hport htma' hrecord hkept
        subst hu
        exact ⟨by rw [htma']; rfl, hpublisher, hport, fun hwf i hi => hrecord hwf hi, hkept⟩
  · obtain ⟨hreset, hsteps⟩ := hrun
    rw [hexpire, live_of_high hreset]
    simp [captureExpiry, State.captures, hsteps, State.instant, hstate, hdue]
  · obtain ⟨hreset, hsteps⟩ := hrun
    rw [hexpire, live_of_high hreset]
    obtain h | h := hnone
    · simp [captureExpiry, h]
    · simp [captureExpiry, State.instant, Nat.not_le.mpr h]

end Sys2Proof.Machine

namespace Sys2Proof.Machine

/-! ### The debounced inputs and the PWM periods; the wheel channels -/

/-! #### The debounced inputs (R137) -/

/-- The input that is replaced. -/
@[simp] theorem Inputs.get_set_same (k : Inputs) (i : Input) (d : Debounced) : (k.set i d).get i = d := by
  cases i <;> rfl

/-- Every other input stands. -/
theorem Inputs.get_set_other (k : Inputs) {i other : Input} (d : Debounced) (h : other ≠ i) : (k.set i d).get other = k.get other := by
  cases i <;> cases other <;> first | exact absurd rfl h | rfl

/-- An input that has not settled, or is not being debounced, does nothing (R137, R142). -/
theorem settleInput_of_unsettled {i : Input} {s : State} (h : s.debounces i = false ∨ settleDue (s.tma.inputs.get i) = false) :
    settleInput i s = s := by
  obtain h | h := h <;> simp [settleInput, h]

/-- A settled input takes its raw level, and wakes a sleeper where OPERATOR becomes active (R137, R17). -/
theorem settleInput_of_settled {i : Input} {s : State} (hdebounced : s.debounces i = true)
    (hsettled : settleDue (s.tma.inputs.get i) = true) :
    settleInput i s =
      if i = .operator ∧ (s.tma.inputs.get i).raw = true then
        wakeSource false (setInput i { s.tma.inputs.get i with level := (s.tma.inputs.get i).raw } s)
      else setInput i { s.tma.inputs.get i with level := (s.tma.inputs.get i).raw } s := by
  simp [settleInput, hdebounced, hsettled]

/-- The outputs beside the PWM periods stand where a period begins (R135). -/
theorem beginPeriod_switched (o : PwmOut) {s : State} (h : s.tma.stepsRunning = true) :
    (beginPeriod o s).tma.outputs.nozzles = s.tma.outputs.nozzles ∧
      (∀ a, (beginPeriod o s).tma.outputs.lower a = s.tma.outputs.lower a ∧
        (beginPeriod o s).tma.outputs.raise a = s.tma.outputs.raise a) ∧ OutputsOnly s (beginPeriod o s) := by
  obtain ⟨x, heq⟩ : ∃ x : Pwm, (beginPeriod o s).tma = { s.tma with outputs := s.tma.outputs.set o x } :=
    ⟨{ held := (s.tma.outputs.get o).held, applied := (s.tma.outputs.get o).held, start := s.tma.micros },
      by simp [beginPeriod, h, setOutputs]⟩
  refine ⟨?_, fun a => ?_, ?_⟩
  · rw [heq]
    cases o <;> rfl
  · rw [heq]
    cases o <;> cases a <;> exact ⟨rfl, rfl⟩
  · rw [OutputsOnly, heq]

/-- Settles O60. -/
theorem inputsSettleAndPeriodsBegin : Obligations.InputsSettleAndPeriodsBegin := by
  refine ⟨fun s i level => ⟨fun h => ?_, fun h => ?_⟩, fun s i hreset => ⟨fun h => ?_, fun hsteps hi => ?_, fun hchanged hheld =>
    ⟨fun hsteps hawake => ?_, fun hi hraw hdormant => ?_⟩⟩, fun s o hsteps => ?_, fun s o hrun => ?_⟩
  · exact congrArg _ (if_pos h)
  · exact congrArg _ (if_neg h)
  · refine live_of_same (settleInput_of_unsettled (.inr ?_))
    obtain h | h := h
    · simp [settleDue, h]
    · simp [settleDue, Nat.not_le.mpr h]
  · exact live_of_same (settleInput_of_unsettled (.inl (by simp [State.debounces, hsteps, hi])))
  · have hsettled := settleInput_of_settled (i := i) (s := s) (by simp [State.debounces, hsteps]) (by simp [settleDue, hchanged, hheld])
    refine (live_of_high hreset).trans (congrArg _ (hsettled.trans ?_))
    rw [wakeSource_of_awake false (s := setInput i _ s) hawake, ite_self]
  · subst hi
    have hsettled := settleInput_of_settled (i := .operator) (s := s) (by simp [State.debounces]) (by simp [settleDue, hchanged, hheld])
    rw [if_pos ⟨rfl, hraw⟩] at hsettled
    obtain ⟨hmodc, htma, -⟩ := wakeSource_of_dormant false
      (s := setInput .operator { s.tma.inputs.get .operator with level := (s.tma.inputs.get .operator).raw } s) hdormant
    rw [← hsettled] at hmodc htma
    refine ⟨_, live_of_high hreset, ?_, hmodc, ?_, ?_, ?_, fun j hj => ?_, settleInput_sameBut .operator s⟩
    · rw [State.input, htma]
      exact hraw
    · rw [htma]
    · rw [htma]
      rfl
    · rw [htma]
      rfl
    · rw [State.input, htma]
      cases j
      case operator => exact absurd rfl hj
      all_goals rfl
  · exact live_of_same (beginPeriod_asleep o s hsteps)
  · have hsame := beginPeriod_same o s hrun.2
    obtain ⟨hnozzles, hvalves, honly⟩ := beginPeriod_switched o hrun.2
    refine ⟨_, pwmPeriod o, live_of_high hrun.1, by cases o <;> rfl, hsame, fun us _ => ?_,
      fun other hother => beginPeriod_other o other s hother, hnozzles, hvalves, honly, beginPeriod_sameBut o s⟩
    have hmicros : (beginPeriod o s).tma.micros = s.tma.micros := by rw [honly]
    simp only [State.pwmLevel, hsame, hmicros, Pwm.levelAt, Nat.add_sub_cancel_left, decide_eq_true_eq]

/-! #### The wheel channels at stage 1 of the travel step (R40 to R44) -/

/-- The wheel that is replaced. -/
@[simp] theorem Governor.setWheel_same (g : Governor) (w : Wheel) (st : WheelState) (loss : Timer) (n : Nat) :
    (g.setWheel w st loss n).chan w = st ∧ (g.setWheel w st loss n).loss w = loss ∧ (g.setWheel w st loss n).readmit w = n := by
  cases w <;> exact ⟨rfl, rfl, rfl⟩

/-- The other wheel stands. -/
@[simp] theorem Governor.setWheel_other (g : Governor) (w : Wheel) (st : WheelState) (loss : Timer) (n : Nat) :
    (g.setWheel w st loss n).chan (otherWheel w) = g.chan (otherWheel w) ∧
      (g.setWheel w st loss n).loss (otherWheel w) = g.loss (otherWheel w) ∧
      (g.setWheel w st loss n).readmit (otherWheel w) = g.readmit (otherWheel w) := by
  cases w <;> exact ⟨rfl, rfl, rfl⟩

/-- A wheel's record: state, loss timer and re-admission count. -/
def Governor.wheel (g : Governor) (w : Wheel) : WheelState × Timer × Nat := (g.chan w, g.loss w, g.readmit w)

/-- A wheel's record after its report (R40, R43). -/
def State.reportedRecord (s : State) (w : Wheel) : WheelState × Timer × Nat :=
  if s.gov.chan w = .lost then
    if s.readmits w (s.reportedWheel (otherWheel w)) then
      if 1 ≤ s.gov.readmit w then (.inUse, none, 0) else (.lost, none, s.gov.readmit w + 1)
    else (.lost, none, 0)
  else (s.reportedWheel w, s.gov.loss w, s.gov.readmit w)

/-- A report sets its own wheel's record (R40, R43). -/
theorem wheelReport_eq (w : Wheel) (s : State) : wheelReport w s =
    s.setGov (s.gov.setWheel w (s.reportedRecord w).1 (s.reportedRecord w).2.1 (s.reportedRecord w).2.2) := by
  have hlost : s.reportedWheel w = .lost ↔ s.gov.chan w = .lost := by
    unfold State.reportedWheel
    repeat' split
    all_goals simp_all
  unfold wheelReport State.reportedRecord
  dsimp only
  by_cases h : s.gov.chan w = .lost
  · rw [if_pos (hlost.mpr h), if_pos h]
    repeat' split
    all_goals rfl
  · rw [if_neg (mt hlost.mp h), if_neg h]

/-- What a wheel reports is read from its channel, and from whether it is LOST (R40). -/
theorem State.reportedWheel_setGov {s : State} {g : Governor} {w : Wheel} (h : g.chan w = .lost ↔ s.gov.chan w = .lost) :
    (s.setGov g).reportedWheel w = s.reportedWheel w := by
  have hvalid : (s.setGov g).valid (wheelChannel w) = s.valid (wheelChannel w) := rfl
  unfold State.reportedWheel
  rw [hvalid]
  simp only [State.setGov_gov, h]

/-- A wheel in use agrees with a LOST one that is readmitted (R43): what `readmits` asks, in the readings. -/
theorem State.readmits_iff (s : State) (w : Wheel) (other : WheelState) : s.readmits w other = true ↔
    s.valid (wheelChannel w) = true ∧ (other ≠ .inUse ∨ speedsAgree (s.wheelSpeed w) (s.wheelSpeed (otherWheel w)) = true) := by
  simp [State.readmits]

/-- The record of WHEEL_A after the reports of both (R40). -/
theorem travelReport_wheelA (s : State) : (travelReport s).gov.wheel .a = s.reportedRecord .a := by
  rw [travelReport, wheelReport_eq .b, wheelReport_eq .a]
  rfl

/-- The record of WHEEL_B after the reports of both (R40). -/
theorem travelReport_wheelB (s : State) : (travelReport s).gov.wheel .b = (wheelReport .a s).reportedRecord .b := by
  rw [travelReport, wheelReport_eq .b]
  rfl

/-- A channel that is not LOST takes the array's report (R40). -/
theorem travelReport_of_not_lost {s : State} {w : Wheel} (h : s.gov.chan w ≠ .lost) :
    (travelReport s).gov.wheel w =
      (if s.valid (wheelChannel w) then .inUse else .noSignal, s.gov.loss w, s.gov.readmit w) := by
  cases w
  · rw [travelReport_wheelA]
    simp only [State.reportedRecord, State.reportedWheel, if_neg h]
  · have hrecord : (wheelReport .a s).gov.wheel .b = s.gov.wheel .b := by
      rw [wheelReport_eq]
      rfl
    simp only [Governor.wheel, Prod.mk.injEq] at hrecord
    obtain ⟨hchan, hloss, hreadmit⟩ := hrecord
    have hvalid : (wheelReport .a s).valid (wheelChannel .b) = s.valid (wheelChannel .b) := by
      rw [wheelReport_eq]
      rfl
    rw [travelReport_wheelB]
    simp only [State.reportedRecord, State.reportedWheel, hchan, hloss, hreadmit, hvalid, if_neg h]

/-- Agreement is of the two speeds (R41). -/
theorem speedsAgree_comm (va vb : Nat) : speedsAgree va vb = speedsAgree vb va := by
  simp [speedsAgree, max_comm, min_comm]

/-- The other wheel's other wheel. -/
@[simp] theorem otherWheel_otherWheel (w : Wheel) : otherWheel (otherWheel w) = w := by
  cases w <;> rfl

/-- A LOST channel gives an agreeing reading at this step, the other channel not LOST (R43). -/
def State.agrees (s : State) (w : Wheel) : Prop :=
  s.valid (wheelChannel w) = true ∧
    (s.valid (wheelChannel (otherWheel w)) = false ∨ speedsAgree (s.wheelSpeed w) (s.wheelSpeed (otherWheel w)) = true)

/-- A LOST channel's record by its agreeing readings, `agreeing` the test of R43. -/
theorem reportedRecord_of_lost {s : State} {w : Wheel} {agreeing : Prop} [Decidable agreeing] (h : s.gov.chan w = .lost)
    (hreadmits : s.readmits w (s.reportedWheel (otherWheel w)) = true ↔ agreeing) :
    s.reportedRecord w =
      (if agreeing ∧ 1 ≤ s.gov.readmit w then .inUse else .lost, none,
        if agreeing ∧ s.gov.readmit w = 0 then 1 else 0) := by
  unfold State.reportedRecord
  simp only [h, hreadmits, if_true]
  by_cases hagrees : agreeing
  · by_cases hcount : 1 ≤ s.gov.readmit w
    · have hne : s.gov.readmit w ≠ 0 := by omega
      simp only [hagrees, hcount, hne, and_self, and_false, if_true, if_false]
    · have hzero : s.gov.readmit w = 0 := by omega
      simp [hagrees, hzero]
  · simp only [hagrees, false_and, if_false]

/-- What a channel that is not LOST reports is in use exactly while it is VALID (R40). -/
theorem State.reportedWheel_inUse {s : State} {w : Wheel} (h : s.gov.chan w ≠ .lost) :
    s.reportedWheel w = .inUse ↔ s.valid (wheelChannel w) = true := by
  simp [State.reportedWheel, h]

/-- A LOST channel beside one that is not LOST (R43). -/
theorem travelReport_of_lost {s : State} {w : Wheel} (h : s.gov.chan w = .lost) (hother : s.gov.chan (otherWheel w) ≠ .lost) :
    ((travelReport s).gov.chan w = .inUse ↔ s.agrees w ∧ 1 ≤ s.gov.readmit w) ∧
      ((travelReport s).gov.chan w ≠ .inUse → (travelReport s).gov.chan w = .lost) ∧ (travelReport s).gov.loss w = none ∧
      (s.agrees w ∧ s.gov.readmit w = 0 → (travelReport s).gov.readmit w = 1) ∧
      (¬(s.agrees w ∧ s.gov.readmit w = 0) → (travelReport s).gov.readmit w = 0) := by
  classical
  have hwheel : (travelReport s).gov.wheel w = (if s.agrees w ∧ 1 ≤ s.gov.readmit w then .inUse else .lost, none,
      if s.agrees w ∧ s.gov.readmit w = 0 then 1 else 0) := by
    cases w
    · rw [travelReport_wheelA]
      refine reportedRecord_of_lost h ?_
      rw [State.readmits_iff, ne_eq, State.reportedWheel_inUse hother, Bool.not_eq_true]
      rfl
    · have hlost : (wheelReport .a s).gov.chan .a = .lost ↔ s.gov.chan .a = .lost := by
        have hrecord := congrArg Prod.fst (travelReport_of_not_lost (w := .a) hother)
        rw [travelReport, wheelReport_eq .b] at hrecord
        have hchan : (wheelReport .a s).gov.chan .a = if s.valid (wheelChannel .a) then .inUse else .noSignal := hrecord
        refine iff_of_false ?_ hother
        rw [hchan]
        split <;> simp
      rw [travelReport_wheelB]
      rw [wheelReport_eq] at hlost ⊢
      refine reportedRecord_of_lost h ?_
      rw [State.readmits_iff]
      have hreported : (s.setGov (s.gov.setWheel .a (s.reportedRecord .a).1 (s.reportedRecord .a).2.1
          (s.reportedRecord .a).2.2)).reportedWheel (otherWheel .b) = s.reportedWheel .a := State.reportedWheel_setGov hlost
      rw [hreported, ne_eq, State.reportedWheel_inUse (w := .a) hother, Bool.not_eq_true]
      rfl
  have hchan := congrArg Prod.fst hwheel
  have hloss := congrArg (fun x => x.2.1) hwheel
  have hreadmit := congrArg (fun x => x.2.2) hwheel
  simp only [Governor.wheel] at hchan hloss hreadmit
  refine ⟨?_, fun hne => ?_, hloss, fun hc => by rw [hreadmit, if_pos hc], fun hc => by rw [hreadmit, if_neg hc]⟩
  · rw [hchan]
    split <;> simp_all
  · rw [hchan] at hne ⊢
    split <;> simp_all

/-- A LOST channel's record after a report that returns it to use (R43). -/
theorem reportedRecord_inUse {s : State} {w : Wheel} (h : (s.reportedRecord w).1 = .inUse) :
    s.valid (wheelChannel w) = true ∧
      (s.gov.chan w = .lost → s.reportedWheel (otherWheel w) = .inUse →
        speedsAgree (s.wheelSpeed w) (s.wheelSpeed (otherWheel w)) = true) := by
  unfold State.reportedRecord at h
  split at h
  next hlost =>
    split at h
    next hreadmits =>
      obtain ⟨hvalid, hagree⟩ := (State.readmits_iff s w _).mp hreadmits
      exact ⟨hvalid, fun _ hother => hagree.resolve_left (not_not.mpr hother)⟩
    next => simp at h
  next hkept => exact ⟨(State.reportedWheel_inUse hkept).mp h, fun hlost => absurd hlost hkept⟩

/-- A channel in use after the reports is VALID (R40, R43). -/
theorem travelReport_valid {s : State} {w : Wheel} (h : (travelReport s).gov.chan w = .inUse) : s.valid (wheelChannel w) = true := by
  cases w
  · have hchan : (s.reportedRecord .a).1 = .inUse := (congrArg Prod.fst (travelReport_wheelA s)).symm.trans h
    exact (reportedRecord_inUse hchan).1
  · have hchan := (congrArg Prod.fst (travelReport_wheelB s)).symm.trans h
    have hvalid := (reportedRecord_inUse hchan).1
    rw [wheelReport_eq] at hvalid
    exact hvalid

/-- Two LOST channels that return to use at one step agree (R43): the second is judged against the first. -/
theorem travelReport_both_readmitted {s : State} (hlost : s.gov.chan .b = .lost)
    (ha : (travelReport s).gov.chan .a = .inUse) (hb : (travelReport s).gov.chan .b = .inUse) :
    speedsAgree (s.wheelSpeed .b) (s.wheelSpeed .a) = true := by
  have hvalid := travelReport_valid ha
  have hchan := (congrArg Prod.fst (travelReport_wheelB s)).symm.trans hb
  have hfirst : (wheelReport .a s).gov.chan .a = .inUse := by
    rw [travelReport, wheelReport_eq .b] at ha
    exact ha
  have hreported : (wheelReport .a s).reportedWheel .a = .inUse := by
    refine (State.reportedWheel_inUse (by rw [hfirst]; simp)).mpr ?_
    rw [wheelReport_eq]
    exact hvalid
  have hagree := (reportedRecord_inUse hchan).2
  rw [wheelReport_eq] at hagree hreported
  exact hagree hlost hreported

/-- A channel that returns to use beside one in use agrees with it (R43). -/
theorem travelReport_agree {s : State} {w : Wheel} (hlost : s.gov.chan w = .lost) (h : (travelReport s).gov.chan w = .inUse)
    (hother : (travelReport s).gov.chan (otherWheel w) = .inUse) : speedsAgree (s.wheelSpeed w) (s.wheelSpeed (otherWheel w)) = true := by
  by_cases hboth : s.gov.chan (otherWheel w) = .lost
  · cases w
    · exact (speedsAgree_comm _ _).trans (travelReport_both_readmitted hboth h hother)
    · exact travelReport_both_readmitted hlost hother h
  · obtain ⟨⟨-, hagree⟩, -⟩ := (travelReport_of_lost hlost hboth).1.mp h
    exact hagree.resolve_left (by simp [travelReport_valid hother])

/-- A wheel's record after the loss test (R42). -/
def State.lossRecord (s : State) (w : Wheel) : WheelState × Timer × Nat :=
  if timerAt 500 (timerFollow 500 10 (s.lossHolds w) (s.gov.loss w)) then (.lost, none, 0)
  else (s.gov.chan w, timerFollow 500 10 (s.lossHolds w) (s.gov.loss w), s.gov.readmit w)

/-- The loss test sets its own wheel's record (R42). -/
theorem wheelLoss_eq (w : Wheel) (s : State) : wheelLoss w s =
    s.setGov (s.gov.setWheel w (s.lossRecord w).1 (s.lossRecord w).2.1 (s.lossRecord w).2.2) := by
  unfold wheelLoss State.lossRecord
  dsimp only
  split <;> rfl

/-- A channel in use, or LOST already, passes the loss test as it is (R42). -/
theorem lossRecord_chan_of_held {s : State} {w : Wheel} (h : s.lossHolds w = false) :
    s.lossRecord w = (s.gov.chan w, none, s.gov.readmit w) := by
  simp [State.lossRecord, h, timerFollow, timerAt]

/-- The loss test leaves in use what is in use, and brings nothing to use (R42). -/
theorem lossRecord_inUse (s : State) (w : Wheel) : (s.lossRecord w).1 = .inUse ↔ s.gov.chan w = .inUse := by
  by_cases h : s.gov.chan w = .inUse
  · rw [lossRecord_chan_of_held (by simp [State.lossHolds, h])]
  · unfold State.lossRecord
    split <;> simp [h]

/-- The loss tests of both wheels, each by the record its wheel had before either (R42). -/
theorem wheelLosses_wheel (s : State) (w : Wheel) : (wheelLoss .b (wheelLoss .a s)).gov.wheel w = s.lossRecord w := by
  have hfirst : (wheelLoss .a s).gov.wheel .a = s.lossRecord .a := by
    rw [wheelLoss_eq]
    rfl
  cases w
  · rw [wheelLoss_eq .b]
    exact hfirst
  · have hsecond : (wheelLoss .b (wheelLoss .a s)).gov.wheel .b = (wheelLoss .a s).lossRecord .b := by
      rw [wheelLoss_eq .b]
      rfl
    have hother : (wheelLoss .a s).gov.wheel .b = s.gov.wheel .b := by
      rw [wheelLoss_eq]
      rfl
    have hchan : (wheelLoss .a s).gov.chan .a = .inUse ↔ s.gov.chan .a = .inUse := by
      rw [← lossRecord_inUse s .a, ← hfirst]
      rfl
    have hc : (wheelLoss .a s).gov.c = s.gov.c := by
      rw [wheelLoss_eq]
      rfl
    simp only [Governor.wheel, Prod.mk.injEq] at hother
    obtain ⟨hchanB, hloss, hreadmit⟩ := hother
    have hholds : (wheelLoss .a s).lossHolds .b = s.lossHolds .b := by
      have hdecide : decide ((wheelLoss .a s).gov.chan (otherWheel .b) = .inUse) = decide (s.gov.chan (otherWheel .b) = .inUse) :=
        decide_eq_decide.mpr hchan
      simp only [State.lossHolds, hchanB, hc, hdecide]
    rw [hsecond]
    simp only [State.lossRecord, hholds, hchanB, hloss, hreadmit]

/-- Stage 1 leaves each wheel as its report and its loss test leave it (R40 to R43). -/
theorem travelSense_wheel (s : State) (w : Wheel) : (travelSense s).gov.wheel w = (travelReport s).lossRecord w := by
  rw [← wheelLosses_wheel]
  unfold travelSense
  generalize wheelLoss .b (wheelLoss .a (travelReport s)) = s1
  cases w <;> rfl

/-- A channel is in use after stage 1 exactly if it is after the reports (R42). -/
theorem travelSense_inUse (s : State) (w : Wheel) :
    (travelSense s).gov.chan w = .inUse ↔ (travelReport s).gov.chan w = .inUse := by
  rw [← lossRecord_inUse (travelReport s), ← travelSense_wheel]
  rfl

/-- The wheel speeds are read from the channels (R25). -/
theorem wheelSpeed_setGov (s : State) (g : Governor) (w : Wheel) : (s.setGov g).wheelSpeed w = s.wheelSpeed w := rfl

/-- v_act by the channels in use (R40, R41). -/
theorem formedSpeed_cases (s : State) :
    (s.gov.chan .a = .inUse → s.gov.chan .b = .inUse → s.formedSpeed =
      if speedsAgree (s.wheelSpeed .a) (s.wheelSpeed .b) then (s.wheelSpeed .a + s.wheelSpeed .b) / 2
      else max (s.wheelSpeed .a) (s.wheelSpeed .b)) ∧
    (s.gov.chan .a = .inUse → s.gov.chan .b ≠ .inUse → s.formedSpeed = s.wheelSpeed .a) ∧
    (s.gov.chan .a ≠ .inUse → s.gov.chan .b = .inUse → s.formedSpeed = s.wheelSpeed .b) ∧
    (s.gov.chan .a ≠ .inUse → s.gov.chan .b ≠ .inUse → s.formedSpeed = 0) := by
  simp only [Governor.chan]
  refine ⟨fun ha hb => ?_, fun ha hb => ?_, fun ha hb => ?_, fun ha hb => ?_⟩ <;> simp [State.formedSpeed, ha, hb]

/-- v_act after stage 1, by the channels then in use (R40, R41). -/
theorem travelSense_speed (s : State) :
    ((travelSense s).gov.chan .a = .inUse → (travelSense s).gov.chan .b = .inUse → (travelSense s).gov.vAct =
      if speedsAgree (s.wheelSpeed .a) (s.wheelSpeed .b) then (s.wheelSpeed .a + s.wheelSpeed .b) / 2
      else max (s.wheelSpeed .a) (s.wheelSpeed .b)) ∧
    ((travelSense s).gov.chan .a = .inUse → (travelSense s).gov.chan .b ≠ .inUse → (travelSense s).gov.vAct = s.wheelSpeed .a) ∧
    ((travelSense s).gov.chan .a ≠ .inUse → (travelSense s).gov.chan .b = .inUse → (travelSense s).gov.vAct = s.wheelSpeed .b) ∧
    ((travelSense s).gov.chan .a ≠ .inUse → (travelSense s).gov.chan .b ≠ .inUse → (travelSense s).gov.vAct = 0) := by
  have hcases := formedSpeed_cases (travelSense s)
  have hspeed (w : Wheel) : (travelSense s).wheelSpeed w = s.wheelSpeed w := by
    obtain ⟨g, hg⟩ := travelSense_gov s
    rw [hg, wheelSpeed_setGov]
  rwa [← travelSense_vAct, hspeed, hspeed] at hcases

/-- v_act with one channel in use is its speed; with two that agree, their mean (R40, R41). -/
theorem travelSense_speed_of_inUse {s : State} {w : Wheel} (h : (travelSense s).gov.chan w = .inUse) :
    ((travelSense s).gov.chan (otherWheel w) ≠ .inUse → (travelSense s).gov.vAct = s.wheelSpeed w) ∧
    ((travelSense s).gov.chan (otherWheel w) = .inUse →
      speedsAgree (s.wheelSpeed w) (s.wheelSpeed (otherWheel w)) = true →
      (travelSense s).gov.vAct = (s.wheelSpeed .a + s.wheelSpeed .b) / 2) := by
  obtain ⟨hboth, honlyA, honlyB, -⟩ := travelSense_speed s
  cases w
  · exact ⟨honlyA h, fun hother hagree => (hboth h hother).trans (if_pos hagree)⟩
  · exact ⟨fun hother => honlyB hother h, fun hother hagree => (hboth hother h).trans (if_pos ((speedsAgree_comm _ _).trans hagree))⟩

/-- WHEEL_READMISSION returns the channel to use (R43). -/
theorem readmission_of_due {w : Wheel} {s : State} (hlost : s.gov.chan w = .lost) (h : (travelReport s).gov.chan w = .inUse) :
    readmission w s = s.withSpeed (travelSense s) (s.gov.setWheel w .inUse none 0) := by
  simp [readmission, hlost, h]

/-- NEUTRAL_DWELL_ELAPSED (R52). -/
theorem dwellElapsed_of_due {s : State} (hc : s.gov.c = 0) (hshort : s.gov.dwell < 300) (hdue : 290 ≤ s.gov.dwell) :
    dwellElapsed s = s.setGov { s.gov with dwell := s.gov.dwell + 10 } :=
  if_pos ⟨hc, hshort, by omega⟩

/-- Settles O49. -/
theorem readmissionAndDwell : Obligations.ReadmissionAndDwell := by
  intro s hrun
  refine ⟨fun w hlost h => ?_, fun w hlost hcount hother hvalid => ?_, fun hc hshort hdue => ?_⟩
  · refine ⟨_, (atStep_of_running hrun).trans (congrArg _ (readmission_of_due hlost h)), ?_, setGov_sameBut s _⟩
    have hin := (travelSense_inUse s w).mpr h
    obtain ⟨hone, htwo⟩ := travelSense_speed_of_inUse hin
    by_cases hboth : (travelReport s).gov.chan (otherWheel w) = .inUse
    · have hspeed := htwo ((travelSense_inUse s _).mpr hboth) (travelReport_agree hlost h hboth)
      rw [if_pos hboth, ← hspeed]
      rfl
    · have hspeed := hone (mt (travelSense_inUse s _).mp hboth)
      rw [if_neg hboth, ← hspeed]
      rfl
  · rw [(travelReport_of_lost hlost hother).1, hcount]
    simp [State.agrees, hvalid]
  · refine ⟨_, (atStep_of_running hrun).trans (congrArg _ (dwellElapsed_of_due hc hshort hdue)), rfl, setGov_sameBut s _, ?_, ?_⟩
    · have hlong : 300 ≤ s.gov.dwell + 10 := by omega
      simp [State.gateOpen, hlong]
    · have hlong : 300 ≤ s.gov.dwell + 10 := by omega
      simp [State.gateOpen, hlong]

end Sys2Proof.Machine

namespace Sys2Proof.Machine

/-! ### Taking a report (R118 to R122) -/

/-! #### The fault unit's records -/

/-- The record that is replaced. -/
@[simp] theorem FaultUnit.served_setServed (f : FaultUnit) (severe : Bool) (h : RecordHold) :
    (f.setServed severe h).served severe = h := by
  cases severe <;> rfl

/-- The other record stands. -/
@[simp] theorem FaultUnit.served_setServed_other (f : FaultUnit) (severe : Bool) (h : RecordHold) :
    (f.setServed severe h).served (!severe) = f.served (!severe) := by
  cases severe <;> rfl

/-- A record is no part of the counts and sets (R121). -/
@[simp] theorem FaultUnit.setServed_fields (f : FaultUnit) (severe : Bool) (h : RecordHold) :
    (f.setServed severe h).total = f.total ∧ (f.setServed severe h).active = f.active ∧
      (f.setServed severe h).exclusions = f.exclusions := by
  cases severe <;> exact ⟨rfl, rfl, rfl⟩

/-- The record that serves a kind after a report of it (R120). -/
def RecordHold.taken (h : RecordHold) (k : FaultKind) (rec : FaultRecord) : RecordHold :=
  if h.hold then { h with count := min 255 (h.count + 1), bitmap := h.bitmap ||| kindBit k }
  else { h with record := rec, hold := true }

/-- Recording or counting a fault replaces the record that serves its kind (R120). -/
theorem recordOrCount_faults (r : Report) (s : State) : (recordOrCount r s).faults =
    s.faults.setServed r.kind.severe ((s.faults.served r.kind.severe).taken r.kind (completeRecord r s)) := by
  unfold recordOrCount RecordHold.taken
  split
  · simp [countFault]
  · simp [writeRecord]

/-- A kind in the active set is in it already (R122). -/
theorem kindBit_absorbed {x : BitVec 16} {k : FaultKind} (h : x.getLsbD k.rank = true) : x ||| kindBit k = x := by
  apply BitVec.eq_of_getLsbD_eq
  intro i hi
  by_cases hik : i = k.rank
  · simp [hik, h]
  · simp [kindBit, Ne.symm hik]

/-- The fault unit before a report's exclusion is latched: the record, the total and the active set (R120 to R122). -/
def reportCounted (r : Report) (s : State) : State :=
  let s2 := setTotal (min 65535 ((recordOrCount r s).faults.total + 1)) (recordOrCount r s)
  if s2.isActive r.kind then s2 else setActive (s2.faults.active ||| kindBit r.kind) s2

/-- A report is counted, and then its exclusion latched (R118, R125). -/
theorem takeReport_eq (r : Report) (s : State) : takeReport r s = latchExclusion r (reportCounted r s) := rfl

/-- The fault unit of a counted report. -/
theorem reportCounted_faults (r : Report) (s : State) : (reportCounted r s).faults =
    { s.faults.setServed r.kind.severe ((s.faults.served r.kind.severe).taken r.kind (completeRecord r s)) with
      total := min 65535 (s.faults.total + 1)
      active := s.faults.active ||| kindBit r.kind } := by
  have hfaults := recordOrCount_faults r s
  have htotal : (recordOrCount r s).faults.total = s.faults.total := by simp
  have hset : (setTotal (min 65535 (s.faults.total + 1)) (recordOrCount r s)).faults =
      { (recordOrCount r s).faults with total := min 65535 (s.faults.total + 1) } := by simp [setTotal]
  have hactive : (setTotal (min 65535 (s.faults.total + 1)) (recordOrCount r s)).faults.active = s.faults.active := by
    rw [hset, hfaults]
    simp
  simp only [reportCounted, htotal]
  split
  · next h =>
    rw [State.isActive, hactive] at h
    rw [hset, hfaults, kindBit_absorbed h]
    simp only [FaultUnit.mk.injEq, and_true, true_and]
    exact (FaultUnit.setServed_fields _ _ _).2.1
  · simp only [setActive, xwrite_keeps, State.setFaults_faults]
    rw [hactive, hset, hfaults]

/-- The latch of an exclusion leaves the records, the total and the active set (R125). -/
theorem latchExclusion_faults (r : Report) (s : State) :
    (latchExclusion r s).faults = { s.faults with exclusions := r.latches s.faults.exclusions } := by
  unfold latchExclusion Report.latches
  split <;> rename_i hcls _ <;> simp [*, setExclusions]

/-- The fault unit after a report (R118 to R122, R125). -/
theorem takeReport_faults (r : Report) (s : State) : (takeReport r s).faults =
    { s.faults.setServed r.kind.severe ((s.faults.served r.kind.severe).taken r.kind (completeRecord r s)) with
      total := min 65535 (s.faults.total + 1)
      active := s.faults.active ||| kindBit r.kind
      exclusions := r.latches s.faults.exclusions } := by
  rw [takeReport_eq, latchExclusion_faults, reportCounted_faults]
  simp only [FaultUnit.setServed_fields]

/-- A record beside the total, the active set and the exclusions. -/
@[simp] theorem FaultUnit.served_sets (f : FaultUnit) (total : Nat) (active : BitVec 16) (x : Exclusions) (severe : Bool) :
    ({ f with total := total, active := active, exclusions := x } : FaultUnit).served severe = f.served severe := by
  cases severe <;> rfl

/-- What a report leaves of the total, the active set and the two records (R120 to R122). -/
theorem takeReport_counts (r : Report) (s : State) :
    (takeReport r s).faults.total = min 65535 (s.faults.total + 1) ∧
      (takeReport r s).faults.active = s.faults.active ||| kindBit r.kind ∧
      (takeReport r s).faults.served (!r.kind.severe) = s.faults.served (!r.kind.severe) ∧
      (takeReport r s).faults.served r.kind.severe = (s.faults.served r.kind.severe).taken r.kind (completeRecord r s) := by
  rw [takeReport_faults]
  exact ⟨rfl, rfl, by simp, by simp⟩

/-- The tag of a report is that of the open order on its source's target (R119). -/
theorem faultTag_eq (src : Source) (s : State) :
    faultTag src s = match src.target.bind s.openOn with | some e => e.tag | none => 0 := by
  unfold faultTag
  cases src.target with
  | none => rfl
  | some x => simp only [Option.bind_some]; split <;> simp [*]

/-- The fault unit has taken a report wherever it stands as the report left it (R118 to R122). -/
theorem tookReport_of_faults {r : Report} {s u t : State} (ht : t.faults = (takeReport r u).faults) (hfaults : u.faults = s.faults)
    (hmodc : u.modc = s.modc) (horders : u.orders = s.orders) (hclock : u.tma.clock = s.tma.clock)
    (hspeed : t.gov.vAct = u.gov.vAct) : TookReport r s t := by
  obtain ⟨htotal, hactive, hother, hserved⟩ := takeReport_counts r u
  have hopenOn : u.openOn = s.openOn := by
    funext x
    rw [State.openOn, horders, State.openOn]
  have htag : (completeRecord r u).tag = match r.source.target.bind s.openOn with | some e => e.tag | none => 0 := by
    rw [← hopenOn]
    exact faultTag_eq r.source u
  rw [← ht, hfaults] at htotal hactive hother hserved
  refine ⟨htotal, hactive, hother, fun hclear => ?_, fun hset => ?_⟩
  · rw [RecordHold.taken, if_neg (by simp [hclear])] at hserved
    rw [hserved]
    exact ⟨rfl, rfl, rfl, rfl, rfl, rfl, hclock, congrArg (fun m => m.mode.code) hmodc, hspeed.symm, htag⟩
  · rw [RecordHold.taken, if_pos hset] at hserved
    exact hserved

/-! #### The words and the cause of a report (R121) -/

/-- Two moves in a row leave every word that neither writes. -/
theorem WordsKept.trans {base count : Nat} {s t u : State} (hst : WordsKept base count s t) (htu : WordsKept base count t u) :
    WordsKept base count s u :=
  fun a ha => (htu a ha).trans (hst a ha)

/-- The words written lie within a range of their own. -/
theorem WordsKept.mono {base count base' count' : Nat} {s t : State} (h : WordsKept base count s t) (hlow : base' ≤ base)
    (hhigh : base + count ≤ base' + count') : WordsKept base' count' s t :=
  fun a ha => h a (by omega)

/-- With exchange memory as it was every word is kept. -/
theorem WordsKept.of_xmem {base count : Nat} {s t : State} (h : t.xmem = s.xmem) : WordsKept base count s t :=
  fun a _ => xread_congr h a

/-- One write within a range. -/
theorem xwrite_wordsKept {base count a : Nat} (v : Word) (s : State) (hlow : base ≤ a) (hhigh : a < base + count) :
    WordsKept base count s (xwrite a v s) :=
  fun b hb => xread_xwrite_other a b v s (by omega)

/-- A list of writes within a range. -/
theorem xwriteList_wordsKept {base count a : Nat} (vs : List Word) (s : State) (hlow : base ≤ a)
    (hhigh : a + vs.length ≤ base + count) : WordsKept base count s (xwriteList a vs s) :=
  fun b hb => xread_xwriteList_other a b vs s (by omega)

/-- The words of a record lie in the fault area (section 12.6). -/
theorem holdOffset_le (severe : Bool) : holdOffset severe ≤ 16 := by
  cases severe <;> decide

/-- A record's words and then its hold word (R120, section 12.6). -/
def recordWritten (severe : Bool) (ws : List Word) (s : State) : State :=
  xwrite (faultBase + holdOffset severe) (word 1) (xwriteList (faultBase + holdOffset severe + 3) ws s)

/-- A written record is its fault unit, its words and its cause (R120, R121). -/
theorem writeRecord_eq (severe : Bool) (rec : FaultRecord) (s : State) : writeRecord severe rec s =
    raiseCause (if severe then .severeRec else .faultRec) (recordWritten severe (recordWords rec)
      (s.setFaults (s.faults.setServed severe { s.faults.served severe with record := rec, hold := true }))) := rfl

/-- A record is nine words (section 12.6). -/
theorem recordWords_length (rec : FaultRecord) : (recordWords rec).length = 9 := rfl

/-- A record's words lie in the first 28 of the fault area (section 12.6). -/
theorem recordWritten_wordsKept (severe : Bool) {ws : List Word} (s : State) (h : ws.length = 9) :
    WordsKept faultBase 28 s (recordWritten severe ws s) := by
  have hoff := holdOffset_le severe
  exact (xwriteList_wordsKept ws s (by omega) (by omega)).trans (xwrite_wordsKept _ _ (by omega) (by omega))

/-- A record's hold word and its first word (section 12.6). -/
theorem recordWritten_words (severe : Bool) {ws : List Word} {s : State} (hwf : s.xmemWf) (h : ws.length = 9) :
    (recordWritten severe ws s).xread (faultBase + holdOffset severe) = word 1 ∧
      (recordWritten severe ws s).xread (faultBase + holdOffset severe + 3) = ws.getD 0 0 := by
  have hoff := holdOffset_le severe
  have hbase : faultBase + holdOffset severe + 12 < 8192 := by
    simp only [faultBase]
    omega
  unfold recordWritten
  refine ⟨xread_xwrite_same _ _ _ (xwriteList_xmemWf _ _ _ hwf) (by omega), ?_⟩
  rw [xread_xwrite_other _ _ _ _ (by omega)]
  exact xread_xwriteList_same _ 0 ws s hwf (by omega) (by omega)

/-- A written record's words (section 12.6). -/
theorem writeRecord_wordsKept (severe : Bool) (rec : FaultRecord) (s : State) :
    WordsKept faultBase 28 s (writeRecord severe rec s) := by
  rw [writeRecord_eq]
  have hlength := recordWords_length rec
  generalize recordWords rec = ws at hlength
  exact recordWritten_wordsKept severe (s.setFaults _) hlength

/-- A counted fault's words (section 12.6). -/
theorem countFault_wordsKept (severe : Bool) (k : FaultKind) (s : State) : WordsKept faultBase 28 s (countFault severe k s) := by
  have hoff := holdOffset_le severe
  have hwritten (u : State) (v w : Word) : WordsKept faultBase 28 u
      (xwrite (faultBase + holdOffset severe + 2) w (xwrite (faultBase + holdOffset severe + 1) v u)) :=
    (xwrite_wordsKept _ _ (by omega) (by omega)).trans (xwrite_wordsKept _ _ (by omega) (by omega))
  exact hwritten (s.setFaults _) _ _

/-- The words of a recorded or counted fault (section 12.6). -/
theorem recordOrCount_wordsKept (r : Report) (s : State) : WordsKept faultBase 28 s (recordOrCount r s) := by
  unfold recordOrCount
  split
  · exact countFault_wordsKept _ _ s
  · exact writeRecord_wordsKept _ _ s

/-- The word of the active set (R121). -/
theorem setActive_wordsKept (x : BitVec 16) (s : State) : WordsKept (faultBase + 33) 1 s (setActive x s) :=
  xwrite_wordsKept x (s.setFaults _) (Nat.le_refl _) (Nat.lt_succ_self _)

/-- The word of the latched exclusions (R121). -/
theorem latchExclusion_wordsKept (r : Report) (s : State) : WordsKept (faultBase + 34) 1 s (latchExclusion r s) := by
  have hset (x : Exclusions) : WordsKept (faultBase + 34) 1 s (setExclusions x s) :=
    xwrite_wordsKept _ (s.setFaults _) (Nat.le_refl _) (Nat.lt_succ_self _)
  unfold latchExclusion
  split
  · exact hset _
  · exact hset _
  · exact fun _ _ => rfl

/-- The words that a report writes after its total: those of the active set and of the exclusions (R121). -/
theorem reportSets_wordsKept (r : Report) (s : State) : WordsKept (faultBase + 33) 2
    (setTotal (min 65535 ((recordOrCount r s).faults.total + 1)) (recordOrCount r s)) (takeReport r s) := by
  rw [takeReport_eq]
  refine WordsKept.trans ?_ ((latchExclusion_wordsKept r _).mono (by omega) (by omega))
  unfold reportCounted
  dsimp only
  split
  · exact fun _ _ => rfl
  · exact (setActive_wordsKept _ _).mono (by omega) (by omega)

/-- The total's word (R121). -/
theorem setTotal_wordsKept (n : Nat) (s : State) : WordsKept (faultBase + 32) 1 s (setTotal n s) :=
  xwrite_wordsKept _ (s.setFaults _) (Nat.le_refl _) (Nat.lt_succ_self _)

/-- A report's words lie in the fault area (R121, section 12.6). -/
theorem takeReport_wordsKept (r : Report) (s : State) : WordsKept faultBase 35 s (takeReport r s) :=
  (((recordOrCount_wordsKept r s).mono (by omega) (by omega)).trans ((setTotal_wordsKept _ _).mono (by omega) (by omega))).trans
    ((reportSets_wordsKept r s).mono (by omega) (by omega))

/-- The reports of a batch write in the fault area (R121). -/
theorem takeReports_wordsKept (rs : List Report) (s : State) : WordsKept faultBase 35 s (takeReports rs s) := by
  induction rs generalizing s with
  | nil => exact fun _ _ => rfl
  | cons r rs ih => exact (takeReport_wordsKept r s).trans (ih _)

/-- Recording a fault keeps exchange memory canonical. -/
theorem recordOrCount_xmemWf (r : Report) {s : State} (h : s.xmemWf) : (recordOrCount r s).xmemWf := by
  unfold recordOrCount
  split
  · exact xwrite_xmemWf _ _ _ (xwrite_xmemWf _ _ (s.setFaults _) h)
  · rw [writeRecord_eq]
    generalize recordWords (completeRecord r s) = ws
    exact xwrite_xmemWf _ _ _ (xwriteList_xmemWf _ _ (s.setFaults _) h)

/-- The words of the total, of the hold and of the kind after a report (section 12.6). -/
theorem takeReport_words (r : Report) {s : State} (h : s.xmemWf) :
    (takeReport r s).xread (faultBase + 32) = word (takeReport r s).faults.total ∧
      ((s.faults.served r.kind.severe).hold = false →
        (takeReport r s).xread (faultBase + holdOffset r.kind.severe) = word 1 ∧
          (takeReport r s).xread (faultBase + holdOffset r.kind.severe + 3) = word r.kind.rank) := by
  have hoff := holdOffset_le r.kind.severe
  have hsets := reportSets_wordsKept r s
  have htotal := setTotal_wordsKept (min 65535 ((recordOrCount r s).faults.total + 1)) (recordOrCount r s)
  refine ⟨?_, fun hclear => ?_⟩
  · have hcount : (takeReport r s).faults.total = min 65535 ((recordOrCount r s).faults.total + 1) := by
      rw [(takeReport_counts r s).1]
      simp
    rw [hsets _ (by omega), hcount]
    exact xread_xwrite_same _ _ _ (recordOrCount_xmemWf r h) (by decide)
  · rw [hsets _ (by omega), htotal _ (by omega), hsets _ (by omega), htotal _ (by omega)]
    have hrecord : recordOrCount r s = writeRecord r.kind.severe (completeRecord r s) s := if_neg (by simp [hclear])
    rw [hrecord, writeRecord_eq]
    have hlength := recordWords_length (completeRecord r s)
    have hfirst : (recordWords (completeRecord r s)).getD 0 0 = word r.kind.rank := rfl
    generalize recordWords (completeRecord r s) = ws at hlength hfirst
    rw [← hfirst]
    exact recordWritten_words r.kind.severe (s := s.setFaults _) h hlength

/-- The cause of a report: none where it is counted, else that of its record (R120). -/
theorem takeReport_port (r : Report) (s : State) : (takeReport r s).port =
    if (s.faults.served r.kind.severe).hold then s.port
    else s.port.raise (if r.kind.severe then .severeRec else .faultRec) := by
  have hport : (takeReport r s).port = (recordOrCount r s).port := by
    rw [takeReport_eq]
    unfold reportCounted
    dsimp only
    split <;> simp
  rw [hport]
  unfold recordOrCount
  split
  · simp
  · simp [writeRecord, raiseCause]

/-- A report that asks nothing of any block (R118). -/
def Report.isNote (r : Report) : Prop := r.kind.cls = .note ∨ r.kind.cls = .derate

/-- No block reacts to a note (R124). -/
theorem react_of_note {r : Report} (h : r.isNote) (s : State) : react r s = s := by
  unfold react
  obtain h | h := h <;> rw [h]

/-- A note latches nothing (R125). -/
theorem latches_of_note {r : Report} (h : r.isNote) (x : Exclusions) : r.latches x = x := by
  unfold Report.latches
  obtain h | h := h <;> rw [h]

/-- A batch of one note is its report (R118). -/
theorem reportBatch_of_note {r : Report} (h : r.isNote) (s : State) : reportBatch [r] s = takeReport r s :=
  react_of_note h _

/-- The fault unit has taken a note (R118 to R121), reported in a state that shares with `s` what a report reads. -/
theorem tookNote_of_report {r : Report} (h : r.isNote) {s u : State} (hxmem : u.xmem = s.xmem) (hport : u.port = s.port)
    (hfaults : u.faults = s.faults) (hmodc : u.modc = s.modc) (horders : u.orders = s.orders)
    (hclock : u.tma.clock = s.tma.clock) : TookNote r s (reportBatch [r] u) := by
  rw [reportBatch_of_note h]
  refine ⟨tookReport_of_faults rfl hfaults hmodc horders hclock (by simp), ?_, ?_, ?_, fun hwf => ?_⟩
  · rw [takeReport_exclusions, latches_of_note h, hfaults]
  · rw [takeReport_port, hport, hfaults]
  · exact (WordsKept.of_xmem hxmem).trans (takeReport_wordsKept r u)
  · rw [← hfaults]
    refine takeReport_words r ?_
    unfold State.xmemWf
    rw [hxmem]
    exact hwf

/-- A note reaches the fault area, the port and the fault unit alone (R118). -/
theorem takeReport_sameBut (r : Report) (s : State) : SameBut [.xmem, .port, .faults] s (takeReport r s) := by
  intro b
  cases b <;> simp [Block.same]

end Sys2Proof.Machine

namespace Sys2Proof.Machine

/-! ### The active set, the timers of a step, and the load step -/

/-- A kind's rank is its code (section 7.1). -/
theorem FaultKind.rank_lt (k : FaultKind) : k.rank < 16 := by
  cases k <;> decide

/-- No two kinds share a rank (section 7.1). -/
theorem FaultKind.rank_inj {k k' : FaultKind} (h : k.rank = k'.rank) : k = k' := by
  cases k <;> cases k' <;> first | rfl | exact absurd h (by decide)

/-- The bit of a kind in a set (section 12.6). -/
theorem kindBit_getLsbD (k k' : FaultKind) : (kindBit k').getLsbD k.rank = decide (k = k') := by
  have hrank : k'.rank = k.rank ↔ k = k' := ⟨fun h => (FaultKind.rank_inj h).symm, fun h => by rw [h]⟩
  simp [kindBit, BitVec.getLsbD_twoPow, k'.rank_lt, hrank]

/-- A report adds its kind to the active set (R122). -/
theorem takeReport_isActive (r : Report) (s : State) (k : FaultKind) :
    (takeReport r s).isActive k = (s.isActive k || decide (k = r.kind)) := by
  rw [State.isActive, (takeReport_counts r s).2.1, BitVec.getLsbD_or, kindBit_getLsbD]
  rfl

/-- A condition end takes its kind out of the active set (R122). -/
theorem conditionEnd_isActive (k' : FaultKind) (s : State) (k : FaultKind) :
    (conditionEnd k' s).isActive k = (s.isActive k && decide (k ≠ k')) := by
  rw [State.isActive, conditionEnd_faults]
  simp only [BitVec.getLsbD_and, BitVec.getLsbD_not, k.rank_lt, decide_true, Bool.true_and, kindBit_getLsbD, decide_not]
  rfl

/-- A condition end if a test holds, in the active set (R122). -/
theorem endIf_isActive (b : Bool) (k' : FaultKind) (s : State) (k : FaultKind) :
    (endIf b k' s).isActive k = (s.isActive k && !(b && decide (k = k'))) := by
  cases b
  · simp [endIf]
  · simp [endIf, conditionEnd_isActive]

/-- A timer that follows a condition reaches its limit while the condition holds alone (R1). -/
theorem timerReached_follow (limit period : Nat) (cond : Bool) (t : Timer) :
    timerReached limit t (timerFollow limit period cond t) = (cond && timerDue limit period t) := by
  cases cond
  · simp [timerFollow, timerReached, timerAt]
  · simp [timerDue]

/-! #### The load step (R109 to R115) -/

/-- ENGINE_SPEED_LOST is reported at a load step (R114). -/
def State.engineLostNow (s : State) : Bool := s.engineLossHolds && timerDue 500 10 s.loadm.engineLoss

/-- With a VALID engine channel nothing is lost (R114). -/
theorem engineLossHolds_of_valid {s : State} (h : s.valid .engine = true) : s.engineLossHolds = false := by
  simp [State.engineLossHolds, h]

/-- Stages 1 to 3 with a VALID engine channel (R110 to R112, R115). -/
theorem loadForm_valid {s : State} (h : s.valid .engine = true) :
    (loadForm s).loadm =
      { s.loadm with
        n := s.engineSpeed, engineLoss := none, engineLossFlag := false
        droop := droopOf s.modc.profile.ratedEngineSpeed s.engineSpeed
        lRaw := lRawOf s.d1 s.d2 (droopOf s.modc.profile.ratedEngineSpeed s.engineSpeed)
        load := loadToward (lRawOf s.d1 s.d2 (droopOf s.modc.profile.ratedEngineSpeed s.engineSpeed)) s.loadm.load } := by
  have hvalid (l : LoadManager) : (s.setLoadm l).valid .engine = true := h
  simp [loadForm, loadSense, loadFactor, h, hvalid, engineLossHolds_of_valid h, timerFollow]
  exact ⟨rfl, rfl⟩

/-- Stages 1 to 3 without one (R112, R114). -/
theorem loadForm_invalid {s : State} (h : s.valid .engine = false) :
    (loadForm s).loadm =
      { s.loadm with
        n := s.engineSpeed, engineLoss := timerFollow 500 10 s.engineLossHolds s.loadm.engineLoss
        engineLossFlag := s.loadm.engineLossFlag || s.engineLostNow
        load := if s.loadm.engineLossFlag || s.engineLostNow then 500 else s.loadm.load } := by
  have hvalid (l : LoadManager) : (s.setLoadm l).valid .engine = false := h
  unfold loadForm loadSense loadFactor
  simp only [h, timerReached_follow, State.setLoadm_loadm, Bool.false_eq_true, if_false]
  change ((if (s.loadm.engineLossFlag || s.engineLostNow) = true then _ else _ : State)).loadm = _
  split
  · simp [State.engineLostNow]
  · simp [hvalid, State.engineLostNow]

/-- Stage 4 changes the brush scale and its two timers alone (R113). -/
theorem nextScale_keeps (l : LoadManager) : (nextScale l).n = l.n ∧ (nextScale l).droop = l.droop ∧ (nextScale l).lRaw = l.lRaw ∧
    (nextScale l).load = l.load ∧ (nextScale l).engineLoss = l.engineLoss ∧ (nextScale l).engineLossFlag = l.engineLossFlag := by
  unfold nextScale
  dsimp only
  repeat' split
  all_goals exact ⟨rfl, rfl, rfl, rfl, rfl, rfl⟩

/-- The load step's report and condition end leave the load manager as its stages formed it (R109). -/
theorem loadStep_loadm (s : State) : (loadStep s).loadm = nextScale (loadForm s).loadm := by
  simp [loadStep, loadFinish, loadScale]

/-- A batch of at most one note (R118). -/
theorem reportBatch_reportIf {r : Report} (h : r.isNote) (b : Bool) (s : State) :
    reportBatch (reportIf b r) s = if b then takeReport r s else s := by
  cases b
  · rfl
  · exact reportBatch_of_note h s

/-- A condition end, if a test holds, writes the word of the active set alone (R122). -/
theorem endIf_kept (b : Bool) (k : FaultKind) (s : State) :
    (endIf b k s).port = s.port ∧ SameBut [.xmem, .faults] s (endIf b k s) := by
  refine ⟨by simp, fun x => ?_⟩
  cases x <;> simp [Block.same]

/-- The engine-loss timer of a load step (R114). -/
theorem loadForm_engineLoss (s : State) :
    (loadForm s).loadm.engineLoss = timerFollow 500 10 s.engineLossHolds s.loadm.engineLoss := by
  cases h : s.valid .engine
  · rw [loadForm_invalid h]
  · rw [loadForm_valid h, engineLossHolds_of_valid h]
    rfl

/-- The load step in its formed state: the report and the condition end of stage 6 (R114, R115). -/
theorem loadStep_eq (s : State) : loadStep s =
    endIf (s.loadm.engineLossFlag && !(loadForm s).loadm.engineLossFlag) .engineSpeedLost
      (if s.engineLostNow then takeReport (engineLostReport (loadScale (loadForm s))) (loadScale (loadForm s))
        else loadScale (loadForm s)) := by
  have hkeeps := nextScale_keeps (loadForm s).loadm
  have hflag : (loadScale (loadForm s)).loadm.engineLossFlag = (loadForm s).loadm.engineLossFlag := hkeeps.2.2.2.2.2
  have hloss : (loadScale (loadForm s)).loadm.engineLoss = timerFollow 500 10 s.engineLossHolds s.loadm.engineLoss :=
    hkeeps.2.2.2.2.1.trans (loadForm_engineLoss s)
  rw [loadStep, loadFinish, hflag, hloss, timerReached_follow, reportBatch_reportIf (.inr rfl)]
  rfl

/-- The load step's stages form the load manager alone (R109). -/
theorem loadScale_setLoadm (s : State) : ∃ l, loadScale (loadForm s) = s.setLoadm l := by
  have hfactor : ∃ l, loadFactor (loadSense s) = s.setLoadm l := by
    unfold loadFactor
    dsimp only
    split
    · exact ⟨_, rfl⟩
    · split
      · exact ⟨_, rfl⟩
      · exact ⟨_, rfl⟩
  obtain ⟨l, hl⟩ := hfactor
  exact ⟨nextScale l, by rw [loadScale, loadForm, hl]; rfl⟩

/-- With the brushes at full speed the floor timer follows L = 300 (R113). -/
theorem nextScale_of_full {l : LoadManager} (hflag : l.engineLossFlag = false) (hscale : l.scale = 1000) :
    (nextScale l).recovery = none ∧
      (l.load ≠ 300 → (nextScale l).scale = 1000 ∧ (nextScale l).floor = none) ∧
      (l.load = 300 → (l.floor = none → (nextScale l).scale = 1000 ∧ (nextScale l).floor = some 0) ∧
        (∀ v, l.floor = some v → v + 10 < 1000 → (nextScale l).scale = 1000 ∧ (nextScale l).floor = some (v + 10)) ∧
        (∀ v, l.floor = some v → 1000 ≤ v + 10 → (nextScale l).scale = 700 ∧ (nextScale l).floor = none)) := by
  have hnext : nextScale l = if timerAt 1000 (timerFollow 1000 10 (decide (l.load = 300)) l.floor) then
      { l with scale := 700, floor := none, recovery := none }
      else { l with floor := timerFollow 1000 10 (decide (l.load = 300)) l.floor, recovery := none } := by
    simp only [nextScale, hflag, hscale, Bool.false_eq_true, if_false, if_true]
  rw [hnext]
  refine ⟨by split <;> rfl, fun hne => ?_, fun hload => ⟨fun hfloor => ?_, fun v hfloor hshort => ?_, fun v hfloor hlong => ?_⟩⟩
  · simp [timerFollow, timerAt, hne, hscale]
  · simp [timerFollow, timerAt, hload, hfloor, hscale]
  · have hmin : ¬ 1000 ≤ min 1000 (v + 10) := by omega
    simp [timerFollow, timerAt, hload, hfloor, hscale, hmin]
    omega
  · have hmin : min 1000 (v + 10) = 1000 := by omega
    simp [timerFollow, timerAt, hload, hfloor, hmin]

/-- With the brushes eased the recovery timer follows an L of 800 or above (R113). -/
theorem nextScale_of_eased {l : LoadManager} (hflag : l.engineLossFlag = false) (hscale : l.scale = 700) :
    (nextScale l).floor = none ∧
      (l.load < 800 → (nextScale l).scale = 700 ∧ (nextScale l).recovery = none) ∧
      (800 ≤ l.load → (l.recovery = none → (nextScale l).scale = 700 ∧ (nextScale l).recovery = some 0) ∧
        (∀ v, l.recovery = some v → v + 10 < 2000 → (nextScale l).scale = 700 ∧ (nextScale l).recovery = some (v + 10)) ∧
        (∀ v, l.recovery = some v → 2000 ≤ v + 10 → (nextScale l).scale = 1000 ∧ (nextScale l).recovery = none)) := by
  have heased : ¬ l.scale = 1000 := by omega
  have hnext : nextScale l = if timerAt 2000 (timerFollow 2000 10 (decide (800 ≤ l.load)) l.recovery) then
      { l with scale := 1000, floor := none, recovery := none }
      else { l with floor := none, recovery := timerFollow 2000 10 (decide (800 ≤ l.load)) l.recovery } := by
    simp only [nextScale, hflag, heased, Bool.false_eq_true, if_false]
  rw [hnext]
  refine ⟨by split <;> rfl, fun hlow => ?_, fun hload => ⟨fun hfloor => ?_, fun v hfloor hshort => ?_, fun v hfloor hlong => ?_⟩⟩
  · have hnot : ¬ 800 ≤ l.load := by omega
    simp [timerFollow, timerAt, hnot, hscale]
  · simp [timerFollow, timerAt, hload, hfloor, hscale]
  · have hmin : ¬ 2000 ≤ min 2000 (v + 10) := by omega
    simp [timerFollow, timerAt, hload, hfloor, hscale, hmin]
    omega
  · have hmin : min 2000 (v + 10) = 2000 := by omega
    simp [timerFollow, timerAt, hload, hfloor, hmin]

/-- With the engine speed lost the brushes run at full speed (R114). -/
theorem nextScale_of_lost {l : LoadManager} (hflag : l.engineLossFlag = true) :
    (nextScale l).scale = 1000 ∧ (nextScale l).floor = none ∧ (nextScale l).recovery = none := by
  rw [nextScale, if_pos hflag]
  exact ⟨rfl, rfl, rfl⟩

/-- The scale and its timers stand through the stages that form L (R113). -/
theorem loadForm_scale (s : State) : (loadForm s).loadm.scale = s.loadm.scale ∧ (loadForm s).loadm.floor = s.loadm.floor ∧
    (loadForm s).loadm.recovery = s.loadm.recovery := by
  cases h : s.valid .engine
  · rw [loadForm_invalid h]
    exact ⟨rfl, rfl, rfl⟩
  · rw [loadForm_valid h]
    exact ⟨rfl, rfl, rfl⟩

/-- ENGINE_SPEED_LOST after a load step (R114, R115). -/
theorem loadStep_isActive (s : State) : (loadStep s).isActive .engineSpeedLost =
    ((s.isActive .engineSpeedLost || s.engineLostNow) && !(s.loadm.engineLossFlag && !(loadForm s).loadm.engineLossFlag)) := by
  obtain ⟨l, hl⟩ := loadScale_setLoadm s
  rw [loadStep_eq, endIf_isActive, hl, decide_eq_true rfl, Bool.and_true]
  have hkept : (s.setLoadm l).isActive .engineSpeedLost = s.isActive .engineSpeedLost := rfl
  cases s.engineLostNow
  · simp [hkept]
  · simp [takeReport_isActive, engineLostReport]

/-- The words and blocks of a load step (R121). -/
theorem loadStep_words (s : State) : WordsKept faultBase 35 s (loadStep s) ∧
    (s.engineLostNow = false → (loadStep s).port = s.port ∧ WordsKept (faultBase + 33) 1 s (loadStep s)) := by
  obtain ⟨l, hl⟩ := loadScale_setLoadm s
  have hwords := endIf_wordsKept (s.loadm.engineLossFlag && !(loadForm s).loadm.engineLossFlag) .engineSpeedLost
  have hport (u : State) := (endIf_kept (s.loadm.engineLossFlag && !(loadForm s).loadm.engineLossFlag) .engineSpeedLost u).1
  rw [loadStep_eq, hl]
  refine ⟨?_, fun hnone => ?_⟩
  · split
    · have hreport := takeReport_wordsKept (engineLostReport (s.setLoadm l)) (s.setLoadm l)
      exact WordsKept.trans hreport ((hwords _).mono (by decide) (by decide))
    · exact (hwords (s.setLoadm l)).mono (by decide) (by decide)
  · rw [hnone, if_neg Bool.false_ne_true]
    exact ⟨hport _, (hwords (s.setLoadm l)).mono (by decide) (by decide)⟩

/-- L after a load step (R112, R114). -/
theorem loadToward_cases (lRaw load : Nat) :
    (lRaw ≤ load → loadToward lRaw load = lRaw) ∧ (load < lRaw → loadToward lRaw load = min lRaw (load + 20)) :=
  ⟨fun h => if_pos h, fun h => if_neg (by omega)⟩

/-- ENGINE_SPEED_LOST is reported exactly where its timer falls due (R114). -/
theorem State.engineLostNow_iff (s : State) : s.engineLostNow = true ↔
    s.engineLossHolds = true ∧ timerDue 500 10 s.loadm.engineLoss = true :=
  Bool.and_eq_true_iff

/-- The engine-loss condition in one test (R114). -/
theorem engineLossHolds_eq (s : State) : s.engineLossHolds =
    (!s.valid .engine && decide (s.gov.c ≠ 0 ∨ s.modc.mode = .engaging ∨ s.modc.mode = .sweeping)) := by
  simp only [State.engineLossHolds, Bool.decide_or, Bool.or_assoc]

/-- Settles O56. -/
theorem loadStepMovesTheLoadFactor : Obligations.LoadStepMovesTheLoadFactor := by
  refine ⟨fun s hrun hflag => ⟨fun hscale hload hdue => ?_, fun hscale hload hdue => ?_⟩, fun s hrun => ?_⟩
  · refine (atStep_of_running hrun).trans (congrArg _ ?_)
    simp [floorExpiry, hflag, hscale, hload, hdue]
  · refine (atStep_of_running hrun).trans (congrArg _ ?_)
    simp [recoveryExpiry, hflag, hscale, hload, hdue]
  have hloadm := loadStep_loadm s
  obtain ⟨hn, hdroop, hraw, hload, hloss, hflag⟩ := nextScale_keeps (loadForm s).loadm
  rw [← hloadm] at hn hdroop hraw hload hloss hflag
  obtain ⟨hscale, hfloor, hrecovery⟩ := loadForm_scale s
  have hactive := loadStep_isActive s
  refine ⟨loadStep s, atStep_of_running hrun, ?_, fun hvalid => ?_, fun hinvalid => ?_, ?_, fun hnone => ?_, fun hlost => ?_,
    fun hvalid => ?_, fun hinvalid => ?_, fun hclear hfull => ?_, fun hclear heased => ?_, (loadStep_words s).1, ?_⟩
  · rw [hn]
    cases h : s.valid .engine
    · rw [loadForm_invalid h]
    · rw [loadForm_valid h]
  · rw [hflag, hloss, hdroop, hraw, hload, loadForm_valid hvalid]
    exact ⟨rfl, rfl, rfl, rfl, (loadToward_cases _ _).1, (loadToward_cases _ _).2⟩
  · rw [hflag, hdroop, hraw, hload, loadForm_invalid hinvalid, ← State.engineLostNow_iff]
    exact ⟨rfl, rfl, rfl, by rw [Bool.or_eq_true]⟩
  · rw [hloss, loadForm_engineLoss, engineLossHolds_eq]
  · exact (loadStep_words s).2 (Bool.and_eq_false_iff.mpr hnone)
  · rw [hflag] at hlost
    rw [hloadm]
    exact nextScale_of_lost hlost
  · rw [hactive, loadForm_valid hvalid, State.engineLostNow, engineLossHolds_of_valid hvalid]
    simp
  · rw [hactive, loadForm_invalid hinvalid, ← State.engineLostNow_iff]
    cases s.loadm.engineLossFlag <;> simp
  · rw [hload, hloadm, ← hfloor]
    exact nextScale_of_full (hflag.symm.trans hclear) (hscale.trans hfull)
  · rw [hload, hloadm, ← hrecovery]
    exact nextScale_of_eased (hflag.symm.trans hclear) (hscale.trans heased)
  · obtain ⟨l, hl⟩ := loadScale_setLoadm s
    have hstage : SameBut [.xmem, .port, .loadm, .faults] s (loadScale (loadForm s)) := by
      rw [hl]
      exact (setLoadm_sameBut s l).mono (by decide)
    rw [loadStep_eq]
    refine SameBut.comp ?_ (endIf_kept _ _ _).2 (List.Subset.refl _) (by decide)
    split
    · exact hstage.comp (takeReport_sameBut _ _) (List.Subset.refl _) (by decide)
    · exact hstage

/-! #### The expiries of the DERATE kinds -/

/-- A note reported beside the move of one block (R118 to R124). -/
theorem noteBeside {r : Report} (h : r.isNote) {b : Block} {s u : State} (hsame : SameBut [b] s u)
    (hb : [Block.xmem, .port, .faults, .modc, .orders, .tma].contains b = false) :
    TookNote r s (reportBatch [r] u) ∧ SameBut [.xmem, .port, .faults, b] s (reportBatch [r] u) := by
  have hkept (c : Block) (hc : [Block.xmem, .port, .faults, .modc, .orders, .tma].contains c = true) : c.same s u := by
    refine (hsame c).resolve_left fun hmem => ?_
    rw [List.mem_singleton.mp hmem, hb] at hc
    exact Bool.noConfusion hc
  refine ⟨tookNote_of_report h (hkept .xmem rfl) (hkept .port rfl) (hkept .faults rfl) (hkept .modc rfl) (hkept .orders rfl)
    (congrArg (fun m : TimingArray => m.clock) (hkept .tma rfl)), ?_⟩
  rw [reportBatch_of_note h]
  exact hsame.comp (takeReport_sameBut r u) (by simp) (by simp)

/-- v_act of a disagreement is the larger speed (R41). -/
theorem travelSense_speed_of_disagree {s : State} (h : (travelSense s).disagreeHolds = true) :
    (travelSense s).gov.vAct = max (s.wheelSpeed .a) (s.wheelSpeed .b) := by
  have hspeed (w : Wheel) : (travelSense s).wheelSpeed w = s.wheelSpeed w := by
    obtain ⟨g, hg⟩ := travelSense_gov s
    rw [hg, wheelSpeed_setGov]
  simp only [State.disagreeHolds, State.bothInUse, hspeed, Bool.and_eq_true, decide_eq_true_eq, Bool.not_eq_true'] at h
  obtain ⟨⟨ha, hb⟩, hdiffer⟩ := h
  rw [(travelSense_speed s).1 ha hb, hdiffer]
  rfl

/-- v_act as a channel is marked LOST is the other's speed (R41, R42). -/
theorem travelSense_speed_of_loss {s : State} {w : Wheel} (h : (travelReport s).lossHolds w = true) :
    (travelSense s).gov.vAct = s.wheelSpeed (otherWheel w) := by
  simp only [State.lossHolds, Bool.and_eq_true, decide_eq_true_eq] at h
  obtain ⟨⟨hsilent, hother⟩, -⟩ := h
  refine (travelSense_speed_of_inUse ((travelSense_inUse s _).mpr hother)).1 ?_
  rw [otherWheel_otherWheel, ne_eq, travelSense_inUse, hsilent]
  simp

/-- Settles O47. -/
theorem derateExpiriesReport : Obligations.DerateExpiriesReport := by
  intro s hrun
  refine ⟨fun hholds hdue => ?_, fun w hholds hdue => ?_, fun hholds hdue => ?_, fun hholds hdue => ?_⟩
  · have hexec : disagreeTimeout s = reportBatch [disagreeReport] (s.withSpeed (travelSense s) { s.gov with disagree := some 1000 }) :=
      if_pos (by rw [hholds, hdue]; rfl)
    obtain ⟨htook, hsame⟩ := noteBeside (r := disagreeReport) (.inr rfl)
      (setGov_sameBut s { { s.gov with disagree := some 1000 } with vAct := (travelSense s).gov.vAct }) rfl
    refine ⟨_, (atStep_of_running hrun).trans (congrArg _ hexec), htook, ?_, hsame⟩
    rw [← travelSense_speed_of_disagree hholds]
    simp [State.withSpeed, reportBatch_of_note (r := disagreeReport) (.inr rfl)]
  · have hexec : lossTimeout w s = reportBatch [lossReport w] (s.withSpeed (travelSense s) (s.gov.setWheel w .lost none 0)) :=
      if_pos (by rw [hholds, hdue]; rfl)
    obtain ⟨htook, hsame⟩ := noteBeside (r := lossReport w) (.inr rfl)
      (setGov_sameBut s { s.gov.setWheel w .lost none 0 with vAct := (travelSense s).gov.vAct }) rfl
    refine ⟨_, (atStep_of_running hrun).trans (congrArg _ hexec), htook, ?_, hsame⟩
    rw [← travelSense_speed_of_loss hholds]
    simp [State.withSpeed, reportBatch_of_note (r := lossReport w) (.inr rfl)]
  · have hexec : flowLossTimeout s = reportBatch [flowLostReport (waterFlow s)]
        (s.setWatc { s.watc with flowLoss := some 1000, flowLossFlag := true }) := if_pos (by rw [hholds, hdue]; rfl)
    obtain ⟨htook, hsame⟩ := noteBeside (r := flowLostReport (waterFlow s)) (.inr rfl)
      (setWatc_sameBut s { s.watc with flowLoss := some 1000, flowLossFlag := true }) rfl
    refine ⟨_, (atStep_of_running hrun).trans (congrArg _ hexec), htook, ?_, hsame⟩
    simp [reportBatch_of_note (r := flowLostReport (waterFlow s)) (.inr rfl)]
  · have hexec : engineLossTimeout s = reportBatch [engineLostReport s] (s.setLoadm { s.loadm with
        engineLoss := some 500, engineLossFlag := true, load := 500, scale := 1000, floor := none, recovery := none }) :=
      if_pos (by rw [hholds, hdue]; rfl)
    obtain ⟨htook, hsame⟩ := noteBeside (r := engineLostReport s) (.inr rfl) (setLoadm_sameBut s { s.loadm with
      engineLoss := some 500, engineLossFlag := true, load := 500, scale := 1000, floor := none, recovery := none }) rfl
    refine ⟨_, (atStep_of_running hrun).trans (congrArg _ hexec), htook, ?_, hsame⟩
    simp [reportBatch_of_note (r := engineLostReport s) (.inr rfl)]

end Sys2Proof.Machine

namespace Sys2Proof.Machine

/-! ### One millisecond of the timing array (R138, R139) -/

/-- An event that waits if a test holds. -/
theorem mem_eventIf {b : Bool} {c d : Instr} : c ∈ eventIf b d ↔ b = true ∧ c = d := by
  cases b <;> simp [eventIf]

/-- Events that wait together if a test holds. -/
theorem mem_listIf {b : Bool} {c : Instr} {l : List Instr} : c ∈ (if b then l else []) ↔ b = true ∧ c ∈ l := by
  cases b <;> simp

/-- Every capture channel is listed (section 8.1). -/
theorem mem_allChannels (ch : Channel) : ch ∈ allChannels := by
  cases ch <;> decide

/-- Every debounced input is listed (section 8.3). -/
theorem mem_allInputs (i : Input) : i ∈ allInputs := by
  cases i <;> decide

/-- Every PWM output is listed (section 8.2). -/
theorem mem_pwmOutputs (o : PwmOut) : o ∈ pwmOutputs := by
  cases o <;> decide

/-- The blocks that a millisecond moves (R138). -/
theorem advance_fields (s : State) :
    (advance s).tma = { s.tma with
        clock := s.tma.clock + 1, micros := s.tma.micros + 1000, inputs := tickInputs s.tma.stepsRunning s.tma.inputs
        trace := tickTrace s.traceRuns s.tma.trace } ∧
      (advance s).port = { s.port with window := tickTimer s.port.window } ∧
      (advance s).cal = { s.cal with pageTimer := tickTimer s.cal.pageTimer, link := tickTimer s.cal.link } ∧
      (advance s).eeprom = { s.eeprom with writeTime := tickTimer s.eeprom.writeTime } ∧
      (advance s).modc = s.modc ∧ (advance s).freeReads = s.freeReads ∧ (advance s).resetHeld = s.resetHeld :=
  ⟨rfl, rfl, rfl, rfl, rfl, rfl, rfl⟩

/-- The trace source runs (R140). -/
theorem State.traceRuns_iff (s : State) : s.traceRuns = true ↔ s.tma.trace.enabled = true ∧ s.modc.mode ≠ .parked := by
  simp [State.traceRuns]

/-- The trace period timer advances while the period source runs (R140). -/
theorem tickTrace_eq (s : State) : tickTrace s.traceRuns s.tma.trace =
    { s.tma.trace with
      periodTimer := s.tma.trace.periodTimer +
        if s.tma.trace.enabled = true ∧ s.modc.mode ≠ .parked ∧ s.tma.trace.source = .period then 1 else 0 } := by
  have hruns := s.traceRuns_iff
  unfold tickTrace
  by_cases h : s.traceRuns = true ∧ s.tma.trace.source = .period
  · rw [if_pos (by simp [h]), if_pos ⟨(hruns.mp h.1).1, (hruns.mp h.1).2, h.2⟩]
  · rw [if_neg (by simpa using h), if_neg (by rwa [← and_assoc, ← hruns])]
    rfl

/-- The stability timers advance, to at most their 20 ms (R137, R142). -/
theorem tickInputs_get (running : Bool) (k : Inputs) (i : Input) : (tickInputs running k).get i =
    { k.get i with
      stable := if running = true ∨ i = .operator then min 20 ((k.get i).stable + 1) else (k.get i).stable } := by
  cases running <;> cases i <;> rfl

/-- The page, the link and the write times are no part of a word of the EEPROM (R166). -/
theorem advance_readBound (s : State) :
    (advance s).readBound = if s.eeprom.word s.freeReads 0 = 0x0A51 then 20 else 1 := rfl

/-- The PWM period of an output (R135). -/
theorem pwmPeriod_eq (o : PwmOut) : pwmPeriod o = if o = .waterPump then 1000 else 5000 := by
  cases o <;> rfl

/-- A millisecond on an empty queue (log entry 1). -/
theorem step_of_empty {s : State} (h : s.pending = []) : step s = .next (tick s) := by
  unfold step
  rw [h]

/-- The tick while RESET# is high (R138, R139). -/
theorem tick_of_high {s : State} (hpending : s.pending = []) (hreset : s.resetHeld = false) :
    tick s = (advance s).setPending ((advance s).timerEvents ++ (advance s).periodicEvents) := by
  have hempty : (advance s).pending = [] := hpending
  simp [tick, hreset, hempty]

/-- The events that wait at an instant, one test each (R132, R133, R135, R137, R139, R140, R158, R166, R169). -/
def State.due (s : State) : Instr → Prop
  | .travelStep | .armStep | .modeCheck | .loadStep => (s.tma.stepsRunning && s.atMultiple 10) = true
  | .waterStep => (s.tma.stepsRunning && s.atMultiple 20) = true
  | .stripScanExpiry => (s.tma.stripRunning && s.atMultiple 5) = true
  | .statusPublication => (s.tma.stripRunning && s.atMultiple 20) = true
  | .pwmPeriodStart o => (s.tma.stepsRunning && s.periodOver o) = true
  | .captureEdgeAccepted ch us => s.edgeDue ch = true ∧ us = 0
  | .captureTimeout ch us => s.captureDue ch = true ∧ us = 0
  | .debounceSettled i => (s.debounces i && settleDue (s.tma.inputs.get i)) = true
  | .hostCheckExpiry => timerAt s.port.windowLength s.port.window = true
  | .tracePeriodExpiry => (s.traceRuns && decide (s.tma.trace.source = .period)
      && decide (s.tma.trace.interval ≤ s.tma.trace.periodTimer)) = true
  | .startupLoadDone => (decide (s.cal.op = .loading) && timerAt s.readBound s.cal.link) = true
  | .fetchReadDone => (decide (s.cal.op = .fetching) && timerAt s.readBound s.cal.link) = true
  | .storePageTransferDone => (decide (s.cal.op = .storing) && decide (s.cal.pageTimer = none) && timerAt 1 s.cal.link) = true
  | .storePageReady => (s.eeprom.works && s.eeprom.inFlight.isSome && timerAt 9 s.eeprom.writeTime) = true
  | .storePageTimeout => (decide (s.cal.op = .storing) && timerAt 10 s.cal.pageTimer) = true
  | _ => False

/-- An event waits at an instant exactly if it is due. -/
theorem mem_due_iff (s : State) (c : Instr) : c ∈ s.timerEvents ++ s.periodicEvents ↔ s.due c := by
  simp only [State.timerEvents, State.linkEvents, State.periodicEvents, List.mem_append, List.mem_flatMap, mem_eventIf, mem_listIf,
    List.mem_cons, List.not_mem_nil, or_false]
  cases c
  case travelStep => simp [State.due]
  case armStep => simp [State.due]
  case modeCheck => simp [State.due]
  case loadStep => simp [State.due]
  case pwmPeriodStart o => simp [State.due, mem_pwmOutputs]
  case captureEdgeAccepted ch us => simp [State.due, mem_allChannels]
  case captureTimeout ch us => simp [State.due, mem_allChannels]
  case debounceSettled i => simp [State.due, mem_allInputs]
  all_goals simp [State.due]

/-- Settles O2. -/
theorem emptyQueueIsOneMillisecond : Obligations.EmptyQueueIsOneMillisecond := by
  intro s hpending
  refine ⟨fun hreset => ?_, fun hreset => ?_⟩
  · rw [step_of_empty hpending, tick, if_pos hreset]
  obtain ⟨htma, hport, hcal, heeprom, hmodc, hfree, -⟩ := advance_fields s
  have htick := tick_of_high hpending hreset
  have hsame := tick_sameBut s
  rw [htick] at hsame
  have hwaits (c : Instr) : c ∈ ((advance s).setPending ((advance s).timerEvents ++ (advance s).periodicEvents)).pending ↔
      (advance s).due c := mem_due_iff (advance s) c
  refine ⟨_, (step_of_empty hpending).trans (congrArg _ htick), ?_, fun i => tickInputs_get _ _ i, hport, hcal, heeprom, rfl,
    fun c hc => ?_, ?_, ?_, ?_, fun o => ?_, fun ch us => ?_, fun ch us => ?_, fun i => ?_, ?_, ?_, fun bound hbound => ?_,
    ?_, ?_, ?_, hsame⟩
  · rw [← tickTrace_eq]
    rfl
  · rw [hwaits]
    obtain rfl | rfl | rfl | rfl := hc <;> simp [State.due, State.atMultiple, htma]
  · rw [hwaits]
    simp [State.due, State.atMultiple, htma]
  · rw [hwaits]
    simp [State.due, State.atMultiple, htma]
  · rw [hwaits]
    simp [State.due, State.atMultiple, htma]
  · rw [hwaits]
    simp [State.due, State.periodOver, htma, pwmPeriod_eq]
  · rw [hwaits]
    simp [State.due, State.edgeDue, State.captures, htma, and_comm, and_assoc]
  · have htimeout : (advance s).timeoutTime ch = s.timeoutTime ch := rfl
    rw [hwaits]
    simp [State.due, State.captureDue, State.captures, htma, htimeout, and_comm, and_assoc]
  · have hstable : (tickInputs s.tma.stepsRunning s.tma.inputs).get i = _ := tickInputs_get _ _ i
    rw [hwaits]
    simp [State.due, State.debounces, settleDue, htma, hstable]
  · rw [hwaits]
    rfl
  · have hruns : (advance s).traceRuns = s.traceRuns := by
      have henabled : (advance s).tma.trace.enabled = s.tma.trace.enabled := by
        simp only [htma, tickTrace_eq]
      rw [State.traceRuns, henabled, hmodc, State.traceRuns]
    rw [hwaits]
    simp [State.due, hruns, htma, s.traceRuns_iff, tickTrace_eq, and_assoc]
  · rw [hwaits, hwaits, hbound, ← advance_readBound]
    simp [State.due, hcal]
  · rw [hwaits]
    simp [State.due, hcal, tickTimer, and_assoc]
  · rw [hwaits]
    simp [State.due, heeprom, Option.isSome_iff_ne_none, and_assoc]
  · rw [hwaits]
    simp [State.due, hcal]

end Sys2Proof.Machine

namespace Sys2Proof.Machine

/-! ### The water step (R90 to R105) -/

/-! #### Reports and the withdrawal of the supply -/

/-- The reports of a batch add their kinds to the active set (R122). -/
theorem takeReports_isActive (rs : List Report) (s : State) (k : FaultKind) :
    (takeReports rs s).isActive k = (s.isActive k || rs.any fun r => decide (k = r.kind)) := by
  induction rs generalizing s with
  | nil => simp [takeReports]
  | cons r rs ih => rw [takeReports, ih, takeReport_isActive, List.any_cons, Bool.or_assoc]

/-- A report that a test decides on adds its kind where the test holds. -/
theorem any_reportIf (b : Bool) (r : Report) (k : FaultKind) :
    ((reportIf b r).any fun r => decide (k = r.kind)) = (b && decide (k = r.kind)) := by
  cases b <;> simp [reportIf]

/-- The controller of a withdrawn supply (R104). -/
def withdrawn (w : WaterControl) : WaterControl :=
  { stopSpray w with waterOut := true, qAvail := 0, prime := if w.prime = .running then .dry else w.prime }

/-- The first withdrawal of the supply (R104). -/
theorem waterOutNotice_of_supplied {s : State} (h : s.watc.waterOut = false) :
    waterOutNotice s = handWater (s.setWatc (withdrawn s.watc)) := by
  rw [waterOutNotice, if_neg (by simp [h])]
  rfl

/-- A withdrawn supply stays withdrawn (R104). -/
theorem waterOutNotice_of_withdrawn {s : State} (h : s.watc.waterOut = true) : waterOutNotice s = s := if_pos h

/-- A supply is withdrawn once (R104). -/
theorem waterOutNotice_idem (s : State) : waterOutNotice (waterOutNotice s) = waterOutNotice s :=
  waterOutNotice_of_withdrawn (waterOutNotice_waterOut s)

/-- A report that withdraws the supply (R104). -/
def Report.withdraws (r : Report) : Bool := decide (r.kind.cls = .waterOut)

/-- The reaction to a report that withdraws the supply (R104). -/
theorem react_of_withdraws {r : Report} (h : r.withdraws = true) (s : State) : react r s = waterOutNotice s := by
  have hcls : r.kind.cls = .waterOut := of_decide_eq_true h
  unfold react
  rw [hcls]

/-- The reactions to a batch of notes and withdrawals are one withdrawal, if the batch has one (R104, R124). -/
theorem reactAll_of_water {rs : List Report} (h : ∀ r ∈ rs, r.withdraws = true ∨ r.isNote) (s : State) :
    reactAll rs s = if rs.any Report.withdraws then waterOutNotice s else s := by
  induction rs generalizing s with
  | nil => rfl
  | cons r rs ih =>
    have hrest : ∀ r ∈ rs, r.withdraws = true ∨ r.isNote := fun r hr => h r (List.mem_cons_of_mem _ hr)
    rw [reactAll, ih hrest, List.any_cons]
    obtain hdry | hnote := h r List.mem_cons_self
    · rw [react_of_withdraws hdry, waterOutNotice_idem, ite_self, hdry]
      rfl
    · have hdry : r.withdraws = false := by
        simp only [Report.withdraws, decide_eq_false_iff_not]
        obtain h | h := hnote <;> rw [h] <;> decide
      rw [react_of_note hnote, hdry, Bool.false_or]

/-- The withdrawal touches the water controller and its outputs alone (R104). -/
theorem waterOutNotice_sameBut (s : State) : SameBut [.watc, .tma] s (waterOutNotice s) := by
  intro b
  cases b <;> simp [Block.same]

/-- A withdrawal at a controller that stands in a batch's state (R104, R125). -/
theorem wentDry_of_withdraws {r : Report} (hr : r.withdraws = true) {s u : State} (hsupplied : u.watc.waterOut = false)
    (hkept : u.watc.override = s.watc.override ∧ u.watc.mask = s.watc.mask ∧ u.watc.level = s.watc.level ∧
      u.watc.qDem = s.watc.qDem) (hfaults : u.faults = s.faults)
    (htma : u.tma = s.tma ∨ u.tma = (handWater (s.setWatc u.watc)).tma) :
    WentDry s (reportBatch [r] u) ∧ (reportBatch [r] u).watc = withdrawn u.watc := by
  obtain ⟨hoverride, hmask, hlevel, hdem⟩ := hkept
  have hcls : r.kind.cls = .waterOut := of_decide_eq_true hr
  have hbatch : reportBatch [r] u = handWater ((takeReport r u).setWatc (withdrawn u.watc)) := by
    have hwatc : (takeReport r u).watc = u.watc := by simp
    rw [← hwatc, ← waterOutNotice_of_supplied (by rw [hwatc, hsupplied])]
    exact react_of_withdraws hr _
  have hexcluded : (reportBatch [r] u).faults.exclusions = { s.faults.exclusions with water := true } := by
    rw [hbatch]
    have htaken := takeReport_exclusions r u
    rw [hfaults] at htaken
    refine htaken.trans ?_
    unfold Report.latches
    rw [hcls]
  have houtputs : (reportBatch [r] u).tma = { s.tma with
      outputs := { s.tma.outputs with nozzles := 0, waterPump := { s.tma.outputs.waterPump with held := 0 } } } := by
    have htaken : (takeReport r u).tma = u.tma := by simp
    rw [hbatch, handWater, setOutputs]
    simp only [State.setTma_tma, State.setWatc_tma, htaken]
    obtain h | h := htma <;> rw [h] <;> rfl
  have hwatc : (reportBatch [r] u).watc = withdrawn u.watc := by
    rw [hbatch]
    rfl
  have hprime : (withdrawn u.watc).prime ≠ .running := by
    simp only [withdrawn]
    split
    · simp
    · assumption
  refine ⟨?_, hwatc⟩
  unfold WentDry OutputsOnly
  rw [hwatc, houtputs]
  exact ⟨rfl, rfl, rfl, rfl, rfl, rfl, hprime, hoverride, hmask, hlevel, hdem, hexcluded, rfl, rfl⟩

/-- The report of a withdrawal, its words and its frame (R118 to R121). -/
theorem tookWithdrawal {r : Report} (hr : r.withdraws = true) {s u : State} (hxmem : u.xmem = s.xmem) (hfaults : u.faults = s.faults)
    (hmodc : u.modc = s.modc) (horders : u.orders = s.orders) (hclock : u.tma.clock = s.tma.clock)
    (hsame : SameBut [.watc, .tma] s u) : TookReport r s (reportBatch [r] u) ∧ WordsKept faultBase 35 s (reportBatch [r] u) ∧
      SameBut [.xmem, .port, .watc, .faults, .tma] s (reportBatch [r] u) := by
  have hbatch : reportBatch [r] u = waterOutNotice (takeReport r u) := react_of_withdraws hr _
  rw [hbatch]
  refine ⟨tookReport_of_faults (by simp) hfaults hmodc horders hclock (by simp), ?_, ?_⟩
  · exact ((WordsKept.of_xmem hxmem).trans (takeReport_wordsKept r u)).trans (WordsKept.of_xmem (by simp))
  · have htaken : SameBut [.xmem, .port, .watc, .faults, .tma] s (takeReport r u) :=
      hsame.comp (takeReport_sameBut r u) (by decide) (by decide)
    exact htaken.comp (waterOutNotice_sameBut _) (List.Subset.refl _) (by decide)

/-- Settles O55. -/
theorem waterExpiriesWithdrawTheSupply : Obligations.WaterExpiriesWithdrawTheSupply := by
  intro s hrun
  refine ⟨fun hphase hprime hflow hdue => ?_, fun c r hsupplied hcase => ?_⟩
  · refine (atStep_of_running hrun).trans (congrArg _ (if_pos ?_))
    have hflows : (waterRead s).primeFlows = true := decide_eq_true (by rw [Nat.mul_comm]; exact hflow)
    simp [State.primes, State.priming, hphase, hprime, hflows, hdue]
  · obtain ⟨rfl, rfl, hphase, hprime, hgroups, hflows, hshort, hlong⟩ | ⟨rfl, rfl, hholds, hdue⟩ | ⟨rfl, rfl, hholds, hdue⟩ := hcase
    · have hexec : primeTimeout s = reportBatch [waterDryReport 1] (handWater (s.setWatc { s.watc with
          prime := .dry, primeTimer := 5000, qCmd := 0, openSet := 0, duty := 0, trim := 0, dryReport := true })) := by
        refine if_pos ?_
        have hlast : 5000 ≤ s.watc.primeTimer + 20 := by omega
        simp [State.primes, State.priming, hphase, hprime, hgroups, hflows, timerFollow, timerAt, countReached, hshort, hlast]
      obtain ⟨hdry, hwatc⟩ := wentDry_of_withdraws (r := waterDryReport 1) rfl (s := s) (u := handWater (s.setWatc { s.watc with
        prime := .dry, primeTimer := 5000, qCmd := 0, openSet := 0, duty := 0, trim := 0, dryReport := true })) hsupplied
        ⟨rfl, rfl, rfl, rfl⟩ rfl (.inr rfl)
      obtain ⟨htook, hwords, hsame⟩ := tookWithdrawal (r := waterDryReport 1) rfl (s := s) (u := handWater (s.setWatc { s.watc with
        prime := .dry, primeTimer := 5000, qCmd := 0, openSet := 0, duty := 0, trim := 0, dryReport := true })) rfl rfl rfl rfl rfl
        (by intro b; cases b <;> simp [Block.same])
      refine ⟨_, (atStep_of_running hrun).trans (congrArg _ hexec), htook, hdry, fun _ => by rw [hwatc]; rfl,
        fun _ => by rw [hwatc]; rfl, hwords, hsame⟩
    · have hexec : dryRunTimeout s = reportBatch [waterDryReport 2]
          (s.setWatc { s.watc with dryRun := some 3000, dryReport := true }) := if_pos (by rw [hholds, hdue]; rfl)
      obtain ⟨hdry, hwatc⟩ := wentDry_of_withdraws (r := waterDryReport 2) rfl (s := s)
        (u := s.setWatc { s.watc with dryRun := some 3000, dryReport := true }) hsupplied ⟨rfl, rfl, rfl, rfl⟩ rfl (.inl rfl)
      obtain ⟨htook, hwords, hsame⟩ := tookWithdrawal (r := waterDryReport 2) rfl (s := s)
        (u := s.setWatc { s.watc with dryRun := some 3000, dryReport := true }) rfl rfl rfl rfl rfl
        ((setWatc_sameBut s _).mono (by decide))
      exact ⟨_, (atStep_of_running hrun).trans (congrArg _ hexec), htook, hdry, fun _ => by rw [hwatc]; rfl, fun hc => absurd hc (by simp),
        hwords, hsame⟩
    · have hexec : tankLossTimeout s = reportBatch [tankLostReport s] (s.setWatc { s.watc with tankLoss := some 1000 }) :=
        if_pos (by rw [hholds, hdue]; rfl)
      obtain ⟨hdry, -⟩ := wentDry_of_withdraws (r := tankLostReport s) rfl (s := s)
        (u := s.setWatc { s.watc with tankLoss := some 1000 }) hsupplied ⟨rfl, rfl, rfl, rfl⟩ rfl (.inl rfl)
      obtain ⟨htook, hwords, hsame⟩ := tookWithdrawal (r := tankLostReport s) rfl (s := s)
        (u := s.setWatc { s.watc with tankLoss := some 1000 }) rfl rfl rfl rfl rfl ((setWatc_sameBut s _).mono (by decide))
      exact ⟨_, (atStep_of_running hrun).trans (congrArg _ hexec), htook, hdry, fun hk => absurd hk (by simp [tankLostReport]), fun hc => absurd hc (by simp),
        hwords, hsame⟩

/-! #### Stages 1 to 5 -/

/-- Priming that runs moves the prime status and its two timers alone (R96). -/
theorem waterPrime_eq (s : State) : waterPrime s = s.setWatc { s.watc with
    prime := (waterPrime s).watc.prime, primeTimer := (waterPrime s).watc.primeTimer
    primeHold := (waterPrime s).watc.primeHold } := by
  unfold waterPrime
  split
  · rfl
  · split
    · rfl
    · unfold primeRunning
      dsimp only
      repeat' split
      all_goals rfl
    · rfl
    · rfl

/-- The state before stage 3's command: the readings, the supply, the demand and the prime status (R91 to R96). -/
def State.primedState (s : State) : State := waterPrime (waterDemand (waterRead s))

/-- What the state before the command keeps of the step's readings (R91 to R93). -/
theorem primedState_eq (s : State) : s.primedState = s.setWatc { s.watc with
    level := if s.valid .tank then levelOfDuty (s.channel .tank).2 else s.watc.level
    levelKnown := s.watc.levelKnown || s.valid .tank
    tankEmpty := (waterTank s).watc.tankEmpty
    tankLoss := timerFollow 1000 20 (!s.valid .tank) s.watc.tankLoss
    qMeas := s.measuredFlow
    qAvail := (waterTank s).supply
    qDem := flowDemand s.dose s.gov.vAct s.armc.width
    prime := s.primedState.watc.prime
    primeTimer := s.primedState.watc.primeTimer
    primeHold := s.primedState.watc.primeHold } := by
  conv_lhs => rw [State.primedState, waterPrime_eq]
  rfl

/-- The controller after the command, the groups and the pump (R95, R100, R101). -/
theorem waterPump_watc (p : State) : (waterPump (waterGroups (waterCommand p))).watc = { p.watc with
    qCmd := p.flowCommand
    openSet := if p.flowCommand = 0 then 0 else bandGroups p.band &&& p.watc.mask
    trim := (waterPump (waterGroups (waterCommand p))).watc.trim
    duty := (waterPump (waterGroups (waterCommand p))).watc.duty } := rfl

/-- The flow trim in one test (R101). -/
theorem State.nextFlowTrim_eq (s : State) : s.nextFlowTrim =
    if s.watc.openSet = 0 ∨ s.valid .flow = false ∨ s.watc.flowLossFlag = true then 0
    else clampInt (-100) 100 (s.watc.trim + roundDiv (((s.watc.qCmd : Int) - s.watc.qMeas) * s.kFlow) 4096) := by
  unfold State.nextFlowTrim
  by_cases hopen : s.watc.openSet = 0
  · simp only [hopen, true_or, if_true]
  · simp only [hopen, false_or, if_false, Bool.or_eq_true, Bool.not_eq_true']

/-- The pump duty is within its range (R101). -/
theorem State.pumpDuty_eq (s : State) : (s.pumpDuty : Int) =
    if s.watc.openSet = 0 then 0 else clampInt 0 1000 ((s.evalAt pumpCurveBase s.watc.qCmd : Int) + s.watc.trim) := by
  unfold State.pumpDuty
  split
  · rfl
  · exact Int.toNat_of_nonneg (le_max_left _ _)

/-- The trim and the pump duty after stage 5, `p` the state before the command (R101). -/
theorem waterPump_trim (p : State) :
    (waterPump (waterGroups (waterCommand p))).watc.trim =
        (if (waterPump (waterGroups (waterCommand p))).watc.openSet = 0 ∨ p.valid .flow = false ∨ p.watc.flowLossFlag = true then 0
        else clampInt (-100) 100 (p.watc.trim + roundDiv (((p.flowCommand : Int) - p.watc.qMeas) * p.kFlow) 4096)) ∧
      ((waterPump (waterGroups (waterCommand p))).watc.duty : Int) =
        (if (waterPump (waterGroups (waterCommand p))).watc.openSet = 0 then 0 else
          clampInt 0 1000 ((p.evalAt pumpCurveBase p.flowCommand : Int) + (waterPump (waterGroups (waterCommand p))).watc.trim)) :=
  ⟨State.nextFlowTrim_eq (waterGroups (waterCommand p)), State.pumpDuty_eq _⟩

/-- The flow command outside the states that spray (R95). -/
theorem State.flowCommand_cases (s : State) :
    (s.modc.mode = .engaging → s.modc.phase = .priming →
      s.flowCommand = if s.watc.prime = .running ∨ s.watc.prime = .primed then min s.primeFlow s.watc.qAvail else 0) ∧
    (s.modc.mode = .sweeping ∨ (s.modc.mode = .engaging ∧ (s.modc.phase = .lowering ∨ s.modc.phase = .settling)) →
      s.flowCommand = if 0 < s.dose ∧ 0 < s.armc.width ∧ s.modc.profile.sprayMinSpeed ≤ s.gov.vAct
        then min s.watc.qDem s.watc.qAvail else 0) ∧
    (s.modc.mode ≠ .sweeping → s.modc.mode ≠ .engaging ∨ s.modc.phase = .slowing → s.flowCommand = 0) ∧
    s.flowCommand ≤ s.watc.qAvail := by
  unfold State.flowCommand
  refine ⟨fun hmode hphase => ?_, ?_, fun hmode hphase => ?_, ?_⟩
  · rw [hmode, hphase]
  · rintro (hmode | ⟨hmode, hphase | hphase⟩)
    · rw [hmode]
    · rw [hmode, hphase]
    · rw [hmode, hphase]
  · cases h : s.modc.mode
    case sweeping => exact absurd h hmode
    case engaging => rw [hphase.resolve_left (fun hne => hne h)]
    all_goals rfl
  · dsimp only
    repeat' split
    all_goals first | exact Nat.zero_le _ | exact Nat.min_le_right _ _

/-- The supply is at most the pump's flow (R93). -/
theorem State.supply_le (s : State) : s.supply ≤ s.qPump := by
  unfold State.supply
  repeat' split
  all_goals omega

/-- The supply on the readings of a water step (R93). -/
theorem waterTank_supply (s : State) : (waterTank s).supply =
    if s.watc.waterOut then 0 else if (waterTank s).watc.levelKnown = false then 0 else if (waterTank s).watc.tankEmpty then 0
      else if (waterTank s).watc.level < s.tankLow then s.qPump / 2 else s.qPump := by
  simp only [State.supply, Bool.not_eq_true']
  rfl

/-- The prime status at a water step, by the table of R96. -/
theorem waterPrime_cases (s : State) :
    (s.modc.phase ≠ .priming → (waterPrime s).watc.prime = .idle ∧ (waterPrime s).watc.primeTimer = 0 ∧
      (waterPrime s).watc.primeHold = none) ∧
    (s.modc.phase = .priming →
      (s.watc.prime = .idle → (waterPrime s).watc.prime = .running ∧ (waterPrime s).watc.primeTimer = 0 ∧
        (waterPrime s).watc.primeHold = none) ∧
      (s.watc.prime = .running → (waterPrime s).watc.primeTimer = min 5000 (s.watc.primeTimer + 20) ∧
        (waterPrime s).watc.primeHold = timerFollow 200 20 s.primeFlows s.watc.primeHold ∧
        (waterPrime s).watc.prime =
          if s.nothingToPrime then .primed else if timerAt 200 (waterPrime s).watc.primeHold then .primed
          else if 5000 ≤ (waterPrime s).watc.primeTimer then .dry else .running) ∧
      (s.watc.prime = .primed ∨ s.watc.prime = .dry → (waterPrime s).watc.prime = s.watc.prime ∧
        (waterPrime s).watc.primeTimer = s.watc.primeTimer)) := by
  unfold waterPrime
  refine ⟨fun hphase => ?_, fun hphase => ⟨fun hprime => ?_, fun hprime => ?_, fun hprime => ?_⟩⟩
  · simp [State.priming, hphase, primeIdle]
  · simp [State.priming, hphase, hprime]
  · simp only [State.priming, hphase, hprime, decide_true, Bool.not_true, Bool.false_eq_true, if_false, State.setWatc_watc, primeRunning]
    cases s.nothingToPrime
    · cases hhold : timerAt 200 (timerFollow 200 20 s.primeFlows s.watc.primeHold)
      · by_cases hlast : 5000 ≤ min 5000 (s.watc.primeTimer + 20) <;> simp [hhold, hlast]
      · simp [hhold]
    · simp
  · obtain hprime | hprime := hprime <;> simp [State.priming, hphase, hprime]

/-! #### Stage 6 -/

/-- WATER_DRY is reported at a water step: the prime timeout or the dry run (R96, R103). -/
def State.dryNow (s : State) : Bool :=
  primeWentDry s.watc (waterFlow s).watc || ((waterFlow s).dryRunHolds && timerDue 3000 20 s.watc.dryRun)

/-- TANK_SENSOR_LOST is reported at a water step (R105). -/
def State.tankLostNow (s : State) : Bool := !s.valid .tank && timerDue 1000 20 s.watc.tankLoss

/-- FLOW_SENSOR_LOST is reported at a water step (R102). -/
def State.flowLostNow (s : State) : Bool := (waterFlow s).flowLossHolds && timerDue 1000 20 s.watc.flowLoss

/-- The state after the timers of stage 6. -/
def State.watched (s : State) : State := waterWatch s.watc (primeWentDry s.watc (waterFlow s).watc) (waterFlow s)

/-- What stages 3 to 5 leave of the controller (R91 to R101). -/
theorem waterFlow_watc (s : State) : (waterFlow s).watc = { s.primedState.watc with
    qCmd := s.primedState.flowCommand
    openSet := if s.primedState.flowCommand = 0 then 0 else bandGroups s.primedState.band &&& s.primedState.watc.mask
    trim := (waterFlow s).watc.trim
    duty := (waterFlow s).watc.duty } := waterPump_watc s.primedState

/-- The timers and flags that a water step reads stand until its stage 6 (R102 to R105). -/
theorem waterFlow_standing (s : State) :
    (waterFlow s).watc.dryRun = s.watc.dryRun ∧ (waterFlow s).watc.flowLoss = s.watc.flowLoss ∧
      (waterFlow s).watc.flowLossFlag = s.watc.flowLossFlag ∧ (waterFlow s).watc.waterOut = s.watc.waterOut ∧
      (waterFlow s).watc.override = s.watc.override ∧ (waterFlow s).watc.mask = s.watc.mask ∧
      (waterFlow s).watc.tankLoss = timerFollow 1000 20 (!s.valid .tank) s.watc.tankLoss := by
  rw [waterFlow_watc, primedState_eq]
  exact ⟨rfl, rfl, rfl, rfl, rfl, rfl, rfl⟩

/-- The timers and flags of stage 6 (R102, R103, R105). -/
theorem waterWatch_watc (w0 : WaterControl) (primeDry : Bool) (s : State) : (waterWatch w0 primeDry s).watc = { s.watc with
    dryRun := timerFollow 3000 20 s.dryRunHolds s.watc.dryRun
    flowLoss := timerFollow 1000 20 s.flowLossHolds s.watc.flowLoss
    flowLossFlag :=
      if s.valid .flow then false else s.watc.flowLossFlag || (s.flowLossHolds && timerDue 1000 20 s.watc.flowLoss)
    dryReport := (primeDry || (s.dryRunHolds && timerDue 3000 20 s.watc.dryRun)) ||
      (w0.dryReport && decide (0 < s.watc.duty)) } := by
  rw [waterWatch, State.setWatc_watc, timerReached_follow, timerReached_follow, Bool.or_comm primeDry]

/-- A channel is read from its capture alone (R134). -/
theorem State.channel_congr {s t : State} (h : t.tma.captures = s.tma.captures) (ch : Channel) : t.channel ch = s.channel ch := by
  simp only [State.channel, h]

/-- A channel is VALID by its capture alone (R134). -/
theorem State.valid_congr {s t : State} (h : t.tma.captures = s.tma.captures) (ch : Channel) : t.valid ch = s.valid ch := by
  simp only [State.valid, State.channel_congr h]

/-- The capture channels stand through a water step (R90). -/
theorem waterFlow_captures (s : State) : (waterFlow s).tma.captures = s.tma.captures := rfl

/-- The timers of stage 6 leave the timing array. -/
theorem waterWatch_tma (w0 : WaterControl) (primeDry : Bool) (s : State) : (waterWatch w0 primeDry s).tma = s.tma := rfl

/-- The timers of stage 6 leave the fault unit. -/
theorem waterWatch_faults (w0 : WaterControl) (primeDry : Bool) (s : State) : (waterWatch w0 primeDry s).faults = s.faults := rfl

/-- The controller after the timers of stage 6 (R102, R103, R105). -/
theorem watched_watc (s : State) : s.watched.watc = { (waterFlow s).watc with
    dryRun := timerFollow 3000 20 (waterFlow s).dryRunHolds s.watc.dryRun
    flowLoss := timerFollow 1000 20 (waterFlow s).flowLossHolds s.watc.flowLoss
    flowLossFlag := if s.valid .flow then false else s.watc.flowLossFlag || s.flowLostNow
    dryReport := s.dryNow || (s.watc.dryReport && decide (0 < (waterFlow s).watc.duty)) } := by
  obtain ⟨hdryRun, hflowLoss, hflag, -⟩ := waterFlow_standing s
  rw [State.watched, waterWatch_watc, hdryRun, hflowLoss, hflag, State.valid_congr (waterFlow_captures s), State.dryNow, State.flowLostNow]

/-- The reports of a water step. -/
def State.waterReported (s : State) : List Report :=
  waterReports s.watc (primeWentDry s.watc (waterFlow s).watc) s.watched

/-- Each report of a water step is a note or withdraws the supply (R105). -/
theorem waterReported_kinds (s : State) : ∀ r ∈ s.waterReported, r.withdraws = true ∨ r.isNote := by
  intro r hr
  simp only [State.waterReported, waterReports, reportIf, List.mem_append, List.mem_ite_nil_right, List.mem_singleton] at hr
  obtain (((⟨-, rfl⟩ | ⟨-, rfl⟩) | ⟨-, rfl⟩) | ⟨-, rfl⟩) | ⟨-, rfl⟩ := hr
  · exact .inl rfl
  · exact .inl rfl
  · exact .inl rfl
  · exact .inr (.inr rfl)
  · exact .inr (.inl rfl)

/-- The timers that the reports of a water step are judged on (R105). -/
theorem watched_timers (s : State) :
    s.watched.watc.dryRun = timerFollow 3000 20 (waterFlow s).dryRunHolds s.watc.dryRun ∧
      s.watched.watc.flowLoss = timerFollow 1000 20 (waterFlow s).flowLossHolds s.watc.flowLoss ∧
      s.watched.watc.tankLoss = timerFollow 1000 20 (!s.valid .tank) s.watc.tankLoss ∧
      s.watched.watc.tankEmpty = (waterFlow s).watc.tankEmpty := by
  rw [watched_watc]
  exact ⟨rfl, rfl, (waterFlow_standing s).2.2.2.2.2.2, rfl⟩

/-- The kinds that a water step reports (R105). -/
theorem waterReported_any (s : State) (p : Report → Bool) : s.waterReported.any p =
    (((((primeWentDry s.watc (waterFlow s).watc && p (waterDryReport 1)) ||
      (((waterFlow s).dryRunHolds && timerDue 3000 20 s.watc.dryRun) && p (waterDryReport 2))) ||
      (s.tankLostNow && p (tankLostReport s.watched))) ||
      (s.flowLostNow && p (flowLostReport s.watched))) ||
      ((!s.watc.tankEmpty && (waterFlow s).watc.tankEmpty) && p (tankEmptyReport s.watched))) := by
  have hany (b : Bool) (r : Report) : (reportIf b r).any p = (b && p r) := by cases b <;> simp [reportIf]
  obtain ⟨hdryRun, hflowLoss, htank, hempty⟩ := watched_timers s
  simp only [State.waterReported, waterReports, List.any_append, hany, hdryRun, hflowLoss, htank, hempty, timerReached_follow,
    State.tankLostNow, State.flowLostNow]

/-- A kind is active by the fault unit alone (R122). -/
theorem State.isActive_congr {s t : State} (h : t.faults = s.faults) (k : FaultKind) : t.isActive k = s.isActive k := by
  rw [State.isActive, h, State.isActive]

/-- The supply is withdrawn at a water step (R96, R103, R105). -/
def State.withdrawsNow (s : State) : Bool := s.dryNow || s.tankLostNow

/-- The state after the reports and reactions of a water step. -/
def State.waterReacted (s : State) : State :=
  if s.withdrawsNow then waterOutNotice (takeReports s.waterReported s.watched) else takeReports s.waterReported s.watched

/-- A water step is its watched state, the reports with their reaction, and the condition ends (R105). -/
theorem waterStep_eq (s : State) : waterStep s =
    waterEnds s.watc s.watched.watc (s.watched.valid .tank) s.waterReacted := by
  have hwithdraws : s.waterReported.any Report.withdraws = s.withdrawsNow := by
    rw [waterReported_any]
    have hflow : (flowLostReport s.watched).withdraws = false := rfl
    have hempty : (tankEmptyReport s.watched).withdraws = false := rfl
    have hdry (d : Nat) : (waterDryReport d).withdraws = true := rfl
    have htank : (tankLostReport s.watched).withdraws = true := rfl
    simp only [hflow, hempty, hdry, htank, Bool.and_false, Bool.and_true, Bool.or_false]
    rfl
  have hreact := reactAll_of_water (waterReported_kinds s) (takeReports s.waterReported s.watched)
  rw [hwithdraws] at hreact
  rw [State.waterReacted, ← hreact]
  rfl

/-- The condition ends touch the active set alone (R122). -/
theorem waterEnds_keeps (w0 w : WaterControl) (valid : Bool) (s : State) : (waterEnds w0 w valid s).watc = s.watc ∧
    (waterEnds w0 w valid s).tma = s.tma ∧ (waterEnds w0 w valid s).modc = s.modc ∧
    WordsKept faultBase 35 s (waterEnds w0 w valid s) ∧ SameBut [.xmem, .faults] s (waterEnds w0 w valid s) := by
  unfold waterEnds
  dsimp only
  refine ⟨by simp, by simp, by simp, ?_, fun b => ?_⟩
  · have hend (b : Bool) (k : FaultKind) (u : State) : WordsKept faultBase 35 u (endIf b k u) :=
      (endIf_wordsKept b k u).mono (by decide) (by decide)
    exact (((hend _ _ s).trans (hend _ _ _)).trans (hend _ _ _)).trans (hend _ _ _)
  · cases b <;> simp [Block.same]

/-- The kinds of the controller after its condition ends (R92, R102, R105). -/
theorem waterEnds_isActive (w0 w : WaterControl) (valid : Bool) (s : State) (k : FaultKind) :
    (waterEnds w0 w valid s).isActive k = ((((s.isActive k &&
      !((w0.dryReport && decide (w.duty = 0)) && decide (k = .waterDry))) && !(valid && decide (k = .tankSensorLost))) &&
      !((w0.flowLossFlag && !w.flowLossFlag) && decide (k = .flowSensorLost))) &&
      !((w0.tankEmpty && !w.tankEmpty) && decide (k = .tankEmpty))) := by
  simp only [waterEnds, endIf_isActive]

/-- The kinds present after the reports of a water step (R105). -/
theorem waterReacted_isActive (s : State) (k : FaultKind) : s.waterReacted.isActive k = (s.isActive k ||
    ((((s.dryNow && decide (k = .waterDry)) || (s.tankLostNow && decide (k = .tankSensorLost))) ||
      (s.flowLostNow && decide (k = .flowSensorLost))) ||
      ((!s.watc.tankEmpty && (waterFlow s).watc.tankEmpty) && decide (k = .tankEmpty)))) := by
  have hkept : s.waterReacted.isActive k = (takeReports s.waterReported s.watched).isActive k := by
    unfold State.waterReacted
    split
    · exact State.isActive_congr (by simp) k
    · rfl
  have hstart : s.watched.isActive k = s.isActive k :=
    State.isActive_congr ((waterWatch_faults _ _ _).trans ((waterFlow_sameBut s).same .faults rfl)) k
  rw [hkept, takeReports_isActive, hstart, waterReported_any]
  simp only [waterDryReport, tankLostReport, flowLostReport, tankEmptyReport, State.dryNow, Bool.and_or_distrib_right]
  rfl

/-- The controller after a water step: that of its watched state, or the same with the supply withdrawn (R104). -/
theorem waterStep_watc (s : State) :
    ((waterStep s).watc = s.watched.watc ∧ (waterStep s).watc.waterOut = s.watc.waterOut ∧
      (s.withdrawsNow = true → s.watc.waterOut = true)) ∨
    ((waterStep s).watc = withdrawn s.watched.watc ∧ s.watc.waterOut = false ∧ s.withdrawsNow = true) := by
  have hwatched : s.watched.watc.waterOut = s.watc.waterOut := by
    rw [watched_watc]
    exact (waterFlow_standing s).2.2.2.1
  have htaken : (takeReports s.waterReported s.watched).watc = s.watched.watc := by simp
  rw [waterStep_eq, (waterEnds_keeps _ _ _ _).1, State.waterReacted]
  cases hnow : s.withdrawsNow
  · exact .inl ⟨htaken, (congrArg WaterControl.waterOut htaken).trans hwatched, fun h => absurd h (by simp)⟩
  · cases hout : s.watc.waterOut
    · refine .inr ⟨?_, rfl, rfl⟩
      rw [if_pos rfl, waterOutNotice_of_supplied (by rw [htaken, hwatched, hout]), htaken]
      rfl
    · refine .inl ⟨?_, ?_, fun _ => rfl⟩
      · rw [if_pos rfl, waterOutNotice_of_withdrawn (by rw [htaken, hwatched, hout]), htaken]
      · rw [if_pos rfl]
        exact waterOutNotice_waterOut _

/-- The fields of the controller that no withdrawal touches, after a water step (R90 to R105). -/
theorem waterStep_kept (s : State) :
    (waterStep s).watc.level = s.watched.watc.level ∧ (waterStep s).watc.levelKnown = s.watched.watc.levelKnown ∧
      (waterStep s).watc.tankEmpty = s.watched.watc.tankEmpty ∧ (waterStep s).watc.qMeas = s.watched.watc.qMeas ∧
      (waterStep s).watc.qDem = s.watched.watc.qDem ∧ (waterStep s).watc.primeTimer = s.watched.watc.primeTimer ∧
      (waterStep s).watc.primeHold = s.watched.watc.primeHold ∧ (waterStep s).watc.tankLoss = s.watched.watc.tankLoss ∧
      (waterStep s).watc.flowLossFlag = s.watched.watc.flowLossFlag ∧ (waterStep s).watc.dryReport = s.watched.watc.dryReport ∧
      (waterStep s).watc.override = s.watched.watc.override ∧ (waterStep s).watc.mask = s.watched.watc.mask := by
  obtain ⟨h, -⟩ | ⟨h, -⟩ := waterStep_watc s <;> rw [h] <;> exact ⟨rfl, rfl, rfl, rfl, rfl, rfl, rfl, rfl, rfl, rfl, rfl, rfl⟩

/-- The readings, the supply and the demand of a water step (R31, R91 to R93). -/
theorem watched_readings (s : State) :
    s.watched.watc.level = (if s.valid .tank then levelOfDuty (s.channel .tank).2 else s.watc.level) ∧
      s.watched.watc.levelKnown = (s.watc.levelKnown || s.valid .tank) ∧
      s.watched.watc.tankEmpty = (waterTank s).watc.tankEmpty ∧ s.watched.watc.qMeas = s.measuredFlow ∧
      s.watched.watc.qAvail = (waterTank s).supply ∧ s.watched.watc.qDem = flowDemand s.dose s.gov.vAct s.armc.width ∧
      s.watched.watc.tankLoss = timerFollow 1000 20 (!s.valid .tank) s.watc.tankLoss ∧
      s.watched.watc.override = s.watc.override ∧ s.watched.watc.mask = s.watc.mask := by
  rw [watched_watc, waterFlow_watc, primedState_eq]
  exact ⟨rfl, rfl, rfl, rfl, rfl, rfl, rfl, rfl, rfl⟩

/-- The command, the groups, the trim and the duty before a withdrawal (R95, R100, R101). -/
theorem watched_dosing (s : State) :
    s.watched.watc.qCmd = s.primedState.flowCommand ∧
      s.watched.watc.openSet = (if s.watched.watc.qCmd = 0 then 0 else bandGroups s.band &&& s.watc.mask) ∧
      s.watched.watc.trim =
        (if s.watched.watc.openSet = 0 ∨ s.valid .flow = false ∨ s.watc.flowLossFlag = true then 0
        else clampInt (-100) 100 (s.watc.trim + roundDiv (((s.watched.watc.qCmd : Int) - s.watched.watc.qMeas) * s.kFlow) 4096)) ∧
      (s.watched.watc.duty : Int) = (if s.watched.watc.openSet = 0 then 0 else
        clampInt 0 1000 ((s.evalAt pumpCurveBase s.watched.watc.qCmd : Int) + s.watched.watc.trim)) ∧
      s.watched.watc.duty = (waterFlow s).watc.duty ∧ s.watched.watc.prime = s.primedState.watc.prime ∧
      s.watched.watc.primeTimer = s.primedState.watc.primeTimer ∧ s.watched.watc.primeHold = s.primedState.watc.primeHold := by
  obtain ⟨htrim, hduty⟩ := waterPump_trim s.primedState
  have hopen : (waterFlow s).watc.openSet = if s.primedState.flowCommand = 0 then 0
      else bandGroups s.primedState.band &&& s.primedState.watc.mask := congrArg WaterControl.openSet (waterFlow_watc s)
  have hcmd : (waterFlow s).watc.qCmd = s.primedState.flowCommand := congrArg WaterControl.qCmd (waterFlow_watc s)
  have hkept : s.primedState.watc.qMeas = s.measuredFlow ∧ s.primedState.watc.mask = s.watc.mask ∧
      s.primedState.watc.trim = s.watc.trim ∧ s.primedState.watc.flowLossFlag = s.watc.flowLossFlag ∧
      s.primedState.band = s.band ∧ s.primedState.kFlow = s.kFlow ∧ s.primedState.valid .flow = s.valid .flow ∧
      (∀ x, s.primedState.evalAt pumpCurveBase x = s.evalAt pumpCurveBase x) := by
    rw [primedState_eq]
    exact ⟨rfl, rfl, rfl, rfl, rfl, rfl, rfl, fun _ => rfl⟩
  obtain ⟨hmeas, hmask, hold, hflag, hband, hk, hvalid, hcurve⟩ := hkept
  have hflow : waterFlow s = waterPump (waterGroups (waterCommand s.primedState)) := rfl
  have hreading : (waterFlow s).watc.qMeas = s.measuredFlow := (congrArg WaterControl.qMeas (waterFlow_watc s)).trans hmeas
  rw [← hflow, hold, hflag, hvalid, hk, hmeas, ← hcmd, ← hreading] at htrim
  rw [← hflow, hcurve, ← hcmd] at hduty
  rw [← hcmd, hband, hmask] at hopen
  have hprime : (waterFlow s).watc.prime = s.primedState.watc.prime ∧
      (waterFlow s).watc.primeTimer = s.primedState.watc.primeTimer ∧
      (waterFlow s).watc.primeHold = s.primedState.watc.primeHold := by
    rw [waterFlow_watc]
    exact ⟨rfl, rfl, rfl⟩
  rw [watched_watc]
  exact ⟨hcmd, hopen, htrim, hduty, rfl, hprime⟩

/-- The command before a withdrawal, by the table of R95. -/
theorem watched_command (s : State) :
    (s.modc.mode = .engaging → s.modc.phase = .priming → s.watched.watc.qCmd =
      if s.watched.watc.prime = .running ∨ s.watched.watc.prime = .primed then min s.primeFlow s.watched.watc.qAvail else 0) ∧
    (s.modc.mode = .sweeping ∨ (s.modc.mode = .engaging ∧ (s.modc.phase = .lowering ∨ s.modc.phase = .settling)) →
      s.watched.watc.qCmd = if 0 < s.dose ∧ 0 < s.armc.width ∧ s.modc.profile.sprayMinSpeed ≤ s.gov.vAct
        then min s.watched.watc.qDem s.watched.watc.qAvail else 0) ∧
    (s.modc.mode ≠ .sweeping → s.modc.mode ≠ .engaging ∨ s.modc.phase = .slowing → s.watched.watc.qCmd = 0) ∧
    s.watched.watc.qCmd ≤ s.watched.watc.qAvail := by
  obtain ⟨hcmd, -, -, -, -, hprime, -, -⟩ := watched_dosing s
  obtain ⟨-, -, -, -, havail, hdem, -⟩ := watched_readings s
  have hcases := s.primedState.flowCommand_cases
  have hkept : s.primedState.modc = s.modc ∧ s.primedState.dose = s.dose ∧ s.primedState.armc = s.armc ∧
      s.primedState.gov = s.gov ∧ s.primedState.primeFlow = s.primeFlow ∧
      s.primedState.watc.qAvail = (waterTank s).supply ∧
      s.primedState.watc.qDem = flowDemand s.dose s.gov.vAct s.armc.width := by
    rw [primedState_eq]
    exact ⟨rfl, rfl, rfl, rfl, rfl, rfl, rfl⟩
  obtain ⟨hmodc, hdose, harmc, hgov, hflow, hsupply, hdemand⟩ := hkept
  rw [hmodc, hdose, harmc, hgov, hflow, hsupply, hdemand, ← hcmd, ← hprime, ← havail, ← hdem] at hcases
  exact hcases

/-- The prime status before a withdrawal, by the table of R96. -/
theorem watched_prime (s : State) :
    (s.modc.phase ≠ .priming → s.watched.watc.prime = .idle ∧ s.watched.watc.primeTimer = 0 ∧ s.watched.watc.primeHold = none) ∧
    (s.modc.phase = .priming →
      (s.watc.prime = .idle → s.watched.watc.prime = .running ∧ s.watched.watc.primeTimer = 0 ∧
        s.watched.watc.primeHold = none) ∧
      (s.watc.prime = .running → s.watched.watc.primeTimer = min 5000 (s.watc.primeTimer + 20) ∧
        s.watched.watc.primeHold = timerFollow 200 20 (decide (s.primeFlow ≤ s.measuredFlow * 2)) s.watc.primeHold ∧
        s.watched.watc.prime =
          if min s.primeFlow (waterTank s).supply = 0 ∨ bandGroups s.primingBand &&& s.watc.mask = 0 then .primed
          else if timerAt 200 s.watched.watc.primeHold = true then .primed
          else if 5000 ≤ s.watched.watc.primeTimer then .dry else .running) ∧
      (s.watc.prime = .primed ∨ s.watc.prime = .dry → s.watched.watc.prime = s.watc.prime ∧
        s.watched.watc.primeTimer = s.watc.primeTimer)) := by
  obtain ⟨-, -, -, -, -, hprime, htimer, hhold⟩ := watched_dosing s
  have hcases := waterPrime_cases (waterDemand (waterRead s))
  have hnothing : (waterDemand (waterRead s)).nothingToPrime = true ↔
      min s.primeFlow (waterTank s).supply = 0 ∨ bandGroups s.primingBand &&& s.watc.mask = 0 := by
    have heq : (waterDemand (waterRead s)).nothingToPrime = (decide (min s.primeFlow (waterTank s).supply = 0) ||
      decide (bandGroups s.primingBand &&& s.watc.mask = 0)) := rfl
    rw [heq, Bool.or_eq_true, decide_eq_true_eq, decide_eq_true_eq]
  rw [hprime, htimer, hhold]
  simp only [hnothing] at hcases
  exact hcases

/-- A prime timeout needs a supply (R96). -/
theorem supplied_of_primeWentDry {s : State} (h : primeWentDry s.watc (waterFlow s).watc = true) : s.watc.waterOut = false := by
  have hparts : s.watc.prime = .running ∧ (waterFlow s).watc.prime = .dry := by simpa [primeWentDry] using h
  have hsame : s.watched.watc.prime = (waterFlow s).watc.prime := by rw [watched_watc]
  obtain ⟨hrunning, hdry⟩ := hparts
  by_contra hout
  rw [Bool.not_eq_false] at hout
  have hsupply : (waterTank s).supply = 0 := by
    rw [waterTank_supply, if_pos hout]
  by_cases hphase : s.modc.phase = .priming
  · have hprimed := ((watched_prime s).2 hphase).2.1 hrunning
    rw [if_pos (.inl (by rw [hsupply, Nat.min_zero])), hsame, hdry] at hprimed
    exact absurd hprimed.2.2 (by simp)
  · have hidle := ((watched_prime s).1 hphase).1
    rw [hsame, hdry] at hidle
    exact absurd hidle (by simp)

/-- The tank-empty flag of a water step (R92). -/
theorem waterTank_tankEmpty (s : State) :
    ((waterTank s).watc.levelKnown = true → (waterTank s).watc.tankEmpty =
      if s.watc.tankEmpty then !decide (s.tankEmptyLevel + 20 < (waterTank s).watc.level)
        else decide ((waterTank s).watc.level ≤ s.tankEmptyLevel)) ∧
      ((waterTank s).watc.levelKnown = false → (waterTank s).watc.tankEmpty = s.watc.tankEmpty) := by
  constructor <;> intro h
  · exact if_pos h
  · exact if_neg (by rw [Bool.not_eq_true]; exact h)

/-- The tank of a water step is that of its readings (R91, R92). -/
theorem watched_tank (s : State) : (waterTank s).watc.level = s.watched.watc.level ∧
    (waterTank s).watc.levelKnown = s.watched.watc.levelKnown ∧ (waterTank s).watc.tankEmpty = s.watched.watc.tankEmpty := by
  obtain ⟨hlevel, hknown, hempty, -⟩ := watched_readings s
  rw [hlevel, hknown, hempty]
  exact ⟨rfl, rfl, rfl⟩

/-- The outputs after a water step: those of its groups and its duty alone (R90, R104). -/
theorem waterStep_outputs (s : State) : (waterStep s).tma = { s.tma with outputs := { s.tma.outputs with
    nozzles := (waterStep s).watc.openSet
    waterPump := { s.tma.outputs.waterPump with held := (waterStep s).watc.duty } } } := by
  have hhanded (u : State) : (handWater u).tma = { u.tma with outputs := { u.tma.outputs with
      nozzles := u.watc.openSet, waterPump := { u.tma.outputs.waterPump with held := u.watc.duty } } } := rfl
  have hflow : (waterFlow s).tma = { s.tma with outputs := { s.tma.outputs with
      nozzles := (waterFlow s).watc.openSet
      waterPump := { s.tma.outputs.waterPump with held := (waterFlow s).watc.duty } } } := rfl
  have hwatch (w0 : WaterControl) (b : Bool) (u : State) : (waterWatch w0 b u).tma = u.tma ∧
      (waterWatch w0 b u).watc.openSet = u.watc.openSet ∧ (waterWatch w0 b u).watc.duty = u.watc.duty := ⟨rfl, rfl, rfl⟩
  have hwatched : s.watched.tma = { s.tma with outputs := { s.tma.outputs with
      nozzles := s.watched.watc.openSet
      waterPump := { s.tma.outputs.waterPump with held := s.watched.watc.duty } } } := by
    unfold State.watched
    rw [(hwatch _ _ _).1, (hwatch _ _ _).2.1, (hwatch _ _ _).2.2]
    exact hflow
  have htaken : (takeReports s.waterReported s.watched).tma = s.watched.tma ∧
      (takeReports s.waterReported s.watched).watc = s.watched.watc := by simp
  obtain ⟨hwatc, htma, -⟩ := waterEnds_keeps s.watc s.watched.watc (s.watched.valid .tank) s.waterReacted
  rw [waterStep_eq, hwatc, htma]
  unfold State.waterReacted
  split
  · cases hout : s.watched.watc.waterOut
    · rw [waterOutNotice_of_supplied (by rw [htaken.2, hout]), hhanded]
      simp only [State.setWatc_tma, State.setWatc_watc, htaken.1]
      rw [hwatched]
      rfl
    · rw [waterOutNotice_of_withdrawn (by rw [htaken.2, hout]), htaken.1, htaken.2]
      exact hwatched
  · rw [htaken.1, htaken.2]
    exact hwatched

/-- The words and blocks of a water step (R121). -/
theorem waterStep_frame (s : State) : WordsKept faultBase 35 s (waterStep s) ∧ (waterStep s).modc = s.modc ∧
    SameBut [.xmem, .port, .watc, .faults, .tma] s (waterStep s) := by
  have hwatched : SameBut [.watc, .tma] s s.watched :=
    (waterFlow_sameBut s).comp (setWatc_sameBut _ _) (List.Subset.refl _) (by decide)
  have htaken : SameBut [.xmem, .port, .faults] s.watched (takeReports s.waterReported s.watched) := by
    intro b
    cases b <;> simp [Block.same]
  have hreacted : SameBut [.xmem, .port, .watc, .faults, .tma] s s.waterReacted := by
    have hboth := hwatched.comp (more := [.xmem, .port, .watc, .faults, .tma]) htaken (by decide) (by decide)
    unfold State.waterReacted
    split
    · exact hboth.comp (waterOutNotice_sameBut _) (List.Subset.refl _) (by decide)
    · exact hboth
  have hwords : WordsKept faultBase 35 s s.waterReacted := by
    have hboth := (WordsKept.of_xmem (base := faultBase) (count := 35) (hwatched.same .xmem rfl)).trans
      (takeReports_wordsKept s.waterReported s.watched)
    unfold State.waterReacted
    split
    · exact hboth.trans (WordsKept.of_xmem (by simp))
    · exact hboth
  obtain ⟨-, -, -, hends, hsame⟩ := waterEnds_keeps s.watc s.watched.watc (s.watched.valid .tank) s.waterReacted
  have hstep := hreacted.comp hsame (List.Subset.refl _) (by decide)
  rw [waterStep_eq]
  exact ⟨hwords.trans hends, hstep.same .modc rfl, hstep⟩

/-- The kinds of the controller present after a water step (R92, R102, R105). -/
theorem waterStep_isActive (s : State) :
    (waterStep s).isActive .tankSensorLost = ((s.isActive .tankSensorLost || s.tankLostNow) && !s.valid .tank) ∧
      (waterStep s).isActive .tankEmpty = ((s.isActive .tankEmpty || (!s.watc.tankEmpty && (waterTank s).watc.tankEmpty)) &&
        !(s.watc.tankEmpty && !(waterTank s).watc.tankEmpty)) ∧
      (waterStep s).isActive .flowSensorLost = ((s.isActive .flowSensorLost || s.flowLostNow) &&
        !(s.watc.flowLossFlag && !s.watched.watc.flowLossFlag)) ∧
      (waterStep s).isActive .waterDry = ((s.isActive .waterDry || s.dryNow) &&
        !(s.watc.dryReport && decide ((waterFlow s).watc.duty = 0))) := by
  have hvalid : s.watched.valid .tank = s.valid .tank :=
    State.valid_congr ((congrArg TimingArray.captures (waterWatch_tma _ _ _)).trans (waterFlow_captures s)) .tank
  obtain ⟨-, -, hempty, -⟩ := watched_readings s
  obtain ⟨-, -, -, -, hduty, -⟩ := watched_dosing s
  have hflow : (waterFlow s).watc.tankEmpty = (waterTank s).watc.tankEmpty := by
    rw [← hempty, watched_watc]
  rw [waterStep_eq]
  simp only [waterEnds_isActive, waterReacted_isActive, hvalid, hempty, hduty, hflow]
  simp

/-- A status that a withdrawal turns, by the table of R96. -/
theorem primeStatus_turned (going : PrimeStatus) (a b c : Prop) [Decidable a] [Decidable b] [Decidable c] :
    (if (if a then PrimeStatus.primed else if b then .primed else if c then .dry else .running) = .running then going
      else if a then .primed else if b then .primed else if c then .dry else .running) =
      if a then .primed else if b then .primed else if c then .dry else going := by
  by_cases ha : a
  · simp [ha]
  · by_cases hb : b
    · simp [ha, hb]
    · by_cases hc : c <;> simp [ha, hb, hc]

/-- A withdrawal turns the status RUNNING to DRY (R104). -/
theorem waterStep_primeStatus (s : State) : (waterStep s).watc.prime =
    if s.watched.watc.prime = .running then (if (waterStep s).watc.waterOut = s.watc.waterOut then .running else .dry)
    else s.watched.watc.prime := by
  obtain ⟨hwatc, hout, -⟩ | ⟨hwatc, hout, -⟩ := waterStep_watc s
  · rw [if_pos hout, hwatc]
    split
    · assumption
    · rfl
  · have hchanged : ¬(withdrawn s.watched.watc).waterOut = s.watc.waterOut := by
      rw [hout]
      simp [withdrawn]
    rw [hwatc, if_neg hchanged]
    rfl

/-- The prime status of a water step, by the table of R96. -/
theorem waterStep_prime {s : State} (hphase : s.modc.phase = .priming) {going : PrimeStatus}
    (hgoing : going = if (waterStep s).watc.waterOut = s.watc.waterOut then PrimeStatus.running else .dry) :
    (s.watc.prime = .idle → (waterStep s).watc.prime = going ∧ (waterStep s).watc.primeTimer = 0 ∧
      (waterStep s).watc.primeHold = none) ∧
    (s.watc.prime = .running → (waterStep s).watc.primeTimer = min 5000 (s.watc.primeTimer + 20) ∧
      (waterStep s).watc.primeHold = timerFollow 200 20 (decide (s.primeFlow ≤ s.measuredFlow * 2)) s.watc.primeHold ∧
      (waterStep s).watc.prime =
        if min s.primeFlow (waterTank s).supply = 0 ∨ bandGroups s.primingBand &&& s.watc.mask = 0 then .primed
        else if timerAt 200 (waterStep s).watc.primeHold = true then .primed
        else if 5000 ≤ (waterStep s).watc.primeTimer then .dry else going) ∧
    (s.watc.prime = .primed ∨ s.watc.prime = .dry → (waterStep s).watc.prime = s.watc.prime ∧
      (waterStep s).watc.primeTimer = s.watc.primeTimer) := by
  obtain ⟨hfromIdle, hrunning, hended⟩ := (watched_prime s).2 hphase
  obtain ⟨-, -, -, -, -, htimer, hhold, -⟩ := waterStep_kept s
  have hstatus := waterStep_primeStatus s
  rw [← hgoing] at hstatus
  rw [htimer, hhold, hstatus]
  refine ⟨fun hwas => ?_, fun hwas => ?_, fun hwas => ?_⟩
  · obtain ⟨hnow, hrest⟩ := hfromIdle hwas
    exact ⟨if_pos hnow, hrest⟩
  · obtain ⟨ht, hh, hnow⟩ := hrunning hwas
    refine ⟨ht, hh, ?_⟩
    rw [hnow]
    exact primeStatus_turned _ _ _ _
  · obtain ⟨hnow, ht⟩ := hended hwas
    refine ⟨?_, ht⟩
    rw [hnow]
    obtain h | h := hwas <;> rw [h] <;> rfl

/-- WATER_DRY is reported exactly at the prime timeout or at the dry run (R96, R103). -/
theorem State.dryNow_iff (s : State) : s.dryNow = true ↔ (s.watc.prime = .running ∧ (waterFlow s).watc.prime = .dry) ∨
    ((waterFlow s).dryRunHolds = true ∧ timerDue 3000 20 s.watc.dryRun = true) := by
  simp [State.dryNow, primeWentDry]

/-- A VALID flow channel is not lost (R102). -/
theorem State.flowLostNow_of_valid {s : State} (h : s.valid .flow = true) : s.flowLostNow = false := by
  simp [State.flowLostNow, State.flowLossHolds, State.valid_congr (waterFlow_captures s), h]

/-- The two flags of a water step (R102, R105). -/
theorem waterStep_flags (s : State) :
    (waterStep s).watc.flowLossFlag = (if s.valid .flow then false else s.watc.flowLossFlag || s.flowLostNow) ∧
      (waterStep s).watc.dryReport = (s.dryNow || (s.watc.dryReport && decide (0 < (waterFlow s).watc.duty))) ∧
      s.watched.watc.flowLossFlag = (waterStep s).watc.flowLossFlag := by
  obtain ⟨-, -, -, -, -, -, -, -, hflag, hreport, -⟩ := waterStep_kept s
  rw [hflag, hreport, watched_watc]
  exact ⟨rfl, rfl, rfl⟩

/-- The water-out flag after a water step (R104). -/
theorem waterStep_waterOut (s : State) :
    (waterStep s).watc.waterOut = true ↔ s.watc.waterOut = true ∨ s.dryNow = true ∨ s.tankLostNow = true := by
  have hnow : s.withdrawsNow = true ↔ s.dryNow = true ∨ s.tankLostNow = true := Bool.or_eq_true_iff
  rw [← hnow]
  obtain ⟨-, hout, himplies⟩ | ⟨hwatc, -, hwithdraws⟩ := waterStep_watc s
  · rw [hout]
    exact ⟨.inl, fun h => h.elim id himplies⟩
  · rw [hwatc]
    exact ⟨fun _ => .inr hwithdraws, fun _ => rfl⟩

/-- FLOW_SENSOR_LOST and its flag after a water step (R102). -/
theorem waterStep_flowSensor (s : State) :
    (s.valid .flow = true → (waterStep s).watc.flowLossFlag = false ∧
      ((waterStep s).isActive .flowSensorLost = true ↔ s.isActive .flowSensorLost = true ∧ s.watc.flowLossFlag = false)) ∧
    (s.valid .flow = false → ((waterStep s).watc.flowLossFlag = true ↔ s.watc.flowLossFlag = true ∨ s.flowLostNow = true) ∧
      ((waterStep s).isActive .flowSensorLost = true ↔ s.isActive .flowSensorLost = true ∨ s.flowLostNow = true)) := by
  obtain ⟨hflag, -, hwatched⟩ := waterStep_flags s
  obtain ⟨-, -, hactive, -⟩ := waterStep_isActive s
  rw [hwatched, hflag] at hactive
  refine ⟨fun hvalid => ?_, fun hvalid => ?_⟩ <;> rw [hvalid] at hflag hactive <;> rw [hflag, hactive]
  · rw [State.flowLostNow_of_valid hvalid]
    simp
  · cases s.watc.flowLossFlag <;> simp

/-- WATER_DRY and its flag after a water step (R102, R105). -/
theorem waterStep_waterDry (s : State) :
    ((waterStep s).isActive .waterDry = true ↔ (s.isActive .waterDry = true ∨ s.dryNow = true) ∧
      ¬(s.watc.dryReport = true ∧ (waterFlow s).watc.duty = 0)) ∧
    ((waterStep s).watc.dryReport = true ↔ s.dryNow = true ∨ (s.watc.dryReport = true ∧ 0 < (waterFlow s).watc.duty)) := by
  obtain ⟨-, -, -, hactive⟩ := waterStep_isActive s
  obtain ⟨-, hreport, -⟩ := waterStep_flags s
  rw [hactive, hreport]
  cases s.watc.dryReport <;> simp

/-- With the supply as it was and the pump off no WATER_DRY is reported (R96, R103). -/
theorem dryNow_of_unchanged {s : State} (hout : (waterStep s).watc.waterOut = s.watc.waterOut)
    (hduty : (waterFlow s).watc.duty = 0) : s.dryNow = false := by
  by_contra hnow
  rw [Bool.not_eq_false] at hnow
  have hwithdrawn := (waterStep_waterOut s).mpr (.inr (.inl hnow))
  obtain hprime | hrunsDry := Bool.or_eq_true_iff.mp hnow
  · rw [hout, supplied_of_primeWentDry hprime] at hwithdrawn
    exact absurd hwithdrawn (by simp)
  · have hholds := (Bool.and_eq_true_iff.mp hrunsDry).1
    simp [State.dryRunHolds, hduty] at hholds

/-- The dry-run and flow-loss timers after a water step (R102, R103, R104). -/
theorem waterStep_timers (s : State) :
    ((waterStep s).watc.waterOut ≠ s.watc.waterOut → (waterStep s).watc.dryRun = none ∧ (waterStep s).watc.flowLoss = none) ∧
    ((waterStep s).watc.waterOut = s.watc.waterOut → (waterStep s).watc.duty = (waterFlow s).watc.duty ∧
      (waterStep s).watc.dryRun = timerFollow 3000 20 (decide (s.modc.phase ≠ .priming ∧ s.watc.flowLossFlag = false ∧
        0 < (waterStep s).watc.duty ∧ (waterStep s).watc.qMeas * 10 < (waterStep s).watc.qCmd)) s.watc.dryRun ∧
      (waterStep s).watc.flowLoss = timerFollow 1000 20 (decide (s.valid .flow = false ∧ 0 < (waterStep s).watc.duty ∧
        500 ≤ (waterStep s).watc.qCmd)) s.watc.flowLoss) := by
  obtain ⟨hwatc, hout, -⟩ | ⟨hwatc, hsupplied, -⟩ := waterStep_watc s
  · refine ⟨fun h => absurd hout h, fun _ => ?_⟩
    have hdry : (waterFlow s).dryRunHolds = decide (s.modc.phase ≠ .priming ∧ s.watc.flowLossFlag = false ∧
        0 < (waterFlow s).watc.duty ∧ (waterFlow s).watc.qMeas * 10 < (waterFlow s).watc.qCmd) := by
      have hmodc : (waterFlow s).modc = s.modc := (waterFlow_sameBut s).same .modc rfl
      simp [State.dryRunHolds, State.priming, hmodc, (waterFlow_standing s).2.2.1, Bool.and_assoc]
    have hflow : (waterFlow s).flowLossHolds = decide (s.valid .flow = false ∧ 0 < (waterFlow s).watc.duty ∧
        500 ≤ (waterFlow s).watc.qCmd) := by
      simp [State.flowLossHolds, State.valid_congr (waterFlow_captures s), Bool.and_assoc]
    rw [hwatc, watched_watc, hdry, hflow]
    exact ⟨rfl, rfl, rfl⟩
  · refine ⟨fun _ => ?_, fun h => ?_⟩
    · rw [hwatc]
      exact ⟨rfl, rfl⟩
    · rw [hwatc, hsupplied] at h
      exact absurd h (by simp [withdrawn])

/-- Settles O54. -/
theorem waterStepDosesTheWater : Obligations.WaterStepDosesTheWater := by
  intro s hrun
  obtain ⟨hlevel, hknown, -, hmeas, havail, hdem, htankLoss, hoverride, hmask⟩ := watched_readings s
  obtain ⟨tlevel, tknown, tempty⟩ := watched_tank s
  obtain ⟨-, hopen, htrim, hduty, hdutyFlow, -⟩ := watched_dosing s
  obtain ⟨hpriming, hspray, hnone, hcommand⟩ := watched_command s
  obtain ⟨hidle, -⟩ := watched_prime s
  obtain ⟨klevel, kknown, kempty, kmeas, kdem, kprimeTimer, kprimeHold, ktankLoss, kflowFlag, kdryReport, koverride, kmask⟩ :=
    waterStep_kept s
  obtain ⟨hwords, hmodc, hsame⟩ := waterStep_frame s
  obtain ⟨atank, aempty, aflow, adry⟩ := waterStep_isActive s
  have hsupply := waterTank_supply s
  have houtputs := waterStep_outputs s
  have hcase := waterStep_watc s
  have htankEmpty := waterTank_tankEmpty s
  rw [tlevel, tknown, tempty, ← klevel, ← kknown, ← kempty] at hsupply htankEmpty
  refine ⟨waterStep s, atStep_of_running hrun, ?_, ?_, ?_, ?_, htankEmpty.1, htankEmpty.2, ?_, ?_, ?_, ?_, ?_, ?_, ?_, ?_, ?_, ?_,
    ?_, ?_, ?_, ?_, ?_, ?_, ?_, ?_, ?_, ?_, ?_, ?_, ?_, ?_, ?_, hwords, hsame, ?_⟩
  · rw [kdem, hdem]
    rfl
  · intro hzero
    rw [kdem, hdem]
    obtain h | h | h := hzero <;> simp [flowDemand, sat16, h]
  · rw [klevel, hlevel]
  · rw [kknown, hknown]
  · rw [kmeas, hmeas]
  · obtain ⟨hwatc, hout, -⟩ | ⟨hwatc, -, -⟩ := hcase
    · rw [hout, ← hsupply, hwatc, havail]
    · rw [hwatc]
      rfl
  · obtain ⟨hwatc, -⟩ | ⟨hwatc, -⟩ := hcase
    · rw [hwatc]
      exact hcommand
    · rw [hwatc]
      exact Nat.le_refl 0
  · obtain ⟨hwatc, -⟩ | ⟨hwatc, -⟩ := hcase
    · rw [hwatc, havail]
      exact State.supply_le (waterTank s)
    · rw [hwatc]
      exact Nat.zero_le _
  · intro hmode hphase
    rw [hmodc] at hmode hphase
    obtain ⟨hwatc, -⟩ | ⟨hwatc, -⟩ := hcase
    · rw [hwatc]
      exact hpriming hmode hphase
    · rw [hwatc]
      simp [withdrawn, stopSpray]
  · intro hmode
    rw [hmodc] at hmode
    obtain ⟨hwatc, -⟩ | ⟨hwatc, -⟩ := hcase
    · rw [hwatc]
      exact hspray hmode
    · rw [hwatc]
      simp [withdrawn, stopSpray]
  · intro hmode hphase
    rw [hmodc] at hmode hphase
    obtain ⟨hwatc, -⟩ | ⟨hwatc, -⟩ := hcase
    · rw [hwatc]
      exact hnone hmode hphase
    · rw [hwatc]
      rfl
  · obtain ⟨hwatc, -⟩ | ⟨hwatc, -⟩ := hcase
    · rw [hwatc]
      exact hopen
    · rw [hwatc]
      rfl
  · obtain ⟨hwatc, -⟩ | ⟨hwatc, -⟩ := hcase
    · rw [hwatc]
      exact htrim
    · rw [hwatc]
      rfl
  · obtain ⟨hwatc, -⟩ | ⟨hwatc, -⟩ := hcase
    · rw [hwatc]
      exact hduty
    · rw [hwatc]
      rfl
  · intro hphase
    obtain ⟨hstatus, htimer, hhold⟩ := hidle hphase
    rw [kprimeTimer, kprimeHold]
    refine ⟨?_, htimer, hhold⟩
    obtain ⟨hwatc, -⟩ | ⟨hwatc, -⟩ := hcase
    · rw [hwatc, hstatus]
    · rw [hwatc]
      simp [withdrawn, stopSpray, hstatus]
  · intro going hphase hgoing
    obtain ⟨hfromIdle, hrunning, hended⟩ := waterStep_prime hphase hgoing
    refine ⟨hfromIdle, fun q hwas hq => ?_, hended⟩
    rw [hq, ← hsupply, kmeas, hmeas]
    exact hrunning hwas
  · rw [atank]
    cases hvalid : s.valid .tank <;> simp [State.tankLostNow, hvalid]
  · rw [aempty, tempty, ← kempty]
    cases s.watc.tankEmpty <;> cases (waterStep s).watc.tankEmpty <;> simp
  · exact (waterStep_flowSensor s).1
  · intro lostNow hvalid hlost
    rw [hlost, ← Bool.and_eq_true_iff]
    exact (waterStep_flowSensor s).2 hvalid
  · intro dryNow hdry
    rw [hdry, ← s.dryNow_iff]
    refine ⟨(waterStep_waterDry s).1, (waterStep_waterDry s).2, ?_⟩
    rw [waterStep_waterOut]
    simp [State.tankLostNow]
  · rw [ktankLoss, htankLoss]
  · exact (waterStep_timers s).1
  · exact fun hout => ((waterStep_timers s).2 hout).2
  · intro hreport hout hoff
    have hduty := ((waterStep_timers s).2 hout).1.symm.trans hoff
    have hnow := dryNow_of_unchanged hout hduty
    rw [adry, (waterStep_flags s).2.1]
    simp [hnow, hduty, hreport]
  · intro hkept hactive
    refine (waterStep_waterDry s).1.mpr ⟨.inl hactive, ?_⟩
    rintro ⟨hreport, hoff⟩
    obtain hnone | hon := hkept
    · exact absurd hreport (by simp [hnone])
    · obtain ⟨hwatc, -⟩ | ⟨hwatc, -⟩ := hcase
      · rw [hwatc, hdutyFlow, hoff] at hon
        exact absurd hon (Nat.lt_irrefl 0)
      · rw [hwatc] at hon
        exact absurd hon (Nat.lt_irrefl 0)
  · rw [koverride, hoverride]
  · rw [kmask, hmask]
  · rw [houtputs]
  · rw [OutputsOnly, houtputs]

end Sys2Proof.Machine

namespace Sys2Proof.Machine

/-! ### The end of one open order by its owning block (R149) -/

/-- The test of a completion notice on an entry (R149). -/
def Entry.answers (target : Target) (slot : Nat) (time : BitVec 32) (e : Entry) : Bool :=
  decide (e.target = target ∧ e.slot = slot ∧ e.takeTime = time)

/-- A completion notice's test in its three parts. -/
theorem Entry.answers_iff {target : Target} {slot : Nat} {time : BitVec 32} {e : Entry} :
    e.answers target slot time = true ↔ e.target = target ∧ e.slot = slot ∧ e.takeTime = time := decide_eq_true_iff

/-- Two open orders on one target are one (R148). -/
theorem eq_of_target_eq {es : List Entry} (hnodup : (es.map fun x => x.target).Nodup) {e x : Entry} (he : e ∈ es) (hx : x ∈ es)
    (h : x.target = e.target) : x = e :=
  List.inj_on_of_nodup_map hnodup hx he h

/-- A completion notice ends the entry it names (R149). -/
theorem completionNotice_of_mem {s : State} {e : Entry} {target : Target} {slot : Nat} {time : BitVec 32} (r : Result) (detail : Nat)
    (hnodup : (s.orders.entries.map fun x => x.target).Nodup) (he : e ∈ s.orders.entries) (h : e.answers target slot time = true) :
    completionNotice target slot time r detail s = endEntry e r detail s := by
  have hfound : (s.orders.entries.find? fun e => decide (e.target = target ∧ e.slot = slot ∧ e.takeTime = time)) = some e := by
    cases hfind : s.orders.entries.find? fun e => decide (e.target = target ∧ e.slot = slot ∧ e.takeTime = time) with
    | none => exact absurd h (List.find?_eq_none.mp hfind e he)
    | some x =>
      have hx := Entry.answers_iff.mp (List.find?_some hfind)
      rw [eq_of_target_eq hnodup he (List.mem_of_find?_eq_some hfind) (hx.1.trans (Entry.answers_iff.mp h).1.symm)]
  rw [completionNotice, hfound]

/-- A completion notice that names no entry is discarded (R149). -/
theorem completionNotice_of_none {s : State} {target : Target} {slot : Nat} {time : BitVec 32} (r : Result) (detail : Nat)
    (h : ∀ e ∈ s.orders.entries, ¬(e.target = target ∧ e.slot = slot ∧ e.takeTime = time)) :
    completionNotice target slot time r detail s = s := by
  have hfound : (s.orders.entries.find? fun e => decide (e.target = target ∧ e.slot = slot ∧ e.takeTime = time)) = none :=
    List.find?_eq_none.mpr fun e he => by simpa using h e he
  rw [completionNotice, hfound]

/-- An ended order leaves the list (R149, R152). -/
theorem endEntry_leaves (e : Entry) (r : Result) (detail : Nat) (s : State) : EntryLeaves e s (endEntry e r detail s) := by
  refine ⟨fun x => ?_, by simp, endEntry_stall e r detail s⟩
  rw [endEntry_entries, List.mem_filter, decide_eq_true_iff]

/-- The end of an order whose slot is still TAKEN (R149). -/
theorem endEntry_ends {e : Entry} {s : State} (r : Result) (detail : Nat) (htaken : s.owner e.slot = ownerTaken)
    (hslot : e.slot < 32) (hwf : s.xmemWf) : OrderEnds e r detail s (endEntry e r detail s) := by
  refine ⟨⟨endEntry_slotResult r detail hwf hslot htaken, fun a ha => xread_endEntry r detail fun _ => ha⟩,
    endEntry_leaves e r detail s, ?_, ?_⟩
  · rw [DoneNotified, endEntry_port, HostPort.notifyDone_orderDone, State.notifies, decide_eq_true htaken, Bool.and_true]
  · rw [endEntry_orphans, if_pos htaken]

/-- The end of an order whose slot the host has written (R149). -/
theorem endEntry_orphaned {e : Entry} {s : State} (r : Result) (detail : Nat) (hlost : s.owner e.slot ≠ ownerTaken) :
    OrderOrphaned e s (endEntry e r detail s) := by
  refine ⟨?_, ?_, endEntry_leaves e r detail s, ?_⟩
  · rw [endEntry_of_lost r detail hlost]
    simp
  · rw [endEntry_of_lost r detail hlost]
    simp
  · rw [endEntry_orphans, if_neg hlost]

/-- A completion notice in its three cases (R149). -/
theorem completionNotice_taken (target : Target) (slot : Nat) (time : BitVec 32) (r : Result) (detail : Nat) (s : State) :
    NoticeTaken target slot time r detail s (completionNotice target slot time r detail s) := by
  refine ⟨fun e h => ?_, fun e h => ?_, fun h => ?_⟩
  · obtain ⟨he, htarget, hslot, htime, htaken, hrange, hnodup, hwf⟩ := h
    rw [completionNotice_of_mem r detail hnodup he (Entry.answers_iff.mpr ⟨htarget, hslot, htime⟩)]
    exact endEntry_ends r detail htaken hrange hwf
  · obtain ⟨he, htarget, hslot, htime, hlost, hnodup⟩ := h
    rw [completionNotice_of_mem r detail hnodup he (Entry.answers_iff.mpr ⟨htarget, hslot, htime⟩)]
    exact endEntry_orphaned r detail hlost
  · rw [completionNotice_of_none r detail h]
    exact ⟨rfl, rfl, rfl⟩

/-- What a completion reads of the state: exchange memory, the list, the clock and ORDER_DONE. -/
structure State.SameForOrders (s u : State) : Prop where
  xmem : u.xmem = s.xmem
  orders : u.orders = s.orders
  clock : u.tma.clock = s.tma.clock
  done : u.port.pendingSet.getLsbD 0 = s.port.pendingSet.getLsbD 0

/-- The owner of a slot is a word of exchange memory. -/
theorem owner_congr {s u : State} (h : u.xmem = s.xmem) (slot : Nat) : u.owner slot = s.owner slot :=
  xread_congr h (slotBase slot)

/-- Canonical form is a matter of exchange memory alone. -/
theorem xmemWf_congr {s u : State} (h : u.xmem = s.xmem) (hwf : s.xmemWf) : u.xmemWf := by
  unfold State.xmemWf
  rw [h]
  exact hwf

/-- An order that can be ended can be ended in a state that is the same for the orders. -/
theorem State.openTaken.before {s u : State} (h : s.SameForOrders u) {e : Entry} {target : Target} {slot : Nat} {time : BitVec 32}
    (he : s.openTaken e target slot time) : u.openTaken e target slot time := by
  obtain ⟨hmem, htarget, hslot, htime, htaken, hrange, hnodup, hwf⟩ := he
  refine ⟨?_, htarget, hslot, htime, ?_, hrange, ?_, xmemWf_congr h.xmem hwf⟩
  · rw [h.orders]
    exact hmem
  · rw [owner_congr h.xmem, htaken]
  · rw [h.orders]
    exact hnodup

/-- A lost order is lost in a state that is the same for the orders. -/
theorem State.openLost.before {s u : State} (h : s.SameForOrders u) {e : Entry} {target : Target} {slot : Nat} {time : BitVec 32}
    (he : s.openLost e target slot time) : u.openLost e target slot time := by
  obtain ⟨hmem, htarget, hslot, htime, hlost, hnodup⟩ := he
  refine ⟨?_, htarget, hslot, htime, ?_, ?_⟩
  · rw [h.orders]
    exact hmem
  · rw [owner_congr h.xmem]
    exact hlost
  · rw [h.orders]
    exact hnodup

/-- The end of an order seen from an earlier state that is the same for the orders. -/
theorem OrderEnds.before {s u t : State} (h : s.SameForOrders u) {e : Entry} {r : Result} {detail : Nat}
    (hends : OrderEnds e r detail u t) : OrderEnds e r detail s t := by
  obtain ⟨⟨hslot, hwords⟩, ⟨hentries, hcursor, hstall⟩, hdone, horphans⟩ := hends
  rw [State.since, h.clock] at hslot
  rw [h.orders] at hentries hcursor hstall horphans
  rw [DoneNotified, h.done] at hdone
  exact ⟨⟨hslot, fun a ha => (hwords a ha).trans (xread_congr h.xmem a)⟩, ⟨hentries, hcursor, hstall⟩, hdone, horphans⟩

/-- A notice taken seen from an earlier state that is the same for the orders and in its host port. -/
theorem NoticeTaken.before {s u t : State} (h : s.SameForOrders u) (hport : u.port = s.port) {target : Target} {slot : Nat}
    {time : BitVec 32} {r : Result} {detail : Nat} (hnotice : NoticeTaken target slot time r detail u t) :
    NoticeTaken target slot time r detail s t := by
  obtain ⟨hends, hlost, hnone⟩ := hnotice
  refine ⟨fun e he => (hends e (he.before h)).before h, fun e he => ?_, fun habsent => ?_⟩
  · obtain ⟨hxmem, hp, hleaves, horphans⟩ := hlost e (he.before h)
    rw [EntryLeaves, h.orders] at hleaves
    rw [h.orders] at horphans
    exact ⟨hxmem.trans h.xmem, hp.trans hport, hleaves, horphans⟩
  · rw [h.orders, h.xmem, hport] at hnone
    exact hnone habsent

/-- A completion notice touches exchange memory, the order unit and the host port alone (R149). -/
theorem completionNotice_sameBut (target : Target) (slot : Nat) (time : BitVec 32) (r : Result) (detail : Nat) (s : State) :
    SameBut [.xmem, .orders, .port] s (completionNotice target slot time r detail s) := by
  intro b
  cases b <;> simp [Block.same]

/-! ### The page writes of a store and the fetch (R169, R170) -/

/-- The loader at rest after an order (R169, R170). -/
def CalLoader.finished (c : CalLoader) : CalLoader := { c with op := .idle, pageTimer := none, link := none, order := none }

/-- The end of the loader's operation is a completion notice on STORE (R149, R169, R170). -/
theorem finishStore_of_order {s : State} {slot : Nat} {time : BitVec 32} (r : Result) (detail : Nat)
    (h : s.cal.order = some (slot, time)) :
    finishStore r detail s = completionNotice .store slot time r detail (s.setCal s.cal.finished) := by
  unfold finishStore
  rw [h]
  rfl

/-- The end of the loader's operation: the notice, the loader at rest, and nothing else (R149). -/
theorem finishStore_taken {s u : State} {slot : Nat} {time : BitVec 32} (r : Result) (detail : Nat) (h : s.cal.order = some (slot, time))
    (hcal : u.cal = s.cal) (hsame : u.SameForOrders s) (hport : s.port = u.port) :
    NoticeTaken .store slot time r detail u (finishStore r detail s) ∧ (finishStore r detail s).cal = u.cal.finished := by
  rw [finishStore_of_order r detail h, hcal]
  have hrest : u.SameForOrders (s.setCal s.cal.finished) := ⟨hsame.xmem, hsame.orders, hsame.clock, hsame.done⟩
  have hnotice := completionNotice_taken .store slot time r detail (s.setCal s.cal.finished)
  exact ⟨hnotice.before hrest hport, by simp⟩

/-- The end of the loader's operation touches the loader and what its notice touches (R149). -/
theorem finishStore_sameBut (r : Result) (detail : Nat) (s : State) :
    SameBut [.cal, .xmem, .orders, .port] s (finishStore r detail s) := by
  unfold finishStore
  dsimp only
  have hcal : SameBut [.cal] s (s.setCal s.cal.finished) := by
    intro b
    cases b <;> simp [Block.same]
  split
  · exact hcal.comp (completionNotice_sameBut _ _ _ _ _ _) (by decide) (by decide)
  · exact hcal.mono (by decide)

/-- The device after its internal write (R166, R169). -/
theorem Eeprom.ready_of_inFlight {e : Eeprom} {base : Nat} {ws : List Word} (h : e.inFlight = some (base, ws)) :
    e.ready = { e with cells := Memory.writeList 0xFFFF e.cells base ws, inFlight := none, writeTime := none } := by
  unfold Eeprom.ready
  rw [h]

/-- With nothing in flight the device stands (R166). -/
theorem Eeprom.ready_inFlight (e : Eeprom) : e.ready.inFlight = none := by
  unfold Eeprom.ready
  split
  · assumption
  · rfl

/-- A page that is ready leaves the device with the page's words (R166). -/
theorem pageReady_eeprom (s : State) : (pageReady s).eeprom = s.eeprom.ready ∧ (pageReady s).freeReads = s.freeReads := by
  unfold pageReady
  dsimp only
  split
  · split <;> simp
  · simp

/-- The words of the device after its internal write (R169, R171). -/
theorem Eeprom.word_ready {e : Eeprom} {base : Nat} {ws : List Word} (free a : Nat) (h : e.inFlight = some (base, ws))
    (hfitted : e.fitted = true) (hwf : Memory.wf 0xFFFF Config.eepromWords e.cells = true) :
    e.ready.word free a = if base ≤ a ∧ a < base + ws.length then ws.getD (a - base) 0 else e.word free a := by
  have hrising : Memory.rising 0 e.cells = true := by
    simp only [Memory.wf, Bool.and_eq_true] at hwf
    exact hwf.1
  have hready : e.ready.word free a = Memory.read 0xFFFF (Memory.writeList 0xFFFF e.cells base ws) a := by
    rw [Eeprom.ready_of_inFlight h]
    simp [Eeprom.word, Eeprom.inFlightAt, hfitted]
  rw [hready]
  split
  · next hin =>
    obtain ⟨i, rfl⟩ := Nat.exists_eq_add_of_le hin.1
    rw [memory_read_writeList_same _ _ _ _ _ hrising (by omega), Nat.add_sub_cancel_left]
    have hi : i < ws.length := by omega
    simp [List.getD_eq_getElem?_getD, hi]
  · next hout =>
    have hflight : e.inFlightAt a = false := by
      rw [Eeprom.inFlightAt, h]
      simpa using hout
    rw [memory_read_writeList_other _ _ _ _ _ (by omega), Eeprom.word, hflight, hfitted]
    rfl

/-- The page that a page write begins at (R169). -/
theorem pageBase_eq (page : Nat) : 16 * pageOfWrite page = if page = 33 then 0 else 16 * page := by
  unfold pageOfWrite
  split <;> rfl

/-- The words of a page write (R169). -/
theorem pageWords_eq (buffer : List Word) (page : Nat) : pageWords buffer page =
    if page = 0 then (buffer.take 16).set 1 0 else (buffer.drop (if page = 33 then 0 else 16 * page)).take 16 := by
  unfold pageWords
  rw [pageBase_eq]
  by_cases hpage : page = 0
  · simp [hpage, word]
  · simp [hpage]

/-- A ready page of a store that polls, before the last (R169). -/
theorem pageReady_next {s : State} (hop : s.cal.op = .storing) (htimer : s.cal.pageTimer ≠ none) (hpage : s.cal.page < 33) :
    pageReady s = (s.setEeprom s.eeprom.ready).setCal { s.cal with page := s.cal.page + 1, pageTimer := none, link := some 0 } := by
  unfold pageReady
  rw [if_pos ⟨hop, htimer⟩, if_neg hpage.not_ge]

/-- A ready page of a store that polls, the last (R169). -/
theorem pageReady_last {s : State} (hop : s.cal.op = .storing) (htimer : s.cal.pageTimer ≠ none) (hpage : s.cal.page = 33) :
    pageReady s = finishStore .ok 0 (s.setEeprom s.eeprom.ready) := by
  unfold pageReady
  rw [if_pos ⟨hop, htimer⟩, if_pos hpage.ge]

/-- A ready page with no store polling (R171). -/
theorem pageReady_unpolled {s : State} (h : s.cal.op ≠ .storing ∨ s.cal.pageTimer = none) :
    pageReady s = s.setEeprom s.eeprom.ready := by
  unfold pageReady
  rw [if_neg (by tauto)]

/-- Settles O40. -/
theorem storePagesCompleteTheOrder : Obligations.StorePagesCompleteTheOrder := by
  intro s hreset
  have heeprom : SameBut [.eeprom] s (s.setEeprom s.eeprom.ready) := by
    intro b
    cases b <;> simp [Block.same]
  refine ⟨fun hop htimer => ?_, fun base ws hflight hfitted hinv => ?_, fun hop htimer hpage => ?_, fun slot time hop horder => ?_⟩
  · refine ⟨_, 16 * pageOfWrite s.cal.page, pageWords s.cal.buffer s.cal.page,
      (live_of_high hreset).trans (congrArg _ (if_pos ⟨hop, htimer⟩)), rfl, pageBase_eq _, ?_, rfl, ?_⟩
    · rw [pageBase_eq]
      exact pageWords_eq _ _
    · intro b
      cases b <;> simp [Block.same]
  · obtain ⟨-, hcells, -, -⟩ := hinv
    obtain ⟨hready, hfree⟩ := pageReady_eeprom s
    refine ⟨_, live_of_high hreset, fun a _ => ?_, ?_, fun hidle => ?_⟩
    · rw [hready, hfree]
      exact Eeprom.word_ready _ a hflight hfitted hcells
    · rw [hready, Eeprom.ready_of_inFlight hflight]
    · rw [pageReady_unpolled hidle]
      exact heeprom
  · refine ⟨_, (live_of_high hreset).trans (congrArg _ (pageReady_next hop htimer hpage)), rfl, Eeprom.ready_inFlight _, ?_⟩
    intro b
    cases b <;> simp [Block.same]
  · refine ⟨fun htimer hpage => ?_, fun hdue => ?_⟩
    · obtain ⟨hnotice, hcal⟩ := finishStore_taken (u := s) .ok 0 (s := s.setEeprom s.eeprom.ready) horder rfl ⟨rfl, rfl, rfl, rfl⟩ rfl
      refine ⟨_, (live_of_high hreset).trans (congrArg _ (pageReady_last hop htimer hpage)), hnotice, hcal, ?_,
        heeprom.comp (finishStore_sameBut _ _ _) (by decide) (by decide)⟩
      rw [finishStore_eeprom]
      exact Eeprom.ready_inFlight _
    · obtain ⟨hnotice, hcal⟩ := finishStore_taken (u := s) .failed s.cal.page horder rfl ⟨rfl, rfl, rfl, rfl⟩ rfl
      exact ⟨_, (live_of_high hreset).trans (congrArg _ (if_pos ⟨hop, hdue⟩)), hnotice, hcal, finishStore_sameBut _ _ _⟩

end Sys2Proof.Machine

namespace Sys2Proof.Machine

/-! ### A fetch whose order names no slot of the strip (R149, R170)

FETCH_READ_DONE fills the calibration area before its order ends. The statement asks for the area's 512 words in every state, also one
whose open order on STORE names a slot beyond the strip: the owner word of such a slot can be a word of the area, and then the end
of the order writes DONE over it. -/

/-- An end of the loader's order on a slot beyond the strip whose owner word, in the area, reads TAKEN (R149). -/
theorem owner_finishStore {s : State} {e : Entry} (hentries : s.orders.entries = [e]) (htarget : e.target = .store)
    (horder : s.cal.order = some (e.slot, e.takeTime)) (hwf : s.xmemWf) (hrange : slotBase e.slot < 8192)
    (howner : s.owner e.slot = ownerTaken) (r : Result) (detail : Nat) : (finishStore r detail s).owner e.slot = ownerDone := by
  rw [finishStore_of_order r detail horder]
  generalize hu : s.setCal s.cal.finished = u
  have hxmem : u.xmem = s.xmem := by rw [← hu]; rfl
  have hlist : u.orders.entries = [e] := by rw [← hu]; exact hentries
  rw [completionNotice_of_mem r detail (by rw [hlist]; simp) (by rw [hlist]; simp) (Entry.answers_iff.mpr ⟨htarget, rfl, rfl⟩),
    endEntry_of_taken r detail (by rw [owner_congr hxmem, howner])]
  rw [State.owner, xread_removeEntry, xread_writeResult]
  exact xread_xwrite_same _ _ _ (xwriteList_xmemWf _ _ _ (xmemWf_congr hxmem hwf)) hrange

/-- A fetch of a VALID image fills the area and then ends its order (R170). -/
theorem fetchDone_of_valid {s : State} (hop : s.cal.op = .fetching) (h : classifyImage (s.eeprom.image s.freeReads) = .valid) :
    fetchDone s = finishStore .ok 0 (writeArea (imageCalibration (s.eeprom.image s.freeReads))
      ((s.setFreeReads (s.freeReads + 1)).setCal { s.cal with buffer := s.eeprom.image s.freeReads })) := by
  have hread : readImage s = (.valid, s.eeprom.image s.freeReads) := by rw [readImage, h]
  unfold fetchDone
  rw [if_pos hop, hread]
  generalize s.eeprom.image s.freeReads = image
  rfl

/-- A device whose first 515 words were written reads them back (R165). -/
theorem image_of_writeList {e : Eeprom} {image : List Word} (free : Nat) (hfitted : e.fitted = true) (hflight : e.inFlight = none)
    (hcells : e.cells = Memory.writeList 0xFFFF [] 0 image) (hlength : image.length = 515) : e.image free = image := by
  refine List.ext_getElem (by simp [hlength]) fun i _ hi => ?_
  have hread := memory_read_writeList_same 0xFFFF [] 0 i image rfl hi
  simpa [Eeprom.image, Eeprom.word, Eeprom.inFlightAt, hfitted, hflight, hcells, hi] using hread

/-- The defaults with the value of TAKEN in one of the words that no check reads (R164). -/
def strayCalibration : List Word := defaultCalibration.set 144 ownerTaken

/-- An open order on a slot beyond the strip, its owner word at word 144 of the calibration area. -/
def strayEntry : Entry where
  slot := 73
  kind := 14
  tag := 0
  target := .store
  takeTime := 0
  params := ⟨0, 0, 0, 0, 0, 0, 0, 0⟩
  notify := 0
  depth := 0

/-- A device that holds an image. -/
def deviceWith (image : List Word) : Eeprom where
  fitted := true
  works := true
  cells := Memory.writeList 0xFFFF [] 0 image
  inFlight := none
  writeTime := none

/-- A fetch for that order at a device that holds an image. -/
def strayFetch (image : List Word) : State :=
  ((State.reset.setOrders { cursor := 0, entries := [strayEntry], stall := false, orphans := 0 }).setCal
    { resetCalLoader with op := .fetching, order := some (73, 0) }).setEeprom (deviceWith image)

/-- The image of the stray calibration is VALID (R165). -/
theorem strayImage_valid : classifyImage (buildImage strayCalibration) = .valid := by decide +kernel

/-- The image of the stray calibration has 515 words. -/
theorem strayImage_length : (buildImage strayCalibration).length = 515 := by decide +kernel

/-- The word of the stray image that is written over. -/
theorem strayImage_word : (buildImage strayCalibration).getD 146 0 = ownerTaken := by decide +kernel

/-- The order's end writes DONE into the area that the fetch has filled (R149, R170). -/
theorem owner_strayFetch {image : List Word} (hlength : image.length = 515) (hvalid : classifyImage image = .valid)
    (hword : image.getD 146 0 = ownerTaken) : (fetchDone (strayFetch image)).xread (1024 + 144) = ownerDone := by
  have himage : (strayFetch image).eeprom.image (strayFetch image).freeReads = image :=
    image_of_writeList (e := deviceWith image) _ rfl rfl rfl hlength
  rw [fetchDone_of_valid rfl (by rw [himage]; exact hvalid), himage]
  have hcalibration : (imageCalibration image).length = 512 := by simp [imageCalibration, hlength]
  have htaken : (imageCalibration image).getD 144 0 = ownerTaken := by
    rw [← hword]
    simp [imageCalibration, List.getD_eq_getElem?_getD]
  generalize imageCalibration image = ws at hcalibration htaken
  generalize hread : ((strayFetch image).setFreeReads ((strayFetch image).freeReads + 1)).setCal
    { (strayFetch image).cal with buffer := image } = u
  have hentries : u.orders.entries = [strayEntry] := by rw [← hread]; rfl
  have horder : u.cal.order = some (strayEntry.slot, strayEntry.takeTime) := by rw [← hread]; rfl
  have hwf : u.xmemWf := by rw [← hread]; exact resetMemory_wf
  refine owner_finishStore (e := strayEntry) ?_ rfl ?_ (xwriteList_xmemWf _ _ _ hwf) (by decide) ?_ _ _
  · simpa [writeArea] using hentries
  · simpa [writeArea] using horder
  · rw [← htaken]
    exact xread_xwriteList_same 1024 144 ws u hwf (by omega) (by omega)

/-- Refutes O41: the fetch of `strayFetch` leaves DONE in word 144 of the calibration area, where the image has TAKEN. -/
theorem not_fetchFillsTheAreaOrFails : ¬ Obligations.FetchFillsTheAreaOrFails := by
  intro h
  have hlength := strayImage_length
  have hvalid := strayImage_valid
  have hword := strayImage_word
  generalize buildImage strayCalibration = image at hlength hvalid hword
  have himage : (strayFetch image).eeprom.image (strayFetch image).freeReads = image :=
    image_of_writeList (e := deviceWith image) _ rfl rfl rfl hlength
  obtain ⟨t, hexec, harea, -⟩ := (h (strayFetch image) 73 0 rfl rfl rfl).1 (by rw [himage]; exact hvalid) resetMemory_wf
  have hfilled := harea 144 (by decide)
  have ht : fetchDone (strayFetch image) = t := Host.Outcome.next.inj ((live_of_high rfl).symm.trans hexec)
  rw [himage, hword, ← ht, owner_strayFetch hlength hvalid hword] at hfilled
  exact absurd hfilled (by decide)

end Sys2Proof.Machine

namespace Sys2Proof.Machine

/-! ### The end of the start-up load (R167) -/

/-- The calibration area filled with words, beside a new loader state (R167). -/
def filledArea (ws : List Word) (c : CalLoader) (s : State) : State :=
  writeArea ws ((s.setFreeReads (s.freeReads + 1)).setCal c)

/-- Filling the area changes exchange memory, the loader and the free counter alone (R167). -/
theorem filledArea_fields (ws : List Word) (c : CalLoader) (s : State) :
    (filledArea ws c s).cal = c ∧ (filledArea ws c s).port = s.port ∧ (filledArea ws c s).faults = s.faults ∧
      (filledArea ws c s).tma = s.tma ∧ (filledArea ws c s).modc = s.modc ∧ (filledArea ws c s).orders = s.orders := by
  simp [filledArea, writeArea]

/-- The words of the filled area (R167). -/
theorem filledArea_area {ws : List Word} (c : CalLoader) {s : State} (hwf : s.xmemWf) (hlength : ws.length = 512) {i : Nat}
    (hi : i < 512) : (filledArea ws c s).xread (1024 + i) = ws.getD i 0 :=
  xread_xwriteList_same 1024 i ws ((s.setFreeReads (s.freeReads + 1)).setCal c) hwf (by omega) (by omega)

/-- The words outside the filled area (R167). -/
theorem filledArea_words {ws : List Word} (c : CalLoader) (s : State) (hlength : ws.length = 512) :
    WordsKept 1024 512 s (filledArea ws c s) := fun a ha =>
  xread_xwriteList_other 1024 a ws ((s.setFreeReads (s.freeReads + 1)).setCal c) (by omega)

/-- The new wheel timeout touches the captures alone (R134). -/
theorem applyWheelTimeout_fields (s : State) : (applyWheelTimeout s).cal = s.cal ∧ (applyWheelTimeout s).port = s.port ∧
    (applyWheelTimeout s).faults = s.faults ∧ (applyWheelTimeout s).xmem = s.xmem ∧
    (applyWheelTimeout s).tma = { s.tma with captures := (applyWheelTimeout s).tma.captures } := ⟨rfl, rfl, rfl, rfl, rfl⟩

/-- The last stage of the load touches the loader alone (R167). -/
theorem loadEnds_fields (s : State) : (loadEnds s).xmem = s.xmem ∧ (loadEnds s).port = s.port ∧ (loadEnds s).faults = s.faults ∧
    (loadEnds s).tma = s.tma ∧ (loadEnds s).gov = s.gov ∧
    (loadEnds s).cal = { s.cal with loadDone := true, op := .idle, link := none } := ⟨rfl, rfl, rfl, rfl, rfl, rfl⟩

/-- A VALID image installed (R167). -/
theorem installImage_eq (image : List Word) (s : State) : installImage image s = applyWheelTimeout
    (filledArea (imageCalibration image) { s.cal with working := imageCalibration image, status := .fromStore, buffer := image } s) :=
  rfl

/-- The report of the defaults (R167). -/
def defaultedReport (detail : Nat) : Report := { kind := .calibrationDefaulted, source := .call, detail := detail }

/-- The defaults installed are the area filled and a note (R167). -/
theorem installDefaults_eq (o : ImageOutcome) (buffer : List Word) (s : State) : installDefaults o buffer s =
    takeReport (defaultedReport o.code)
      (filledArea defaultCalibration { s.cal with working := defaultCalibration, status := .defaults, buffer := buffer } s) :=
  reportBatch_of_note (r := defaultedReport o.code) (.inl rfl) _

/-- The start-up load of a VALID image (R165, R167, R134). -/
theorem loadedImage {s : State} {ws : List Word} {c : CalLoader} (hwf : s.xmemWf) (hlength : ws.length = 512)
    (hworking : c.working = ws) (t : State) (ht : t = loadEnds (applyWheelTimeout (filledArea ws c s))) :
    t.cal = { c with loadDone := true, op := .idle, link := none } ∧ (∀ i, i < 512 → t.xread (1024 + i) = ws.getD i 0) ∧
      t.faults = s.faults ∧ t.port = s.port ∧ t.tma = { s.tma with captures := t.tma.captures } ∧
      (∀ ch k, k = s.tma.captures.get ch → t.tma.captures.get ch =
        if (ch = .wheelA ∨ ch = .wheelB) ∧ k.state ≠ .noSignal ∧ (ws.getD 2 0).toNat * 1000 ≤ s.tma.micros - k.rise then
          { k with state := .noSignal, value := 0, count := 0 }
        else k) ∧ WordsKept 1024 512 s t := by
  obtain ⟨hcal, hport, hfaults, htma, -⟩ := filledArea_fields ws c s
  obtain ⟨hxmem, eport, efaults, etma, -, ecal⟩ := loadEnds_fields (applyWheelTimeout (filledArea ws c s))
  obtain ⟨wcal, wport, wfaults, wxmem, wtma⟩ := applyWheelTimeout_fields (filledArea ws c s)
  have hread (a : Nat) : t.xread a = (filledArea ws c s).xread a := by
    rw [ht]
    exact xread_congr (hxmem.trans wxmem) a
  refine ⟨by rw [ht, ecal, wcal, hcal], fun i hi => (hread _).trans (filledArea_area c hwf hlength hi), by rw [ht, efaults, wfaults, hfaults],
    by rw [ht, eport, wport, hport], ?_, fun ch k hk => ?_, fun a ha => (hread a).trans (filledArea_words c s hlength a ha)⟩
  · rw [ht, etma, wtma, htma]
  · rw [ht, etma, applyWheelTimeout_get, htma, State.wheelTimeout, State.calWord, hcal, hworking, ← hk]
    by_cases hwheel : ch = .wheelA ∨ ch = .wheelB
    · simp only [hwheel, if_true, true_and, expireWheel]
    · simp only [hwheel, if_false, false_and]

/-- The start-up load of the defaults (R165, R167). -/
theorem loadedDefaults {s : State} {ws : List Word} {c : CalLoader} (hwf : s.xmemWf) (hlength : ws.length = 512) (detail : Nat)
    (t : State) (ht : t = loadEnds (takeReport (defaultedReport detail) (filledArea ws c s))) :
    t.cal = { c with loadDone := true, op := .idle, link := none } ∧ (∀ i, i < 512 → t.xread (1024 + i) = ws.getD i 0) ∧
      t.tma = s.tma ∧ t.port = (if s.faults.primary.hold then s.port else s.port.raise .faultRec) ∧
      TookReport (defaultedReport detail) s t ∧
      (∀ a, a < 1024 ∨ 1536 ≤ a → a < 1792 ∨ 1827 ≤ a → t.xread a = s.xread a) := by
  obtain ⟨hcal, hport, hfaults, htma, hmodc, horders⟩ := filledArea_fields ws c s
  obtain ⟨hxmem, eport, efaults, etma, egov, ecal⟩ := loadEnds_fields (takeReport (defaultedReport detail) (filledArea ws c s))
  have hkept : (takeReport (defaultedReport detail) (filledArea ws c s)).cal = (filledArea ws c s).cal ∧
      (takeReport (defaultedReport detail) (filledArea ws c s)).tma = (filledArea ws c s).tma ∧
      (takeReport (defaultedReport detail) (filledArea ws c s)).gov = (filledArea ws c s).gov := by simp
  obtain ⟨kcal, ktma, kgov⟩ := hkept
  have hread (a : Nat) (ha : a < 1792 ∨ 1827 ≤ a) : t.xread a = (filledArea ws c s).xread a := by
    rw [ht, xread_congr hxmem]
    exact takeReport_wordsKept (defaultedReport detail) (filledArea ws c s) a ha
  refine ⟨by rw [ht, ecal, kcal, hcal], fun i hi => (hread _ (by omega)).trans (filledArea_area c hwf hlength hi),
    by rw [ht, etma, ktma, htma], ?_, ?_, fun a ha hb => (hread a hb).trans (filledArea_words c s hlength a ha)⟩
  · rw [ht, eport, takeReport_port, hport, hfaults]
    rfl
  · exact tookReport_of_faults (u := filledArea ws c s) (by rw [ht, efaults]) hfaults hmodc horders (by rw [htma])
      (by rw [ht, egov, kgov])

/-- Filling the area reaches exchange memory, the loader and the free counter alone (R167). -/
theorem filledArea_sameBut (ws : List Word) (c : CalLoader) (s : State) :
    SameBut [.xmem, .cal, .freeReads] s (filledArea ws c s) := by
  intro b
  cases b <;> simp [Block.same, filledArea, writeArea]

/-- The blocks that a start-up load reaches (R167). -/
theorem loaded_sameBut (ws : List Word) (c : CalLoader) (detail : Nat) (s : State) :
    SameBut [.xmem, .cal, .faults, .port, .tma, .freeReads] s (loadEnds (applyWheelTimeout (filledArea ws c s))) ∧
      SameBut [.xmem, .cal, .faults, .port, .tma, .freeReads] s
        (loadEnds (takeReport (defaultedReport detail) (filledArea ws c s))) := by
  have hfilled := filledArea_sameBut ws c s
  have hends (u : State) : SameBut [.cal] u (loadEnds u) := by
    intro b
    cases b <;> simp [Block.same, loadEnds]
  have hwheel (u : State) : SameBut [.tma] u (applyWheelTimeout u) := by
    intro b
    cases b <;> simp [Block.same, applyWheelTimeout]
  have himage := hfilled.comp (more := [.xmem, .cal, .faults, .port, .tma, .freeReads]) (hwheel _) (by decide) (by decide)
  have hdefaults := hfilled.comp (more := [.xmem, .cal, .faults, .port, .tma, .freeReads])
    (takeReport_sameBut (defaultedReport detail) _) (by decide) (by decide)
  exact ⟨himage.comp (hends _) (List.Subset.refl _) (by decide), hdefaults.comp (hends _) (List.Subset.refl _) (by decide)⟩

/-- The words that a start-up load installs (R165, R167). -/
def State.loadedWords (s : State) : List Word :=
  if classifyImage (s.eeprom.image s.freeReads) = .valid then imageCalibration (s.eeprom.image s.freeReads) else defaultCalibration

/-- The loader that a start-up load leaves, its words given (R167). -/
def State.loadedCal (s : State) (ws buffer : List Word) (status : CalStatus) : CalLoader :=
  { s.cal with working := ws, status := status, buffer := buffer }

/-- A start-up load of a VALID image, its words given (R167). -/
theorem startupLoad_image {s : State} {ws : List Word} (hop : s.cal.op = .loading)
    (hvalid : classifyImage (s.eeprom.image s.freeReads) = .valid) (hws : ws = s.loadedWords) :
    ∃ buffer, startupLoad s = loadEnds (applyWheelTimeout (filledArea ws (s.loadedCal ws buffer .fromStore) s)) := by
  have hread : readImage s = (.valid, s.eeprom.image s.freeReads) := by rw [readImage, hvalid]
  have hload := startupLoad_valid hop (by rw [hread])
  rw [hread, installImage_eq] at hload
  rw [State.loadedWords, if_pos hvalid] at hws
  exact ⟨s.eeprom.image s.freeReads, by rw [hload, hws, State.loadedCal]⟩

/-- A start-up load of the defaults, its words given (R167). -/
theorem startupLoad_fallback {s : State} {ws : List Word} (hop : s.cal.op = .loading)
    (hinvalid : classifyImage (s.eeprom.image s.freeReads) ≠ .valid) (hws : ws = s.loadedWords) :
    ∃ buffer, startupLoad s = loadEnds (takeReport (defaultedReport (classifyImage (s.eeprom.image s.freeReads)).code)
      (filledArea ws (s.loadedCal ws buffer .defaults) s)) := by
  have hread : readImage s = (classifyImage (s.eeprom.image s.freeReads), s.eeprom.image s.freeReads) := by rw [readImage]
  have hother : (readImage s).1 ≠ .valid := by
    rw [hread]
    simpa only using hinvalid
  have hload := startupLoad_defaults hop hother
  rw [hread, installDefaults_eq] at hload
  rw [State.loadedWords, if_neg hinvalid] at hws
  exact ⟨_, by rw [hload, hws, State.loadedCal]⟩

/-- The loaded words are 512 (R165). -/
theorem State.loadedWords_length (s : State) : s.loadedWords.length = 512 := by
  unfold State.loadedWords
  split
  · simp [imageCalibration]
  · exact defaultCalibration_validSet.1

/-- Settles O39. -/
theorem startupLoadEndsInAWorkingCalibration : Obligations.StartupLoadEndsInAWorkingCalibration := by
  intro s hreset
  refine ⟨fun hop => (live_of_high hreset).trans (congrArg _ (startupLoad_other hop)), fun hop hwf => ?_⟩
  obtain ⟨ws, hws⟩ : ∃ ws, ws = s.loadedWords := ⟨_, rfl⟩
  have hlength : ws.length = 512 := by
    rw [hws]
    exact s.loadedWords_length
  refine ⟨startupLoad s, ws, live_of_high hreset, hws, ?_⟩
  by_cases hvalid : classifyImage (s.eeprom.image s.freeReads) = .valid
  · obtain ⟨buffer, hstep⟩ := startupLoad_image hop hvalid hws
    obtain ⟨hcal, harea, hfaults, hport, htma, hcaptures, hwords⟩ :=
      loadedImage (c := s.loadedCal ws buffer .fromStore) hwf hlength rfl _ hstep
    have hframe := (loaded_sameBut ws (s.loadedCal ws buffer .fromStore) 0 s).1
    rw [← hstep] at hframe
    exact ⟨by rw [hcal]; rfl, by rw [hcal], by rw [hcal], harea, fun _ => ⟨by rw [hcal]; rfl, hfaults, hport, htma, hcaptures⟩,
      fun h => absurd hvalid h, fun a ha _ => hwords a ha, hframe⟩
  · obtain ⟨buffer, hstep⟩ := startupLoad_fallback hop hvalid hws
    obtain ⟨hcal, harea, htma, hport, htook, hwords⟩ :=
      loadedDefaults (c := s.loadedCal ws buffer .defaults) hwf hlength _ _ hstep
    have hframe := (loaded_sameBut ws (s.loadedCal ws buffer .defaults) (classifyImage (s.eeprom.image s.freeReads)).code s).2
    rw [← hstep] at hframe
    exact ⟨by rw [hcal]; rfl, by rw [hcal], by rw [hcal], harea, fun h => absurd h hvalid,
      fun _ => ⟨by rw [hcal]; rfl, htma, hport, htook⟩, hwords, hframe⟩

end Sys2Proof.Machine

namespace Sys2Proof.Machine

/-! ### Open orders ended one after another (R149)

`Ends` says of a pair of states what the ends of several open orders, each with its own result, do to the order unit, the slots and
ORDER_DONE. It composes, so the ends that a change of mode, a reaction or a step makes one after another are read off together. -/

/-- Open orders ended, as `ends` gives each its result: the list, the cursor, the stall flag, the orphans, ORDER_DONE, the slots, and no
word of exchange memory besides but those of `region`. -/
structure Ends (ends : Entry → Option (Result × Nat)) (region : Nat → Prop) (s t : State) : Prop where
  entries : t.orders.entries = s.orders.entries.filter fun e => (ends e).isNone
  cursor : t.orders.cursor = s.orders.cursor
  stall : t.orders.stall = (s.orders.stall &&
    s.orders.entries.all fun e => (ends e).isNone || decide (s.orders.cursor ≠ e.slot))
  orphans : t.orders.orphans =
    addOrphans (s.orders.entries.countP fun e => (ends e).isSome && decide (s.owner e.slot ≠ ownerTaken)) s.orders.orphans
  done : t.port.pendingSet.getLsbD 0 =
    (s.port.pendingSet.getLsbD 0 || s.orders.entries.any fun e => (ends e).isSome && s.notifies e)
  slots : ∀ e ∈ s.orders.entries, ∀ r d, ends e = some (r, d) → s.owner e.slot = ownerTaken →
    SlotResult e.slot r d e.depth s.tma.clock (s.since e.takeTime) t
  words : ∀ a, outsideEnded (fun e => (ends e).isSome) s a → ¬region a → t.xread a = s.xread a
  clock : t.tma.clock = s.tma.clock
  wf : s.xmemWf → t.xmemWf

/-- No word at all. -/
def noWord : Nat → Prop := fun _ => False

/-- The words of the fault area (section 12.6). -/
def faultWord : Nat → Prop := fun a => faultBase ≤ a ∧ a < faultBase + 35

/-- The ends of a list of orders depend only on what each entry in it is given. -/
theorem Ends.congr {f g : Entry → Option (Result × Nat)} {region : Nat → Prop} {s t : State} (h : Ends f region s t)
    (hfg : ∀ e ∈ s.orders.entries, f e = g e) : Ends g region s t where
  entries := h.entries.trans (List.filter_congr fun e he => by rw [hfg e he])
  cursor := h.cursor
  stall := by
    rw [h.stall]
    congr 1
    exact Bool.eq_iff_iff.mpr (by simp +contextual [List.all_eq_true, hfg])
  orphans := by
    rw [h.orphans]
    exact congrArg (addOrphans · _) (List.countP_congr fun e he => by rw [hfg e he])
  done := by
    rw [h.done]
    congr 1
    refine Bool.eq_iff_iff.mpr ?_
    rw [List.any_eq_true, List.any_eq_true]
    exact exists_congr fun e => and_congr_right fun he => by rw [hfg e he]
  slots := fun e he r d hends => h.slots e he r d ((hfg e he).trans hends)
  words := fun a ha => h.words a fun e he hends => ha e he ((congrArg Option.isSome (hfg e he)).symm.trans hends)
  clock := h.clock
  wf := h.wf

/-- A state that is the same for the orders has ended none of them. -/
theorem Ends.of_same {region : Nat → Prop} {s t : State} (h : s.SameForOrders t) : Ends (fun _ => none) region s t where
  entries := by simp [h.orders]
  cursor := by rw [h.orders]
  stall := by simp [h.orders]
  orphans := by simp [h.orders, addOrphans]
  done := by rw [h.done, List.any_eq_false.mpr fun _ _ => by simp, Bool.or_false]
  slots := fun _ _ _ _ hends => absurd hends (by simp)
  words := fun a _ _ => xread_congr h.xmem a
  clock := h.clock
  wf := xmemWf_congr h.xmem

/-- The end of one open order among the others (R149). -/
theorem endEntry_endsOne {e : Entry} {s : State} (r : Result) (d : Nat) (he : e ∈ s.orders.entries) (hslot : e.slot < 32)
    (hnodup : (s.orders.entries.map fun x => x.target).Nodup) (hwf : s.xmemWf) :
    Ends (fun x => if x = e then some (r, d) else none) noWord s (endEntry e r d s) where
  entries := by
    rw [endEntry_entries]
    refine List.filter_congr fun x _ => ?_
    by_cases hx : x = e <;> simp [hx]
  cursor := by simp
  stall := by
    rw [endEntry_stall]
    congr 1
    refine Bool.eq_iff_iff.mpr ?_
    rw [List.all_eq_true]
    refine ⟨fun hne x _ => ?_, fun hall => ?_⟩
    · by_cases hx : x = e
      · subst hx
        simpa using hne
      · simp [hx]
    · simpa using hall e he
  orphans := by
    have hone : s.orders.entries.count e = 1 := List.count_eq_one_of_mem (List.Nodup.of_map _ hnodup) he
    rw [endEntry_orphans]
    by_cases htaken : s.owner e.slot = ownerTaken
    · have hcount : (s.orders.entries.countP fun x => (if x = e then some (r, d) else none).isSome &&
          decide (s.owner x.slot ≠ ownerTaken)) = 0 := by
        refine List.countP_eq_zero.mpr fun x _ => ?_
        by_cases hx : x = e <;> simp [hx, htaken]
      rw [hcount, if_pos htaken, addOrphans, if_pos rfl]
    · have hcount : (s.orders.entries.countP fun x => (if x = e then some (r, d) else none).isSome &&
          decide (s.owner x.slot ≠ ownerTaken)) = 1 := by
        rw [← hone, List.count]
        refine List.countP_congr fun x _ => ?_
        by_cases hx : x = e <;> simp [hx, htaken]
      rw [hcount, if_neg htaken, addOrphans, if_neg Nat.one_ne_zero]
  done := by
    rw [endEntry_port, HostPort.notifyDone_orderDone]
    congr 1
    refine Bool.eq_iff_iff.mpr ?_
    rw [List.any_eq_true]
    refine ⟨fun h => ⟨e, he, by simpa using h⟩, ?_⟩
    rintro ⟨x, _, hx⟩
    by_cases hxe : x = e
    · subst hxe
      simpa using hx
    · simp [hxe] at hx
  slots := fun x _ r' d' hends htaken => by
    by_cases hx : x = e
    · subst hx
      rw [if_pos rfl] at hends
      obtain ⟨rfl, rfl⟩ := Prod.mk.inj (Option.some.inj hends)
      exact endEntry_slotResult r d hwf hslot htaken
    · simp [hx] at hends
  words := fun a ha _ => xread_endEntry r d fun htaken => ha e he (by simp) htaken
  clock := by simp
  wf := endEntry_xmemWf e r d

/-- A completion notice among the open orders (R149). -/
theorem completionNotice_endsOne {s : State} (target : Target) (slot : Nat) (time : BitVec 32) (r : Result) (d : Nat)
    (hinv : s.ordersInv) (hwf : s.xmemWf) :
    Ends (fun x => if x.answers target slot time then some (r, d) else none) noWord s
      (completionNotice target slot time r d s) := by
  obtain ⟨hnodup, -, -, hrange⟩ := hinv
  by_cases hany : ∃ e ∈ s.orders.entries, e.answers target slot time = true
  · obtain ⟨e, he, hanswers⟩ := hany
    rw [completionNotice_of_mem r d hnodup he hanswers]
    refine (endEntry_endsOne r d he (hrange e he) hnodup hwf).congr fun x hx => ?_
    by_cases hxe : x = e
    · rw [hxe, if_pos rfl, if_pos hanswers]
    · rw [if_neg hxe, if_neg fun h => hxe (eq_of_target_eq hnodup he hx
        ((Entry.answers_iff.mp h).1.trans (Entry.answers_iff.mp hanswers).1.symm))]
  · have hnone : ∀ e ∈ s.orders.entries, ¬(e.target = target ∧ e.slot = slot ∧ e.takeTime = time) := fun e he h =>
      hany ⟨e, he, Entry.answers_iff.mpr h⟩
    rw [completionNotice_of_none r d hnone]
    refine (Ends.of_same ⟨rfl, rfl, rfl, rfl⟩).congr fun x hx => ?_
    rw [if_neg fun h => hnone x hx (Entry.answers_iff.mp h)]

/-- Orphans counted in two parts are counted together. -/
theorem addOrphans_add (first second orphans : Nat) :
    addOrphans second (addOrphans first orphans) = addOrphans (first + second) orphans := by
  unfold addOrphans
  by_cases hfirst : first = 0 <;> by_cases hsecond : second = 0 <;> simp [hfirst, hsecond]
  omega

/-- Two tests that no element meets together count apart. -/
theorem countP_or_of_disjoint {α : Type} {p q : α → Bool} (l : List α) (h : ∀ x ∈ l, ¬(p x = true ∧ q x = true)) :
    (l.countP fun x => p x || q x) = l.countP p + l.countP q := by
  induction l with
  | nil => simp
  | cons x xs ih =>
    have hx := h x (by simp)
    rw [List.countP_cons, List.countP_cons, List.countP_cons, ih fun y hy => h y (by simp [hy])]
    cases hp : p x <;> cases hq : q x <;> simp [hp, hq] at hx ⊢ <;> omega

/-- The words of a slot's result half and its owner word lie in the strip. -/
theorem slot_word_lt {slot i : Nat} (hslot : slot < 32) (hi : i < 16) : slotBase slot + i < 512 := by
  simp only [slotBase]
  omega

/-- An ended order leaves the open-orders law. -/
theorem Ends.ordersInv {ends : Entry → Option (Result × Nat)} {region : Nat → Prop} {s t : State} (h : Ends ends region s t)
    (hinv : s.ordersInv) : t.ordersInv := by
  obtain ⟨htargets, hslots, hcursor, hrange⟩ := hinv
  have hsub : t.orders.entries.Sublist s.orders.entries := by
    rw [h.entries]
    exact List.filter_sublist
  exact ⟨htargets.sublist (hsub.map _), hslots.sublist (hsub.map _), by rw [h.cursor]; exact hcursor,
    fun e he => hrange e (hsub.subset he)⟩

section Composition

variable {f g : Entry → Option (Result × Nat)} {region more : Nat → Prop} {s u t : State}

/-- An order that is not ended keeps its slot's words. -/
theorem Ends.slot_word (h : Ends f region s u) (hinv : s.ordersInv) (hregion : ∀ a, region a → 512 ≤ a) {e : Entry}
    (he : e ∈ s.orders.entries) (hkept : f e = none) {i : Nat} (hi : i < 16) :
    u.xread (slotBase e.slot + i) = s.xread (slotBase e.slot + i) := by
  obtain ⟨-, hslots, -, hrange⟩ := hinv
  refine h.words _ (fun x hx hended _ => ?_) fun hin =>
    absurd (hregion _ hin) (Nat.not_le_of_lt (slot_word_lt (hrange e he) hi))
  refine outsideResult_of_slot_ne (fun heq => ?_) hi
  rw [List.inj_on_of_nodup_map hslots he hx heq] at hkept
  simp [hkept] at hended

/-- Two runs of ends are one (R149): the first ends its orders, the second ends its own among those left. -/
theorem Ends.comp (hf : Ends f region s u) (hg : Ends g more u t) (hinv : s.ordersInv) (hregion : ∀ a, region a → 512 ≤ a)
    (hmore : ∀ a, more a → 512 ≤ a) : Ends (fun e => (f e).or (g e)) (fun a => region a ∨ more a) s t := by
  have howner {e : Entry} (he : e ∈ s.orders.entries) (hkept : f e = none) : u.owner e.slot = s.owner e.slot :=
    hf.slot_word hinv hregion he hkept (i := 0) (by decide)
  have hleft {e : Entry} : e ∈ u.orders.entries ↔ e ∈ s.orders.entries ∧ f e = none := by
    rw [hf.entries, List.mem_filter, Option.isNone_iff_eq_none]
  refine { entries := ?_, cursor := hg.cursor.trans hf.cursor, stall := ?_, orphans := ?_, done := ?_, slots := ?_,
           words := ?_, clock := hg.clock.trans hf.clock, wf := fun hwf => hg.wf (hf.wf hwf) }
  · rw [hg.entries, hf.entries, List.filter_filter]
    refine List.filter_congr fun e _ => ?_
    cases f e <;> simp
  · rw [hg.stall, hf.stall, hf.cursor, hf.entries, List.all_filter, Bool.and_assoc]
    congr 1
    refine Bool.eq_iff_iff.mpr ?_
    rw [Bool.and_eq_true_iff, List.all_eq_true, List.all_eq_true, List.all_eq_true, ← forall₂_and]
    refine forall₂_congr fun e _ => ?_
    cases f e <;> simp
  · rw [hg.orphans, hf.orphans, addOrphans_add, hf.entries, List.countP_filter, ← countP_or_of_disjoint]
    · refine congrArg (addOrphans · _) (List.countP_congr fun e he => ?_)
      cases hfe : f e with
      | none => simp [howner he hfe]
      | some p => simp
    · intro e _
      cases f e <;> simp
  · rw [hg.done, hf.done, hf.entries, List.any_filter, Bool.or_assoc]
    congr 1
    refine Bool.eq_iff_iff.mpr ?_
    rw [Bool.or_eq_true_iff, List.any_eq_true, List.any_eq_true, List.any_eq_true, ← exists_or]
    refine exists_congr fun e => ?_
    rw [← and_or_left]
    refine and_congr_right fun he => ?_
    cases hfe : f e with
    | none => simp [State.notifies, howner he hfe]
    | some p => simp
  · intro e he r d hends htaken
    cases hfe : f e with
    | none =>
      rw [hfe, Option.none_or] at hends
      have hresult := hg.slots e (hleft.mpr ⟨he, hfe⟩) r d hends (by rw [howner he hfe]; exact htaken)
      rwa [State.since, hf.clock] at hresult
    | some p =>
      rw [hfe, Option.some_or] at hends
      have hresult := hf.slots e he r d (hfe.trans hends) htaken
      refine hresult.of_reads fun i hi => hg.words _ (fun x hx hended _ => ?_) fun hin =>
        absurd (hmore _ hin) (Nat.not_le_of_lt (slot_word_lt (hinv.2.2.2 e he) hi))
      refine outsideResult_of_slot_ne (fun heq => ?_) hi
      obtain ⟨hxs, hkept⟩ := hleft.mp hx
      rw [List.inj_on_of_nodup_map hinv.2.1 he hxs heq, hkept] at hfe
      exact absurd hfe (by simp)
  · intro a ha hnot
    rw [hg.words a (fun x hx hended htaken => ?_) fun h => hnot (.inr h)]
    · refine hf.words a (fun e he hended htaken => ?_) fun h => hnot (.inl h)
      exact ha e he (by simp [hended]) htaken
    · obtain ⟨hxs, hkept⟩ := hleft.mp hx
      rw [howner hxs hkept] at htaken
      exact ha x hxs (by simpa [hkept] using hended) htaken

end Composition

end Sys2Proof.Machine

namespace Sys2Proof.Machine

/-! ### An order in the place of an older one (R148, R150) -/

/-- The bit of MODE_CHANGE is bit 3 of the pending set alone (R157). -/
theorem Cause.modeChange_getLsbD (i : Nat) : Cause.modeChange.bit.getLsbD i = decide (i = 3) := by
  match i with
  | 0 | 1 | 2 | 3 | 4 | 5 | 6 => rfl
  | i + 7 => exact (BitVec.getLsbD_of_ge _ _ (by omega)).trans (decide_eq_false (by omega)).symm

/-- The pending causes after ORDER_DONE and perhaps MODE_CHANGE have been raised (R157). -/
theorem port_done_changed {s t : State} {b changed : Bool}
    (h : t.port = if changed then (s.port.notifyDone b).raise .modeChange else s.port.notifyDone b) :
    CausesKept changed s t ∧ t.port.pendingSet.getLsbD 0 = (s.port.pendingSet.getLsbD 0 || b) ∧
      t.port = { s.port with pendingSet := t.port.pendingSet } := by
  have hbits (i : Nat) : t.port.pendingSet.getLsbD i =
      ((s.port.notifyDone b).pendingSet.getLsbD i || (changed && decide (i = 3))) := by
    rw [h]
    cases changed
    · simp
    · simp [HostPort.raise, Cause.modeChange_getLsbD]
  refine ⟨fun i hi => ?_, ?_, ?_⟩
  · rw [hbits, HostPort.notifyDone_other b s.port hi]
  · rw [hbits, HostPort.notifyDone_orderDone]
    simp
  · rw [h]
    cases changed <;> cases b <;> rfl

/-- A frame may name fewer blocks where those it drops are the same. -/
theorem SameBut.narrow {blocks more : List Block} {s t : State} (h : SameBut blocks s t)
    (hmore : ∀ b ∈ blocks, b ∈ more ∨ b.same s t) : SameBut more s t :=
  fun b => (h b).elim (hmore b) .inr

/-- The slot at the cursor is named by no entry. -/
theorem State.takes.cursor_ne {s : State} (h : s.takes) {e : Entry} (he : e ∈ s.orders.entries) : s.orders.cursor ≠ e.slot := by
  obtain ⟨-, -, hnamed, -⟩ := h
  intro heq
  have := List.any_eq_false.mp hnamed e he
  simp [heq] at this

/-- The older open order on the target of an accepted one, its end sent at the take (R150). -/
def supersededState (e : Entry) (s : State) : State := endEntry e .superseded s.orders.cursor (advanceCursor s)

/-- The order open on a target is the one with that target (R148). -/
theorem openOn_of_mem {s : State} {e : Entry} {target : Target} (hnodup : (s.orders.entries.map fun x => x.target).Nodup)
    (he : e ∈ s.orders.entries) (htarget : e.target = target) : s.openOn target = some e := by
  cases hfind : s.openOn target with
  | none => exact absurd (decide_eq_true htarget) (List.find?_eq_none.mp hfind e he)
  | some x =>
    exact congrArg some (eq_of_target_eq hnodup he (List.mem_of_find?_eq_some hfind)
      ((of_decide_eq_true (List.find?_some (p := fun e : Entry => decide (e.target = target)) hfind)).trans htarget.symm))

/-- With one order a target, the older one is the one superseded (R150). -/
theorem supersede_of_mem {kind : Nat} {target : Target} {o : Order} {s : State} {e : Entry} (hinv : s.ordersInv)
    (he : e ∈ s.orders.entries) (htarget : e.target = target) :
    supersede target (noteTake kind o s) (advanceCursor s) = supersededState e s := by
  have hopen : (advanceCursor s).openOn target = some e := openOn_of_mem hinv.1 he htarget
  rw [supersede, hopen]
  rfl

/-- With no older order on the target, none is superseded. -/
theorem supersede_of_none {kind : Nat} {target : Target} {o : Order} {s : State} (h : s.openOn target = none) :
    supersede target (noteTake kind o s) (advanceCursor s) = advanceCursor s := by
  have hopen : (advanceCursor s).openOn target = none := h
  rw [supersede, hopen]

/-- What the taken slot's order leaves of the older order's slot and list makes it superseded. -/
theorem superseded_of {e : Entry} {s t : State} (htakes : s.takes) (hrange : e.slot < 32)
    (hread : ∀ i, i < 16 → t.xread (slotBase e.slot + i) = (supersededState e s).xread (slotBase e.slot + i))
    (hcursor : t.orders.cursor = (supersededState e s).orders.cursor)
    (hstall : t.orders.stall = (supersededState e s).orders.stall)
    (horphans : t.orders.orphans = (supersededState e s).orders.orphans)
    (hport : t.port = { s.port with pendingSet := t.port.pendingSet }) : Superseded e s t := by
  obtain ⟨-, -, -, -, -, hwf⟩ := htakes
  have hended := endEntry_orphans e .superseded s.orders.cursor (advanceCursor s)
  refine ⟨fun htaken => ⟨?_, ?_⟩, fun hlost => ?_, ?_, ?_, hport⟩
  · exact (endEntry_slotResult (s := advanceCursor s) .superseded s.orders.cursor hwf hrange htaken).of_reads hread
  · exact horphans.trans (hended.trans (if_pos htaken))
  · exact horphans.trans (hended.trans (if_neg hlost))
  · exact hcursor.trans ((endEntry_leaves e _ _ (advanceCursor s)).2.1)
  · exact hstall.trans (endEntry_stall e _ _ (advanceCursor s))

/-- The superseded order's end raises ORDER_DONE as its notify asks, and keeps the words outside its slot. -/
theorem supersededState_port (e : Entry) (s : State) : (supersededState e s).port = s.port.notifyDone (s.notifies e) :=
  endEntry_port e _ _ (advanceCursor s)

/-- The order that an accepted one opens, after whatever ended before it (R148). -/
theorem openEntry_after (kind : Nat) (target : Target) (o : Order) {s u : State} (hslot : s.orders.cursor < 32) (hwf : u.xmemWf) :
    (openEntry target (noteTake kind o s) u).owner s.orders.cursor = ownerTaken ∧
      (∀ a, a ≠ slotBase s.orders.cursor → (openEntry target (noteTake kind o s) u).xread a = u.xread a) ∧
      (openEntry target (noteTake kind o s) u).orders =
        { u.orders with entries := u.orders.entries ++ [openedEntry kind target o s] } ∧
      (openEntry target (noteTake kind o s) u).port = u.port := by
  refine ⟨xread_xwrite_same _ _ _ hwf ?_, fun a ha => xread_xwrite_other _ a _ _ ha, ?_, ?_⟩
  · simp only [noteTake, slotBase]
    omega
  · simp [openEntry, openedEntry, noteTake]
  · simp [openEntry]

/-- An accepted order opens in the place of the older one, where its block's own action leaves the orders and raises at most
MODE_CHANGE (R148, R150). -/
theorem acceptOpen_over {kind : Nat} {target : Target} {o : Order} {s : State} {e : Entry} {effect : State → State} (changed : Bool)
    (htakes : s.takes) (hinv : s.ordersInv) (he : e ∈ s.orders.entries) (htarget : e.target = target)
    (hxmem : (effect (supersededState e s)).xmem = (supersededState e s).xmem)
    (horders : (effect (supersededState e s)).orders = (supersededState e s).orders)
    (hport : (effect (supersededState e s)).port =
      if changed then (supersededState e s).port.raise .modeChange else (supersededState e s).port) :
    OpenedOver kind target o e s (acceptOpen target (noteTake kind o s) effect (advanceCursor s)) ∧
      CausesKept changed s (acceptOpen target (noteTake kind o s) effect (advanceCursor s)) := by
  have hslot : s.orders.cursor < 32 := hinv.2.2.1
  have hrange := hinv.2.2.2 e he
  have hne := htakes.cursor_ne he
  have hwf : (effect (supersededState e s)).xmemWf :=
    xmemWf_congr hxmem (endEntry_xmemWf e _ _ (s := advanceCursor s) htakes.2.2.2.2.2)
  rw [acceptOpen, supersede_of_mem hinv he htarget]
  generalize effect (supersededState e s) = u at hxmem horders hport hwf
  obtain ⟨howner, hwords, hunit, hkept⟩ := openEntry_after kind target o hslot hwf
  rw [supersededState_port] at hport
  obtain ⟨hcauses, hdone, hform⟩ := port_done_changed (hkept.trans hport)
  have hread (a : Nat) (ha : a ≠ slotBase s.orders.cursor) :
      (openEntry target (noteTake kind o s) u).xread a = (supersededState e s).xread a :=
    (hwords a ha).trans (xread_congr hxmem a)
  refine ⟨⟨superseded_of htakes hrange (fun i hi => hread _ ?_) ?_ ?_ ?_ hform, howner, fun x => ?_, ?_, fun a ha hout => ?_⟩, hcauses⟩
  · exact (outsideResult_of_slot_ne (fun h => hne h.symm) hi).1
  · rw [hunit, horders]
  · rw [hunit, horders]
  · rw [hunit, horders]
  · rw [hunit, List.mem_append, List.mem_singleton, horders, supersededState, endEntry_entries, List.mem_filter, decide_eq_true_iff]
    rfl
  · rw [hdone, State.notifies, Bool.decide_and]
  · exact (hread a ha).trans (xread_endEntry (s := advanceCursor s) _ _ hout)

/-- An accepted order completes at dispatch in the place of the older one, where its block's own action leaves the orders and the
causes (R147, R150). -/
theorem completeOn_over {kind : Nat} {target : Target} {o : Order} {s : State} {e : Entry} {effect : State → State} (r : Result)
    (d : Nat) (htakes : s.takes) (hinv : s.ordersInv) (he : e ∈ s.orders.entries) (htarget : e.target = target)
    (hxmem : (effect (supersededState e s)).xmem = (supersededState e s).xmem)
    (horders : (effect (supersededState e s)).orders = (supersededState e s).orders)
    (hport : (effect (supersededState e s)).port = (supersededState e s).port)
    (hclock : (effect (supersededState e s)).tma.clock = (supersededState e s).tma.clock) :
    DoneOver o.notify r d e s (completeOn target (noteTake kind o s) r d effect (advanceCursor s)) ∧
      CausesKept false s (completeOn target (noteTake kind o s) r d effect (advanceCursor s)) := by
  have hslot : s.orders.cursor < 32 := hinv.2.2.1
  have hrange := hinv.2.2.2 e he
  have hne := htakes.cursor_ne he
  have hwf : (effect (supersededState e s)).xmemWf :=
    xmemWf_congr hxmem (endEntry_xmemWf e _ _ (s := advanceCursor s) htakes.2.2.2.2.2)
  have howner : (effect (supersededState e s)).owner s.orders.cursor = ownerPosted :=
    (owner_congr hxmem _).trans ((owner_endEntry_other (e := e) _ _ (advanceCursor s) hne).trans htakes.2.2.2.1)
  have hclock' : (effect (supersededState e s)).tma.clock = s.tma.clock :=
    hclock.trans (by simp [supersededState, advanceCursor])
  rw [completeOn, supersede_of_mem hinv he htarget]
  generalize effect (supersededState e s) = u at hxmem horders hport hwf howner hclock'
  obtain ⟨⟨hresult, hwords⟩, hunit, hraised⟩ := completeNow_taken kind o r d hslot hwf howner hclock'
  have hnotified : (completeNow (noteTake kind o s) r d u).port = s.port.notifyDone (s.notifies e || decide (o.notify = 1)) := by
    rw [← HostPort.notifyDone_notifyDone, hraised, hport, supersededState_port, HostPort.notifyDone.eq_def (decide _)]
    simp
  obtain ⟨hcauses, hdone, hform⟩ := port_done_changed (changed := false) hnotified
  have hread (a : Nat) (ha : outsideResult s.orders.cursor a) :
      (completeNow (noteTake kind o s) r d u).xread a = (supersededState e s).xread a :=
    (hwords a ha).trans (xread_congr hxmem a)
  refine ⟨⟨superseded_of htakes hrange (fun i hi => hread _ ?_) ?_ ?_ ?_ hform, hresult, fun x => ?_, ?_, fun a ha hout => ?_⟩, hcauses⟩
  · exact outsideResult_of_slot_ne (fun h => hne h.symm) hi
  · rw [hunit, horders]
  · rw [hunit, horders]
  · rw [hunit, horders]
  · rw [hunit, horders, supersededState, endEntry_entries, List.mem_filter, decide_eq_true_iff]
    rfl
  · rw [hdone, State.notifies, Bool.decide_and, Bool.or_assoc]
  · exact (hread a ha).trans (xread_endEntry (s := advanceCursor s) _ _ hout)

/-- An accepted order opens where none is open on its target (R148). -/
theorem acceptOpen_first (kind : Nat) {target : Target} (o : Order) {s : State} {effect : State → State} (htakes : s.takes)
    (hfree : s.openOn target = none) (hxmem : (effect (advanceCursor s)).xmem = s.xmem)
    (horders : (effect (advanceCursor s)).orders = (advanceCursor s).orders) :
    Opened kind target o s (acceptOpen target (noteTake kind o s) effect (advanceCursor s)) ∧
      (acceptOpen target (noteTake kind o s) effect (advanceCursor s)).port = (effect (advanceCursor s)).port := by
  rw [acceptOpen, supersede_of_none hfree]
  exact ⟨openEntry_opened kind target o htakes hxmem horders, by simp [openEntry]⟩

/-- An accepted order's own command, with what its block's action may change. -/
theorem exec_acceptOpen {c : Instr} {dispatch : Take → State → State} {kind : Nat} {target : Target} {o : Order} {s : State}
    {effect : State → State} {blocks : List Block} (hexec : exec c s = orderCommand dispatch kind o s) (htakes : s.takes)
    (hdispatch : dispatch (noteTake kind o s) (advanceCursor s) =
      acceptOpen target (noteTake kind o s) effect (advanceCursor s))
    (heffect : SameBut blocks (supersede target (noteTake kind o s) (advanceCursor s))
      (effect (supersede target (noteTake kind o s) (advanceCursor s)))) :
    exec c s = .next (acceptOpen target (noteTake kind o s) effect (advanceCursor s)) ∧
      SameBut ([.xmem, .orders, .port] ++ blocks) s (acceptOpen target (noteTake kind o s) effect (advanceCursor s)) := by
  refine ⟨hexec.trans ((orderCommand_of_takes dispatch kind o htakes).trans (congrArg _ hdispatch)), ?_⟩
  refine ((advanceCursor_sameBut s).mono (by simp)).trans (((supersede_sameBut target _ _).mono ?_).trans
    ((heffect.mono (List.subset_append_right _ _)).trans ((openEntry_sameBut target _ _).mono ?_)))
  · exact List.Subset.trans (by decide) (List.subset_append_left _ _)
  · exact List.Subset.trans (by decide) (List.subset_append_left _ _)

/-- The governor while an order is taken is the one at the take. -/
theorem supersede_gov (target : Target) (t : Take) (s : State) : (supersede target t (advanceCursor s)).gov = s.gov :=
  (supersede_sameBut target t (advanceCursor s)).same .gov (by decide)

/-- STOP's own action at the governor (R49). -/
theorem stopOrder_gov (w : Option TravelWait) (speed : Nat) (dir : Direction) (s : State) :
    (setTravelWait w (replaceRequest speed dir s)).gov = { s.gov with
      reqSpeed := speed, reqDir := dir, waiting := w
      reversePending := s.gov.reversePending && decide (requestSign dir speed = .negative) } := rfl

/-- A pace order's action at the governor is nothing else. -/
theorem paceOrder_sameBut (w : Option TravelWait) (speed : Nat) (dir : Direction) (s : State) :
    SameBut [.gov] s (setTravelWait w (replaceRequest speed dir s)) := by
  intro b
  cases b <;> simp [Block.same, setTravelWait, replaceRequest]

/-- Settles O30. -/
theorem stopSupersedesAndWaits : Obligations.StopSupersedesAndWaits := by
  intro o s htakes
  obtain ⟨hexec, hframe⟩ := exec_acceptOpen (c := .stop o) (dispatch := dispatchStop) (kind := 6) rfl htakes rfl
    (paceOrder_sameBut _ 0 .neutral _)
  refine ⟨_, hexec, fun hfree => acceptOpen_first 6 o htakes hfree rfl rfl,
    fun e he hinv htarget => acceptOpen_over false htakes hinv he htarget rfl rfl rfl, ?_, hframe⟩
  rw [acceptOpen, (openEntry_sameBut _ _ _).same .gov (by decide), stopOrder_gov, supersede_gov]
  simp [requestSign, noteTake]

end Sys2Proof.Machine

namespace Sys2Proof.Machine

/-! ### SET_PACE (R46, R47) -/

/-- A direction word above 2 names no direction (R47). -/
theorem directionOf_of_gt {n : Nat} (h : 2 < n) : directionOf n = none := by
  match n with
  | 0 | 1 | 2 => omega
  | n + 3 => rfl

/-- A direction word up to 2 names one (R47). -/
theorem directionOf_of_le {n : Nat} (h : n ≤ 2) : ∃ dir, directionOf n = some dir := by
  match n with
  | 0 | 1 | 2 => exact ⟨_, rfl⟩
  | n + 3 => omega

/-- The request sign of a clamped request (R46). -/
theorem requestSign_clamped (dir : Direction) (speed : Nat) :
    decide (requestSign dir (min 12000 speed) = .negative) = decide (dir = .reverse ∧ 0 < speed) := by
  have hzero : min 12000 speed = 0 ↔ speed = 0 := by omega
  by_cases h : speed = 0 <;> cases dir <;> simp [requestSign, hzero, h, Nat.pos_iff_ne_zero]

/-- A clamp changed the speed word (R47). -/
theorem paceSpeed_clamped (speed : Nat) : bit01 (decide (min 12000 speed ≠ speed)) = if 12000 < speed then 1 else 0 := by
  have h : (min 12000 speed ≠ speed) ↔ 12000 < speed := by omega
  simp [bit01, h]

/-- A clamp changed the time word (R47). -/
theorem paceTime_clamped (time : Nat) :
    clampNat 100 60000 time = max 100 (min 60000 time) ∧
      bit01 (decide (max 100 (min 60000 time) ≠ time)) = if time < 100 ∨ 60000 < time then 1 else 0 := by
  refine ⟨rfl, ?_⟩
  have h : (max 100 (min 60000 time) ≠ time) ↔ (time < 100 ∨ 60000 < time) := by omega
  simp only [bit01, decide_eq_true_iff, h]

section Dispatch

variable {t : Take} {s : State} {dir : Direction}

/-- SET_PACE without a reason to refuse it, with no wait (R47). -/
theorem dispatchSetPace_atOnce (hdir : directionOf t.order.par.p1.toNat = some dir)
    (hmode : dir = .reverse → s.modc.mode ≠ .engaging ∧ s.modc.mode ≠ .disengaging) (hwait : t.order.par.p2.toNat = 0) :
    dispatchSetPace t s =
      completeOn .travel t (if (if 12000 < t.order.par.p0.toNat then 1 else 0) = 0 then .ok else .clamped)
        (if 12000 < t.order.par.p0.toNat then 1 else 0)
        (fun s => setTravelWait none (replaceRequest (min 12000 t.order.par.p0.toNat) dir s)) s := by
  have hallowed : ¬(dir = .reverse ∧ (s.modc.mode = .engaging ∨ s.modc.mode = .disengaging)) := fun ⟨h, hm⟩ =>
    hm.elim (hmode h).1 (hmode h).2
  simp only [dispatchSetPace, hdir, hwait, if_neg hallowed, paceSpeed_clamped, if_true]
  rfl

/-- SET_PACE without a reason to refuse it, with the wait flag (R47). -/
theorem dispatchSetPace_waits (hdir : directionOf t.order.par.p1.toNat = some dir)
    (hmode : dir = .reverse → s.modc.mode ≠ .engaging ∧ s.modc.mode ≠ .disengaging) (hwait : t.order.par.p2.toNat = 1) :
    dispatchSetPace t s =
      acceptOpen .travel t
        (fun s => setTravelWait
          (some { kind := .setPace, slot := t.slot, tag := t.order.tag, takeTime := t.time,
                  timeout := max 100 (min 60000 t.order.par.p3.toNat), arrival := none,
                  clampCount := (if 12000 < t.order.par.p0.toNat then 1 else 0) +
                    (if t.order.par.p3.toNat < 100 ∨ 60000 < t.order.par.p3.toNat then 1 else 0) })
          (replaceRequest (min 12000 t.order.par.p0.toNat) dir s)) s := by
  have hallowed : ¬(dir = .reverse ∧ (s.modc.mode = .engaging ∨ s.modc.mode = .disengaging)) := fun ⟨h, hm⟩ =>
    hm.elim (hmode h).1 (hmode h).2
  simp only [dispatchSetPace, hdir, hwait, if_neg hallowed, paceSpeed_clamped, (paceTime_clamped _).1, (paceTime_clamped _).2,
    Nat.lt_irrefl, Nat.one_ne_zero, if_false]

end Dispatch

/-- An order that completes at dispatch in its own command, with what its block's action may change. -/
theorem exec_completeOn {c : Instr} {dispatch : Take → State → State} {kind : Nat} {target : Target} {o : Order} {s : State}
    {r : Result} {d : Nat} {effect : State → State} {blocks : List Block} (hexec : exec c s = orderCommand dispatch kind o s)
    (htakes : s.takes) (hdispatch : dispatch (noteTake kind o s) (advanceCursor s) =
      completeOn target (noteTake kind o s) r d effect (advanceCursor s))
    (heffect : ∀ u, SameBut blocks u (effect u)) :
    exec c s = .next (completeOn target (noteTake kind o s) r d effect (advanceCursor s)) ∧
      SameBut ([.xmem, .orders, .port] ++ blocks) s (completeOn target (noteTake kind o s) r d effect (advanceCursor s)) := by
  refine ⟨hexec.trans ((orderCommand_of_takes dispatch kind o htakes).trans (congrArg _ hdispatch)), ?_⟩
  refine ((advanceCursor_sameBut s).mono (by simp)).trans (((supersede_sameBut target _ _).mono ?_).trans
    (((heffect _).mono (List.subset_append_right _ _)).trans ((completeNow_sameBut _ _ _ _).mono (List.subset_append_left _ _))))
  exact List.Subset.trans (by decide) (List.subset_append_left _ _)

/-- With no older order on its target, an order that completes at dispatch is done at once (R147). -/
theorem completeOn_first (kind : Nat) {target : Target} (o : Order) (r : Result) (d : Nat) {s : State} {effect : State → State}
    (htakes : s.takes) (hfree : s.openOn target = none) (hxmem : (effect (advanceCursor s)).xmem = s.xmem)
    (horders : (effect (advanceCursor s)).orders = (advanceCursor s).orders) (hport : (effect (advanceCursor s)).port = s.port)
    (hclock : (effect (advanceCursor s)).tma.clock = s.tma.clock) :
    DoneAtOnce o.notify r d s (completeOn target (noteTake kind o s) r d effect (advanceCursor s)) := by
  rw [completeOn, supersede_of_none hfree]
  exact completeNow_doneAtOnce_of_clock kind o r d htakes hxmem horders hport hclock

/-- SET_PACE is refused for its words or its mode (R47). -/
theorem setPace_refused (o : Order) {s : State} (htakes : s.takes) (r : Result) (d : Nat)
    (h : (2 < o.par.p1.toNat ∧ r = .refusedRange ∧ d = 1) ∨
      (o.par.p1.toNat ≤ 2 ∧ 1 < o.par.p2.toNat ∧ r = .refusedRange ∧ d = 2) ∨
      (o.par.p1.toNat = 2 ∧ o.par.p2.toNat ≤ 1 ∧ (s.modc.mode = .engaging ∨ s.modc.mode = .disengaging) ∧
        r = .refusedMode ∧ d = 0)) :
    ∃ t, exec (.setPace o) s = .next t ∧ DoneAtOnce o.notify r d s t ∧ SameBut [.xmem, .orders, .port] s t := by
  refine doneAtOnce_of_completeNow (dispatch := dispatchSetPace) (kind := 5) rfl htakes ?_
  obtain ⟨hdir, rfl, rfl⟩ | ⟨hdir, hwait, rfl, rfl⟩ | ⟨hdir, hwait, hmode, rfl, rfl⟩ := h
  · simp only [dispatchSetPace, noteTake_order, directionOf_of_gt hdir]
  · obtain ⟨dir, hdir⟩ := directionOf_of_le hdir
    simp only [dispatchSetPace, noteTake_order, hdir]
    exact if_pos hwait
  · have hreverse : directionOf o.par.p1.toNat = some .reverse := by rw [hdir]; rfl
    have hmode' : (advanceCursor s).modc.mode = .engaging ∨ (advanceCursor s).modc.mode = .disengaging := hmode
    simp only [dispatchSetPace, noteTake_order, hreverse, if_neg (Nat.not_lt_of_le hwait), hmode', and_self, if_true]

/-- Settles O29. -/
theorem setPaceReplacesTheRequest : Obligations.SetPaceReplacesTheRequest := by
  intro o s htakes
  refine ⟨fun r d h => setPace_refused o htakes r d h, fun dir hdir hmode => ⟨fun hwait => ?_, fun hwait => ?_⟩⟩
  · obtain ⟨hexec, hframe⟩ := exec_completeOn (c := .setPace o) (dispatch := dispatchSetPace) (kind := 5) rfl htakes
      (dispatchSetPace_atOnce (t := noteTake 5 o s) (s := advanceCursor s) hdir hmode hwait) fun u => paceOrder_sameBut _ _ _ u
    refine ⟨_, _, hexec, rfl, fun hfree => completeOn_first 5 o _ _ htakes hfree rfl rfl rfl rfl,
      fun e he hinv htarget => completeOn_over _ _ htakes hinv he htarget rfl rfl rfl rfl, ?_, hframe⟩
    rw [completeOn, (completeNow_sameBut _ _ _ _).same .gov (by decide), stopOrder_gov, supersede_gov, requestSign_clamped]
    rfl
  · obtain ⟨hexec, hframe⟩ := exec_acceptOpen (c := .setPace o) (dispatch := dispatchSetPace) (kind := 5) rfl htakes
      (dispatchSetPace_waits (t := noteTake 5 o s) (s := advanceCursor s) hdir hmode hwait) (paceOrder_sameBut _ _ _ _)
    refine ⟨_, hexec, fun hfree => acceptOpen_first 5 o htakes hfree rfl rfl,
      fun e he hinv htarget => acceptOpen_over false htakes hinv he htarget rfl rfl rfl, ?_, hframe⟩
    rw [acceptOpen, (openEntry_sameBut _ _ _).same .gov (by decide), stopOrder_gov, supersede_gov, requestSign_clamped]
    rfl

/-! ### SET_ARM (R84) -/

/-- SET_ARM's own action at its arm (R84). -/
def armRequested (a : Arm) (req : ReqState) (t : Take) (s : State) : State :=
  setArm a { s.arm a with
    req := req, waiting := some { slot := t.slot, tag := t.order.tag, takeTime := t.time, req := req } } s

/-- A record's replacement leaves W to the next publication. -/
theorem setArm_width (a : Arm) (r : ArmRecord) (s : State) : (setArm a r s).armc.width = s.armc.width := by
  cases a <;> rfl

/-- SET_ARM without a reason to refuse it (R84). -/
theorem dispatchSetArm_accepted {t : Take} {s : State} {a : Arm} {req : ReqState} (harm : armOf t.order.par.p0.toNat = some a)
    (hreq : reqOf t.order.par.p1.toNat = some req) (hmain : ¬(req = .hover ∧ a = .main)) (hmode : s.modc.mode = .sweeping)
    (hout : (s.arm a).state ≠ .out) : dispatchSetArm t s = acceptOpen (armTarget a) t (armRequested a req t) s := by
  simp only [dispatchSetArm, harm, hreq, if_neg hmain, hmode, if_neg hout]
  rfl

/-- SET_ARM is refused for its words, its mode or its arm (R84). -/
theorem setArm_refused (o : Order) {s : State} (htakes : s.takes) (r : Result) (d : Nat)
    (h : (armOf o.par.p0.toNat = none ∧ r = .refusedRange ∧ d = 1) ∨
      ((armOf o.par.p0.toNat).isSome ∧ reqOf o.par.p1.toNat = none ∧ r = .refusedRange ∧ d = 2) ∨
      (o.par.p0.toNat = 2 ∧ o.par.p1.toNat = 5 ∧ r = .refusedRange ∧ d = 3) ∨
      (∃ a req, armOf o.par.p0.toNat = some a ∧ reqOf o.par.p1.toNat = some req ∧ ¬(req = .hover ∧ a = .main) ∧
        ((s.modc.mode ≠ .sweeping ∧ r = .refusedMode ∧ d = 0) ∨
          (s.modc.mode = .sweeping ∧ (s.arm a).state = .out ∧ r = .refusedMode ∧ d = 1)))) :
    ∃ t, exec (.setArm o) s = .next t ∧ DoneAtOnce o.notify r d s t ∧ SameBut [.xmem, .orders, .port] s t := by
  refine doneAtOnce_of_completeNow (dispatch := dispatchSetArm) (kind := 7) rfl htakes ?_
  have hmodc : (advanceCursor s).modc = s.modc := rfl
  have harms (a : Arm) : (advanceCursor s).arm a = s.arm a := rfl
  obtain ⟨harm, rfl, rfl⟩ | ⟨harm, hreq, rfl, rfl⟩ | ⟨harm, hreq, rfl, rfl⟩ | ⟨a, req, harm, hreq, hmain, hcase⟩ := h
  · simp only [dispatchSetArm, noteTake_order, harm]
  · obtain ⟨a, harm⟩ := Option.isSome_iff_exists.mp harm
    simp only [dispatchSetArm, noteTake_order, harm, hreq]
  · have harm' : armOf o.par.p0.toNat = some .main := by rw [harm]; rfl
    have hreq' : reqOf o.par.p1.toNat = some .hover := by rw [hreq]; rfl
    simp only [dispatchSetArm, noteTake_order, harm', hreq', and_self, if_true]
  · obtain ⟨hmode, rfl, rfl⟩ | ⟨hmode, hout, rfl, rfl⟩ := hcase
    · simp only [dispatchSetArm, noteTake_order, harm, hreq, if_neg hmain, hmodc, if_pos hmode]
    · simp only [dispatchSetArm, noteTake_order, harm, hreq, if_neg hmain, hmodc, harms, hmode, hout, ne_eq, not_true_eq_false,
        if_false, if_true]

/-- Settles O31. -/
theorem setArmRequestsAState : Obligations.SetArmRequestsAState := by
  intro o s htakes
  refine ⟨fun r d h => setArm_refused o htakes r d h, fun a req harm hreq hmain hmode hout => ?_⟩
  have heffect (u : State) : SameBut [.armc] u (armRequested a req (noteTake 7 o s) u) := setArm_sameBut a _ u
  obtain ⟨hexec, hframe⟩ := exec_acceptOpen (c := .setArm o) (dispatch := dispatchSetArm) (kind := 7) rfl htakes
    (dispatchSetArm_accepted (t := noteTake 7 o s) (s := advanceCursor s) harm hreq hmain hmode hout) (heffect _)
  have harmc : (supersede (armTarget a) (noteTake 7 o s) (advanceCursor s)).armc = s.armc :=
    (supersede_sameBut _ _ (advanceCursor s)).same .armc (by decide)
  refine ⟨_, hexec, fun hfree => acceptOpen_first 7 o htakes hfree ((heffect _).same .xmem (by decide))
      ((heffect _).same .orders (by decide)),
    fun e he hinv htarget => acceptOpen_over false htakes hinv he htarget ((heffect _).same .xmem (by decide))
      ((heffect _).same .orders (by decide)) ((heffect _).same .port (by decide)), ?_, ?_, ?_, hframe⟩
  · rw [acceptOpen, State.arm_congr ((openEntry_sameBut _ _ _).same .armc (by decide)), armRequested, setArm_arm, if_pos rfl,
      State.arm_congr harmc]
    rfl
  · intro b hb
    rw [acceptOpen, State.arm_congr ((openEntry_sameBut _ _ _).same .armc (by decide)), armRequested, setArm_arm, if_neg hb,
      State.arm_congr harmc]
  · rw [acceptOpen, (openEntry_sameBut _ _ _).same .armc (by decide), armRequested, setArm_width, harmc]

end Sys2Proof.Machine

namespace Sys2Proof.Machine

/-! ### What a mode-change notice ends among the open orders (R61, R86) -/

/-- The entries that meet a test end FAILED with one reason. -/
def failedWith (reason : Nat) (fails : Entry → Bool) (e : Entry) : Option (Result × Nat) :=
  if fails e then some (.failed, reason) else none

/-- The open-orders law is a matter of the order unit. -/
theorem ordersInv_congr {s u : State} (h : u.orders = s.orders) (hinv : s.ordersInv) : u.ordersInv := by
  unfold State.ordersInv
  rw [h]
  exact hinv

/-- What is the same for the orders in two stages is so in one. -/
theorem State.SameForOrders.trans {s u t : State} (h : s.SameForOrders u) (hut : u.SameForOrders t) : s.SameForOrders t :=
  ⟨hut.xmem.trans h.xmem, hut.orders.trans h.orders, hut.clock.trans h.clock, hut.done.trans h.done⟩

/-- The entry is that of the order an arm waits for, for WORKING or HOVER (R86). -/
def State.failsAt (s : State) (a : Arm) (e : Entry) : Bool :=
  decide (e.target = armTarget a) &&
    (s.arm a).waiting.any fun w => decide (w.req ≠ .stowed) && decide (w.slot = e.slot) && decide (w.takeTime = e.takeTime)

/-- The three arms' waiting orders are the ones a notice fails. -/
theorem State.failsArm_eq (s : State) (e : Entry) :
    s.failsArm e = (s.failsAt .left e || (s.failsAt .right e || s.failsAt .main e)) := by
  simp [State.failsArm, State.failsAt]

/-- Which order an arm waits for is a matter of its record. -/
theorem State.failsAt_congr {s u : State} {a : Arm} (h : (u.arm a).waiting = (s.arm a).waiting) (e : Entry) :
    u.failsAt a e = s.failsAt a e := by
  rw [State.failsAt, h, State.failsAt]

/-- With no arm waiting for WORKING or HOVER, a notice fails no order of an arm. -/
theorem State.calmArms.failsArm {s : State} (h : s.calmArms) (e : Entry) : s.failsArm e = false := by
  have hat (a : Arm) : s.failsAt a e = false := by
    cases hw : (s.arm a).waiting with
    | none => simp [State.failsAt, hw]
    | some w => simp [State.failsAt, hw, h a w hw]
  rw [State.failsArm_eq, hat, hat, hat, Bool.or_false, Bool.or_false]

/-- The words that a run of ends may write are those of any larger range. -/
theorem Ends.mono {ends : Entry → Option (Result × Nat)} {region more : Nat → Prop} {s t : State} (h : Ends ends region s t)
    (hsub : ∀ a, region a → more a) : Ends ends more s t :=
  { h with words := fun a ha hnot => h.words a ha fun hin => hnot (hsub a hin) }

/-- Two runs of ends that write nothing else are one that writes nothing else. -/
theorem Ends.andThen {f g : Entry → Option (Result × Nat)} {s u t : State} (hf : Ends f noWord s u) (hg : Ends g noWord u t)
    (hinv : s.ordersInv) : Ends (fun e => (f e).or (g e)) noWord s t :=
  (hf.comp hg hinv (fun _ h => h.elim) fun _ h => h.elim).mono fun _ h => h.elim id id

/-- Orders that fail for one reason at two places fail for it together. -/
theorem Ends.failed_andThen {reason : Nat} {p q : Entry → Bool} {s u t : State} (hp : Ends (failedWith reason p) noWord s u)
    (hq : Ends (failedWith reason q) noWord u t) (hinv : s.ordersInv) :
    Ends (failedWith reason fun e => p e || q e) noWord s t := by
  refine (hp.andThen hq hinv).congr fun e _ => ?_
  unfold failedWith
  cases hpe : p e <;> simp [hpe]

/-- What ends after a state that is the same for the orders ends after the earlier one. -/
theorem Ends.before {ends : Entry → Option (Result × Nat)} {s u t : State} (h : s.SameForOrders u)
    (hends : Ends ends noWord u t) (hinv : s.ordersInv) : Ends ends noWord s t :=
  ((Ends.of_same h).andThen hends hinv).congr fun _ _ => Option.none_or

/-- What has ended before a state that is the same for the orders has ended before the later one. -/
theorem Ends.after {ends : Entry → Option (Result × Nat)} {s u t : State} (hends : Ends ends noWord s u)
    (h : u.SameForOrders t) (hinv : s.ordersInv) : Ends ends noWord s t :=
  (hends.andThen (Ends.of_same h) hinv).congr fun _ _ => Option.or_none

/-- A completion notice sent after a change that is the same for the orders (R149). -/
theorem completionNotice_endsAfter {s u : State} (h : s.SameForOrders u) (target : Target) (slot : Nat) (time : BitVec 32)
    (r : Result) (d : Nat) (hinv : s.ordersInv) (hwf : s.xmemWf) :
    Ends (fun x => if x.answers target slot time then some (r, d) else none) noWord s
      (completionNotice target slot time r d u) :=
  (completionNotice_endsOne target slot time r d (ordersInv_congr h.orders hinv) (xmemWf_congr h.xmem hwf)).before h hinv

/-- A notice other than that of PARKED fails an arm's waiting SET_ARM for WORKING or HOVER (R86). -/
theorem noticeWaiting_ends {new : Mode} (a : Arm) {s : State} (hnew : new ≠ .parked) (hinv : s.ordersInv) (hwf : s.xmemWf) :
    Ends (failedWith s.modc.reason (s.failsAt a)) noWord s (noticeWaiting new a s) := by
  have hstands (h : ∀ e, s.failsAt a e = false) : Ends (failedWith s.modc.reason (s.failsAt a)) noWord s s :=
    (Ends.of_same ⟨rfl, rfl, rfl, rfl⟩).congr fun e _ => by rw [failedWith, h e]; rfl
  unfold noticeWaiting
  cases hw : (s.arm a).waiting with
  | none => exact hstands fun e => by simp [State.failsAt, hw]
  | some w =>
    dsimp only
    rw [if_neg hnew]
    by_cases hreq : w.req = .stowed
    · rw [if_pos hreq]
      exact hstands fun e => by simp [State.failsAt, hw, hreq]
    · rw [if_neg hreq]
      have hsame : s.SameForOrders (setArm a { s.arm a with waiting := none } s) := ⟨rfl, rfl, rfl, rfl⟩
      refine (completionNotice_endsAfter hsame (armTarget a) w.slot w.takeTime .failed s.modc.reason hinv hwf).congr fun e _ => ?_
      have htest : e.answers (armTarget a) w.slot w.takeTime = s.failsAt a e := by
        simp [Entry.answers, State.failsAt, hw, hreq, eq_comm (a := e.slot), eq_comm (a := e.takeTime)]
      rw [failedWith, htest]

/-- The three arms' notices, one after another (R86). -/
theorem noticeArms_ends {new : Mode} {s : State} (hnew : new ≠ .parked) (hinv : s.ordersInv) (hwf : s.xmemWf) :
    Ends (failedWith s.modc.reason s.failsArm) noWord s
      (noticeWaiting new .main (noticeWaiting new .right (noticeWaiting new .left s))) := by
  have hleft := noticeWaiting_ends .left hnew hinv hwf
  have hright := noticeWaiting_ends (new := new) .right hnew (hleft.ordersInv hinv) (hleft.wf hwf)
  have hinv' := hright.ordersInv (hleft.ordersInv hinv)
  have hmain := noticeWaiting_ends (new := new) .main hnew hinv' (hright.wf (hleft.wf hwf))
  have hreason (a : Arm) (u : State) : (noticeWaiting new a u).modc = u.modc := by simp
  have hr : (noticeWaiting new .left s).failsAt .right = s.failsAt .right := by
    funext e
    exact State.failsAt_congr (by rw [noticeWaiting_arm, if_neg (by decide)]) e
  have hm : (noticeWaiting new .right (noticeWaiting new .left s)).failsAt .main = s.failsAt .main := by
    funext e
    exact State.failsAt_congr (by rw [noticeWaiting_arm, if_neg (by decide), noticeWaiting_arm, if_neg (by decide)]) e
  rw [hreason, hr] at hright
  rw [hreason, hreason, hm] at hmain
  refine (hleft.failed_andThen (hright.failed_andThen hmain (hleft.ordersInv hinv)) hinv).congr fun e _ => ?_
  rw [failedWith, failedWith, State.failsArm_eq]

/-- The governor's notice of SAFE fails its waiting SET_PACE (R61). -/
theorem govNotice_ends {new : Mode} {s : State} (hinv : s.ordersInv) (hwf : s.xmemWf) :
    Ends (failedWith s.modc.reason fun e => decide (new = .safe) && s.failsPace e) noWord s (govNotice new s) := by
  have hstands {t : State} (hsame : s.SameForOrders t) (h : ∀ e, (decide (new = .safe) && s.failsPace e) = false) :
      Ends (failedWith s.modc.reason fun e => decide (new = .safe) && s.failsPace e) noWord s t :=
    (Ends.of_same hsame).congr fun e _ => by rw [failedWith, h e]; rfl
  cases new
  case safe =>
    unfold govNotice
    dsimp only
    cases hw : s.gov.waiting with
    | none => exact hstands ⟨rfl, rfl, rfl, rfl⟩ fun e => by simp [State.failsPace, hw]
    | some w =>
      dsimp only
      by_cases hkind : w.kind = .setPace
      · rw [if_pos hkind]
        have hsame (g : Governor) : s.SameForOrders (s.setGov g) := ⟨rfl, rfl, rfl, rfl⟩
        refine (completionNotice_endsAfter (hsame _) .travel w.slot w.takeTime .failed s.modc.reason hinv hwf).congr fun e _ => ?_
        have htest : e.answers .travel w.slot w.takeTime = (decide (Mode.safe = .safe) && s.failsPace e) := by
          simp [Entry.answers, State.failsPace, hw, hkind, eq_comm (a := e.slot), eq_comm (a := e.takeTime)]
        rw [failedWith, htest]
      · rw [if_neg hkind]
        exact hstands ⟨rfl, rfl, rfl, rfl⟩ fun e => by simp [State.failsPace, hw, hkind]
  all_goals exact hstands ⟨rfl, rfl, rfl, rfl⟩ fun e => by simp

/-- The switch derivation, due or not, leaves a record's waiting order (R87). -/
theorem derivesOrNot_waiting (b up : Bool) (r : ArmRecord) : (if b then deriveRecord up r else r).waiting = r.waiting := by
  split
  · exact deriveRecord_waiting up r
  · rfl

/-- Moving the arms leaves the mode controller (R86, R87). -/
theorem movedArms_modc (prev new : Mode) (s : State) : (movedArms new (derivedArms prev new s)).modc = s.modc := by
  have hderived : (derivedArms prev new s).modc = s.modc := by
    unfold derivedArms
    split
    · simp
    · rfl
  rw [← hderived]
  unfold movedArms
  split <;> simp

/-- Moving the arms at a notice other than that of PARKED leaves the orders (R86). -/
theorem movedArms_sameForOrders {prev new : Mode} {s : State} (hnew : new ≠ .parked) :
    s.SameForOrders (movedArms new (derivedArms prev new s)) := by
  have hmap (f : Arm → ArmRecord → ArmRecord) (u : State) : u.SameForOrders (handArmsOff (mapArms f u)) :=
    ⟨by simp, by simp, by simp, by simp⟩
  have hderived : s.SameForOrders (derivedArms prev new s) := by
    unfold derivedArms
    split
    · exact hmap _ s
    · exact ⟨rfl, rfl, rfl, rfl⟩
  have hmoved (u : State) : u.SameForOrders (movedArms new u) := by
    unfold movedArms
    split
    · exact hmap _ u
    · exact hmap _ u
    · exact absurd rfl hnew
    · exact ⟨rfl, rfl, rfl, rfl⟩
  exact hderived.trans (hmoved _)

/-- A change of mode to another mode than PARKED ends the orders that its notices fail: at SAFE a waiting SET_PACE, and at every mode a
waiting SET_ARM for WORKING or HOVER (R61, R86). -/
theorem changeMode_ends {new : Mode} (reason : Nat) {s : State} (hnew : new ≠ .parked) (hinv : s.ordersInv) (hwf : s.xmemWf) :
    Ends (failedWith reason fun e => (decide (new = .safe) && s.failsPace e) || s.failsArm e) noWord s (changeMode new reason s) := by
  have hentered : s.SameForOrders (modeEntered new reason s) := ⟨by simp, by simp, by simp, by simp⟩
  have hinv1 := ordersInv_congr hentered.orders hinv
  have hwf1 := xmemWf_congr hentered.xmem hwf
  have hgov := govNotice_ends (new := new) hinv1 hwf1
  have hinv2 := hgov.ordersInv hinv1
  have hmoved := movedArms_sameForOrders (prev := s.modc.mode) (s := govNotice new (modeEntered new reason s)) hnew
  have hinv3 := ordersInv_congr hmoved.orders hinv2
  have harms := noticeArms_ends hnew hinv3 (xmemWf_congr hmoved.xmem (hgov.wf hwf1))
  have hafter (c : Cause) (hc : c.bit.getLsbD 0 = false) (u : State) :
      u.SameForOrders (raiseCause c (loadNotice new (waterNotice new u))) := by
    refine ⟨by simp [loadNotice, hnew], by simp [loadNotice, hnew], by simp [loadNotice, hnew], ?_⟩
    have hport : (loadNotice new (waterNotice new u)).port = u.port := by simp [loadNotice, hnew]
    rw [raiseCause, State.setPort_port, hport, HostPort.raise, BitVec.getLsbD_or, hc, Bool.or_false]
  have hcause : (if s.modc.mode = .starting then Cause.started else .modeChange).bit.getLsbD 0 = false := by
    split <;> rfl
  have hreason : (movedArms new (derivedArms s.modc.mode new (govNotice new (modeEntered new reason s)))).modc.reason = reason := by
    rw [movedArms_modc]
    simp [ModeControl.enters]
  have hreason1 : (modeEntered new reason s).modc.reason = reason := by simp [ModeControl.enters]
  have hwaits (a : Arm) : ((movedArms new (derivedArms s.modc.mode new (govNotice new (modeEntered new reason s)))).arm a).waiting =
      (s.arm a).waiting := by
    rw [movedArms_arm, movedRecord_waiting, derivedArms_arm, govNotice_arm, modeEntered_arm, derivesOrNot_waiting]
    cases stowsOnEntry new <;> rfl
  have hfails : (movedArms new (derivedArms s.modc.mode new (govNotice new (modeEntered new reason s)))).failsArm = s.failsArm := by
    funext e
    rw [State.failsArm_eq, State.failsArm_eq, State.failsAt_congr (hwaits _), State.failsAt_congr (hwaits _),
      State.failsAt_congr (hwaits _)]
  have hpace : (modeEntered new reason s).failsPace = s.failsPace := by
    have hg : (modeEntered new reason s).gov = s.gov := by simp
    funext e
    rw [State.failsPace, hg, State.failsPace]
  rw [← armNotice_eq, hreason, hfails] at harms
  rw [hreason1, hpace] at hgov
  exact ((hgov.failed_andThen ((harms.before hmoved hinv2)) hinv1).after (hafter _ hcause _) hinv1).before hentered hinv

end Sys2Proof.Machine

namespace Sys2Proof.Machine

/-! ### The causes that a change of mode raises (R157) -/

/-- Orders were ended at most: the causes but ORDER_DONE stand. -/
def PortDone (s t : State) : Prop := ∃ b, t.port = s.port.notifyDone b

theorem PortDone.of_same {s t : State} (h : t.port = s.port) : PortDone s t := ⟨false, h⟩

theorem PortDone.trans {s u t : State} (h : PortDone s u) (hut : PortDone u t) : PortDone s t := by
  obtain ⟨b, hb⟩ := h
  obtain ⟨c, hc⟩ := hut
  exact ⟨b || c, by rw [hc, hb, HostPort.notifyDone_notifyDone]⟩

/-- A completion notice raises ORDER_DONE at most (R149). -/
theorem completionNotice_portDone (target : Target) (slot : Nat) (time : BitVec 32) (r : Result) (d : Nat) (s : State) :
    PortDone s (completionNotice target slot time r d s) := by
  unfold completionNotice
  split
  · exact ⟨_, endEntry_port _ _ _ _⟩
  · exact .of_same rfl

/-- A completion notice sent after a change that leaves the port. -/
theorem completionNotice_portAfter {s u : State} (h : u.port = s.port) (target : Target) (slot : Nat) (time : BitVec 32)
    (r : Result) (d : Nat) : PortDone s (completionNotice target slot time r d u) :=
  (PortDone.of_same h).trans (completionNotice_portDone target slot time r d u)

/-- A notice at a waiting order raises ORDER_DONE at most (R86). -/
theorem noticeWaiting_portDone (new : Mode) (a : Arm) (s : State) : PortDone s (noticeWaiting new a s) := by
  unfold noticeWaiting
  split
  · exact .of_same rfl
  · next w _ =>
    split
    · exact .of_same rfl
    split
    · exact .of_same rfl
    · refine completionNotice_portAfter ?_ _ _ _ _ _
      rfl

/-- The governor's notice raises ORDER_DONE at most (R61). -/
theorem govNotice_portDone (new : Mode) (s : State) : PortDone s (govNotice new s) := by
  cases new
  case safe =>
    unfold govNotice
    dsimp only
    split
    · split
      · refine completionNotice_portAfter ?_ _ _ _ _ _
        rfl
      · exact .of_same rfl
    · exact .of_same rfl
  all_goals exact .of_same rfl

/-- Moving the arms leaves the port. -/
theorem movedArms_port (prev new : Mode) (s : State) : (movedArms new (derivedArms prev new s)).port = s.port := by
  have hderived : (derivedArms prev new s).port = s.port := by
    unfold derivedArms
    split
    · simp
    · rfl
  rw [← hderived]
  unfold movedArms
  split <;> simp

/-- A change of mode to another mode than PARKED raises its cause, and ORDER_DONE for what it ends (R2, R149). -/
theorem changeMode_portDone {new : Mode} (reason : Nat) (s : State) (hnew : new ≠ .parked) :
    ∃ b, (changeMode new reason s).port =
      (s.port.notifyDone b).raise (if s.modc.mode = .starting then .started else .modeChange) := by
  have hentered : PortDone s (govNotice new (modeEntered new reason s)) :=
    (PortDone.of_same (by simp)).trans (govNotice_portDone new (modeEntered new reason s))
  have hmoved (prev : Mode) (u : State) : PortDone u (movedArms new (derivedArms prev new u)) :=
    .of_same (movedArms_port prev new u)
  have harms (prev : Mode) (u : State) : PortDone u (armNotice prev new u) := by
    rw [armNotice_eq]
    exact (hmoved prev u).trans ((noticeWaiting_portDone new .left _).trans
      ((noticeWaiting_portDone new .right _).trans (noticeWaiting_portDone new .main _)))
  obtain ⟨b, hb⟩ := hentered.trans (harms s.modc.mode _)
  refine ⟨b, ?_⟩
  rw [changeMode_eq, raiseCause, State.setPort_port, ← hb]
  congr 1
  simp [sendNotices, loadNotice, hnew]

/-! ### A change of mode that fails no order -/

/-- A waiting order for STOWED waits on (R86). -/
theorem noticeWaiting_of_calm {new : Mode} {a : Arm} {s : State} (hnew : new ≠ .parked)
    (hcalm : ∀ w, (s.arm a).waiting = some w → w.req = .stowed) : noticeWaiting new a s = s := by
  unfold noticeWaiting
  split
  · rfl
  · next w hw => rw [if_neg hnew, if_pos (hcalm w hw)]

/-- With no order waiting for WORKING or HOVER, a change to a mode but SAFE and PARKED ends no order (R2, R61, R86). -/
theorem changeMode_of_calm {new : Mode} (reason : Nat) {s : State} (hnew : new ≠ .parked) (hsafe : new ≠ .safe)
    (hcalm : s.calmArms) : (changeMode new reason s).xmem = s.xmem ∧ (changeMode new reason s).orders = s.orders ∧
      (changeMode new reason s).port = s.port.raise (if s.modc.mode = .starting then .started else .modeChange) := by
  have hgov : govNotice new (modeEntered new reason s) = modeEntered new reason s := by
    cases new <;> first | rfl | exact absurd rfl hnew | exact absurd rfl hsafe
  have hwaits (a : Arm) : ((movedArms new (derivedArms s.modc.mode new (modeEntered new reason s))).arm a).waiting =
      (s.arm a).waiting := by
    rw [movedArms_arm, movedRecord_waiting, derivedArms_arm, modeEntered_arm, derivesOrNot_waiting]
    cases stowsOnEntry new <;> rfl
  have hstay (a : Arm) : noticeWaiting new a (movedArms new (derivedArms s.modc.mode new (modeEntered new reason s))) =
      movedArms new (derivedArms s.modc.mode new (modeEntered new reason s)) :=
    noticeWaiting_of_calm hnew fun w hw => hcalm a w ((hwaits a).symm.trans hw)
  have hmoved := movedArms_sameForOrders (prev := s.modc.mode) (s := modeEntered new reason s) hnew
  have hport : (movedArms new (derivedArms s.modc.mode new (modeEntered new reason s))).port = s.port :=
    (movedArms_port _ _ _).trans (by simp)
  have hx : (modeEntered new reason s).xmem = s.xmem := by simp
  have ho : (modeEntered new reason s).orders = s.orders := by simp
  rw [changeMode_eq, sendNotices, hgov, armNotice_eq, hstay, hstay, hstay]
  refine ⟨?_, ?_, ?_⟩
  · simp [loadNotice, hnew, hmoved.xmem]
  · simp [loadNotice, hnew, hmoved.orders]
  · simp [loadNotice, hnew, raiseCause, hport]

/-! ### The end of work (R2, R86, R107) -/

/-- W stands at the notices of a mode (R30, R81). -/
theorem sendNotices_width (prev new : Mode) (s : State) : (sendNotices prev new s).armc.width = s.armc.width := by
  have hderived (u : State) : (derivedArms prev new u).armc.width = u.armc.width := by
    unfold derivedArms
    split
    · simp [deriveArms, mapArms]
    · rfl
  have hmoved (u : State) : (movedArms new u).armc.width = u.armc.width := by
    unfold movedArms
    split <;> simp [mapArms]
  have hwait (a : Arm) (u : State) : (noticeWaiting new a u).armc.width = u.armc.width := by
    unfold noticeWaiting
    split
    · rfl
    · split
      · exact setArm_width _ _ _
      split
      · rfl
      · have hfail (w : Option ArmWait) (d : Nat) (u : State) : (failWaiting a w d u).armc = u.armc := by simp
        rw [hfail]
        exact setArm_width _ _ _
  have hload (u : State) : (loadNotice new u).armc = u.armc := by simp
  have hwater (u : State) : (waterNotice new u).armc = u.armc := by simp
  rw [sendNotices, hload, hwater, armNotice_eq, hwait, hwait, hwait, hmoved, hderived]
  simp

/-- W stands at a change of mode (R30, R81). -/
theorem changeMode_width (new : Mode) (reason : Nat) (s : State) : (changeMode new reason s).armc.width = s.armc.width := by
  have hcause (c : Cause) (u : State) : (raiseCause c u).armc = u.armc := rfl
  rw [changeMode_eq, hcause, sendNotices_width]
  simp

/-- The outputs of an arm at rest with its motor off, by its state (R73). -/
theorem raisedArms_changeMode {new : Mode} (reason : Nat) {s : State} (hnew : new = .disengaging ∨ new = .safe)
    (hprev : s.modc.mode ≠ .starting ∧ s.modc.mode ≠ .parked) : RaisedArms s (changeMode new reason s) := by
  have hderives : derivesArms s.modc.mode new = false := by simp [derivesArms, hprev]
  have hmoves : movesArms s.modc.mode new = true := by obtain rfl | rfl := hnew <;> simp [movesArms]
  have hstows : stowsOnEntry new = true := by obtain rfl | rfl := hnew <;> rfl
  have hkept (w : Option ArmWait) : keptWait new w = keptArmWait w := by
    obtain rfl | rfl := hnew <;> cases w <;> simp [keptWait, keptArmWait, Option.filter]
  have hmove (r : ArmRecord) : movedRecord new r = raiseRecord r := by obtain rfl | rfl := hnew <;> rfl
  have harm (a : Arm) : (changeMode new reason s).arm a =
      { raiseRecord { s.arm a with req := .stowed } with waiting := keptArmWait (s.arm a).waiting } := by
    rw [changeMode_arm, changedRecord, if_pos hstows, noticedRecord, hderives, hkept, hmove]
    rfl
  have houts (a : Arm) : (changeMode new reason s).armOuts a = ((changeMode new reason s).arm a).outs 0 := by
    rw [changeMode_armOuts, hmoves, if_pos rfl]
  refine ⟨changeMode_width new reason s, fun a => ?_⟩
  · have hlower := congrArg ArmOuts.lower (houts a)
    have hraise := congrArg ArmOuts.raise (houts a)
    have hmotor := congrArg ArmOuts.motor (houts a)
    simp only [State.armOuts, ArmRecord.outs] at hlower hraise hmotor
    rw [hlower, hraise, hmotor, harm]
    have hstate : (raiseRecord { s.arm a with req := .stowed }).req = .stowed := by
      unfold raiseRecord enterRaising enterState
      split <;> rfl
    refine ⟨hstate, rfl, fun h1 h2 h3 => ?_, fun h => ?_, rfl⟩
    · have : raiseRecord { s.arm a with req := .stowed } = enterRaising { s.arm a with req := .stowed } := by
        unfold raiseRecord
        cases h : (s.arm a).state <;> simp_all
      rw [this]
      exact ⟨rfl, rfl, rfl, rfl, rfl, rfl⟩
    · have : raiseRecord { s.arm a with req := .stowed } = { s.arm a with req := .stowed } := by
        unfold raiseRecord
        rcases h with h | h | h <;> simp [h]
      rw [this]

/-- The spray has stopped after a change to a mode that stops it (R107). -/
theorem sprayStopped_changeMode {new : Mode} (reason : Nat) {s : State} (hnew : stopsSpray new = true) :
    SprayStopped s (changeMode new reason s) := by
  have houts := changeMode_waterOuts new reason s
  rw [hnew, if_pos rfl] at houts
  refine ⟨?_, congrArg Prod.snd houts, congrArg Prod.fst houts⟩
  rw [changeMode_watc, noticedWater, hnew]
  rfl

theorem OutputsOnly.of_same {s t : State} (h : t.tma = s.tma) : OutputsOnly s t := by
  unfold OutputsOnly
  rw [h]

theorem OutputsOnly.trans {s u t : State} (h : OutputsOnly s u) (hut : OutputsOnly u t) : OutputsOnly s t := by
  unfold OutputsOnly at h hut ⊢
  rw [hut, h]

/-- Handing an arm's outputs moves the outputs alone (R73). -/
theorem handRecord_outputsOnly (a : Arm) (motor : Nat) (s : State) : OutputsOnly s (handRecord a motor s) := by
  cases a <;> rfl

theorem handArmsOff_outputsOnly (s : State) : OutputsOnly s (handArmsOff s) :=
  (handRecord_outputsOnly .left 0 s).trans ((handRecord_outputsOnly .right 0 _).trans (handRecord_outputsOnly .main 0 _))

/-- The notices of a mode move nothing of the timing array but the outputs. -/
theorem sendNotices_outputsOnly (prev new : Mode) (s : State) : OutputsOnly s (sendNotices prev new s) := by
  have hmap (f : Arm → ArmRecord → ArmRecord) (u : State) : OutputsOnly u (handArmsOff (mapArms f u)) :=
    (OutputsOnly.of_same rfl).trans (handArmsOff_outputsOnly (mapArms f u))
  have hderived (u : State) : OutputsOnly u (derivedArms prev new u) := by
    unfold derivedArms
    split
    · exact hmap _ u
    · rfl
  have hmoved (u : State) : OutputsOnly u (movedArms new u) := by
    unfold movedArms
    split
    · exact hmap _ u
    · exact hmap _ u
    · exact (hmap (fun _ r => parkRecord r) u).trans (.of_same (by simp))
    · rfl
  have hwait (a : Arm) (u : State) : OutputsOnly u (noticeWaiting new a u) := .of_same (by simp)
  have harms (u : State) : OutputsOnly u (armNotice prev new u) := by
    rw [armNotice_eq]
    exact (hderived u).trans ((hmoved _).trans ((hwait _ _).trans ((hwait _ _).trans (hwait _ _))))
  have hgov (u : State) : OutputsOnly u (govNotice new u) := .of_same (by simp)
  have hwater (u : State) : OutputsOnly u (waterNotice new u) := by
    cases new <;> rfl
  have hload (u : State) : OutputsOnly u (loadNotice new u) := .of_same (by simp)
  exact (hgov s).trans ((harms _).trans ((hwater _).trans (hload _)))

/-- A change of mode moves nothing of the timing array but the outputs. -/
theorem changeMode_outputsOnly (new : Mode) (reason : Nat) (s : State) : OutputsOnly s (changeMode new reason s) := by
  have hentered : OutputsOnly s (modeEntered new reason s) := .of_same (by simp)
  rw [changeMode_eq]
  exact (hentered.trans (sendNotices_outputsOnly _ _ _)).trans (.of_same rfl)

end Sys2Proof.Machine

namespace Sys2Proof.Machine

/-! ### ENGAGE (R6) -/

/-- No order waits at an arm where the arms are as in a state with none waiting. -/
theorem State.calmArms.of_same {s u : State} (h : s.calmArms) (harmc : u.armc = s.armc) : u.calmArms := fun a w hw =>
  h a w (by rw [← State.arm_congr harmc]; exact hw)

/-- The entry to ENGAGING with no order for WORKING or HOVER waiting: the mode controller, the prime, MODE_CHANGE, and nothing else
(R2, R107). -/
theorem changeMode_engaging (reason : Nat) {s : State} (hcalm : s.calmArms) (hprev : s.modc.mode ≠ .starting) :
    changeMode .engaging reason s =
      raiseCause .modeChange ((s.setModc (s.modc.enters .engaging reason)).setWatc (primeIdle s.watc)) := by
  have hstay (a : Arm) : noticeWaiting .engaging a (s.setModc (s.modc.enters .engaging reason)) =
      s.setModc (s.modc.enters .engaging reason) := noticeWaiting_of_calm (by decide) fun w hw => hcalm a w hw
  have hderived (u : State) : movedArms .engaging (derivedArms s.modc.mode .engaging u) = u := rfl
  have hgov (u : State) : govNotice .engaging u = u := rfl
  have hentered : modeEntered .engaging reason s = s.setModc (s.modc.enters .engaging reason) := rfl
  rw [changeMode_eq, sendNotices, hgov, armNotice_eq, hderived, hentered, hstay, hstay, hstay, if_neg hprev]
  rfl

/-- What the entry to ENGAGING may change. -/
theorem changeMode_engaging_sameBut (reason : Nat) {s : State} (hcalm : s.calmArms) (hprev : s.modc.mode ≠ .starting) :
    SameBut [.port, .modc, .watc] s (changeMode .engaging reason s) := by
  rw [changeMode_engaging reason hcalm hprev]
  intro b
  cases b <;> simp [Block.same, raiseCause]

/-- The tests of ENGAGE are those of the state at the take (R6). -/
theorem engage_refused (o : Order) {s : State} (htakes : s.takes) (d : Nat)
    (h : (s.modc.mode = .sweeping ∧ d = 16) ∨ (s.modc.mode = .safe ∧ d = 17) ∨
      (s.modc.mode = .transport ∧ s.armc.main.state = .out ∧ d = 18) ∨
      (s.modc.mode = .transport ∧ s.armc.main.state ≠ .out ∧ s.waterGone = true ∧ d = 19)) :
    ∃ t, exec (.engage o) s = .next t ∧ DoneAtOnce o.notify .refusedMode d s t ∧ SameBut [.xmem, .orders, .port] s t := by
  refine doneAtOnce_of_completeNow (dispatch := dispatchEngage) (kind := 2) rfl htakes ?_
  have hmodc : (advanceCursor s).modc = s.modc := rfl
  have harmc : (advanceCursor s).armc = s.armc := rfl
  have hgone : (advanceCursor s).waterGone = s.waterGone := rfl
  obtain ⟨hmode, rfl⟩ | ⟨hmode, rfl⟩ | ⟨hmode, hout, rfl⟩ | ⟨hmode, hout, hwater, rfl⟩ := h
  · simp only [dispatchEngage, hmodc, hmode]
  · simp only [dispatchEngage, hmodc, hmode]
  · simp only [dispatchEngage, hmodc, harmc, hmode, if_pos hout]
  · simp only [dispatchEngage, hmodc, harmc, hgone, hmode, if_neg hout, hwater, if_true]

/-- ENGAGE in ENGAGING opens and does nothing else (R6). -/
theorem exec_acceptOpen_only {c : Instr} {dispatch : Take → State → State} {kind : Nat} {o : Order} {s : State}
    (hexec : exec c s = orderCommand dispatch kind o s) (htakes : s.takes)
    (hdispatch : dispatch (noteTake kind o s) (advanceCursor s) = acceptOpen .mode (noteTake kind o s) id (advanceCursor s)) :
    (s.openOn .mode = none → ∃ t, exec c s = .next t ∧ Opened kind .mode o s t ∧ SameBut [.xmem, .orders] s t) ∧
      ∀ e ∈ s.orders.entries, s.ordersInv → e.target = .mode → ∃ t, exec c s = .next t ∧
        OpenedOver kind .mode o e s t ∧ CausesKept false s t ∧ SameBut [.xmem, .orders, .port] s t := by
  obtain ⟨hrun, hframe⟩ := exec_acceptOpen (blocks := []) hexec htakes hdispatch (SameBut.refl [] _)
  refine ⟨fun hfree => ?_, fun e he hinv htarget => ?_⟩
  · obtain ⟨hopened, hport⟩ := acceptOpen_first kind (effect := id) o htakes hfree rfl rfl
    exact ⟨_, hrun, hopened, hframe.narrow (by simp [Block.same, hport])⟩
  · obtain ⟨hover, hcauses⟩ := acceptOpen_over (kind := kind) (o := o) (effect := id) false htakes hinv he htarget rfl rfl rfl
    exact ⟨_, hrun, hover, hcauses, hframe⟩

/-- Settles O26. -/
theorem engageOpensOrIsRefused : Obligations.EngageOpensOrIsRefused := by
  intro o s htakes
  refine ⟨fun d h => engage_refused o htakes d h, fun hmode => ?_, fun hcalm hmode => ?_⟩
  · refine exec_acceptOpen_only (dispatch := dispatchEngage) rfl htakes ?_
    have hmode' : (advanceCursor s).modc.mode = .engaging := hmode
    rw [dispatchEngage, hmode']
  · have hdispatch : dispatchEngage (noteTake 2 o s) (advanceCursor s) =
        acceptOpen .mode (noteTake 2 o s) (changeMode .engaging 18) (advanceCursor s) := by
      obtain ⟨hmode, hout, hwater⟩ | hmode := hmode
      · have hmode' : (advanceCursor s).modc.mode = .transport := hmode
        have hout' : ¬(advanceCursor s).armc.main.state = .out := hout
        have hwater' : (advanceCursor s).waterGone = false := hwater
        rw [dispatchEngage, hmode']
        dsimp only
        rw [if_neg hout', hwater']
        rfl
      · have hmode' : (advanceCursor s).modc.mode = .disengaging := hmode
        rw [dispatchEngage, hmode']
    have hprev : s.modc.mode ≠ .starting := by
      obtain ⟨hmode, -⟩ | hmode := hmode <;> simp [hmode]
    have hsup := supersede_sameBut .mode (noteTake 2 o s) (advanceCursor s)
    have hmodc : (supersede .mode (noteTake 2 o s) (advanceCursor s)).modc = s.modc := hsup.same .modc (by decide)
    have hwatc : (supersede .mode (noteTake 2 o s) (advanceCursor s)).watc = s.watc := hsup.same .watc (by decide)
    have hcalm' : (supersede .mode (noteTake 2 o s) (advanceCursor s)).calmArms := hcalm.of_same (hsup.same .armc (by decide))
    have hprev' : (supersede .mode (noteTake 2 o s) (advanceCursor s)).modc.mode ≠ .starting := by rw [hmodc]; exact hprev
    have heq := changeMode_engaging 18 hcalm' hprev'
    obtain ⟨hrun, hframe⟩ := exec_acceptOpen (c := .engage o) (dispatch := dispatchEngage) (kind := 2) rfl htakes hdispatch
      (changeMode_engaging_sameBut 18 hcalm' hprev')
    refine ⟨_, hrun, fun hfree => ?_, fun e he hinv htarget => ?_, ?_, ?_, hframe.mono (by decide)⟩
    · rw [supersede_of_none hfree] at heq
      obtain ⟨hopened, hport⟩ := acceptOpen_first 2 (effect := changeMode .engaging 18) o htakes hfree (by rw [heq]; rfl)
        (by rw [heq]; rfl)
      exact ⟨hopened, hport.trans (by rw [heq]; rfl)⟩
    · rw [supersede_of_mem hinv he htarget] at heq
      exact acceptOpen_over true htakes hinv he htarget (by rw [heq]; rfl) (by rw [heq]; rfl) (by rw [heq]; rfl)
    · rw [acceptOpen, (openEntry_sameBut _ _ _).same .modc (by decide), heq, raiseCause, State.setPort_modc, State.setWatc_modc,
        State.setModc_modc, hmodc]
      simp [ModeControl.enters, stowsOnEntry, hprev]
    · rw [acceptOpen, (openEntry_sameBut _ _ _).same .watc (by decide), heq, raiseCause, State.setPort_watc, State.setWatc_watc, hwatc]
      rfl

end Sys2Proof.Machine

namespace Sys2Proof.Machine

/-! ### DISENGAGE (R13) -/

/-- The end of work speaks of the mode controller, the arms, the water and the outputs alone. -/
theorem WorkEnded.congr {reason : Nat} {s u v t : State} (h : WorkEnded reason u v) (hs : SameBut [.xmem, .orders, .port] s u)
    (ht : SameBut [.xmem, .orders, .port] v t) : WorkEnded reason s t := by
  obtain ⟨hmodc, ⟨hwidth, harms⟩, ⟨hwatc, hspray⟩, htma⟩ := h
  have hsarm := State.arm_congr (hs.same .armc (by decide))
  have htarm := State.arm_congr (ht.same .armc (by decide))
  have hstma := hs.same .tma (by decide)
  have httma := ht.same .tma (by decide)
  refine ⟨?_, ⟨?_, fun a => ?_⟩, ⟨?_, ?_⟩, ?_⟩
  · rw [ht.same .modc (by decide), hmodc, hs.same .modc (by decide)]
  · rw [ht.same .armc (by decide), hwidth, hs.same .armc (by decide)]
  · rw [htarm, httma, ← hsarm]
    exact harms a
  · rw [ht.same .watc (by decide), hwatc, hs.same .watc (by decide)]
  · rw [httma]
    exact hspray
  · unfold OutputsOnly at htma ⊢
    rw [httma, htma, hstma]

/-- The entry to DISENGAGING from work ends it (R2, R86, R107). -/
theorem workEnded_changeMode (reason : Nat) {s : State} (hprev : s.modc.mode ≠ .starting ∧ s.modc.mode ≠ .parked) :
    WorkEnded reason s (changeMode .disengaging reason s) := by
  refine ⟨?_, raisedArms_changeMode reason (.inl rfl) hprev, sprayStopped_changeMode reason rfl, changeMode_outputsOnly _ _ s⟩
  rw [changeMode_modc]
  simp [ModeControl.enters, stowsOnEntry, hprev]

/-- What the entry to DISENGAGING may change. -/
theorem changeMode_disengaging_sameBut (reason : Nat) (s : State) :
    SameBut [.xmem, .orders, .port, .modc, .armc, .watc, .tma] s (changeMode .disengaging reason s) := by
  have hgov (u : State) : govNotice .disengaging u = u := rfl
  have hmoved (prev : Mode) (u : State) : SameBut [.armc, .tma] u (movedArms .disengaging (derivedArms prev .disengaging u)) := by
    have hmap (f : Arm → ArmRecord → ArmRecord) (v : State) : SameBut [.armc, .tma] v (handArmsOff (mapArms f v)) := by
      intro b
      cases b <;> simp [Block.same]
    have hderived : SameBut [.armc, .tma] u (derivedArms prev .disengaging u) := by
      unfold derivedArms
      split
      · exact hmap _ u
      · exact .refl _ u
    exact hderived.trans (hmap _ _)
  have harms : SameBut [.xmem, .orders, .port, .modc, .armc, .watc, .tma] (modeEntered .disengaging reason s)
      (armNotice s.modc.mode .disengaging (modeEntered .disengaging reason s)) := by
    rw [armNotice_eq]
    refine ((hmoved s.modc.mode _).mono (by decide)).trans ?_
    intro b
    cases b <;> simp [Block.same]
  have hentered : SameBut [.xmem, .orders, .port, .modc, .armc, .watc, .tma] s (modeEntered .disengaging reason s) := by
    intro b
    cases b <;> simp [Block.same]
  have hafter (c : Cause) (u : State) : SameBut [.xmem, .orders, .port, .modc, .armc, .watc, .tma] u
      (raiseCause c (loadNotice .disengaging (waterNotice .disengaging u))) := by
    intro b
    cases b <;> simp [Block.same, raiseCause, loadNotice]
  rw [changeMode_eq, sendNotices, hgov]
  exact hentered.trans (harms.trans (hafter _ _))

/-- Orders that end FAILED with one reason, as the statements say it, the words of a region apart (R149). -/
theorem failedTogether_of_endsIn {fails : Entry → Bool} {reason : Nat} {region : Nat → Prop} {s t : State}
    (h : Ends (failedWith reason fails) region s t) : FailedTogether fails reason s.orders.cursor [] s t ∧
      ∀ a, outsideEnded fails s a → ¬region a → t.xread a = s.xread a := by
  have hsome (e : Entry) : (failedWith reason fails e).isSome = fails e := by
    cases hf : fails e <;> simp [failedWith, hf]
  have hnone (e : Entry) : (failedWith reason fails e).isNone = !fails e := by
    cases hf : fails e <;> simp [failedWith, hf]
  refine ⟨⟨?_, h.cursor, ?_, fun lost hlost => ?_, ?_, fun e he hfails htaken => ?_⟩, fun a hout hnot => ?_⟩
  · rw [h.entries, List.append_nil]
    exact List.filter_congr fun e _ => hnone e
  · rw [h.stall, List.all_filter]
    simp only [hnone]
  · rw [h.orphans, hlost, ← List.countP_eq_length_filter, addOrphans]
    simp only [hsome]
  · rw [h.done]
    simp only [hsome, State.notifies, Bool.and_assoc]
  · exact h.slots e he .failed reason (by rw [failedWith, if_pos hfails]) htaken
  · exact h.words a (fun e he hended htaken => hout e he ((hsome e).symm.trans hended) htaken) hnot

/-- Orders that end FAILED with one reason, as the statements say it (R149). -/
theorem failedTogether_of_ends {fails : Entry → Bool} {reason : Nat} {s t : State} (h : Ends (failedWith reason fails) noWord s t) :
    FailedTogether fails reason s.orders.cursor [] s t ∧ ∀ a, outsideEnded fails s a → t.xread a = s.xread a :=
  have ⟨htogether, hwords⟩ := failedTogether_of_endsIn h
  ⟨htogether, fun a hout => hwords a hout id⟩

/-- An order that opens where the change of mode before it has failed the waiting SET_ARMs (R86, R148). -/
theorem failedTogether_opened {fails : Entry → Bool} {reason kind : Nat} {target : Target} {o : Order} {s u : State} {b : Bool}
    (htakes : s.takes) (hinv : s.ordersInv) (hends : Ends (failedWith reason fails) noWord (advanceCursor s) u)
    (hport : u.port = (s.port.notifyDone b).raise .modeChange) :
    FailedTogether fails reason (nextCursor s) [openedEntry kind target o s] s (openEntry target (noteTake kind o s) u) ∧
      CausesKept true s (openEntry target (noteTake kind o s) u) ∧
      (openEntry target (noteTake kind o s) u).owner s.orders.cursor = ownerTaken ∧
      ∀ a, a ≠ slotBase s.orders.cursor → outsideEnded fails s a →
        (openEntry target (noteTake kind o s) u).xread a = s.xread a := by
  have hwf : u.xmemWf := hends.wf htakes.2.2.2.2.2
  obtain ⟨howner, hwords, hunit, hkept⟩ := openEntry_after kind target o hinv.2.2.1 hwf
  obtain ⟨hcauses, -, -⟩ := port_done_changed (changed := true) (hkept.trans hport)
  obtain ⟨⟨hentries, hcursor, hstall, horphans, hdone, hslots⟩, houtside⟩ := failedTogether_of_ends hends
  rw [List.append_nil] at hentries
  refine ⟨⟨?_, ?_, ?_, fun lost hlost => ?_, ?_, fun e he hfails htaken => ?_⟩, hcauses, howner, fun a ha hout => ?_⟩
  · rw [hunit]
    exact congrArg (· ++ _) hentries
  · rw [hunit]
    exact hcursor
  · rw [hunit]
    exact hstall
  · rw [hunit]
    exact horphans lost hlost
  · rw [hkept]
    exact hdone
  · have hne := htakes.cursor_ne he
    exact (hslots e he hfails htaken).of_reads fun i hi => hwords _ (outsideResult_of_slot_ne (fun h => hne h.symm) hi).1
  · exact (hwords a ha).trans (houtside a hout)

/-- DISENGAGE from ENGAGING and SWEEPING (R13). -/
theorem dispatchDisengage_raises {t : Take} {s : State} (hmode : s.modc.mode = .engaging ∨ s.modc.mode = .sweeping) :
    dispatchDisengage t s = acceptOpen .mode t (changeMode .disengaging 19) s := by
  obtain hmode | hmode := hmode <;> rw [dispatchDisengage, hmode]

/-- Its run ends work, whatever order was open on MODE and whatever order waits at an arm (R13, R86). -/
theorem exec_disengage_raises {o : Order} {s : State} (htakes : s.takes)
    (hmode : s.modc.mode = .engaging ∨ s.modc.mode = .sweeping) :
    exec (.disengage o) s = .next (acceptOpen .mode (noteTake 3 o s) (changeMode .disengaging 19) (advanceCursor s)) ∧
      WorkEnded 19 s (acceptOpen .mode (noteTake 3 o s) (changeMode .disengaging 19) (advanceCursor s)) ∧
      SameBut [.xmem, .orders, .port, .modc, .armc, .watc, .tma] s
        (acceptOpen .mode (noteTake 3 o s) (changeMode .disengaging 19) (advanceCursor s)) := by
  have hsup := supersede_sameBut .mode (noteTake 3 o s) (advanceCursor s)
  have hmodc : (supersede .mode (noteTake 3 o s) (advanceCursor s)).modc = s.modc := hsup.same .modc (by decide)
  obtain ⟨hrun, hframe⟩ := exec_acceptOpen (c := .disengage o) (dispatch := dispatchDisengage) (kind := 3) rfl htakes
    (dispatchDisengage_raises hmode) (changeMode_disengaging_sameBut 19 _)
  refine ⟨hrun, ?_, hframe.mono (by decide)⟩
  have hended := workEnded_changeMode 19 (s := supersede .mode (noteTake 3 o s) (advanceCursor s))
    (by rw [hmodc]; obtain hmode | hmode := hmode <;> simp [hmode])
  refine hended.congr (((advanceCursor_sameBut s).mono (by decide)).trans (hsup.mono (by decide))) ?_
  exact (openEntry_sameBut _ _ _).mono (by decide)

/-- Settles O27. -/
theorem disengageRaisesTheArms : Obligations.DisengageRaisesTheArms := by
  intro o s htakes
  refine ⟨fun hmode => ?_, fun hmode => ?_, fun hmode => ?_, fun hmode hcalm => ?_, fun hmode hfree hinv => ?_⟩
  · have hmode' : (advanceCursor s).modc.mode = .transport := hmode
    obtain ⟨hrun, hframe⟩ := exec_completeOn (c := .disengage o) (dispatch := dispatchDisengage) (kind := 3) (effect := id)
      (blocks := []) rfl htakes (by rw [dispatchDisengage, hmode']) fun u => SameBut.refl [] u
    exact ⟨fun hfree => ⟨_, hrun, completeOn_first 3 o _ _ htakes hfree rfl rfl rfl rfl, hframe⟩, fun e he hinv htarget =>
      have hover := completeOn_over _ _ htakes hinv he htarget rfl rfl rfl rfl
      ⟨_, hrun, hover.1, hover.2, hframe⟩⟩
  · refine doneAtOnce_of_completeNow (dispatch := dispatchDisengage) (kind := 3) rfl htakes ?_
    have hmode' : (advanceCursor s).modc.mode = .safe := hmode
    rw [dispatchDisengage, hmode']
  · refine exec_acceptOpen_only (dispatch := dispatchDisengage) rfl htakes ?_
    have hmode' : (advanceCursor s).modc.mode = .disengaging := hmode
    rw [dispatchDisengage, hmode']
  · obtain ⟨hrun, hended, hframe⟩ := exec_disengage_raises (o := o) htakes hmode
    have hcalm' (u : State) (harmc : u.armc = s.armc) (hmodc : u.modc = s.modc) :
        (changeMode .disengaging 19 u).xmem = u.xmem ∧ (changeMode .disengaging 19 u).orders = u.orders ∧
          (changeMode .disengaging 19 u).port = u.port.raise .modeChange := by
      have hstarting : u.modc.mode ≠ .starting := by rw [hmodc]; obtain hmode | hmode := hmode <;> simp [hmode]
      have hchange := changeMode_of_calm (new := .disengaging) 19 (by decide) (by decide) (hcalm.of_same harmc)
      rwa [if_neg hstarting] at hchange
    refine ⟨_, hrun, fun hfree => ?_, fun e he hinv htarget => ?_, hended, hframe⟩
    · obtain ⟨hxmem, horders, hport⟩ := hcalm' (advanceCursor s) rfl rfl
      obtain ⟨hopened, hkept⟩ := acceptOpen_first 3 (effect := changeMode .disengaging 19) o htakes hfree hxmem horders
      exact ⟨hopened, hkept.trans hport⟩
    · have hsup : SameBut [.xmem, .orders, .port] s (supersededState e s) := by
        rw [← supersede_of_mem (kind := 3) (o := o) hinv he htarget]
        exact ((advanceCursor_sameBut s).mono (by decide)).trans ((supersede_sameBut _ _ _).mono (by decide))
      obtain ⟨hxmem, horders, hport⟩ := hcalm' (supersededState e s) (hsup.same .armc (by decide)) (hsup.same .modc (by decide))
      exact acceptOpen_over true htakes hinv he htarget hxmem horders (hport.trans (if_pos rfl).symm)
  · obtain ⟨hrun, hended, hframe⟩ := exec_disengage_raises (o := o) htakes hmode
    have hinv' : (advanceCursor s).ordersInv := ⟨hinv.1, hinv.2.1, Nat.mod_lt _ (by decide), hinv.2.2.2⟩
    have hstarting : (advanceCursor s).modc.mode ≠ .starting := by
      have hmodc : (advanceCursor s).modc = s.modc := rfl
      rw [hmodc]
      obtain hmode | hmode := hmode <;> simp [hmode]
    have hends : Ends (failedWith 19 s.failsArm) noWord (advanceCursor s) (changeMode .disengaging 19 (advanceCursor s)) :=
      (changeMode_ends 19 (by decide) hinv' htakes.2.2.2.2.2).congr fun e _ => rfl
    obtain ⟨b, hport⟩ := changeMode_portDone (new := .disengaging) 19 (advanceCursor s) (by decide)
    rw [if_neg hstarting] at hport
    have htogether := failedTogether_opened (kind := 3) (target := .mode) (o := o) htakes hinv hends hport
    rw [acceptOpen, supersede_of_none hfree] at hrun hended hframe
    exact ⟨_, hrun, htogether.1, htogether.2.1, htogether.2.2.1, htogether.2.2.2, hended, hframe⟩

end Sys2Proof.Machine

namespace Sys2Proof.Machine

/-! ### The mode controller's completions (R4, R10 to R14) -/

/-- With no order open on MODE there is none to complete. -/
theorem completeMode_of_none {s : State} (kinds : List Nat) (r : Result) (d : Nat) (h : s.openOn .mode = none) :
    completeMode kinds r d s = s := by
  rw [completeMode, h]

/-- The order open on MODE, if it is of one of the kinds, ends (R149). -/
theorem completeMode_ends {s : State} {e : Entry} (kinds : List Nat) (r : Result) (d : Nat)
    (h : s.openTaken e .mode e.slot e.takeTime) (hkind : kinds.contains e.kind = true) :
    OrderEnds e r d s (completeMode kinds r d s) := by
  obtain ⟨he, htarget, -, -, htaken, hrange, hnodup, hwf⟩ := h
  rw [completeMode, openOn_of_mem hnodup he htarget]
  dsimp only
  rw [if_pos hkind, completionNotice_of_mem r d hnodup he (Entry.answers_iff.mpr ⟨htarget, rfl, rfl⟩)]
  exact endEntry_ends r d htaken hrange hwf

/-- The end of an order stands in a state that is the same for the orders. -/
theorem OrderEnds.after {s u t : State} (h : u.SameForOrders t) {e : Entry} {r : Result} {detail : Nat}
    (hends : OrderEnds e r detail s u) : OrderEnds e r detail s t := by
  obtain ⟨⟨hslot, hwords⟩, ⟨hentries, hcursor, hstall⟩, hdone, horphans⟩ := hends
  refine ⟨⟨hslot.of_reads fun i _ => xread_congr h.xmem _, fun a ha => (xread_congr h.xmem a).trans (hwords a ha)⟩,
    ⟨fun x => ?_, ?_, ?_⟩, ?_, ?_⟩
  · rw [h.orders]
    exact hentries x
  · rw [h.orders, hcursor]
  · rw [h.orders, hstall]
  · rw [DoneNotified, h.done, hdone]
  · rw [h.orders, horphans]

/-- MODE_CHANGE is no matter of the orders. -/
theorem sameForOrders_of_raise {s t : State} {c : Cause} (hc : c.bit.getLsbD 0 = false) (hxmem : t.xmem = s.xmem)
    (horders : t.orders = s.orders) (hclock : t.tma.clock = s.tma.clock) (hport : t.port = s.port.raise c) : s.SameForOrders t :=
  ⟨hxmem, horders, hclock, by rw [hport, HostPort.raise, BitVec.getLsbD_or, hc, Bool.or_false]⟩

/-- A change of mode that fails no order is no matter of the orders. -/
theorem changeMode_sameForOrders {new : Mode} (reason : Nat) {s : State} (hnew : new ≠ .parked) (hsafe : new ≠ .safe)
    (hcalm : s.calmArms) : s.SameForOrders (changeMode new reason s) := by
  obtain ⟨hxmem, horders, hport⟩ := changeMode_of_calm reason hnew hsafe hcalm
  refine sameForOrders_of_raise ?_ hxmem horders (by simp) hport
  split <;> rfl

/-! ### SWEEPING reached (R10) -/

/-- The entry to SWEEPING with no order for WORKING or HOVER waiting: the mode controller, MODE_CHANGE, and nothing else (R2). -/
theorem changeMode_sweeping (reason : Nat) {s : State} (hcalm : s.calmArms) (hprev : s.modc.mode ≠ .starting) :
    changeMode .sweeping reason s = raiseCause .modeChange (s.setModc (s.modc.enters .sweeping reason)) := by
  have hstay (a : Arm) : noticeWaiting .sweeping a (s.setModc (s.modc.enters .sweeping reason)) =
      s.setModc (s.modc.enters .sweeping reason) := noticeWaiting_of_calm (by decide) fun w hw => hcalm a w hw
  have hderived (u : State) : movedArms .sweeping (derivedArms s.modc.mode .sweeping u) = u := rfl
  have hgov (u : State) : govNotice .sweeping u = u := rfl
  have hentered : modeEntered .sweeping reason s = s.setModc (s.modc.enters .sweeping reason) := rfl
  rw [changeMode_eq, sendNotices, hgov, armNotice_eq, hderived, hentered, hstay, hstay, hstay, if_neg hprev]
  rfl

/-- What the mode check that ends SETTLING leaves: SWEEPING, an open ENGAGE completed OK (R10). -/
def SweepingReached (commanded : ArmSet) (s t : State) : Prop :=
  t.modc = { s.modc with
    mode := .sweeping, reason := 21, phase := .none, settle := none, budget := 0, commanded := commanded } ∧
  (s.openOn .mode = none → t.port = s.port.raise .modeChange ∧ SameBut [.port, .modc] s t) ∧
  ∀ e, s.openTaken e .mode e.slot e.takeTime → e.kind = 2 → OrderEnds e .ok 0 s t ∧ SameBut [.xmem, .orders, .port, .modc] s t

/-- SWEEPING is reached from ENGAGING (R10). -/
theorem reachSweeping_reached {s : State} {m : ModeControl} (hcalm : s.calmArms) (hmode : m.mode = .engaging)
    (hm : m = { s.modc with settle := m.settle, budget := m.budget, commanded := m.commanded }) :
    SweepingReached m.commanded s (reachSweeping (s.setModc m)) := by
  have hcalm' : (s.setModc m).calmArms := hcalm.of_same rfl
  have hprev : (s.setModc m).modc.mode ≠ .starting := by
    rw [State.setModc_modc, hmode]
    decide
  have hsame : s.SameForOrders (changeMode .sweeping 21 (s.setModc m)) :=
    State.SameForOrders.trans (u := s.setModc m) ⟨rfl, rfl, rfl, rfl⟩
      (changeMode_sameForOrders (new := .sweeping) 21 (by decide) (by decide) hcalm')
  have hentered := changeMode_sweeping 21 hcalm' hprev
  have hframe : SameBut [.port, .modc] s (changeMode .sweeping 21 (s.setModc m)) := by
    rw [hentered]
    intro b
    cases b <;> simp [Block.same, raiseCause]
  have hended := completeMode_sameBut [2] .ok 0 (changeMode .sweeping 21 (s.setModc m))
  refine ⟨?_, fun hfree => ?_, fun e htaken hkind => ⟨?_, ?_⟩⟩
  · rw [reachSweeping, hended.same .modc (by decide), changeMode_modc, State.setModc_modc, ModeControl.enters, hmode, hm]
    simp [stowsOnEntry]
  · have hfree' : (changeMode .sweeping 21 (s.setModc m)).openOn .mode = none := by
      rw [State.openOn, hsame.orders]
      exact hfree
    rw [reachSweeping, completeMode_of_none _ _ _ hfree']
    refine ⟨?_, hframe⟩
    rw [hentered]
    rfl
  · exact (completeMode_ends [2] .ok 0 (htaken.before hsame) (by rw [hkind]; rfl)).before hsame
  · exact (hframe.mono (by decide)).trans (hended.mono (by decide))

/-! ### Work ended by a check (R11, R12, R14) -/

/-- What the check that ends work leaves: DISENGAGING, an open ENGAGE completed (R11, R12). -/
def WorkEndedBy (reason : Nat) (r : Result) (detail : Nat) (s t : State) : Prop :=
  WorkEnded reason s t ∧
  (s.openOn .mode = none → t.port = s.port.raise .modeChange ∧ SameBut [.port, .modc, .armc, .watc, .tma] s t) ∧
  ∀ e, s.openTaken e .mode e.slot e.takeTime → e.kind = 2 → OrderEnds e r detail s t ∧
    SameBut [.xmem, .orders, .port, .modc, .armc, .watc, .tma] s t

/-- The entry to DISENGAGING that fails no order changes no word and no order (R2). -/
theorem changeMode_disengaging_calm (reason : Nat) {s : State} (hcalm : s.calmArms) :
    SameBut [.port, .modc, .armc, .watc, .tma] s (changeMode .disengaging reason s) := by
  obtain ⟨hxmem, horders, -⟩ := changeMode_of_calm (new := .disengaging) reason (by decide) (by decide) hcalm
  have hframe := changeMode_disengaging_sameBut reason s
  exact hframe.narrow (by simp [Block.same, hxmem, horders])

/-- Work ends by R12, an open ENGAGE FAILED. -/
theorem endWork_ends {s : State} (reason detail : Nat) (hcalm : s.calmArms)
    (hmode : s.modc.mode = .engaging ∨ s.modc.mode = .sweeping) : WorkEndedBy reason .failed detail s (endWork reason detail s) := by
  have hprev : s.modc.mode ≠ .starting ∧ s.modc.mode ≠ .parked := by obtain hmode | hmode := hmode <;> simp [hmode]
  have hsame := changeMode_sameForOrders (new := .disengaging) reason (by decide) (by decide) hcalm
  have hframe := changeMode_disengaging_calm reason hcalm
  have hended := completeMode_sameBut [2] .failed detail (changeMode .disengaging reason s)
  refine ⟨(workEnded_changeMode reason hprev).congr (.refl _ s) (hended.mono (by decide)), fun hfree => ?_, fun e htaken hkind => ⟨?_, ?_⟩⟩
  · have hfree' : (changeMode .disengaging reason s).openOn .mode = none := by
      rw [State.openOn, hsame.orders]
      exact hfree
    rw [endWork, completeMode_of_none _ _ _ hfree']
    obtain ⟨-, -, hport⟩ := changeMode_of_calm (new := .disengaging) reason (by decide) (by decide) hcalm
    rw [if_neg hprev.1] at hport
    exact ⟨hport, hframe⟩
  · exact (completeMode_ends [2] .failed detail (htaken.before hsame) (by rw [hkind]; rfl)).before hsame
  · exact (hframe.mono (by decide)).trans (hended.mono (by decide))

/-- A phase's progress that ends in a phase: the mode controller's own fields of the engage, and the requests of the arms. -/
structure Progressed (p : Phase) (s u : State) : Prop where
  same : SameBut [.modc, .armc] s u
  modc : u.modc = { s.modc with phase := p, settle := u.modc.settle, budget := u.modc.budget, commanded := u.modc.commanded }
  arms : ∀ a, ∃ q, u.arm a = { s.arm a with req := q }
  width : u.armc.width = s.armc.width

/-- The requests of the arms are no matter to the notice that raises them (R86). -/
theorem Progressed.workEnded {p : Phase} {reason : Nat} {s u t : State} (h : Progressed p s u) (hended : WorkEnded reason u t) :
    WorkEnded reason s t := by
  obtain ⟨hmodc, ⟨hwidth, harms⟩, ⟨hwatc, hspray⟩, htma⟩ := hended
  refine ⟨?_, ⟨hwidth.trans h.width, fun a => ?_⟩, ⟨?_, hspray⟩, ?_⟩
  · rw [hmodc, h.modc]
  · obtain ⟨q, hq⟩ := h.arms a
    have harm := harms a
    rw [hq] at harm
    exact harm
  · rw [hwatc, h.same.same .watc (by decide)]
  · unfold OutputsOnly at htma ⊢
    rw [htma, h.same.same .tma (by decide)]

/-- The engage budget has run out after a phase's progress (R11). -/
theorem budgetExpired_ends {p : Phase} {s u : State} (hcalm : s.calmArms) (hmode : s.modc.mode = .engaging) (h : Progressed p s u) :
    WorkEndedBy 22 .timedOut (32 + p.code) s (budgetExpired u) := by
  have hphase : u.modc.phase = p := by rw [h.modc]
  have humode : u.modc.mode = .engaging := by rw [h.modc]; exact hmode
  have hcalm' : u.calmArms := fun a w hw => by
    obtain ⟨q, hq⟩ := h.arms a
    rw [hq] at hw
    exact hcalm a w hw
  have hsame : s.SameForOrders u := ⟨h.same.same .xmem (by decide), h.same.same .orders (by decide),
    by rw [h.same.same .tma (by decide)], by rw [h.same.same .port (by decide)]⟩
  have hended := completeMode_sameBut [2] .timedOut (32 + p.code) u
  have hcalm'' : (completeMode [2] .timedOut (32 + p.code) u).calmArms := hcalm'.of_same (hended.same .armc (by decide))
  have hmodc'' : (completeMode [2] .timedOut (32 + p.code) u).modc = u.modc := hended.same .modc (by decide)
  have hprev : u.modc.mode ≠ .starting ∧ u.modc.mode ≠ .parked := by simp [humode]
  have hwork := workEnded_changeMode (s := completeMode [2] .timedOut (32 + p.code) u) 22 (by rw [hmodc'']; exact hprev)
  have hframe := changeMode_disengaging_calm 22 hcalm''
  have hafter := changeMode_sameForOrders (new := .disengaging) 22 (by decide) (by decide) hcalm''
  rw [budgetExpired, hphase]
  refine ⟨h.workEnded (hwork.congr (hended.mono (by decide)) (.refl _ _)), fun hfree => ?_, fun e htaken hkind => ⟨?_, ?_⟩⟩
  · have hfree' : u.openOn .mode = none := by
      rw [State.openOn, hsame.orders]
      exact hfree
    rw [completeMode_of_none _ _ _ hfree'] at hframe ⊢
    obtain ⟨-, -, hport⟩ := changeMode_of_calm (new := .disengaging) 22 (by decide) (by decide) hcalm'
    rw [if_neg hprev.1, h.same.same .port (by decide)] at hport
    exact ⟨hport, (h.same.mono (by decide)).trans hframe⟩
  · exact ((completeMode_ends [2] .timedOut (32 + p.code) (htaken.before hsame) (by rw [hkind]; rfl)).before hsame).after hafter
  · exact ((h.same.mono (by decide)).trans (hended.mono (by decide))).trans (hframe.mono (by decide))

end Sys2Proof.Machine

namespace Sys2Proof.Machine

/-! ### The phases of an engage (R7 to R11) -/

/-- A test of every arm of a set, arm by arm. -/
theorem everyArm_iff (s : State) (k : ArmSet) (test : ArmRecord → Bool) :
    s.everyArm k test = true ↔ ∀ a, k.has a = true → test (s.arm a) = true := by
  have hone (b c : Bool) : (!b || c) = true ↔ (b = true → c = true) := by cases b <;> simp
  simp only [State.everyArm, Bool.and_eq_true_iff, hone]
  exact ⟨fun ⟨⟨hl, hr⟩, hm⟩ a => by cases a <;> assumption, fun h => ⟨⟨h .left, h .right⟩, h .main⟩⟩

/-- A check of SETTLING that reaches the settle limit makes the mode SWEEPING, and the budget is tested no more (R10, R11). -/
theorem settlingCheck_reaches {s : State} (before : Phase) (hmode : s.modc.mode = .engaging)
    (htimer : timerAt 300 (timerFollow 300 10 s.settled s.modc.settle) = true) (hcalm : s.calmArms) :
    SweepingReached s.remainingArms s (budgetTest before (settlingCheck s)) := by
  have hreached := reachSweeping_reached (s := s)
    (m := { s.modc with commanded := s.remainingArms, settle := timerFollow 300 10 s.settled s.modc.settle }) hcalm hmode rfl
  have hcheck : settlingCheck s = reachSweeping (s.setModc
      { s.modc with commanded := s.remainingArms, settle := timerFollow 300 10 s.settled s.modc.settle }) := if_pos htimer
  have hidle : budgetTest before (settlingCheck s) = settlingCheck s := by
    refine if_neg fun h => ?_
    rw [hcheck, hreached.1] at h
    exact absurd h.1 (by simp)
  rw [hidle, hcheck]
  exact hreached

/-- The settle timer stands at its limit after a check that takes it there. -/
theorem timerAt_of_due {limit period : Nat} {t : Timer} (h : timerDue limit period t = true) :
    timerAt limit (timerFollow limit period true t) = true := (Bool.and_eq_true_iff.mp h).1

/-- The phase's own progress, where it stays in ENGAGING with a phase past SLOWING, leaves the budget. -/
theorem enterLowering_progressed (s : State) :
    Progressed .lowering s (enterLowering s) ∧ (enterLowering s).modc.budget = s.modc.budget := by
  refine ⟨⟨fun b => ?_, rfl, fun a => ?_, rfl⟩, rfl⟩
  · cases b <;> simp [Block.same, enterLowering]
  · have harm : (enterLowering s).arm a = commandArm s.formArmSet a (s.arm a) := by
      rw [enterLowering, mapArms_arm]
      rfl
    rw [harm, commandArm]
    split
    · exact ⟨_, rfl⟩
    · exact ⟨(s.arm a).req, rfl⟩

/-- A state whose engage fields alone differ has progressed. -/
theorem setModc_progressed {p : Phase} {s : State} {m : ModeControl}
    (hm : m = { s.modc with phase := p, settle := m.settle, budget := m.budget, commanded := m.commanded }) :
    Progressed p s (s.setModc m) :=
  ⟨fun b => by cases b <;> simp [Block.same], hm, fun a => ⟨(s.arm a).req, rfl⟩, rfl⟩

/-- The end of PRIMING (R8). -/
theorem primingCheck_progressed (s : State) (hphase : s.modc.phase = .priming) :
    Progressed (if s.watc.qAvail = 0 ∨ s.watc.prime = .primed ∨ s.dose = 0 then .lowering else .priming) s (primingCheck s) ∧
      (primingCheck s).modc.budget = s.modc.budget := by
  have htest : (!s.waterAvailable || decide (s.watc.prime = .primed) || decide (s.dose = 0)) =
      decide (s.watc.qAvail = 0 ∨ s.watc.prime = .primed ∨ s.dose = 0) := by
    simp [State.waterAvailable, Bool.or_assoc, Nat.pos_iff_ne_zero]
  rw [primingCheck, htest]
  simp only [decide_eq_true_iff]
  split
  · exact enterLowering_progressed s
  · exact ⟨setModc_progressed (m := s.modc) (by rw [← hphase]), rfl⟩

/-- The end of LOWERING (R9). -/
theorem loweringCheck_progressed (s : State) (hphase : s.modc.phase = .lowering) :
    Progressed (if s.everyArm s.remainingArms isWorking then .settling else .lowering) s (loweringCheck s) ∧
      (loweringCheck s).modc.budget = s.modc.budget := by
  unfold loweringCheck
  dsimp only
  split
  · exact ⟨setModc_progressed rfl, rfl⟩
  · exact ⟨setModc_progressed (m := { s.modc with commanded := s.remainingArms }) (by rw [← hphase]), rfl⟩

/-- A check of SETTLING short of the settle limit (R10). -/
theorem settlingCheck_of_short {s : State} (h : timerAt 300 (timerFollow 300 10 s.settled s.modc.settle) = false) :
    settlingCheck s = s.setModc
      { s.modc with commanded := s.remainingArms, settle := timerFollow 300 10 s.settled s.modc.settle } :=
  if_neg (by rw [h]; decide)

/-- The settle timer is short of its limit where the brooms are not settled, it does not run, or it has more than a check to go. -/
theorem settle_short {b : Bool} {t : Timer} (h : b = false ∨ t = none ∨ ∃ v, t = some v ∧ v + 10 < 300) :
    timerAt 300 (timerFollow 300 10 b t) = false := by
  cases b
  · rfl
  · obtain h | rfl | ⟨v, rfl, hv⟩ := h
    · exact absurd h (by decide)
    · rfl
    · simp only [timerFollow, timerAt, if_true]
      exact decide_eq_false (by omega)

/-- A check of SETTLING short of the settle limit, as progress (R10). -/
theorem settlingCheck_progressed {s : State} (hphase : s.modc.phase = .settling)
    (h : timerAt 300 (timerFollow 300 10 s.settled s.modc.settle) = false) :
    Progressed .settling s (settlingCheck s) ∧ (settlingCheck s).modc.budget = s.modc.budget := by
  rw [settlingCheck_of_short h]
  exact ⟨setModc_progressed (by rw [← hphase]), rfl⟩

/-- The budget test after a phase's progress, the budget run out (R11). -/
theorem budgetTest_expires {before p : Phase} {s u : State} (hpast : before.pastSlowing = true) (hcalm : s.calmArms)
    (hmode : s.modc.mode = .engaging) (hout : 12000 ≤ s.modc.budget + 10)
    (h : Progressed p s u ∧ u.modc.budget = s.modc.budget) : WorkEndedBy 22 .timedOut (32 + p.code) s (budgetTest before u) := by
  obtain ⟨hprogress, hbudget⟩ := h
  have humode : u.modc.mode = .engaging := by rw [hprogress.modc]; exact hmode
  have hexpired : budgetTest before u = budgetExpired (u.setModc { u.modc with budget := u.modc.budget + 10 }) := by
    unfold budgetTest
    rw [if_pos ⟨humode, hpast⟩]
    refine if_pos ?_
    rw [State.setModc_modc, hbudget]
    exact hout
  rw [hexpired]
  refine budgetExpired_ends hcalm hmode ⟨fun b => ?_, ?_, hprogress.arms, hprogress.width⟩
  · cases b
    case modc => exact .inl (by simp)
    case armc => exact .inl (by simp)
    all_goals exact hprogress.same _
  · rw [State.setModc_modc, hprogress.modc]

/-- The budget test after a phase's progress, the budget not run out (R11). -/
theorem budgetTest_counts {before : Phase} {u : State} (hpast : before.pastSlowing = true) (hmode : u.modc.mode = .engaging)
    (hleft : u.modc.budget + 10 < 12000) : budgetTest before u = u.setModc { u.modc with budget := u.modc.budget + 10 } := by
  unfold budgetTest
  rw [if_pos ⟨hmode, hpast⟩]
  exact if_neg (Nat.not_le_of_lt hleft)

/-- The phases in which an engage can run out of budget, and the phase its own progress leaves (R11). -/
theorem phaseProgress_progressed {p : Phase} {s : State} (h : (s.modc.phase = .priming ∧
      p = (if s.watc.qAvail = 0 ∨ s.watc.prime = .primed ∨ s.dose = 0 then .lowering else .priming)) ∨
      (s.modc.phase = .lowering ∧ p = if s.everyArm s.remainingArms isWorking then .settling else .lowering) ∨
      (s.modc.phase = .settling ∧ p = .settling ∧
        (s.settled = false ∨ s.modc.settle = none ∨ ∃ v, s.modc.settle = some v ∧ v + 10 < 300))) :
    s.modc.phase.pastSlowing = true ∧ Progressed p s (phaseProgress s) ∧ (phaseProgress s).modc.budget = s.modc.budget := by
  obtain ⟨hphase, rfl⟩ | ⟨hphase, rfl⟩ | ⟨hphase, rfl, hshort⟩ := h
  · refine ⟨by rw [hphase]; rfl, ?_⟩
    rw [phaseProgress, hphase]
    exact primingCheck_progressed s hphase
  · refine ⟨by rw [hphase]; rfl, ?_⟩
    rw [phaseProgress, hphase]
    exact loweringCheck_progressed s hphase
  · refine ⟨by rw [hphase]; rfl, ?_⟩
    rw [phaseProgress, hphase]
    exact settlingCheck_progressed hphase (settle_short hshort)

/-- A check in ENGAGING that goes on is one neither the main broom nor the water ends (R12). -/
theorem State.engagesOn_iff (s : State) :
    s.engagesOn = true ↔ s.modc.mode = .engaging ∧ s.mainOut = false ∧ s.waterGone = false := by
  simp [State.engagesOn, and_assoc]

/-- Settles O43. -/
theorem engageTimersEndTheEngage : Obligations.EngageTimersEndTheEngage := by
  intro s hrunning hcalm hengages
  obtain ⟨hmode, -, -⟩ := (State.engagesOn_iff s).mp hengages
  refine ⟨fun c hc hphase hsettled hdue => ?_, fun p hbefore hafter hcase => ?_⟩
  · have htimer : timerAt 300 (timerFollow 300 10 s.settled s.modc.settle) = true := by
      rw [hsettled]
      exact timerAt_of_due hdue
    obtain rfl | ⟨rfl, hbefore, hafter⟩ := hc
    · have hreached := reachSweeping_reached (s := s) (m := { s.modc with commanded := s.remainingArms }) hcalm hmode rfl
      refine ⟨_, (atStep_of_running (f := settleExpiry) hrunning).trans (congrArg _ (if_pos ?_)), hreached⟩
      simp [hengages, hphase, hsettled, hdue]
    · have hreached := settlingCheck_reaches .settling hmode htimer hcalm
      refine ⟨_, (atStep_of_running (f := budgetExpiry) hrunning).trans (congrArg _ ((if_pos ?_).trans ?_)), hreached⟩
      · simp [hengages, hphase, Phase.pastSlowing, countReached, hbefore, hafter]
      · rw [phaseProgress, hphase]
  · obtain ⟨hpast, hprogress⟩ := phaseProgress_progressed hcase
    refine ⟨_, (atStep_of_running (f := budgetExpiry) hrunning).trans (congrArg _ (if_pos ?_)),
      budgetTest_expires hpast hcalm hmode hafter hprogress⟩
    simp [hengages, hpast, countReached, hbefore, hafter]

end Sys2Proof.Machine

namespace Sys2Proof.Machine

/-! ### The end of STARTING and of a wake (R2, R17, R21, R87) -/

/-- Handing an arm's outputs replaces what its pressure and its motor are held at (R73, R135). -/
theorem handRecord_pwm (a b : Arm) (motor : Nat) (s : State) :
    (handRecord a motor s).tma.outputs.get (pressOutput b) =
      (if b = a then { s.tma.outputs.get (pressOutput b) with held := (s.arm a).press } else s.tma.outputs.get (pressOutput b)) ∧
    (handRecord a motor s).tma.outputs.get (motorOutput b) =
      (if b = a then { s.tma.outputs.get (motorOutput b) with held := motor } else s.tma.outputs.get (motorOutput b)) := by
  cases a <;> cases b <;> exact ⟨rfl, rfl⟩

/-- Handing an arm's outputs leaves the water's and the travel outputs. -/
theorem handRecord_others (a : Arm) (motor : Nat) (s : State) :
    (handRecord a motor s).tma.outputs.waterPump = s.tma.outputs.waterPump ∧
      (handRecord a motor s).tma.outputs.travelFwd = s.tma.outputs.travelFwd ∧
      (handRecord a motor s).tma.outputs.travelRev = s.tma.outputs.travelRev := by
  cases a <;> exact ⟨rfl, rfl, rfl⟩

/-- The three arms' outputs as their records give, the motors off, and the other outputs as before (R73, R86). -/
def ArmsHanded (s t : State) : Prop :=
  (∀ a, t.tma.outputs.get (pressOutput a) = { s.tma.outputs.get (pressOutput a) with held := (t.arm a).press } ∧
    t.tma.outputs.get (motorOutput a) = { s.tma.outputs.get (motorOutput a) with held := 0 } ∧
    t.tma.outputs.lower a = lowerValve (t.arm a) ∧ t.tma.outputs.raise a = raiseValve (t.arm a)) ∧
  t.tma.outputs.travelFwd = s.tma.outputs.travelFwd ∧ t.tma.outputs.travelRev = s.tma.outputs.travelRev

/-- Handing the three arms' outputs with their motors off (R73, R86). -/
theorem handArmsOff_handed (s : State) : ArmsHanded s (handArmsOff s) := by
  refine ⟨fun a => ?_, ?_⟩
  · have houts := handArmsOff_armOuts a s
    have harm : (handArmsOff s).arm a = s.arm a := State.arm_congr (by simp) a
    refine ⟨?_, ?_, ?_, ?_⟩
    · rw [harm, handArmsOff]
      cases a <;> simp only [handRecord_pwm] <;> rfl
    · rw [handArmsOff]
      cases a <;> simp only [handRecord_pwm] <;> rfl
    · rw [harm]
      exact congrArg ArmOuts.lower houts
    · rw [harm]
      exact congrArg ArmOuts.raise houts
  · rw [handArmsOff]
    simp only [handRecord_others, and_self]

/-- Outputs handed twice are handed as the second records give. -/
theorem ArmsHanded.trans {s u t : State} (h : ArmsHanded s u) (hut : ArmsHanded u t) : ArmsHanded s t := by
  obtain ⟨harms, hfwd, hrev⟩ := h
  obtain ⟨harms', hfwd', hrev'⟩ := hut
  refine ⟨fun a => ?_, hfwd'.trans hfwd, hrev'.trans hrev⟩
  obtain ⟨hpress, hmotor, -, -⟩ := harms a
  obtain ⟨hpress', hmotor', hlower', hraise'⟩ := harms' a
  refine ⟨?_, ?_, hlower', hraise'⟩
  · rw [hpress', hpress]
  · rw [hmotor', hmotor]

/-- What the outputs are handed from is the timing array before. -/
theorem ArmsHanded.of_map {s u t : State} (htma : u.tma = s.tma) (h : ArmsHanded u t) : ArmsHanded s t := by
  unfold ArmsHanded at h ⊢
  rwa [htma] at h

/-- The switch derivation hands the arms' outputs, and the entry to DISENGAGING hands them again (R86, R87). -/
theorem movedArms_handed {prev new : Mode} (hderives : derivesArms prev new = true) (s : State) :
    ArmsHanded s (movedArms new (derivedArms prev new s)) := by
  have hmap (f : Arm → ArmRecord → ArmRecord) (u : State) : ArmsHanded u (handArmsOff (mapArms f u)) :=
    (handArmsOff_handed _).of_map rfl
  have hderived : derivedArms prev new s = deriveArms s := if_pos hderives
  rw [hderived, deriveArms]
  cases new
  case disengaging => exact (hmap _ s).trans (hmap (fun _ r => raiseRecord r) _)
  case transport => exact hmap _ s
  all_goals exact absurd hderives (by simp [derivesArms])

/-- The record that the switch derivation leaves, its request STOWED (R87). -/
def switchedRecord (up : Bool) (r : ArmRecord) : ArmRecord :=
  if r.state = .out then { r with req := .stowed }
  else
    { r with
      state := if up then .stowed else .raising, req := .stowed, stateTimer := 0, hover := none, ret := none, deflection := 0,
      spinUp := 0, stall := none, silence := none, trim := 0, press := 0 }

/-- The derivation of a record whose request is already STOWED (R2, R87). -/
theorem deriveRecord_stowed (up : Bool) (r : ArmRecord) :
    deriveRecord up { r with req := .stowed } = switchedRecord up r := by
  unfold deriveRecord switchedRecord
  cases hstate : r.state <;> simp [enterRaising, enterState]

/-- A switched record is one that no entry to a mode moves (R86). -/
theorem movedRecord_switched {new : Mode} (hnew : new = .transport ∨ new = .disengaging) (up : Bool) (r : ArmRecord) :
    movedRecord new (switchedRecord up r) = switchedRecord up r := by
  obtain rfl | rfl := hnew
  · rfl
  · have hstate : (switchedRecord up r).state = .out ∨ (switchedRecord up r).state = .stowed ∨ (switchedRecord up r).state = .raising := by
      unfold switchedRecord
      split
      · next h => exact .inl h
      · cases up <;> simp
    unfold movedRecord raiseRecord
    obtain h | h | h := hstate <;> simp [h]

/-- A calm arm's waiting order stays at a notice other than that of PARKED (R86). -/
theorem keptWait_of_calm {new : Mode} (hnew : new ≠ .parked) {w : Option ArmWait} (h : ∀ x, w = some x → x.req = .stowed) :
    keptWait new w = w := by
  cases w with
  | none => rfl
  | some x => simp [keptWait, hnew, h x rfl]

/-- The valves of a switched record (R73). -/
theorem switchedRecord_valves (up : Bool) (r : ArmRecord) :
    lowerValve (switchedRecord up r) = false ∧ raiseValve (switchedRecord up r) =
      decide ((switchedRecord up r).state = .raising ∨
        ((switchedRecord up r).state = .out ∧ (switchedRecord up r).stateTimer < 4000)) := by
  unfold switchedRecord
  split
  · next h => simp [lowerValve, raiseValve, h]
  · cases up <;> simp [lowerValve, raiseValve]

/-- Handing the water leaves what the arms were handed (R90). -/
theorem ArmsHanded.handWater {s u : State} (h : ArmsHanded s u) : ArmsHanded s (handWater u) := by
  obtain ⟨harms, hfwd, hrev⟩ := h
  refine ⟨fun a => ?_, hfwd, hrev⟩
  have harm : (Sys2Proof.Machine.handWater u).arm a = u.arm a := rfl
  rw [harm]
  cases a
  · exact harms .left
  · exact harms .right
  · exact harms .main

/-- Moving the arms leaves the pump (R86). -/
theorem movedArms_pump (prev new : Mode) (s : State) :
    (movedArms new (derivedArms prev new s)).tma.outputs.waterPump = s.tma.outputs.waterPump := by
  have hoff (u : State) : (handArmsOff u).tma.outputs.waterPump = u.tma.outputs.waterPump := by
    rw [handArmsOff]
    simp only [handRecord_others]
  have hmap (f : Arm → ArmRecord → ArmRecord) (u : State) : (mapArms f u).tma = u.tma := rfl
  have hends (k l : FaultKind) (u : State) : (armConditionEnd k (armConditionEnd l u)).tma = u.tma := by simp
  have hderived : (derivedArms prev new s).tma.outputs.waterPump = s.tma.outputs.waterPump := by
    unfold derivedArms
    split
    · rw [deriveArms, hoff, hmap]
    · rfl
  rw [← hderived]
  unfold movedArms
  split
  · rw [hoff, hmap]
  · rw [hoff, hmap]
  · rw [hends, hoff, hmap]
  · rfl

/-- The outputs after the end of STARTING or of a wake (R73, R87, R107). -/
theorem changeMode_handed {new : Mode} (reason : Nat) {s : State} (hnew : new = .transport ∨ new = .disengaging)
    (hderives : derivesArms s.modc.mode new = true) (hcalm : s.calmArms) :
    ArmsHanded s (changeMode new reason s) ∧
      (changeMode new reason s).tma.outputs.waterPump = { s.tma.outputs.waterPump with held := 0 } := by
  have hparked : new ≠ .parked := by obtain rfl | rfl := hnew <;> decide
  have hgov (u : State) : govNotice new u = u := by obtain rfl | rfl := hnew <;> rfl
  have hwater (u : State) : waterNotice new u = handWater (u.setWatc (primeIdle (stopSpray u.watc))) := by
    obtain rfl | rfl := hnew <;> rfl
  have hload (u : State) : loadNotice new u = u := if_neg hparked
  have hwaits (a : Arm) : ((movedArms new (derivedArms s.modc.mode new (modeEntered new reason s))).arm a).waiting =
      (s.arm a).waiting := by
    rw [movedArms_arm, movedRecord_waiting, derivedArms_arm, modeEntered_arm, derivesOrNot_waiting]
    cases stowsOnEntry new <;> rfl
  have hstay (a : Arm) : noticeWaiting new a (movedArms new (derivedArms s.modc.mode new (modeEntered new reason s))) =
      movedArms new (derivedArms s.modc.mode new (modeEntered new reason s)) :=
    noticeWaiting_of_calm hparked fun w hw => hcalm a w ((hwaits a).symm.trans hw)
  have hentered : (modeEntered new reason s).tma = s.tma := by simp
  have hmoved := (movedArms_handed hderives (modeEntered new reason s)).of_map hentered
  have hpump := movedArms_pump s.modc.mode new (modeEntered new reason s)
  rw [hentered] at hpump
  rw [changeMode_eq, sendNotices, hgov, armNotice_eq, hstay, hstay, hstay, hwater, hload]
  generalize movedArms new (derivedArms s.modc.mode new (modeEntered new reason s)) = u at hmoved hpump
  have hset (w : WaterControl) : ArmsHanded s (u.setWatc w) := hmoved
  refine ⟨(hset _).handWater, ?_⟩
  rw [← hpump]
  rfl

/-- The end of STARTING or of a wake at the arms and the water (R2, R87, R107). -/
theorem switchesDerived_changeMode {new : Mode} (reason : Nat) {s : State} (hnew : new = .transport ∨ new = .disengaging)
    (hprev : s.modc.mode = .starting ∨ s.modc.mode = .parked) (hcalm : s.calmArms) :
    SwitchesDerived s (changeMode new reason s) := by
  have hderives : derivesArms s.modc.mode new = true := by
    obtain rfl | rfl := hnew <;> obtain h | h := hprev <;> simp [derivesArms, h]
  have hstows : stowsOnEntry new = true := by obtain rfl | rfl := hnew <;> rfl
  have hspray : stopsSpray new = true := by obtain rfl | rfl := hnew <;> rfl
  have hparked : new ≠ .parked := by obtain rfl | rfl := hnew <;> decide
  have harm (a : Arm) : (changeMode new reason s).arm a = switchedRecord (s.input (upInput a)) (s.arm a) := by
    have hwait : keptWait new (s.arm a).waiting = (switchedRecord (s.input (upInput a)) (s.arm a)).waiting := by
      rw [keptWait_of_calm hparked fun x hx => hcalm a x hx]
      unfold switchedRecord
      split <;> rfl
    rw [changeMode_arm, changedRecord, if_pos hstows, noticedRecord, if_pos hderives, deriveRecord_stowed,
      movedRecord_switched hnew]
    exact congrArg (fun w => { switchedRecord (s.input (upInput a)) (s.arm a) with waiting := w }) hwait
  obtain ⟨⟨houts, hfwd, hrev⟩, hpump⟩ := changeMode_handed reason hnew hderives hcalm
  refine ⟨changeMode_width _ _ _, fun a => ?_, sprayStopped_changeMode reason hspray, hpump, hfwd, hrev⟩
  obtain ⟨hpress, hmotor, hlower, hraise⟩ := houts a
  obtain ⟨hvalve, hvalve'⟩ := switchedRecord_valves (s.input (upInput a)) (s.arm a)
  refine ⟨fun hout => ?_, fun hout => ?_, ?_, ?_, hpress, hmotor⟩
  · rw [harm, switchedRecord, if_pos hout]
  · rw [harm, switchedRecord, if_neg hout]
  · rw [hlower, harm, hvalve]
  · rw [hraise, harm, hvalve']

end Sys2Proof.Machine

namespace Sys2Proof.Machine

/-! ### The mode check, mode by mode (R1) -/

/-- The check that ends work, with whatever order waits at an arm (R12, R86). -/
theorem modeCheck_endsWork {s : State} {reason : Nat} (hrunning : s.running) (hinv : s.ordersInv) (hwf : s.xmemWf)
    (hfree : s.openOn .mode = none) (hmode : s.modc.mode = .engaging ∨ s.modc.mode = .sweeping)
    (hcause : (s.armc.main.state = .out ∧ reason = 23) ∨ (s.armc.main.state ≠ .out ∧ s.waterGone = true ∧ reason = 24)) :
    ∃ t, exec .modeCheck s = .next t ∧ WorkEnded reason s t ∧ FailedTogether s.failsArm reason s.orders.cursor [] s t ∧
      CausesKept true s t ∧ (∀ a, outsideEnded s.failsArm s a → t.xread a = s.xread a) ∧
      SameBut [.xmem, .orders, .port, .modc, .armc, .watc, .tma] s t := by
  have hprev : s.modc.mode ≠ .starting ∧ s.modc.mode ≠ .parked := by obtain hmode | hmode := hmode <;> simp [hmode]
  have hends : Ends (failedWith reason s.failsArm) noWord s (changeMode .disengaging reason s) :=
    (changeMode_ends reason (by decide) hinv hwf).congr fun e _ => rfl
  obtain ⟨b, hport⟩ := changeMode_portDone (new := .disengaging) reason s (by decide)
  rw [if_neg hprev.1] at hport
  obtain ⟨htogether, hwords⟩ := failedTogether_of_ends hends
  obtain ⟨hcauses, -, -⟩ := port_done_changed (changed := true) hport
  have hfree' : (changeMode .disengaging reason s).openOn .mode = none := by
    rw [State.openOn, hends.entries, List.find?_filter]
    refine List.find?_eq_none.mpr fun e he hboth => ?_
    exact List.find?_eq_none.mp hfree e he (of_decide_eq_true hboth).2
  have hcheck : modeCheck s = changeMode .disengaging reason s := by
    have hend (d : Nat) : endWork reason d s = changeMode .disengaging reason s := completeMode_of_none _ _ _ hfree'
    obtain ⟨hout, rfl⟩ | ⟨hout, hwater, rfl⟩ := hcause
    · rw [← hend 18]
      obtain hmode | hmode := hmode <;> simp [modeCheck, hmode, engagingCheck, sweepingCheck, State.mainOut, hout]
    · rw [← hend 19]
      obtain hmode | hmode := hmode <;> simp [modeCheck, hmode, engagingCheck, sweepingCheck, State.mainOut, hout, hwater]
  refine ⟨_, (atStep_of_running hrunning).trans (congrArg _ hcheck), workEnded_changeMode reason hprev, htogether, hcauses, hwords,
    changeMode_disengaging_sameBut reason s⟩

/-- The check that ends work with no order for WORKING or HOVER waiting (R12). -/
theorem modeCheck_endsWork_calm {s : State} {reason detail : Nat} (hrunning : s.running) (hcalm : s.calmArms)
    (hmode : s.modc.mode = .engaging ∨ s.modc.mode = .sweeping)
    (hcause : (s.armc.main.state = .out ∧ reason = 23 ∧ detail = 18) ∨
      (s.armc.main.state ≠ .out ∧ s.waterGone = true ∧ reason = 24 ∧ detail = 19)) :
    ∃ t, exec .modeCheck s = .next t ∧ WorkEndedBy reason .failed detail s t := by
  refine ⟨_, (atStep_of_running hrunning).trans (congrArg _ ?_), endWork_ends reason detail hcalm hmode⟩
  obtain ⟨hout, rfl, rfl⟩ | ⟨hout, hwater, rfl, rfl⟩ := hcause
  · obtain hmode | hmode := hmode <;> simp [modeCheck, hmode, engagingCheck, sweepingCheck, State.mainOut, hout]
  · obtain hmode | hmode := hmode <;> simp [modeCheck, hmode, engagingCheck, sweepingCheck, State.mainOut, hout, hwater]

/-- The mode that the UP inputs give is TRANSPORT or DISENGAGING (R17, R21). -/
theorem State.modeFromSwitches_cases (s : State) : s.modeFromSwitches = .transport ∨ s.modeFromSwitches = .disengaging := by
  unfold State.modeFromSwitches
  split
  · exact .inl rfl
  · exact .inr rfl

/-- A change to another mode than PARKED ends no condition (R86, R116). -/
theorem changeMode_faults {new : Mode} (reason : Nat) {s : State} (hnew : new ≠ .parked) :
    (changeMode new reason s).faults = s.faults := by
  have hmoved (prev : Mode) (u : State) : (movedArms new (derivedArms prev new u)).faults = u.faults := by
    have hderived : (derivedArms prev new u).faults = u.faults := by
      unfold derivedArms
      split
      · simp
      · rfl
    rw [← hderived]
    unfold movedArms
    split
    · simp
    · simp
    · exact absurd rfl hnew
    · rfl
  have hwait (a : Arm) (u : State) : (noticeWaiting new a u).faults = u.faults := by simp
  have hload (u : State) : loadNotice new u = u := if_neg hnew
  have hcause (c : Cause) (u : State) : (raiseCause c u).faults = u.faults := rfl
  have hwater (u : State) : (waterNotice new u).faults = u.faults := by simp
  rw [changeMode_eq, hcause, sendNotices, hload, hwater, armNotice_eq, hwait, hwait, hwait, hmoved]
  simp

/-- The entry to a mode that the UP inputs give, with no order for WORKING or HOVER waiting (R2). -/
theorem changeMode_switches_sameBut {new : Mode} (reason : Nat) {s : State} (hnew : new = .transport ∨ new = .disengaging)
    (hcalm : s.calmArms) : SameBut [.port, .modc, .armc, .watc, .tma] s (changeMode new reason s) := by
  have hparked : new ≠ .parked := by obtain rfl | rfl := hnew <;> decide
  have hsafe : new ≠ .safe := by obtain rfl | rfl := hnew <;> decide
  obtain ⟨hxmem, horders, -⟩ := changeMode_of_calm reason hparked hsafe hcalm
  have hgov : (changeMode new reason s).gov = s.gov := by
    rw [changeMode_gov]
    obtain rfl | rfl := hnew <;> rfl
  exact (changeMode_sameBut reason s hparked).narrow
    (by simp [noticeReach, Block.same, hxmem, horders, hgov, changeMode_faults reason hparked])

/-- The end of STARTING (R21). -/
theorem modeCheck_endsStarting {s : State} (hrunning : s.running) (hmode : s.modc.mode = .starting) (hload : s.cal.loadDone = true)
    (hclock : 50 ≤ s.tma.clock.toNat) (hcalm : s.calmArms) :
    ∃ t, exec .modeCheck s = .next t ∧
      t.modc = { s.modc with
        mode := if s.allUp then .transport else .disengaging
        reason := 17, phase := .none, settle := none, budget := 0, commanded := ⟨false, false, false⟩, startupComplete := true } ∧
      t.port = s.port.raise .started ∧
      SwitchesDerived s t ∧ OutputsOnly s t ∧ SameBut [.port, .modc, .armc, .watc, .tma] s t := by
  have hnew := s.modeFromSwitches_cases
  have hparked : s.modeFromSwitches ≠ .parked := by obtain h | h := hnew <;> rw [h] <;> decide
  have hsafe : s.modeFromSwitches ≠ .safe := by obtain h | h := hnew <;> rw [h] <;> decide
  have hcheck : modeCheck s = changeMode s.modeFromSwitches 17 s := by
    simp [modeCheck, hmode, startingCheck, hload, hclock]
  obtain ⟨-, -, hport⟩ := changeMode_of_calm 17 hparked hsafe hcalm
  rw [if_pos hmode] at hport
  refine ⟨_, (atStep_of_running hrunning).trans (congrArg _ hcheck), ?_, hport,
    switchesDerived_changeMode 17 hnew (.inl hmode) hcalm, changeMode_outputsOnly _ _ s,
    changeMode_switches_sameBut 17 hnew hcalm⟩
  have hphase : s.modeFromSwitches ≠ .engaging := by obtain h | h := hnew <;> rw [h] <;> decide
  have hstows : stowsOnEntry s.modeFromSwitches = true := by obtain h | h := hnew <;> rw [h] <;> rfl
  rw [changeMode_modc, ModeControl.enters, hstows, if_neg hphase, hmode]
  simp [State.modeFromSwitches]

/-- The end of a wake with no restart pending (R17). -/
theorem modeCheck_endsWake {s : State} (hrunning : s.running) (hmode : s.modc.mode = .parked) (hwake : s.modc.wake = .waking)
    (htime : 20 ≤ s.since s.modc.wakeTime) (hpending : s.modc.restartPending = false) (hcalm : s.calmArms) :
    ∃ t, exec .modeCheck s = .next t ∧
      t.modc = { s.modc with
        mode := if s.allUp then .transport else .disengaging
        reason := 26, phase := .none, settle := none, budget := 0, commanded := ⟨false, false, false⟩, wake := .none } ∧
      t.port = { s.port.raise .modeChange with check := .disarmed, window := none } ∧
      t.tma = { s.tma with stripRunning := true, outputs := t.tma.outputs } ∧
      SwitchesDerived s t ∧ SameBut [.port, .modc, .armc, .watc, .tma] s t := by
  have hnew := s.modeFromSwitches_cases
  have hparked : s.modeFromSwitches ≠ .parked := by obtain h | h := hnew <;> rw [h] <;> decide
  have hsafe : s.modeFromSwitches ≠ .safe := by obtain h | h := hnew <;> rw [h] <;> decide
  have hphase : s.modeFromSwitches ≠ .engaging := by obtain h | h := hnew <;> rw [h] <;> decide
  have hstows : stowsOnEntry s.modeFromSwitches = true := by obtain h | h := hnew <;> rw [h] <;> rfl
  have hcheck : modeCheck s = endWake s := by simp [modeCheck, hmode, wakingCheck, hwake, htime, hpending]
  obtain ⟨-, -, hport⟩ := changeMode_of_calm 26 hparked hsafe hcalm
  rw [if_neg (by rw [hmode]; decide)] at hport
  have hderived := switchesDerived_changeMode 26 hnew (.inr hmode) hcalm
  have hframe := changeMode_switches_sameBut 26 hnew hcalm
  have htma := changeMode_outputsOnly s.modeFromSwitches 26 s
  have hmodc := changeMode_modc s.modeFromSwitches 26 s
  refine ⟨_, (atStep_of_running hrunning).trans (congrArg _ hcheck), ?_⟩
  unfold endWake
  generalize changeMode s.modeFromSwitches 26 s = u at hport hderived hframe htma hmodc
  refine ⟨?_, ?_, ?_, hderived, fun b => ?_⟩
  · rw [ModeControl.enters, hstows, if_neg hphase, hmode] at hmodc
    simp [disarmCheck, hmodc, State.modeFromSwitches, hpending]
  · simp [disarmCheck, hport]
  · unfold OutputsOnly at htma
    simp only [disarmCheck, State.setPort_tma, State.setTma_tma, State.setModc_tma]
    rw [htma]
  · cases b
    case port => exact .inl (by simp)
    case modc => exact .inl (by simp)
    case tma => exact .inl (by simp)
    all_goals exact hframe _

end Sys2Proof.Machine

namespace Sys2Proof.Machine

/-! ### The end of DISENGAGING (R14) -/

/-- An arm at the entry to TRANSPORT from another mode than STARTING and PARKED: its request STOWED (R2, R86). -/
theorem changeMode_transport_arm (reason : Nat) (a : Arm) {s : State} (hprev : s.modc.mode ≠ .starting ∧ s.modc.mode ≠ .parked)
    (hcalm : s.calmArms) : (changeMode .transport reason s).arm a = { s.arm a with req := .stowed } := by
  have hderives : derivesArms s.modc.mode .transport = false := by simp [derivesArms, hprev]
  have hwait := keptWait_of_calm (new := .transport) (by decide) fun x hx => hcalm a x hx
  have hstows : stowsOnEntry .transport = true := rfl
  rw [changeMode_arm, changedRecord, if_pos hstows, noticedRecord, hderives]
  exact congrArg (fun w => { s.arm a with req := ReqState.stowed, waiting := w }) hwait

/-- The end of DISENGAGING with no order for WORKING or HOVER waiting (R14). -/
theorem modeCheck_endsDisengaging {s : State} (hrunning : s.running) (hmode : s.modc.mode = .disengaging)
    (hrest : s.allStowedOrOut = true) (hcalm : s.calmArms) : ∃ t, exec .modeCheck s = .next t ∧
      t.modc = { s.modc with
        mode := .transport, reason := 28, phase := .none, settle := none, budget := 0, commanded := ⟨false, false, false⟩ } ∧
      t.armc.width = s.armc.width ∧ (∀ a, t.arm a = { s.arm a with req := .stowed }) ∧ SprayStopped s t ∧ OutputsOnly s t ∧
      (s.openOn .mode = none → t.port = s.port.raise .modeChange ∧ SameBut [.port, .modc, .armc, .watc, .tma] s t) ∧
      (∀ e, s.openTaken e .mode e.slot e.takeTime → e.kind = 3 → OrderEnds e .ok 0 s t ∧
        SameBut [.xmem, .orders, .port, .modc, .armc, .watc, .tma] s t) := by
  have hprev : s.modc.mode ≠ .starting ∧ s.modc.mode ≠ .parked := by simp [hmode]
  have hcheck : modeCheck s = completeMode [3] .ok 0 (changeMode .transport 28 s) := by
    simp [modeCheck, hmode, disengagingCheck, hrest]
  have hsame := changeMode_sameForOrders (new := .transport) 28 (by decide) (by decide) hcalm
  have hframe := changeMode_switches_sameBut (new := .transport) 28 (.inl rfl) hcalm
  obtain ⟨-, -, hport⟩ := changeMode_of_calm (new := .transport) 28 (by decide) (by decide) hcalm
  rw [if_neg hprev.1] at hport
  have hended := completeMode_sameBut [3] .ok 0 (changeMode .transport 28 s)
  obtain ⟨hwatc, hpump, hnozzles⟩ := sprayStopped_changeMode (new := .transport) 28 (s := s) rfl
  have htma := hended.same .tma (by decide)
  refine ⟨_, (atStep_of_running hrunning).trans (congrArg _ hcheck), ?_, ?_, fun a => ?_, ⟨?_, ?_, ?_⟩, ?_, fun hfree => ?_,
    fun e htaken hkind => ⟨?_, ?_⟩⟩
  · rw [hended.same .modc (by decide), changeMode_modc]
    simp [ModeControl.enters, stowsOnEntry, hprev]
  · rw [hended.same .armc (by decide), changeMode_width]
  · rw [State.arm_congr (hended.same .armc (by decide)), changeMode_transport_arm 28 a hprev hcalm]
  · rw [hended.same .watc (by decide), hwatc]
  · rw [htma, hpump]
  · rw [htma, hnozzles]
  · exact (changeMode_outputsOnly _ 28 s).trans (.of_same htma)
  · have hfree' : (changeMode .transport 28 s).openOn .mode = none := by
      rw [State.openOn, hsame.orders]
      exact hfree
    rw [completeMode_of_none _ _ _ hfree']
    exact ⟨hport, hframe⟩
  · exact (completeMode_ends [3] .ok 0 (htaken.before hsame) (by rw [hkind]; rfl)).before hsame
  · exact (hframe.mono (by decide)).trans (hended.mono (by decide))

/-! ### The phases of an engage at a mode check (R7 to R11) -/

/-- A check in ENGAGING that goes on makes the phase's progress, then the budget test (R11). -/
theorem modeCheck_engages {s : State} (hrunning : s.running) (hengages : s.engagesOn = true) :
    exec .modeCheck s = .next (budgetTest s.modc.phase (phaseProgress s)) := by
  obtain ⟨hmode, hout, hwater⟩ := (State.engagesOn_iff s).mp hengages
  refine (atStep_of_running hrunning).trans (congrArg _ ?_)
  simp [modeCheck, hmode, engagingCheck, hout, hwater]

/-- The budget does not run in SLOWING (R11). -/
theorem budgetTest_slowing (s : State) : budgetTest .slowing s = s := if_neg (by simp [Phase.pastSlowing])

/-- The arms and the commanded set at the entry to LOWERING (R9). -/
theorem enterLowering_arm (s : State) (a : Arm) :
    (enterLowering s).arm a = if (enterLowering s).modc.commanded.has a then { s.arm a with req := .working } else s.arm a := by
  rw [enterLowering, mapArms_arm]
  rfl

/-- A check in SLOWING (R7). -/
theorem modeCheck_slowing {s : State} (hrunning : s.running) (hengages : s.engagesOn = true) (hphase : s.modc.phase = .slowing) :
    (s.modc.profile.engageLimit < s.gov.vAct → exec .modeCheck s = .next s) ∧
    (s.gov.vAct ≤ s.modc.profile.engageLimit → ∃ t, exec .modeCheck s = .next t ∧ t.modc.mode = .engaging ∧
      t.modc.budget = 0 ∧
      t.modc.phase = (if 0 < s.dose ∧ 0 < s.watc.qAvail then .priming else .lowering) ∧
      (t.modc.phase = .priming → t.armc = s.armc) ∧
      (t.modc.phase = .lowering → (∀ a, t.arm a = if t.modc.commanded.has a then { s.arm a with req := .working } else s.arm a) ∧
        t.modc.commanded.main = true ∧
        t.modc.commanded.left = (s.modc.profile.selectLeft && decide (s.armc.left.state ≠ .out)) ∧
        t.modc.commanded.right = (s.modc.profile.selectRight && decide (s.armc.right.state ≠ .out))) ∧
      SameBut [.modc, .armc] s t) := by
  obtain ⟨hmode, -, -⟩ := (State.engagesOn_iff s).mp hengages
  have hrun := modeCheck_engages hrunning hengages
  rw [phaseProgress, hphase, budgetTest_slowing] at hrun
  refine ⟨fun hfast => ?_, fun hslow => ?_⟩
  · rw [hrun, slowingCheck, if_neg (Nat.not_le_of_lt hfast)]
  · have hwater : s.waterAvailable = true ↔ 0 < s.watc.qAvail := decide_eq_true_iff
    rw [slowingCheck, if_pos hslow] at hrun
    by_cases hspray : 0 < s.dose ∧ 0 < s.watc.qAvail
    · have hspray' : 0 < s.dose ∧ s.waterAvailable = true := ⟨hspray.1, hwater.mpr hspray.2⟩
      rw [if_pos hspray'] at hrun
      refine ⟨_, hrun, hmode, rfl, (if_pos hspray).symm, fun _ => rfl, fun h => absurd h (by simp [setPhase]), fun b => ?_⟩
      cases b <;> simp [Block.same, setPhase]
    · have hspray' : ¬(0 < s.dose ∧ s.waterAvailable = true) := fun h => hspray ⟨h.1, hwater.mp h.2⟩
      rw [if_neg hspray'] at hrun
      refine ⟨_, hrun, hmode, rfl, (if_neg hspray).symm, fun h => absurd h (by simp [enterLowering]), fun _ => ⟨fun a => ?_, rfl,
        rfl, rfl⟩, fun b => ?_⟩
      · exact enterLowering_arm _ a
      · cases b <;> simp [Block.same, enterLowering]

/-- A check in PRIMING short of the budget's end (R8). -/
theorem modeCheck_priming {s : State} (hrunning : s.running) (hengages : s.engagesOn = true) (hphase : s.modc.phase = .priming)
    (hbudget : s.modc.budget + 10 < 12000) :
    (0 < s.watc.qAvail → s.watc.prime ≠ .primed → s.dose ≠ 0 →
      exec .modeCheck s = .next (s.setModc { s.modc with budget := s.modc.budget + 10 })) ∧
    (s.watc.qAvail = 0 ∨ s.watc.prime = .primed ∨ s.dose = 0 → ∃ t, exec .modeCheck s = .next t ∧
      t.modc = { s.modc with
        phase := .lowering, budget := s.modc.budget + 10
        commanded :=
          ⟨s.modc.profile.selectLeft && decide (s.armc.left.state ≠ .out),
            s.modc.profile.selectRight && decide (s.armc.right.state ≠ .out), true⟩ } ∧
      (∀ a, t.arm a = if t.modc.commanded.has a then { s.arm a with req := .working } else s.arm a) ∧
      t.armc.width = s.armc.width ∧ SameBut [.modc, .armc] s t) := by
  obtain ⟨hmode, -, -⟩ := (State.engagesOn_iff s).mp hengages
  have hrun := modeCheck_engages hrunning hengages
  rw [phaseProgress, hphase] at hrun
  refine ⟨fun hwater hprime hdose => ?_, fun hend => ?_⟩
  · have hstay : primingCheck s = s := by
      refine if_neg ?_
      simp [State.waterAvailable, hwater, hprime, hdose]
    rw [hrun]
    dsimp only
    rw [hstay, budgetTest_counts rfl hmode hbudget]
  · have hlower : primingCheck s = enterLowering s := by
      refine if_pos ?_
      simpa [State.waterAvailable, or_assoc] using hend
    have hcount := budgetTest_counts (before := .priming) (u := enterLowering s) rfl hmode hbudget
    refine ⟨_, hrun.trans (congrArg _ ((congrArg _ hlower).trans hcount)), rfl, fun a => enterLowering_arm s a, rfl, fun b => ?_⟩
    cases b <;> simp [Block.same, enterLowering]

/-- The settling condition, arm by arm (R10). -/
theorem settled_iff (s : State) : s.settled = true ↔
    ∀ a, s.remainingArms.has a = true → (s.arm a).state = .working ∧ 8 * (s.arm a).target ≤ (s.arm a).measured * 10 := by
  rw [State.settled, everyArm_iff]
  simp [isSettled, isWorking]

/-- Some arm of the set keeps the brooms from being settled (R10). -/
theorem settled_eq_false {s : State} (h : ∃ a, s.remainingArms.has a = true ∧
    ((s.arm a).state ≠ .working ∨ (s.arm a).measured * 10 < 8 * (s.arm a).target)) : s.settled = false := by
  obtain ⟨a, hhas, hnot⟩ := h
  refine Bool.eq_false_iff.mpr fun hsettled => ?_
  obtain ⟨hworking, hspeed⟩ := (settled_iff s).mp hsettled a hhas
  obtain hstate | hslow := hnot
  · exact hstate hworking
  · exact absurd hspeed (Nat.not_le_of_lt hslow)

/-- A check in LOWERING short of the budget's end (R9, R10). -/
theorem modeCheck_lowering {s : State} {k : ArmSet} (hrunning : s.running) (hengages : s.engagesOn = true) (hk : k = s.remainingArms)
    (hphase : s.modc.phase = .lowering) (hbudget : s.modc.budget + 10 < 12000) :
    (∀ settle, (∀ a, k.has a = true → (s.arm a).state = .working) →
      ((∀ a, k.has a = true → 8 * (s.arm a).target ≤ (s.arm a).measured * 10) ∧ settle = some 0) ∨
        (settle = none ∧ ∃ a, k.has a = true ∧ (s.arm a).measured * 10 < 8 * (s.arm a).target) →
      exec .modeCheck s = .next (s.setModc { s.modc with
        phase := .settling, commanded := k, budget := s.modc.budget + 10, settle := settle })) ∧
    (∀ a, k.has a = true → (s.arm a).state ≠ .working →
      exec .modeCheck s = .next (s.setModc { s.modc with commanded := k, budget := s.modc.budget + 10 })) := by
  subst hk
  obtain ⟨hmode, -, -⟩ := (State.engagesOn_iff s).mp hengages
  have hrun := modeCheck_engages hrunning hengages
  rw [phaseProgress, hphase] at hrun
  refine ⟨fun settle hworking hsettle => ?_, fun a hhas hstate => ?_⟩
  · have hevery : s.everyArm s.remainingArms isWorking = true :=
      (everyArm_iff _ _ _).mpr fun a ha => decide_eq_true (hworking a ha)
    have htimer : timerFollow 300 10 s.settled none = settle := by
      obtain ⟨hfast, rfl⟩ | ⟨rfl, a, hhas, hslow⟩ := hsettle
      · rw [(settled_iff s).mpr fun a ha => ⟨hworking a ha, hfast a ha⟩]
        rfl
      · rw [settled_eq_false ⟨a, hhas, .inr hslow⟩]
        rfl
    have hcheck : loweringCheck s = s.setModc
        { s.modc with phase := .settling, commanded := s.remainingArms, settle := settle } := by
      rw [← htimer]
      exact if_pos hevery
    rw [hrun]
    dsimp only
    rw [hcheck, budgetTest_counts rfl (by exact hmode) (by exact hbudget)]
    rfl
  · have hevery : ¬s.everyArm s.remainingArms isWorking = true := fun h =>
      hstate (of_decide_eq_true ((everyArm_iff _ _ _).mp h a hhas))
    have hcheck : loweringCheck s = s.setModc { s.modc with commanded := s.remainingArms } := if_neg hevery
    rw [hrun]
    dsimp only
    rw [hcheck, budgetTest_counts rfl (by exact hmode) (by exact hbudget)]
    rfl

/-- A check in SETTLING short of both limits, by the settle timer it leaves (R10). -/
theorem modeCheck_settles {s : State} (hrunning : s.running) (hengages : s.engagesOn = true) (hphase : s.modc.phase = .settling)
    (hshort : timerAt 300 (timerFollow 300 10 s.settled s.modc.settle) = false) (hbudget : s.modc.budget + 10 < 12000) :
    exec .modeCheck s = .next (s.setModc { s.modc with
      commanded := s.remainingArms, settle := timerFollow 300 10 s.settled s.modc.settle, budget := s.modc.budget + 10 }) := by
  obtain ⟨hmode, -, -⟩ := (State.engagesOn_iff s).mp hengages
  have hrun := modeCheck_engages hrunning hengages
  rw [phaseProgress, hphase] at hrun
  rw [hrun]
  dsimp only
  rw [settlingCheck_of_short hshort, budgetTest_counts rfl (by exact hmode) (by exact hbudget)]
  rfl

/-- A check in SETTLING (R10). -/
theorem modeCheck_settling {s : State} {k : ArmSet} (hrunning : s.running) (hengages : s.engagesOn = true) (hk : k = s.remainingArms)
    (hphase : s.modc.phase = .settling) :
    (∀ a, k.has a = true → (s.arm a).state ≠ .working ∨ (s.arm a).measured * 10 < 8 * (s.arm a).target →
      s.modc.budget + 10 < 12000 → exec .modeCheck s =
        .next (s.setModc { s.modc with commanded := k, settle := none, budget := s.modc.budget + 10 })) ∧
    ((∀ a, k.has a = true → (s.arm a).state = .working ∧ 8 * (s.arm a).target ≤ (s.arm a).measured * 10) →
      (s.modc.settle = none → s.modc.budget + 10 < 12000 → exec .modeCheck s =
        .next (s.setModc { s.modc with commanded := k, settle := some 0, budget := s.modc.budget + 10 })) ∧
      (∀ v, s.modc.settle = some v → v + 10 < 300 → s.modc.budget + 10 < 12000 → exec .modeCheck s =
        .next (s.setModc { s.modc with commanded := k, settle := some (v + 10), budget := s.modc.budget + 10 })) ∧
      (∀ v, s.modc.settle = some v → 300 ≤ v + 10 → s.calmArms → ∃ t, exec .modeCheck s = .next t ∧ SweepingReached k s t)) := by
  subst hk
  obtain ⟨hmode, -, -⟩ := (State.engagesOn_iff s).mp hengages
  refine ⟨fun a hhas hnot hbudget => ?_, fun hall => ?_⟩
  · have hrun := modeCheck_settles hrunning hengages hphase (settle_short (.inl (settled_eq_false ⟨a, hhas, hnot⟩))) hbudget
    rwa [settled_eq_false ⟨a, hhas, hnot⟩] at hrun
  · have hsettled := (settled_iff s).mpr hall
    refine ⟨fun hnone hbudget => ?_, fun v hsome hv hbudget => ?_, fun v hsome hv hcalm => ?_⟩
    · have hrun := modeCheck_settles hrunning hengages hphase (settle_short (.inr (.inl hnone))) hbudget
      rwa [hsettled, hnone] at hrun
    · have hrun := modeCheck_settles hrunning hengages hphase (settle_short (.inr (.inr ⟨v, hsome, hv⟩))) hbudget
      have htimer : timerFollow 300 10 true (some v) = some (v + 10) := by
        simp [timerFollow, Nat.min_eq_right (Nat.le_of_lt hv)]
      rwa [hsettled, hsome, htimer] at hrun
    · have htimer : timerAt 300 (timerFollow 300 10 s.settled s.modc.settle) = true := by
        rw [hsettled, hsome]
        simp only [timerFollow, timerAt, if_true, decide_eq_true_iff]
        omega
      have hrun := modeCheck_engages hrunning hengages
      rw [phaseProgress, hphase] at hrun
      exact ⟨_, hrun, settlingCheck_reaches .settling hmode htimer hcalm⟩

/-- A mode check at which the engage budget runs out (R11). -/
theorem modeCheck_budgetOut {s : State} {k : ArmSet} {p : Phase} (hrunning : s.running) (hengages : s.engagesOn = true)
    (hk : k = s.remainingArms) (hout : 12000 ≤ s.modc.budget + 10) (hcalm : s.calmArms)
    (hcase : (s.modc.phase = .priming ∧
        p = (if s.watc.qAvail = 0 ∨ s.watc.prime = .primed ∨ s.dose = 0 then .lowering else .priming)) ∨
      (s.modc.phase = .lowering ∧ p = if s.everyArm k isWorking then .settling else .lowering) ∨
      (s.modc.phase = .settling ∧ p = .settling ∧
        ((∃ a, k.has a = true ∧ ((s.arm a).state ≠ .working ∨ (s.arm a).measured * 10 < 8 * (s.arm a).target)) ∨
          s.modc.settle = none ∨ ∃ v, s.modc.settle = some v ∧ v + 10 < 300))) :
    ∃ t, exec .modeCheck s = .next t ∧ WorkEndedBy 22 .timedOut (32 + p.code) s t := by
  subst hk
  obtain ⟨hmode, -, -⟩ := (State.engagesOn_iff s).mp hengages
  obtain ⟨hpast, hprogress⟩ := phaseProgress_progressed (p := p)
    (hcase.imp id (Or.imp id fun ⟨hphase, hp, hshort⟩ => ⟨hphase, hp, hshort.imp settled_eq_false id⟩))
  exact ⟨_, modeCheck_engages hrunning hengages, budgetTest_expires hpast hcalm hmode hout hprogress⟩

end Sys2Proof.Machine

namespace Sys2Proof.Machine

/-! ### The active-condition set and its word (R121, R122) -/

/-- Conditions ended at most: the set stands with its word, or is smaller with its word written (R121, R122). -/
structure ActiveFollows (s t : State) : Prop where
  word : (t.faults.active = s.faults.active ∧ t.xread (faultBase + 33) = s.xread (faultBase + 33)) ∨
    (t.faults.active.toNat < s.faults.active.toNat ∧ t.xread (faultBase + 33) = t.faults.active)
  words : ∀ a, a ≠ faultBase + 33 → t.xread a = s.xread a
  wf : t.xmemWf

theorem ActiveFollows.of_same {s t : State} (hwf : s.xmemWf) (hxmem : t.xmem = s.xmem) (hfaults : t.faults = s.faults) :
    ActiveFollows s t :=
  ⟨.inl ⟨by rw [hfaults], xread_congr hxmem _⟩, fun a _ => xread_congr hxmem a, xmemWf_congr hxmem hwf⟩

theorem ActiveFollows.trans {s u t : State} (h : ActiveFollows s u) (hut : ActiveFollows u t) : ActiveFollows s t := by
  refine ⟨?_, fun a ha => (hut.words a ha).trans (h.words a ha), hut.wf⟩
  obtain ⟨hactive, hword⟩ | ⟨hless, hword⟩ := h.word <;> obtain ⟨hactive', hword'⟩ | ⟨hless', hword'⟩ := hut.word
  · exact .inl ⟨hactive'.trans hactive, hword'.trans hword⟩
  · exact .inr ⟨by rw [← hactive]; exact hless', hword'⟩
  · exact .inr ⟨by rw [hactive']; exact hless, by rw [hword', hword, hactive']⟩
  · exact .inr ⟨hless'.trans hless, hword'⟩

/-- The word of the set is written where the set changed, and stands where it did not (R121). -/
theorem ActiveFollows.activeWord {s t : State} (h : ActiveFollows s t) : ActiveWordFollows s t := by
  unfold ActiveWordFollows
  obtain ⟨hactive, hword⟩ | ⟨hless, hword⟩ := h.word
  · rw [if_pos hactive, hword]
  · rw [if_neg fun heq => absurd hless (by rw [heq]; exact Nat.lt_irrefl _), hword]

/-- A set without one of its members is smaller. -/
theorem toNat_and_not_lt {a b : BitVec 16} {i : Nat} (ha : a.getLsbD i = true) (hb : b.getLsbD i = true) :
    (a &&& ~~~b).toNat < a.toNat := by
  have hle : (a &&& ~~~b).toNat ≤ a.toNat := by
    rw [BitVec.toNat_and]
    exact Nat.and_le_left
  refine Nat.lt_of_le_of_ne hle fun heq => ?_
  have hbits : (a &&& ~~~b).getLsbD i = a.getLsbD i := by rw [BitVec.eq_of_toNat_eq heq]
  simp [ha, hb] at hbits

/-- A condition end writes the set's word if it changes the set (R121, R122). -/
theorem conditionEnd_activeFollows (k : FaultKind) {s : State} (hwf : s.xmemWf) : ActiveFollows s (conditionEnd k s) := by
  unfold conditionEnd
  split
  · next hactive =>
    have hless := toNat_and_not_lt hactive (kindBit_getLsbD k k ▸ decide_eq_true rfl)
    have hset : (setActive (s.faults.active &&& ~~~kindBit k) s).faults.active = s.faults.active &&& ~~~kindBit k := by
      simp [setActive]
    have hread := xread_xwrite_same (faultBase + 33) (s.faults.active &&& ~~~kindBit k)
      (s.setFaults { s.faults with active := s.faults.active &&& ~~~kindBit k }) (xmemWf_congr rfl hwf) (by decide)
    refine ⟨.inr ⟨by rw [hset]; exact hless, by rw [hset]; exact hread⟩, fun a ha => ?_, ?_⟩
    · exact xread_xwrite_other _ a _ (s.setFaults _) ha
    · exact xwrite_xmemWf _ _ (s.setFaults _) (xmemWf_congr rfl hwf)
  · exact .of_same hwf rfl rfl

theorem endIf_activeFollows (b : Bool) (k : FaultKind) {s : State} (hwf : s.xmemWf) : ActiveFollows s (endIf b k s) := by
  unfold endIf
  split
  · exact conditionEnd_activeFollows k hwf
  · exact .of_same hwf rfl rfl

/-! ### The blocks after a restart (R22) -/

/-- The mode after a restart is a matter of the mode controller and the UP inputs (R22). -/
theorem restartMode_congr {s u : State} (hmodc : u.modc = s.modc) (hinputs : u.tma.inputs = s.tma.inputs) :
    restartMode u = if s.modc.mode = .safe then .safe else if s.allUp then .transport else .disengaging := by
  have hup : u.allUp = s.allUp := by
    rw [State.allUp, State.input_congr hinputs, State.input_congr hinputs, State.input_congr hinputs, State.allUp]
  rw [restartMode, hmodc, hup]
  cases s.modc.mode <;> rfl

theorem restarted_modc (s : State) : (restarted s).modc = { s.modc with
    mode := if s.modc.mode = .safe then .safe else if s.allUp then .transport else .disengaging
    reason := if s.modc.mode = .safe then s.modc.reason else 27
    haltLatch := decide (s.modc.mode = .safe) && s.modc.haltLatch
    safeStopped := false, phase := .none, commanded := ⟨false, false, false⟩, settle := none, budget := 0, wake := .none,
    restartPending := false } := by
  have hmodc : (restartBlocks (restartOrders (outputsOff s))).modc = s.modc := by
    simp [restartBlocks, restartOrders]
  have hinputs : (restartBlocks (restartOrders (outputsOff s))).tma.inputs = s.tma.inputs := by
    simp [restartBlocks, restartOrders]
  rw [restarted, restartModc]
  simp only [State.setTma_modc, State.setModc_modc, restartMode_congr hmodc hinputs, hmodc, decide_eq_true_iff]

theorem restarted_loadm (s : State) : (restarted s).loadm = restartLoad s.loadm := by
  simp [restarted, restartModc, restartBlocks, restartOrders]

theorem restarted_cal (s : State) : (restarted s).cal = restartCal s.cal := by
  simp [restarted, restartModc, restartBlocks, restartOrders]

/-- The restarted state differs from the one before in the blocks that restart. -/
theorem restarted_sameBut (s : State) :
    SameBut [.xmem, .port, .orders, .modc, .gov, .armc, .watc, .loadm, .faults, .cal, .tma] s (restarted s) := by
  intro b
  cases b <;> simp [Block.same, restarted, restartModc, restartBlocks, restartOrders]

/-- The blocks' own restarts up to the condition ends of the arms (R131). -/
def restartedLoad (s : State) : State :=
  (((s.setCal (restartCal s.cal)).setGov (restartGovernor s.gov)).setWatc (restartWater s.watc)).setLoadm (restartLoad s.loadm)

/-- The condition ends of a restart, one after another (R131). -/
theorem restartBlocks_eq (s : State) : restartBlocks s = setTrace (restartTrace s.tma.trace)
    (conditionEnd .hostSilent (disarmCheck (armConditionEnd .brushStall (armConditionEnd .armStuck
      (deriveArms (mapArms (fun _ r => restartRecord r) (endIf s.loadm.engineLossFlag .engineSpeedLost (restartedLoad s)))))))) := by
  unfold restartBlocks
  have htrace : (conditionEnd .hostSilent (disarmCheck (armConditionEnd .brushStall (armConditionEnd .armStuck
      (deriveArms (mapArms (fun _ r => restartRecord r)
        (endIf s.loadm.engineLossFlag .engineSpeedLost (restartedLoad s)))))))).tma.trace = s.tma.trace := by
    simp [restartedLoad]
  rw [← htrace]
  rfl

/-- The timing array after a restart (R143). -/
theorem restarted_tma (s : State) : (restarted s).tma = { s.tma with
    stripRunning := true, outputs := (restarted s).tma.outputs, trace := restartTrace s.tma.trace } := by
  have horders : (restartOrders (outputsOff s)).tma = { s.tma with outputs := outputsAllOff } := by
    simp [restartOrders, outputsOff, setOutputs]
  have hderived (u : State) : OutputsOnly u (conditionEnd .hostSilent (disarmCheck (armConditionEnd .brushStall
      (armConditionEnd .armStuck (deriveArms (mapArms (fun _ r => restartRecord r)
        (endIf u.loadm.engineLossFlag .engineSpeedLost (restartedLoad u)))))))) := by
    have hbefore : OutputsOnly u (mapArms (fun a r => deriveRecord
        ((mapArms (fun _ r => restartRecord r) (endIf u.loadm.engineLossFlag .engineSpeedLost (restartedLoad u))).input (upInput a)) r)
        (mapArms (fun _ r => restartRecord r) (endIf u.loadm.engineLossFlag .engineSpeedLost (restartedLoad u)))) :=
      .of_same (by simp [mapArms, restartedLoad])
    exact (hbefore.trans (handArmsOff_outputsOnly _)).trans (.of_same (by simp [deriveArms, disarmCheck]))
  have hblocks := hderived (restartOrders (outputsOff s))
  rw [restarted, restartBlocks_eq]
  generalize conditionEnd .hostSilent _ = u at hblocks
  unfold OutputsOnly at hblocks
  rw [horders] at hblocks
  simp only [restartModc, setTrace, State.setTma_tma, State.setModc_tma]
  rw [hblocks, horders]

/-- The port after a restart: the check DISARMED, and ORDER_DONE for the orders that it ends (R158, R149). -/
theorem restarted_port (s : State) : ∃ b, (restarted s).port = { s.port.notifyDone b with check := .disarmed, window := none } := by
  have hends (r : Result) (d : Nat) (es : List Entry) (u : State) : PortDone u (endEntries r d es u) := by
    induction es generalizing u with
    | nil => exact .of_same rfl
    | cons e es ih => exact PortDone.trans ⟨_, endEntry_port e r d u⟩ (ih _)
  obtain ⟨b, hb⟩ := hends .restarted 0 s.orders.entries (outputsOff s)
  refine ⟨b, ?_⟩
  have hport : (outputsOff s).port = s.port := rfl
  rw [hport] at hb
  rw [← hb]
  simp [restarted, restartModc, restartBlocks, restartOrders, disarmCheck]

/-- The orders after a restart (R154). -/
theorem restarted_orderUnit (s : State) : (restarted s).orders =
    { cursor := 0, entries := [], stall := false, orphans := (endEntries .restarted 0 s.orders.entries (outputsOff s)).orders.orphans } := by
  simp [restarted, restartModc, restartBlocks, restartOrders]

end Sys2Proof.Machine

namespace Sys2Proof.Machine

/-! ### The conditions that a restart ends (R83, R117, R131, R158) -/

/-- The fault unit differs at most in its active set. -/
def ActiveOnly (s t : State) : Prop := t.faults = { s.faults with active := t.faults.active }

theorem ActiveOnly.of_same {s t : State} (h : t.faults = s.faults) : ActiveOnly s t := by
  unfold ActiveOnly
  rw [h]

theorem ActiveOnly.trans {s u t : State} (h : ActiveOnly s u) (hut : ActiveOnly u t) : ActiveOnly s t := by
  unfold ActiveOnly at h hut ⊢
  rw [hut, h]

theorem conditionEnd_activeOnly (k : FaultKind) (s : State) : ActiveOnly s (conditionEnd k s) := by
  unfold ActiveOnly
  rw [conditionEnd_faults]

theorem endIf_activeOnly (b : Bool) (k : FaultKind) (s : State) : ActiveOnly s (endIf b k s) := by
  unfold endIf
  split
  · exact conditionEnd_activeOnly k s
  · exact .of_same rfl

/-- No record's flag for a kind is set, record by record (R83). -/
theorem noFlagFor_of {k : FaultKind} {s : State} (h : ∀ a, flagFor k (s.arm a) = false) : noFlagFor k s = true := by
  have hl : flagFor k s.armc.left = false := h .left
  have hr : flagFor k s.armc.right = false := h .right
  have hm : flagFor k s.armc.main = false := h .main
  simp [noFlagFor, hl, hr, hm]

/-- A switched record keeps its cause and flag (R87). -/
theorem deriveRecord_flag (k : FaultKind) (up : Bool) (r : ArmRecord) : flagFor k (deriveRecord up r) = flagFor k r := by
  unfold deriveRecord
  split <;> rfl

/-- An arm record's restart before the switch derivation (R83, R88). -/
theorem restartRecord_eq (r : ArmRecord) : restartRecord r = { r with
    req := .stowed, hover := none, ret := none, deflection := 0, angleLoss := none, trim := 0, spinUp := 0, stall := none,
    silence := none, waiting := none, press := 0
    stateTimer := if r.state = .out then 4000 else 0
    causePresent := r.causePresent && !(decide (r.state = .out) && endsWithRaise r) } := by
  have hclear (x : ArmRecord) : clearRaiseFlag x = { x with causePresent := x.causePresent && !endsWithRaise x } := by
    unfold clearRaiseFlag
    cases hends : endsWithRaise x <;> simp
  unfold restartRecord
  by_cases hout : r.state = .out
  · simp only [hout, hclear]
    rfl
  · cases hstate : r.state <;> simp_all

/-- After a restart's own clearing an arm in OUT has no flag for a kind that ends with the OUT raise, and another record has the flag
it had (R83). -/
theorem restartRecord_flag {k : FaultKind} (hk : k = .armStuck ∨ k = .brushStall) {r : ArmRecord}
    (h : r.state ≠ .out → r.causePresent = false) : flagFor k (restartRecord r) = false := by
  rw [restartRecord_eq]
  by_cases hout : r.state = .out
  · by_cases hcause : r.cause = some k
    · have hraise : endsWithRaise r = true := by obtain rfl | rfl := hk <;> simp [endsWithRaise, hcause]
      simp [flagFor, hout, hraise]
    · simp [flagFor, hcause]
  · simp [flagFor, h hout]

/-- The arms as a restart's condition ends see them (R131). -/
def restartedArms (s : State) : State :=
  deriveArms (mapArms (fun _ r => restartRecord r) (endIf s.loadm.engineLossFlag .engineSpeedLost (restartedLoad s)))

/-- The active set after the blocks' own restarts (R131). -/
theorem restartBlocks_isActive (s : State) (k : FaultKind) : (restartBlocks s).isActive k =
    (s.isActive k && !(s.loadm.engineLossFlag && decide (k = .engineSpeedLost)) &&
      !(noFlagFor .armStuck (restartedArms s) && decide (k = .armStuck)) &&
      !(noFlagFor .brushStall (armConditionEnd .armStuck (restartedArms s)) && decide (k = .brushStall)) &&
      decide (k ≠ .hostSilent)) := by
  have htrace (x : Trace) (u : State) : (setTrace x u).isActive k = u.isActive k := rfl
  have hcheck (u : State) : (disarmCheck u).isActive k = u.isActive k := rfl
  have hload : (restartedLoad s).isActive k = s.isActive k := rfl
  have harms : (restartedArms s).isActive k = (s.isActive k && !(s.loadm.engineLossFlag && decide (k = .engineSpeedLost))) := by
    rw [← hload, ← endIf_isActive]
    exact State.isActive_congr (by simp [restartedArms]) k
  rw [restartBlocks_eq, htrace, conditionEnd_isActive, hcheck, ← restartedArms]
  unfold armConditionEnd
  rw [endIf_isActive, endIf_isActive, harms]

/-- The state in which the blocks restart is the one before but for its orders and outputs (R22). -/
theorem restartOrders_sameBut (s : State) : SameBut [.xmem, .port, .orders, .tma] s (restartOrders (outputsOff s)) := by
  intro b
  cases b <;> simp [Block.same, restartOrders]

theorem restarted_isActive_blocks (s : State) (k : FaultKind) :
    (restarted s).isActive k = (restartBlocks (restartOrders (outputsOff s))).isActive k := rfl

/-- The conditions that stand after a restart but for those that end with it (R117, R131, R158). -/
theorem restarted_isActive (s : State) :
    (restarted s).isActive .hostSilent = false ∧
    (restarted s).isActive .engineSpeedLost = (s.isActive .engineSpeedLost && !s.loadm.engineLossFlag) ∧
    (∀ k, k ≠ .hostSilent → k ≠ .engineSpeedLost → k ≠ .armStuck → k ≠ .brushStall → (restarted s).isActive k = s.isActive k) := by
  have hsame := restartOrders_sameBut s
  have hactive (k : FaultKind) := State.isActive_congr (hsame.same .faults (by decide)) k
  have hloadm : (restartOrders (outputsOff s)).loadm = s.loadm := hsame.same .loadm (by decide)
  have hall (k : FaultKind) := restartBlocks_isActive (restartOrders (outputsOff s)) k
  simp only [← restarted_isActive_blocks, hactive, hloadm] at hall
  refine ⟨?_, ?_, fun k h1 h2 h3 h4 => ?_⟩
  · rw [hall]
    simp
  · rw [hall]
    simp
  · rw [hall]
    simp [h1, h2, h3, h4]

/-- The arm kinds that end with the OUT raise end at a restart where no other arm holds their flag (R83, R131). -/
theorem restarted_isActive_arms {s : State} (h : ∀ a, (s.arm a).state ≠ .out → (s.arm a).causePresent = false) :
    (restarted s).isActive .armStuck = false ∧ (restarted s).isActive .brushStall = false := by
  have harm (u : State) (a : Arm) : (restartedArms u).arm a = deriveRecord (u.input (upInput a)) (restartRecord (u.arm a)) := by
    have hinput (f : Arm → ArmRecord → ArmRecord) (v : State) : (mapArms f v).input (upInput a) = v.input (upInput a) := rfl
    have hload (b : Bool) : (endIf b .engineSpeedLost (restartedLoad u)).input (upInput a) = u.input (upInput a) :=
      State.input_congr (by simp [restartedLoad]) _
    have harms : (restartedLoad u).arm a = u.arm a := rfl
    simp only [restartedArms, deriveArms_arm, mapArms_arm, endIf_arm, hinput, hload, harms]
  have hsarm := State.arm_congr ((restartOrders_sameBut s).same .armc (by decide))
  have hflag {k : FaultKind} (hk : k = .armStuck ∨ k = .brushStall) (a : Arm) :
      flagFor k ((restartedArms (restartOrders (outputsOff s))).arm a) = false := by
    rw [harm, deriveRecord_flag, hsarm]
    exact restartRecord_flag hk (h a)
  have hstuck := noFlagFor_of fun a => hflag (.inl rfl) a
  have hstall : noFlagFor .brushStall (armConditionEnd .armStuck (restartedArms (restartOrders (outputsOff s)))) = true :=
    noFlagFor_of fun a => by
      rw [armConditionEnd_arm]
      exact hflag (.inr rfl) a
  refine ⟨?_, ?_⟩
  · rw [restarted_isActive_blocks, restartBlocks_isActive, hstuck]
    simp
  · rw [restarted_isActive_blocks, restartBlocks_isActive, hstall]
    simp

/-- A restart changes of the fault unit the active set alone (R131). -/
theorem restarted_activeOnly (s : State) : ActiveOnly s (restarted s) := by
  have hmodc (u : State) : ActiveOnly u (restartModc u) := .of_same rfl
  have horders : ActiveOnly s (restartOrders (outputsOff s)) := .of_same ((restartOrders_sameBut s).same .faults (by decide))
  have harms (u : State) : ActiveOnly u (restartedArms u) := by
    have hload : ActiveOnly u (restartedLoad u) := .of_same rfl
    exact (hload.trans (endIf_activeOnly u.loadm.engineLossFlag .engineSpeedLost _)).trans (.of_same (by simp [restartedArms]))
  have hends (k : FaultKind) (u : State) : ActiveOnly u (armConditionEnd k u) := endIf_activeOnly _ k u
  have hcheck (u : State) : ActiveOnly u (disarmCheck u) := .of_same rfl
  have htrace (x : Trace) (u : State) : ActiveOnly u (setTrace x u) := .of_same rfl
  have hblocks (u : State) : ActiveOnly u (restartBlocks u) := by
    rw [restartBlocks_eq, ← restartedArms]
    exact (harms u).trans (((hends _ _).trans (hends _ _)).trans ((hcheck _).trans ((conditionEnd_activeOnly _ _).trans (htrace _ _))))
  exact (horders.trans (hblocks _)).trans (hmodc _)

/-- The words that a restart writes after the orders' ends: that of the active set alone (R121, R131). -/
theorem restarted_activeFollows {s : State} (hwf : (restartOrders (outputsOff s)).xmemWf) :
    ActiveFollows (restartOrders (outputsOff s)) (restarted s) := by
  have hsame (u v : State) (hu : u.xmemWf) (hxmem : v.xmem = u.xmem) (hfaults : v.faults = u.faults) : ActiveFollows u v :=
    .of_same hu hxmem hfaults
  have hblocks (u : State) (hu : u.xmemWf) : ActiveFollows u (restartBlocks u) := by
    rw [restartBlocks_eq]
    have hload := endIf_activeFollows u.loadm.engineLossFlag .engineSpeedLost (s := restartedLoad u) (xmemWf_congr rfl hu)
    have hfirst := (hsame u (restartedLoad u) hu rfl rfl).trans hload
    have harms := hfirst.trans (hsame _ (restartedArms u) hfirst.wf (by simp [restartedArms]) (by simp [restartedArms]))
    have hstuck := harms.trans (endIf_activeFollows (noFlagFor .armStuck (restartedArms u)) .armStuck harms.wf)
    have hstall := hstuck.trans (endIf_activeFollows (noFlagFor .brushStall (armConditionEnd .armStuck (restartedArms u)))
      .brushStall hstuck.wf)
    have hcheck := hstall.trans (hsame _ (disarmCheck _) hstall.wf rfl rfl)
    have hsilent := hcheck.trans (conditionEnd_activeFollows .hostSilent hcheck.wf)
    exact hsilent.trans (hsame _ (setTrace _ _) hsilent.wf rfl rfl)
  exact (hblocks _ hwf).trans (hsame _ _ (hblocks _ hwf).wf rfl rfl)

end Sys2Proof.Machine

namespace Sys2Proof.Machine

/-! ### The notices of a restart (R22) -/

/-- Where no order waits at the governor or an arm, the notices of a mode but PARKED end none and keep all but the four jobs' own parts
and their outputs (R61, R86, R107). -/
theorem sendNotices_of_none {prev new : Mode} {s : State} (hnew : new ≠ .parked) (hgov : s.gov.waiting = none)
    (harms : ∀ a, (s.arm a).waiting = none) : SameBut [.gov, .armc, .watc, .tma] s (sendNotices prev new s) := by
  have hg : SameBut [.gov, .armc, .watc, .tma] s (govNotice new s) := by
    cases new
    case safe =>
      unfold govNotice
      dsimp only
      rw [hgov]
      intro b
      cases b <;> simp [Block.same]
    case parked => exact absurd rfl hnew
    all_goals exact .refl _ s
  have hmoved (u : State) : SameBut [.gov, .armc, .watc, .tma] u (movedArms new (derivedArms prev new u)) := by
    have hmap (f : Arm → ArmRecord → ArmRecord) (v : State) : SameBut [.gov, .armc, .watc, .tma] v (handArmsOff (mapArms f v)) := by
      intro b
      cases b <;> simp [Block.same]
    have hderived : SameBut [.gov, .armc, .watc, .tma] u (derivedArms prev new u) := by
      unfold derivedArms
      split
      · exact hmap _ u
      · exact .refl _ u
    refine hderived.trans ?_
    unfold movedArms
    split
    · exact hmap _ _
    · exact hmap _ _
    · exact absurd rfl hnew
    · exact .refl _ _
  have hstay (a : Arm) (u : State) (hu : ∀ b, (u.arm b).waiting = none) : noticeWaiting new a u = u :=
    noticeWaiting_of_calm hnew fun w hw => absurd hw (by rw [hu]; simp)
  have hwaits (b : Arm) : ((movedArms new (derivedArms prev new (govNotice new s))).arm b).waiting = none := by
    rw [movedArms_arm, movedRecord_waiting, derivedArms_arm, govNotice_arm, derivesOrNot_waiting, harms]
  have hwater (u : State) : SameBut [.gov, .armc, .watc, .tma] u (waterNotice new u) := by
    intro b
    cases b <;> simp [Block.same]
  have hload (u : State) : loadNotice new u = u := if_neg hnew
  rw [sendNotices, hload, armNotice_eq, hstay .left _ hwaits, hstay .right _ hwaits, hstay .main _ hwaits]
  exact (hg.trans (hmoved _)).trans (hwater _)

/-- No order waits after the blocks' own restarts (R62, R88). -/
theorem restarted_waiting (s : State) :
    (stowRequests (restarted s)).gov.waiting = none ∧ ∀ a, ((stowRequests (restarted s)).arm a).waiting = none := by
  have hrecord (r : ArmRecord) : (restartRecord r).waiting = none := by rw [restartRecord_eq]
  refine ⟨?_, fun a => ?_⟩
  · have hgov : (stowRequests (restarted s)).gov = restartGovernor s.gov := restarted_gov s
    rw [hgov]
    rfl
  · rw [stowRequests_arm, restarted_arm]
    exact (deriveRecord_waiting _ _).trans (hrecord _)

/-- What the notices of a restart may change of the restarted state. -/
theorem doRestart_sameBut_restarted (s : State) : SameBut [.port, .gov, .armc, .watc, .tma] (restarted s) (doRestart s) := by
  have hstow : SameBut [.port, .gov, .armc, .watc, .tma] (restarted s) (stowRequests (restarted s)) := by
    intro b
    cases b <;> simp [Block.same]
  have hnotices := sendNotices_of_none (prev := s.modc.mode) (new := (restarted s).modc.mode) (restartMode_ne_parked _)
    (restarted_waiting s).1 (restarted_waiting s).2
  have hcause (b : Bool) (c : Cause) (u : State) : SameBut [.port, .gov, .armc, .watc, .tma] u (raiseIf b c u) := by
    intro x
    cases x <;> simp [Block.same]
  rw [doRestart_eq]
  exact (hstow.trans (hnotices.mono (by decide))).trans (hcause _ _ _)

/-- The port after a restart (R22, R149, R158). -/
theorem doRestart_port (s : State) : ∃ b, (doRestart s).port =
    { (if decide ((restarted s).modc.mode ≠ s.modc.mode) then (s.port.notifyDone b).raise .modeChange else s.port.notifyDone b) with
      check := .disarmed, window := none } := by
  obtain ⟨b, hb⟩ := restarted_port s
  have hnotices := sendNotices_of_none (prev := s.modc.mode) (new := (restarted s).modc.mode) (restartMode_ne_parked _)
    (restarted_waiting s).1 (restarted_waiting s).2
  have hport : (sendNotices s.modc.mode (restarted s).modc.mode (stowRequests (restarted s))).port = (restarted s).port :=
    hnotices.same .port (by decide)
  refine ⟨b, ?_⟩
  rw [doRestart_eq, raiseIf_port, hport, hb]
  split <;> rfl

/-- The governor's notice leaves the governor of a restart as its table gives it (R61, R62). -/
theorem doRestart_gov (s : State) : (doRestart s).gov = restartGovernor s.gov := by
  have hcause (b : Bool) (c : Cause) (u : State) : (raiseIf b c u).gov = u.gov := by simp
  have hgov : (stowRequests (restarted s)).gov = restartGovernor s.gov := restarted_gov s
  rw [doRestart_eq, hcause, sendNotices_gov, hgov]
  cases (restarted s).modc.mode <;> rfl

/-- The water controller's notice leaves the water of a restart as its table gives it (R107, R108). -/
theorem doRestart_watc (s : State) : (doRestart s).watc = restartWater s.watc := by
  have hcause (b : Bool) (c : Cause) (u : State) : (raiseIf b c u).watc = u.watc := by simp
  have hwatc : (stowRequests (restarted s)).watc = restartWater s.watc := restarted_watc s
  rw [doRestart_eq, hcause, sendNotices_watc, hwatc]
  cases (restarted s).modc.mode <;> rfl

/-- A record that the switch derivation has put to rest is one that no notice but PARKED's moves (R86, R87). -/
theorem noticedRecord_switched {prev new : Mode} (hnew : new = .safe ∨ new = .transport ∨ new = .disengaging) (up : Bool) (r : ArmRecord)
    (hwait : r.waiting = none) : noticedRecord prev new up (switchedRecord up r) = switchedRecord up r := by
  have hstate : (switchedRecord up r).state = .out ∨ (switchedRecord up r).state = .stowed ∨ (switchedRecord up r).state = .raising := by
    unfold switchedRecord
    split
    · next h => exact .inl h
    · cases up <;> simp
  have hkept : (switchedRecord up r).waiting = none := by
    unfold switchedRecord
    split <;> exact hwait
  have hagain : deriveRecord up (switchedRecord up r) = switchedRecord up r := by
    have hidem : switchedRecord up (switchedRecord up r) = switchedRecord up r := by
      by_cases hout : r.state = .out <;> cases up <;> simp [switchedRecord, hout]
    have hreq : switchedRecord up r = { switchedRecord up r with req := .stowed } := by
      unfold switchedRecord
      split <;> rfl
    calc deriveRecord up (switchedRecord up r) = deriveRecord up { switchedRecord up r with req := .stowed } := by rw [← hreq]
      _ = switchedRecord up (switchedRecord up r) := deriveRecord_stowed up _
      _ = switchedRecord up r := hidem
  have hmoved : movedRecord new (switchedRecord up r) = switchedRecord up r := by
    have hraise : raiseRecord (switchedRecord up r) = switchedRecord up r := by
      unfold raiseRecord
      obtain h | h | h := hstate <;> simp [h]
    obtain rfl | rfl | rfl := hnew
    · exact hraise
    · rfl
    · exact hraise
  have hself : { switchedRecord up r with waiting := keptWait new (switchedRecord up r).waiting } = switchedRecord up r := by
    rw [hkept]
    exact congrArg (fun w => { switchedRecord up r with waiting := w }) hkept.symm
  rw [noticedRecord, ← hself]
  split
  · rw [hself, hagain, hmoved, hself]
  · rw [hself, hmoved, hself]

/-- The mode after a restart (R22). -/
theorem restarted_mode_cases (s : State) : (restarted s).modc.mode = .safe ∨ (restarted s).modc.mode = .transport ∨
    (restarted s).modc.mode = .disengaging := by
  rw [restarted_modc]
  dsimp only
  split
  · exact .inl rfl
  · split
    · exact .inr (.inl rfl)
    · exact .inr (.inr rfl)

/-- An arm after a restart (R88). -/
theorem doRestart_record (a : Arm) (s : State) :
    (doRestart s).arm a = switchedRecord (s.input (upInput a)) (restartRecord (s.arm a)) := by
  have hwait (r : ArmRecord) : (restartRecord r).waiting = none := by rw [restartRecord_eq]
  have hreq (up : Bool) (r : ArmRecord) : { deriveRecord up (restartRecord r) with req := .stowed } =
      switchedRecord up (restartRecord r) := by
    have hstowed : restartRecord r = { restartRecord r with req := .stowed } := by rw [restartRecord_eq]
    have hderived : deriveRecord up (restartRecord r) = switchedRecord up (restartRecord r) := by
      rw [← deriveRecord_stowed, ← hstowed]
    rw [hderived]
    unfold switchedRecord
    split
    · exact hstowed.symm ▸ rfl
    · rfl
  rw [doRestart_arm, hreq]
  exact noticedRecord_switched (restarted_mode_cases s) _ _ (hwait _)

end Sys2Proof.Machine

namespace Sys2Proof.Machine

/-! ### The outputs after a restart (R136, R88, R108) -/

/-- Every duty and every nozzle is at 0. -/
def Outputs.atRest (o : Outputs) : Prop := (∀ p, o.get p = ⟨0, 0, 0⟩) ∧ o.nozzles = 0

/-- What handing an arm's outputs does to each duty (R73). -/
theorem handRecord_get (a : Arm) (motor : Nat) (p : PwmOut) (s : State) : (handRecord a motor s).tma.outputs.get p =
    if p = pressOutput a then { s.tma.outputs.get p with held := (s.arm a).press }
    else if p = motorOutput a then { s.tma.outputs.get p with held := motor } else s.tma.outputs.get p := by
  cases a <;> cases p <;> rfl

/-- What handing the water's outputs does to each duty (R90). -/
theorem handWater_get (p : PwmOut) (s : State) : (handWater s).tma.outputs.get p =
    if p = .waterPump then { s.tma.outputs.get p with held := s.watc.duty } else s.tma.outputs.get p := by
  cases p <;> rfl

/-- Handing an arm's outputs, its pressure and motor 0, leaves outputs at rest there. -/
theorem handRecord_atRest {a : Arm} {s : State} (h : s.tma.outputs.atRest) (hpress : (s.arm a).press = 0) :
    (handRecord a 0 s).tma.outputs.atRest := by
  obtain ⟨hduty, hnozzles⟩ := h
  refine ⟨fun p => ?_, ?_⟩
  · rw [handRecord_get, hduty, hpress]
    split
    · rfl
    · split <;> rfl
  · rw [← hnozzles]
    cases a <;> rfl

/-- Handing the three arms' outputs, their pressures 0, leaves outputs at rest there. -/
theorem handArmsOff_atRest {s : State} (h : s.tma.outputs.atRest) (hpress : ∀ a, (s.arm a).press = 0) :
    (handArmsOff s).tma.outputs.atRest :=
  handRecord_atRest (handRecord_atRest (handRecord_atRest h (hpress .left)) (by rw [handRecord_arm]; exact hpress .right))
    (by rw [handRecord_arm, handRecord_arm]; exact hpress .main)

/-- The switch derivation of a record without pressure leaves it without (R87). -/
theorem deriveRecord_press {r : ArmRecord} (up : Bool) (h : r.press = 0) : (deriveRecord up r).press = 0 := by
  unfold deriveRecord
  split
  · exact h
  · rfl

/-- Raising a record without pressure leaves it without (R86). -/
theorem raiseRecord_press {r : ArmRecord} (h : r.press = 0) : (raiseRecord r).press = 0 := by
  unfold raiseRecord
  split <;> first | exact h | rfl

/-- The blocks' own restarts leave the outputs at rest (R136). -/
theorem restarted_atRest (s : State) : (restarted s).tma.outputs.atRest := by
  have hoff : (restartOrders (outputsOff s)).tma.outputs = outputsAllOff := by simp [restartOrders, outputsOff, setOutputs]
  have hzero : outputsAllOff.atRest := ⟨fun p => by cases p <;> rfl, rfl⟩
  have hblocks (u : State) : (restartBlocks u).tma.outputs = (restartedArms u).tma.outputs := by
    rw [restartBlocks_eq, ← restartedArms]
    simp [disarmCheck, setTrace]
  have hmodc (u : State) : (restartModc u).tma.outputs = u.tma.outputs := rfl
  rw [restarted, hmodc, hblocks, restartedArms, deriveArms]
  refine handArmsOff_atRest ?_ fun a => ?_
  · have hmap (f : Arm → ArmRecord → ArmRecord) (v : State) : (mapArms f v).tma = v.tma := rfl
    have hload (v : State) (b : Bool) : (endIf b .engineSpeedLost (restartedLoad v)).tma = v.tma := by simp [restartedLoad]
    rw [hmap, hmap, hload, hoff]
    exact hzero
  · rw [mapArms_arm, mapArms_arm]
    exact deriveRecord_press _ (by rw [restartRecord_eq])

/-- The outputs after a restart are at rest (R22, R136). -/
theorem doRestart_atRest (s : State) : (doRestart s).tma.outputs.atRest := by
  have hpress (a : Arm) : ((stowRequests (restarted s)).arm a).press = 0 := by
    rw [stowRequests_arm, restarted_arm]
    exact deriveRecord_press _ (by rw [restartRecord_eq])
  have hstow : (stowRequests (restarted s)).tma.outputs.atRest := restarted_atRest s
  have hcause (b : Bool) (c : Cause) (u : State) : (raiseIf b c u).tma = u.tma := by simp
  have hwatc : (stowRequests (restarted s)).watc = restartWater s.watc := restarted_watc s
  have hnew : (restarted s).modc.mode ≠ .parked := restartMode_ne_parked _
  rw [doRestart_eq, hcause]
  generalize (restarted s).modc.mode = new at hnew
  generalize stowRequests (restarted s) = v at hpress hstow hwatc
  have hgov : (govNotice new v).tma = v.tma := by simp
  have hderived (u : State) (hu : u.tma.outputs.atRest) (hp : ∀ a, (u.arm a).press = 0) :
      (derivedArms s.modc.mode new u).tma.outputs.atRest ∧ ∀ a, ((derivedArms s.modc.mode new u).arm a).press = 0 := by
    refine ⟨?_, fun a => ?_⟩
    · unfold derivedArms
      split
      · exact handArmsOff_atRest hu fun a => by rw [mapArms_arm]; exact deriveRecord_press _ (hp a)
      · exact hu
    · rw [derivedArms_arm]
      split
      · exact deriveRecord_press _ (hp a)
      · exact hp a
  have hmoved (u : State) (hu : u.tma.outputs.atRest) (hp : ∀ a, (u.arm a).press = 0) : (movedArms new u).tma.outputs.atRest := by
    have hraise : (handArmsOff (mapArms (fun _ r => raiseRecord r) u)).tma.outputs.atRest :=
      handArmsOff_atRest hu fun a => by rw [mapArms_arm]; exact raiseRecord_press (hp a)
    unfold movedArms
    split
    · exact hraise
    · exact hraise
    · exact absurd rfl hnew
    · exact hu
  have hwait (a : Arm) (u : State) : (noticeWaiting new a u).tma = u.tma := by simp
  have hload (u : State) : (loadNotice new u).tma = u.tma := by simp
  have hwater (u : State) (hu : u.tma.outputs.atRest) : (waterNotice new u).tma.outputs.atRest := by
    have hhanded : (handWater (u.setWatc (primeIdle (stopSpray u.watc)))).tma.outputs.atRest := by
      obtain ⟨hduty, -⟩ := hu
      refine ⟨fun p => ?_, rfl⟩
      rw [handWater_get, State.setWatc_tma, hduty]
      split <;> rfl
    unfold waterNotice
    split
    · exact hu
    · exact hu
    · exact hu
    · exact hhanded
  rw [sendNotices, hload]
  refine hwater _ ?_
  have hu : (govNotice new v).tma.outputs.atRest := by rw [hgov]; exact hstow
  obtain ⟨hrest, hrestPress⟩ := hderived _ hu fun a => by rw [govNotice_arm]; exact hpress a
  rw [armNotice_eq, hwait, hwait, hwait]
  exact hmoved _ hrest hrestPress

/-- The valves after a restart: none lowers, and an arm raises where it is in RAISING (R73, R88). -/
theorem doRestart_valves (a : Arm) (s : State) : (doRestart s).tma.outputs.lower a = false ∧
    (doRestart s).tma.outputs.raise a = decide (((doRestart s).arm a).state = .raising) := by
  have hcause (b : Bool) (c : Cause) (u : State) : (raiseIf b c u).armOuts a = u.armOuts a ∧ (raiseIf b c u).arm a = u.arm a :=
    ⟨State.armOuts_congr (by simp) a, State.arm_congr (by simp) a⟩
  have hderived : deriveRecord (s.input (upInput a)) (restartRecord (s.arm a)) = (doRestart s).arm a := by
    rw [doRestart_record, ← deriveRecord_stowed]
    congr 1
    rw [restartRecord_eq]
  have hrested : (stowRequests (restarted s)).armOuts a = ((doRestart s).arm a).outs 0 := by
    have hstow : (stowRequests (restarted s)).armOuts a = (restarted s).armOuts a := rfl
    rw [hstow, restarted_armOuts, restarted_arm, hderived]
  have houts : (doRestart s).armOuts a = ((doRestart s).arm a).outs 0 := by
    have hrecord := (hcause (decide ((restarted s).modc.mode ≠ s.modc.mode)) .modeChange
      (sendNotices s.modc.mode (restarted s).modc.mode (stowRequests (restarted s)))).2
    rw [doRestart_eq, (hcause _ _ _).1, sendNotices_armOuts, hrecord, hrested, doRestart_eq, hrecord, ite_self]
  have hlower := congrArg ArmOuts.lower houts
  have hraise := congrArg ArmOuts.raise houts
  simp only [State.armOuts, ArmRecord.outs] at hlower hraise
  rw [hlower, hraise, doRestart_record]
  obtain ⟨hv, hv'⟩ := switchedRecord_valves (s.input (upInput a)) (restartRecord (s.arm a))
  refine ⟨hv, hv'.trans ?_⟩
  refine decide_eq_decide.mpr (or_iff_left fun ⟨hout, htimer⟩ => ?_)
  by_cases hstate : (s.arm a).state = .out
  · have hstands : (switchedRecord (s.input (upInput a)) (restartRecord (s.arm a))).stateTimer = 4000 := by
      simp [switchedRecord, restartRecord_eq, hstate]
    omega
  · have hmoved : (switchedRecord (s.input (upInput a)) (restartRecord (s.arm a))).state ≠ .out := by
      cases hup : s.input (upInput a) <;> simp [switchedRecord, restartRecord_eq, hstate]
    exact hmoved hout

/-- W stands at a restart (R30, R88). -/
theorem doRestart_width (s : State) : (doRestart s).armc.width = s.armc.width := by
  have hcause (b : Bool) (c : Cause) (u : State) : (raiseIf b c u).armc = u.armc := by simp
  have hstow (u : State) : (stowRequests u).armc.width = u.armc.width := rfl
  have hmap (f : Arm → ArmRecord → ArmRecord) (u : State) : (mapArms f u).armc.width = u.armc.width := rfl
  have harms (u : State) : (restartedArms u).armc.width = u.armc.width := by
    have hhand (v : State) : (handArmsOff v).armc = v.armc := by simp
    have hload (b : Bool) : (endIf b .engineSpeedLost (restartedLoad u)).armc = u.armc := by simp [restartedLoad]
    rw [restartedArms, deriveArms, hhand, hmap, hmap, hload]
  have hblocks (u : State) : (restartBlocks u).armc = (restartedArms u).armc := by
    rw [restartBlocks_eq, ← restartedArms]
    simp [disarmCheck]
  have hmodc (u : State) : (restartModc u).armc = u.armc := rfl
  have horders : (restartOrders (outputsOff s)).armc = s.armc := (restartOrders_sameBut s).same .armc (by decide)
  rw [doRestart_eq, hcause, sendNotices_width, hstow, restarted, hmodc, hblocks, harms, horders]

end Sys2Proof.Machine

namespace Sys2Proof.Machine

/-! ### The whole restart (R22) -/

/-- A record after a restart, as its table gives it (R83, R88). -/
theorem doRestart_arm_table (a : Arm) {s : State} {r : ArmRecord} (hr : r = { s.arm a with
    req := .stowed, hover := none, ret := none, deflection := 0, angleLoss := none, trim := 0, spinUp := 0, stall := none,
    silence := none, waiting := none, press := 0 }) :
    ((s.arm a).state = .out → (doRestart s).arm a = { r with
      stateTimer := 4000
      causePresent := r.causePresent && decide (r.cause ≠ some .armStuck ∧ r.cause ≠ some .brushStall) }) ∧
    ((s.arm a).state ≠ .out → (doRestart s).arm a = { r with
      stateTimer := 0, state := if s.input (upInput a) then .stowed else .raising }) := by
  subst hr
  have hends (r : ArmRecord) : (!endsWithRaise r) = decide (r.cause ≠ some .armStuck ∧ r.cause ≠ some .brushStall) := by
    simp [endsWithRaise]
  refine ⟨fun hout => ?_, fun hout => ?_⟩
  · rw [doRestart_record, restartRecord_eq, switchedRecord]
    simp only [hout, if_true, decide_true, Bool.true_and, hends]
  · rw [doRestart_record, restartRecord_eq, switchedRecord]
    simp only [hout, if_false, decide_false, Bool.false_and, Bool.not_false, Bool.and_true]

/-- The restart resets every block by its table (R22). -/
theorem doRestart_restarted (s : State) : Restarted s (doRestart s) := by
  have hafter := doRestart_sameBut_restarted s
  have hmodc : (doRestart s).modc = (restarted s).modc := hafter.same .modc (by decide)
  have hfaults : (doRestart s).faults = (restarted s).faults := hafter.same .faults (by decide)
  have hactive (k : FaultKind) : (doRestart s).isActive k = (restarted s).isActive k := State.isActive_congr hfaults k
  obtain ⟨b, hport⟩ := doRestart_port s
  have hbits (i : Nat) : (doRestart s).port.pendingSet.getLsbD i =
      ((s.port.notifyDone b).pendingSet.getLsbD i || (decide ((doRestart s).modc.mode ≠ s.modc.mode) && decide (i = 3))) := by
    rw [hport, hmodc]
    cases decide ((restarted s).modc.mode ≠ s.modc.mode)
    · simp
    · simp [HostPort.raise, Cause.modeChange_getLsbD]
  obtain ⟨hsilent, hengine, hothers⟩ := restarted_isActive s
  obtain ⟨hduty, hnozzles⟩ := doRestart_atRest s
  refine ⟨hmodc.trans (restarted_modc s), ?_, ?_, ?_, fun i h0 h3 => ?_, ?_, fun a r hr => doRestart_arm_table a hr, doRestart_width s,
    ?_, ?_, ?_, ?_, ?_, fun harms => ?_, fun k h1 h2 h3 h4 => ?_, ?_, ?_, hduty, hnozzles, fun a => doRestart_valves a s, ?_⟩
  · rw [hafter.same .orders (by decide), restarted_orderUnit]
  · rw [hport]
    split <;> cases b <;> rfl
  · rw [hbits, HostPort.notifyDone_other b s.port (by decide)]
    simp
  · rw [hbits, HostPort.notifyDone_other b s.port h0]
    simp [h3]
  · rw [doRestart_gov]
    rfl
  · rw [doRestart_watc]
    rfl
  · rw [hafter.same .loadm (by decide), restarted_loadm]
    rfl
  · rw [hfaults]
    exact restarted_activeOnly s
  · rw [hactive, hsilent]
  · rw [hactive, hengine]
  · rw [hactive, hactive]
    exact restarted_isActive_arms harms
  · rw [hactive, hothers k h1 h2 h3 h4]
  · rw [hafter.same .cal (by decide), restarted_cal]
    rfl
  · have houtputs : OutputsOnly (restarted s) (doRestart s) := by
      rw [doRestart_eq]
      exact ((OutputsOnly.of_same rfl).trans (sendNotices_outputsOnly s.modc.mode (restarted s).modc.mode
        (stowRequests (restarted s)))).trans (.of_same (by simp))
    have htma := restarted_tma s
    unfold OutputsOnly at houtputs
    rw [houtputs, htma]
    rfl
  · exact (restarted_sameBut s).trans (hafter.mono (by decide))

/-- The restart ends the open orders RESTARTED (R154). -/
theorem doRestart_ordersRestarted {s : State} (hinv : s.ordersInv) (hwf : s.xmemWf) : OrdersRestarted s (doRestart s) := by
  obtain ⟨-, hslots, -, hrange⟩ := hinv
  have hafter := doRestart_sameBut_restarted s
  have hoff : (outputsOff s).xmemWf := hwf
  have hended : ∀ a, (restartOrders (outputsOff s)).xread a = (endEntries .restarted 0 s.orders.entries (outputsOff s)).xread a :=
    fun a => rfl
  have hendedWf : (restartOrders (outputsOff s)).xmemWf := endEntries_xmemWf .restarted 0 s.orders.entries hoff
  have hfollows := restarted_activeFollows hendedWf
  have hread (a : Nat) : (doRestart s).xread a = (restarted s).xread a := xread_congr (hafter.same .xmem (by decide)) a
  have hoverflow {e : Entry} (he : e ∈ s.orders.entries) {i : Nat} (hi : i < 16) : slotBase e.slot + i ≠ faultBase + 33 := by
    have := slot_word_lt (hrange e he) hi
    simp only [faultBase]
    omega
  refine ⟨fun e he htaken => ?_, fun lost hlost => ?_, ?_, ?_, fun a hword hout => ?_⟩
  · have hresult := endEntries_slotResult (s := outputsOff s) .restarted 0 hoff hslots hrange e he htaken
    exact hresult.of_reads fun i hi => (hread _).trans ((hfollows.words _ (hoverflow he hi)).trans (hended _))
  · rw [hafter.same .orders (by decide), restarted_orderUnit]
    rw [hlost]
    exact endEntries_orphans .restarted 0 (outputsOff s) hslots
  · obtain ⟨b, hport⟩ := doRestart_port s
    have hrestarted : (restarted s).port =
        { s.port.notifyDone (s.orders.entries.any s.notifies) with check := .disarmed, window := none } := by
      have hports := endEntries_port .restarted 0 (outputsOff s) hslots
      have hnotifies : (outputsOff s).notifies = s.notifies := rfl
      have hsport : (outputsOff s).port = s.port := rfl
      rw [hnotifies, hsport] at hports
      rw [← hports]
      simp [restarted, restartModc, restartBlocks, restartOrders, disarmCheck]
    have hcause : (doRestart s).port.pendingSet.getLsbD 0 = (restarted s).port.pendingSet.getLsbD 0 := by
      have hnotices := sendNotices_of_none (prev := s.modc.mode) (new := (restarted s).modc.mode) (restartMode_ne_parked _)
        (restarted_waiting s).1 (restarted_waiting s).2
      have hkept : (sendNotices s.modc.mode (restarted s).modc.mode (stowRequests (restarted s))).port = (restarted s).port :=
        hnotices.same .port (by decide)
      rw [doRestart_eq, raiseIf_port, hkept]
      split
      · simp [HostPort.raise, Cause.bit]
      · rfl
    rw [hcause, hrestarted]
    refine (HostPort.notifyDone_orderDone _ s.port).trans ?_
    rfl
  · have hword := hfollows.activeWord
    have hfaults : (restartOrders (outputsOff s)).faults = s.faults := (restartOrders_sameBut s).same .faults (by decide)
    have hstrip : (restartOrders (outputsOff s)).xread (faultBase + 33) = s.xread (faultBase + 33) := by
      rw [hended]
      refine (xread_endEntries (s := outputsOff s) .restarted 0 hslots fun e he _ => ?_)
      have := slot_word_lt (hrange e he) (i := 15) (by decide)
      have := slot_word_lt (hrange e he) (i := 0) (by decide)
      simp only [outsideResult, faultBase] at *
      omega
    unfold ActiveWordFollows at hword ⊢
    rw [hread, hafter.same .faults (by decide), hword, hfaults, hstrip]
  · rw [hread, hfollows.words a hword, hended]
    exact xread_endEntries (s := outputsOff s) .restarted 0 hslots hout

/-- Settles O17. -/
theorem restartEffect : Obligations.RestartEffect := by
  refine ⟨fun v s h => live_of_same ?_, fun s hreset hstarting hparked => ?_⟩
  · obtain hv | hmode := h
    · exact if_neg hv
    · unfold writeRestart restartRequest
      rw [hmode, ite_self]
  · refine ⟨_, (live_of_high hreset).trans (congrArg _ ?_), doRestart_restarted s, fun hinv hwf => doRestart_ordersRestarted hinv hwf⟩
    unfold writeRestart restartRequest
    rw [if_pos rfl]
    cases hmode : s.modc.mode <;> simp_all

end Sys2Proof.Machine

namespace Sys2Proof.Machine

/-! ### The mode check whole (R1) -/

/-- A wake with a restart pending ends in the whole restart (R17, R22). -/
theorem modeCheck_restarts {s : State} (hrunning : s.running) (hmode : s.modc.mode = .parked) (hwake : s.modc.wake = .waking)
    (htime : 20 ≤ s.since s.modc.wakeTime) (hpending : s.modc.restartPending = true) :
    ∃ t, exec .modeCheck s = .next t ∧ Restarted s t ∧ (s.ordersInv → s.xmemWf → OrdersRestarted s t) := by
  refine ⟨_, (atStep_of_running hrunning).trans (congrArg _ ?_), doRestart_restarted s,
    fun hinv hwf => doRestart_ordersRestarted hinv hwf⟩
  simp [modeCheck, hmode, wakingCheck, hwake, htime, hpending]

/-- A check that leaves the state as it is. -/
theorem modeCheck_stays {s : State} (hrunning : s.running) (h : modeCheck s = s) : exec .modeCheck s = .next s :=
  (atStep_of_running hrunning).trans (congrArg _ h)

/-- Settles O42. -/
theorem modeCheckMovesTheMode : Obligations.ModeCheckMovesTheMode := by
  refine ⟨fun s reason hrunning hinv hwf hfree hmode hcause => modeCheck_endsWork hrunning hinv hwf hfree hmode hcause,
    fun s hrunning => ⟨fun hmode => ?_, fun hmode => ?_, fun hmode hearly => ?_,
      fun hmode hload hclock hcalm => modeCheck_endsStarting hrunning hmode hload hclock hcalm, fun hmode hrest => ?_,
      fun hmode hrest hcalm => modeCheck_endsDisengaging hrunning hmode hrest hcalm, fun hmode hout hwater => ?_,
      fun reason detail hcalm hmode hcause => modeCheck_endsWork_calm hrunning hcalm hmode hcause,
      fun hengages hphase => modeCheck_slowing hrunning hengages hphase,
      fun hengages hphase hbudget => modeCheck_priming hrunning hengages hphase hbudget,
      fun k hengages hk => ⟨fun hphase hbudget => modeCheck_lowering hrunning hengages hk hphase hbudget,
        fun hphase => modeCheck_settling hrunning hengages hk hphase,
        fun p hout hcalm hcase => modeCheck_budgetOut hrunning hengages hk hout hcalm hcase⟩,
      fun hmode hwake => ⟨fun htime => ?_, fun htime hpending hcalm => modeCheck_endsWake hrunning hmode hwake htime hpending hcalm,
        fun htime hpending => modeCheck_restarts hrunning hmode hwake htime hpending⟩⟩⟩
  · exact modeCheck_stays hrunning (by rw [modeCheck, hmode])
  · refine (atStep_of_running hrunning).trans (congrArg _ ?_)
    rw [modeCheck, hmode]
    dsimp only
    unfold safeCheck
    cases s.standstill
    · rw [Bool.or_false]
      rfl
    · rw [Bool.or_true]
      rfl
  · refine modeCheck_stays hrunning ?_
    rw [modeCheck, hmode]
    refine if_neg fun ⟨hload, hclock⟩ => ?_
    obtain hnot | hsoon := hearly
    · rw [hnot] at hload
      exact absurd hload (by decide)
    · omega
  · refine modeCheck_stays hrunning ?_
    rw [modeCheck, hmode]
    exact if_neg (by rw [hrest]; decide)
  · refine modeCheck_stays hrunning ?_
    rw [modeCheck, hmode]
    simp [sweepingCheck, hout, hwater]
  · refine modeCheck_stays hrunning ?_
    rw [modeCheck, hmode]
    exact if_neg fun ⟨_, hlate⟩ => absurd hlate (Nat.not_le_of_lt htime)

end Sys2Proof.Machine

namespace Sys2Proof.Machine

/-! ### CLEAR_FAULT: the release of holds (R127) -/

/-- A hold that has been released: clear, with no count and no kinds; its record stands (R127). -/
def RecordHold.released (h : RecordHold) : RecordHold := { h with hold := false, count := 0, bitmap := 0 }

/-- The hold is named by the order and set (R127). -/
def State.releasesHold (s : State) (which : Nat) (severe : Bool) : Bool :=
  (s.faults.served severe).hold && decide (which ≠ if severe then 0 else 1)

/-- Some named hold is set (R129). -/
theorem namedHoldSet_eq (which : Nat) (s : State) :
    namedHoldSet which s = (s.releasesHold which false || s.releasesHold which true) := by
  simp [namedHoldSet, State.releasesHold, FaultUnit.served, Bool.and_comm]

/-- What the release of one hold leaves in the fault unit (R127). -/
theorem releaseHold_faults (b : Bool) (s : State) :
    (releaseHold b s).faults =
      if (s.faults.served b).hold then s.faults.setServed b (s.faults.served b).released else s.faults := by
  unfold releaseHold
  split
  · simp [RecordHold.released]
  · rfl

/-- The two records of the fault unit apart (R120). -/
theorem served_setServed (f : FaultUnit) (b severe : Bool) (h : RecordHold) :
    (f.setServed b h).served severe = if severe = b then h else f.served severe := by
  cases b <;> cases severe <;> rfl

/-- A record of the fault unit after the release of a hold (R127). -/
theorem releaseHold_served (b severe : Bool) (s : State) : (releaseHold b s).faults.served severe =
    if severe = b ∧ (s.faults.served severe).hold = true then (s.faults.served severe).released else s.faults.served severe := by
  rw [releaseHold_faults]
  by_cases hb : severe = b
  · subst hb
    cases hhold : (s.faults.served severe).hold <;> simp
  · split <;> simp [served_setServed, hb]

/-- The rest of the fault unit stands at the release of a hold (R127). -/
theorem releaseHold_rest (b : Bool) (s : State) : (releaseHold b s).faults.active = s.faults.active ∧
    (releaseHold b s).faults.total = s.faults.total ∧ (releaseHold b s).faults.exclusions = s.faults.exclusions := by
  rw [releaseHold_faults]
  split
  · cases b <;> exact ⟨rfl, rfl, rfl⟩
  · exact ⟨rfl, rfl, rfl⟩

/-- The three words of a released hold are 0 (R121, R127). -/
theorem releaseHold_words {b : Bool} {s : State} {i : Nat} (hwf : s.xmemWf) (hhold : (s.faults.served b).hold = true) (hi : i < 3) :
    (releaseHold b s).xread (faultBase + holdOffset b + i) = 0 := by
  have hsmall : faultBase + holdOffset b + 3 < 8192 := by cases b <;> decide
  unfold releaseHold
  rw [if_pos hhold]
  generalize faultBase + holdOffset b = base at hsmall
  have hlist (u : State) : xwriteList (base + 1) [word 0, word 0] u = xwrite (base + 1 + 1) (word 0) (xwrite (base + 1) (word 0) u) := rfl
  have hwf' (f : FaultUnit) : (s.setFaults f).xmemWf := xmemWf_congr rfl hwf
  rw [hlist]
  match i, hi with
  | 0, _ => exact xread_xwrite_same _ _ _ (xwrite_xmemWf _ _ _ (xwrite_xmemWf _ _ _ (hwf' _))) (by omega)
  | 1, _ =>
    rw [xread_xwrite_other _ _ _ _ (by omega), xread_xwrite_other _ _ _ _ (by omega)]
    exact xread_xwrite_same _ _ _ (hwf' _) (by omega)
  | 2, _ =>
    rw [xread_xwrite_other _ _ _ _ (by omega)]
    exact xread_xwrite_same _ _ _ (xwrite_xmemWf _ _ _ (hwf' _)) (by omega)

/-- No other word is written at the release of a hold (R121, R127). -/
theorem releaseHold_words_other {b : Bool} {s : State} {a : Nat}
    (h : (s.faults.served b).hold = true → ∀ i, i < 3 → a ≠ faultBase + holdOffset b + i) :
    (releaseHold b s).xread a = s.xread a := by
  unfold releaseHold
  split
  · next hhold =>
    have hne := h hhold
    have h0 := hne 0 (by decide)
    have h1 := hne 1 (by decide)
    have h2 := hne 2 (by decide)
    generalize faultBase + holdOffset b = base at h0 h1 h2
    have hlist (u : State) : xwriteList (base + 1) [word 0, word 0] u = xwrite (base + 1 + 1) (word 0) (xwrite (base + 1) (word 0) u) := rfl
    rw [hlist, xread_xwrite_other _ _ _ _ h0, xread_xwrite_other _ _ _ _ (by omega), xread_xwrite_other _ _ _ _ h1]
    rfl
  · rfl

/-- The released holds of an order: first the primary, then the severe one (R127). -/
theorem releaseHolds_cases {which : Nat} (h : which ≤ 2) (s : State) :
    releaseHolds which s =
      if which = 0 then releaseHold false s else if which = 1 then releaseHold true s else releaseHold true (releaseHold false s) := by
  unfold releaseHolds
  match which, h with
  | 0, _ => rfl
  | 1, _ => rfl
  | 2, _ => rfl

/-- A record of the fault unit after the first stage of CLEAR_FAULT (R127). -/
theorem releaseHolds_served {which : Nat} (h : which ≤ 2) (severe : Bool) (s : State) :
    (releaseHolds which s).faults.served severe =
      if s.releasesHold which severe then (s.faults.served severe).released else s.faults.served severe := by
  rw [releaseHolds_cases h]
  match which, h with
  | 0, _ => cases severe <;> simp [releaseHold_served, State.releasesHold]
  | 1, _ => cases severe <;> simp [releaseHold_served, State.releasesHold]
  | 2, _ => cases severe <;> simp [releaseHold_served, State.releasesHold]

/-- The rest of the fault unit stands at the first stage of CLEAR_FAULT (R127). -/
theorem releaseHolds_rest {which : Nat} (h : which ≤ 2) (s : State) : (releaseHolds which s).faults.active = s.faults.active ∧
    (releaseHolds which s).faults.total = s.faults.total ∧ (releaseHolds which s).faults.exclusions = s.faults.exclusions := by
  rw [releaseHolds_cases h]
  split
  · exact releaseHold_rest _ s
  split
  · exact releaseHold_rest _ s
  · simp

/-- Exchange memory after the first stage of CLEAR_FAULT: the words of the released holds 0, every other word as before (R121, R127). -/
theorem releaseHolds_words {which : Nat} (h : which ≤ 2) {s : State} (hwf : s.xmemWf) :
    (∀ severe i, i < 3 → s.releasesHold which severe = true →
      (releaseHolds which s).xread (faultBase + holdOffset severe + i) = 0) ∧
    ∀ a, (∀ severe i, i < 3 → s.releasesHold which severe = true → a ≠ faultBase + holdOffset severe + i) →
      (releaseHolds which s).xread a = s.xread a := by
  have hapart {i : Nat} (hi : i < 3) : ∀ j, j < 3 → faultBase + holdOffset false + i ≠ faultBase + holdOffset true + j := by
    intro j hj
    have hprimary : holdOffset false = 0 := rfl
    have hsevere : holdOffset true = 16 := rfl
    omega
  have hserved : (releaseHold false s).faults.served true = s.faults.served true := by simp [releaseHold_served]
  have hwf' : (releaseHold false s).xmemWf := (releaseHold_opensNone false s).wf hwf
  rw [releaseHolds_cases h]
  match which, h with
  | 0, _ =>
    refine ⟨fun severe i hi hreleases => ?_, fun a ha => releaseHold_words_other fun hhold i hi => ha false i hi (by simp [State.releasesHold, hhold])⟩
    cases severe
    · exact releaseHold_words hwf (Bool.and_eq_true_iff.mp hreleases).1 hi
    · simp [State.releasesHold] at hreleases
  | 1, _ =>
    refine ⟨fun severe i hi hreleases => ?_, fun a ha => releaseHold_words_other fun hhold i hi => ha true i hi (by simp [State.releasesHold, hhold])⟩
    cases severe
    · simp [State.releasesHold] at hreleases
    · exact releaseHold_words hwf (Bool.and_eq_true_iff.mp hreleases).1 hi
  | 2, _ =>
    refine ⟨fun severe i hi hreleases => ?_, fun a ha => ?_⟩
    · cases severe
      · refine (releaseHold_words_other fun _ => hapart hi).trans ?_
        exact releaseHold_words hwf (Bool.and_eq_true_iff.mp hreleases).1 hi
      · exact releaseHold_words hwf' (hserved ▸ (Bool.and_eq_true_iff.mp hreleases).1) hi
    · refine (releaseHold_words_other fun hhold i hi => ha true i hi ?_).trans
        (releaseHold_words_other fun hhold i hi => ha false i hi (by simp [State.releasesHold, hhold]))
      rw [hserved] at hhold
      simp [State.releasesHold, hhold]

end Sys2Proof.Machine

namespace Sys2Proof.Machine

/-! ### CLEAR_FAULT: the attempt to leave SAFE (R5, R129), and the order with the flag 0 -/

/-- SAFE is left: TRANSPORT with reason 25, the latches clear, every arm asked to stow, the spray confirmed off (R5, R107). -/
structure SafeLeft (s t : State) : Prop where
  modc : t.modc = { s.modc with
    mode := .transport, reason := 25, phase := .none, settle := none, budget := 0
    commanded := ⟨false, false, false⟩, haltLatch := false, safeStopped := false }
  arm : ∀ a, t.arm a = { s.arm a with req := .stowed }
  width : t.armc.width = s.armc.width
  spray : SprayStopped s t
  outputs : OutputsOnly s t
  armOuts : ∀ a, t.armOuts a = s.armOuts a
  frame : SameBut [.xmem, .orders, .port, .modc, .armc, .watc, .tma] s t

/-- The attempt to leave SAFE succeeds (R5, R129). -/
theorem State.canLeaveSafe_iff (s : State) : s.canLeaveSafe = true ↔
    s.modc.mode = .safe ∧ s.standstill = true ∧ s.stopActive = false ∧ ∀ a, (s.arm a).state = .stowed ∨ (s.arm a).state = .out := by
  have hrest : s.allStowedOrOut = true ↔ ∀ a, (s.arm a).state = .stowed ∨ (s.arm a).state = .out := by
    simp only [State.allStowedOrOut, stowedOrOut, Bool.and_eq_true, Bool.or_eq_true, decide_eq_true_eq]
    exact ⟨fun ⟨⟨hleft, hright⟩, hmain⟩ a => by cases a <;> assumption, fun h => ⟨⟨h .left, h .right⟩, h .main⟩⟩
  simp [State.canLeaveSafe, hrest, and_assoc]

theorem State.canLeaveSafe_congr {s t : State} (hmodc : t.modc = s.modc) (hgov : t.gov = s.gov)
    (hactive : t.faults.active = s.faults.active) (harmc : t.armc = s.armc) : t.canLeaveSafe = s.canLeaveSafe := by
  simp [State.canLeaveSafe, State.standstill, State.stopActive, State.haltActive, State.isActive, State.allStowedOrOut,
    hmodc, hgov, hactive, harmc]

theorem leaveSafe_stays {s : State} (h : s.canLeaveSafe = false) : leaveSafe s = s := by
  rw [leaveSafe, h]
  rfl

/-- Leaving SAFE touches no fault record, no order and no word of exchange memory (R5). -/
theorem leaveSafe_leaves {s : State} (h : s.canLeaveSafe = true) (hcalm : s.calmArms) : SafeLeft s (leaveSafe s) ∧
    (leaveSafe s).xmem = s.xmem ∧ (leaveSafe s).orders = s.orders ∧ (leaveSafe s).port = s.port.raise .modeChange := by
  obtain ⟨hmode, -⟩ := s.canLeaveSafe_iff.mp h
  have hstarting : s.modc.mode ≠ .starting := by simp [hmode]
  have hparked : s.modc.mode ≠ .parked := by simp [hmode]
  obtain ⟨hxmem, horders, hport⟩ := changeMode_of_calm (new := .transport) 25 (by decide) (by decide) hcalm
  rw [if_neg hstarting] at hport
  have hleave : leaveSafe s = (changeMode .transport 25 s).setModc
      { (changeMode .transport 25 s).modc with haltLatch := false, safeStopped := false } := if_pos h
  have hframe := changeMode_switches_sameBut (new := .transport) 25 (.inl rfl) hcalm
  have harm := fun a => changeMode_transport_arm 25 a ⟨hstarting, hparked⟩ hcalm
  have hspray := sprayStopped_changeMode (new := .transport) 25 (s := s) rfl
  have houts := changeMode_outputsOnly .transport 25 s
  have hwidth := changeMode_width .transport 25 s
  have harmOuts (a : Arm) : (changeMode .transport 25 s).armOuts a = s.armOuts a := by
    rw [changeMode_armOuts]
    simp [hmode, derivesArms, movesArms]
  have hmodc : (changeMode .transport 25 s).modc = { s.modc with
      mode := .transport, reason := 25, phase := .none, settle := none, budget := 0, commanded := ⟨false, false, false⟩ } := by
    rw [changeMode_modc, ModeControl.enters]
    simp [hmode, stowsOnEntry]
  rw [hleave]
  generalize changeMode .transport 25 s = u at *
  refine ⟨⟨?_, harm, hwidth, hspray, houts, harmOuts, (hframe.mono (by simp)).trans ((setModc_sameBut u _).mono (by simp))⟩,
    hxmem, horders, hport⟩
  rw [State.setModc_modc, hmodc]

/-- The second and third stages done, CLEAR_FAULT completes with its detail (R129, R147). -/
theorem completeNow_leaveSafe (o : Order) (detail : Nat) {s u : State} (htakes : s.takes) (hwf : u.xmemWf)
    (hslot : ∀ i, i < 16 → u.xread (slotBase s.orders.cursor + i) = s.xread (slotBase s.orders.cursor + i))
    (hport : u.port = s.port)
    (hclock : u.tma.clock = s.tma.clock) (hcalm : u.canLeaveSafe = true → u.calmArms) {t : State}
    (ht : t = completeNow (noteTake 9 o s) .ok detail (leaveSafe u)) :
    SlotDone s.orders.cursor .ok detail s.orders.entries.length s.tma.clock 0 u t ∧ t.orders = u.orders ∧
      t.port = (let p := if u.canLeaveSafe then s.port.raise .modeChange else s.port
        if o.notify = 1 then p.raise .orderDone else p) ∧
      t.faults = u.faults ∧ (u.canLeaveSafe = false → SameBut [.xmem, .orders, .port] u t) ∧
      (u.canLeaveSafe = true → SafeLeft u t) := by
  obtain ⟨-, -, -, howner, hcursor, -⟩ := htakes
  have howner' : u.owner s.orders.cursor = ownerPosted := by
    rw [← howner]
    exact hslot 0 (by decide)
  have hframe := completeNow_sameBut (noteTake 9 o s) .ok detail (leaveSafe u)
  subst ht
  cases hcan : u.canLeaveSafe
  · rw [leaveSafe_stays hcan] at hframe ⊢
    obtain ⟨hdone, hors, hp⟩ := completeNow_taken 9 o .ok detail (s := s) hcursor hwf howner' hclock
    refine ⟨hdone, hors, ?_, by simp, fun _ => hframe.mono (by simp), fun h => absurd h (by simp)⟩
    rw [hp, hport]
    rfl
  · obtain ⟨hleft, hxmem, hors, hp⟩ := leaveSafe_leaves hcan (hcalm hcan)
    have hread (a : Nat) : (leaveSafe u).xread a = u.xread a := congrArg (fun m => Memory.read (word 0) m a) hxmem
    have hfaults : (leaveSafe u).faults = u.faults := hleft.frame.same .faults (by decide)
    have hclock' : (leaveSafe u).tma.clock = s.tma.clock := by rw [hleft.outputs]; exact hclock
    obtain ⟨hdone, hors', hp'⟩ := completeNow_taken 9 o .ok detail (s := s) (u := leaveSafe u) hcursor (xmemWf_congr hxmem hwf)
      ((owner_congr hxmem _).trans howner') hclock'
    generalize leaveSafe u = v at *
    refine ⟨⟨hdone.1, fun a ha => (hdone.2 a ha).trans (hread a)⟩, hors'.trans hors, ?_, by simp [hfaults],
      fun h => absurd h (by simp), fun _ => ?_⟩
    · rw [hp', hp, hport]
      rfl
    · obtain ⟨hmodc, harm, hwidth, ⟨hwatc, hpump, hnozzles⟩, houts, harmOuts, hleftFrame⟩ := hleft
      have htma : (completeNow (noteTake 9 o s) .ok detail v).tma = v.tma := by simp
      refine ⟨by simp [hmodc], fun a => (State.arm_congr (by simp) a).trans (harm a), by simp [hwidth], ⟨by simp [hwatc], ?_, ?_⟩,
        houts.trans (.of_same htma), fun a => ?_, hleftFrame.trans (hframe.mono (by simp))⟩
      · rw [htma, hpump]
      · rw [htma, hnozzles]
      · exact (State.armOuts_congr (by rw [htma]) a).trans (harmOuts a)

/-- CLEAR_FAULT within its operands' ranges: the three stages, then the completion (R126 to R129). -/
theorem exec_clearFault {o : Order} {s u : State} (htakes : s.takes) (hwhich : o.par.p0.toNat ≤ 2) (hflag : o.par.p1.toNat ≤ 1)
    (hu : u = if o.par.p1.toNat = 1 then releaseExclusions (releaseHolds o.par.p0.toNat (advanceCursor s))
      else releaseHolds o.par.p0.toNat (advanceCursor s)) :
    exec (.clearFault o) s = .next (completeNow (noteTake 9 o s) .ok
      ((if u.canLeaveSafe then 1 else 0) + (if u.faults.exclusions.any then 2 else 0) +
        (if namedHoldSet o.par.p0.toNat s then 4 else 0)) (leaveSafe u)) := by
  subst hu
  have hexec : exec (.clearFault o) s = orderCommand dispatchClearFault 9 o s := rfl
  have hbits (a b c : Bool) : bit01 a + 2 * bit01 b + 4 * bit01 c =
      (if a then 1 else 0) + (if b then 2 else 0) + (if c then 4 else 0) := by cases a <;> cases b <;> cases c <;> rfl
  refine hexec.trans ((orderCommand_of_takes dispatchClearFault 9 o htakes).trans (congrArg _ ?_))
  rw [← hbits]
  unfold dispatchClearFault
  exact (if_neg (Nat.not_lt_of_le hwhich)).trans (if_neg (Nat.not_lt_of_le hflag))

/-- The words of a fault record are none of a slot's (section 12.1). -/
theorem faultWord_outsideResult {slot a : Nat} (hslot : slot < 32) (ha : faultBase ≤ a) : outsideResult slot a := by
  have hbase : faultBase = 1792 := rfl
  simp only [outsideResult, slotBase]
  omega

/-- The first stage after the slot is noted as taken (R127, R147). -/
theorem releaseHolds_slot {which : Nat} (h : which ≤ 2) {s : State} (htakes : s.takes) (i : Nat) (hi : i < 16) :
    (releaseHolds which (advanceCursor s)).xread (slotBase s.orders.cursor + i) = s.xread (slotBase s.orders.cursor + i) := by
  obtain ⟨-, -, -, -, hcursor, hwf⟩ := htakes
  have hsmall := slot_word_lt hcursor hi
  have hbase : faultBase = 1792 := rfl
  exact (releaseHolds_words h (s := advanceCursor s) hwf).2 _ fun _ _ _ _ => by omega

/-- Settles O33. -/
theorem clearFaultReleasesHolds : Obligations.ClearFaultReleasesHolds := by
  intro o s htakes
  refine ⟨fun d hd => doneAtOnce_of_completeNow (dispatch := dispatchClearFault) (kind := 9) rfl htakes ?_,
    fun leaves released hwhich hflag hleaves hreleased hcalm => ?_⟩
  · unfold dispatchClearFault
    obtain ⟨hbad, rfl⟩ | ⟨hwhich, hbad, rfl⟩ := hd
    · exact if_pos hbad
    · exact (if_neg (Nat.not_lt_of_le hwhich)).trans (if_pos hbad)
  · have hexec := exec_clearFault (u := releaseHolds o.par.p0.toNat (advanceCursor s)) htakes hwhich (by omega)
      (if_neg (by omega)).symm
    have hrelease : released = (advanceCursor s).releasesHold o.par.p0.toNat := hreleased
    have hserved := fun severe => releaseHolds_served hwhich severe (advanceCursor s)
    obtain ⟨hactive, htotal, hexcl⟩ := releaseHolds_rest hwhich (advanceCursor s)
    obtain ⟨hzero, hother⟩ := releaseHolds_words hwhich (s := advanceCursor s) htakes.2.2.2.2.2
    have hslot := releaseHolds_slot hwhich htakes
    have hframe := releaseHolds_sameBut o.par.p0.toNat (advanceCursor s)
    have hwf : (releaseHolds o.par.p0.toNat (advanceCursor s)).xmemWf := (releaseHolds_opensNone _ _).wf htakes.2.2.2.2.2
    rw [← hrelease] at hserved hzero hother
    have hheld : namedHoldSet o.par.p0.toNat s = (released false || released true) := by
      rw [namedHoldSet_eq, hrelease]
      rfl
    have horders : (releaseHolds o.par.p0.toNat (advanceCursor s)).orders = { s.orders with cursor := nextCursor s } :=
      hframe.same .orders (by decide)
    have hframe : SameBut [.xmem, .orders, .faults] s (releaseHolds o.par.p0.toNat (advanceCursor s)) :=
      (advanceCursor_sameBut s).comp hframe (by decide) (by decide)
    generalize releaseHolds o.par.p0.toNat (advanceCursor s) = u at *
    have hmodc : u.modc = s.modc := hframe.same .modc (by decide)
    have hgov : u.gov = s.gov := hframe.same .gov (by decide)
    have harmc : u.armc = s.armc := hframe.same .armc (by decide)
    have hwatc : u.watc = s.watc := hframe.same .watc (by decide)
    have htma : u.tma = s.tma := hframe.same .tma (by decide)
    have hport : u.port = s.port := hframe.same .port (by decide)
    have hcan : u.canLeaveSafe = leaves :=
      (State.canLeaveSafe_congr hmodc hgov hactive harmc).trans (Bool.eq_iff_iff.mpr (s.canLeaveSafe_iff.trans hleaves.symm))
    have hexcl' : u.faults.exclusions = s.faults.exclusions := hexcl
    have hcalm' : u.canLeaveSafe = true → u.calmArms := fun h => (hcalm (hcan ▸ h)).of_same harmc
    obtain ⟨⟨hdone, hwords⟩, hors, hp, hfaults, hstay, hleft⟩ := completeNow_leaveSafe o _ htakes hwf hslot hport
      (by rw [htma]) hcalm' rfl
    rw [hheld, hcan, hexcl'] at hexec
    rw [hcan] at hp hstay hleft
    have hfault (a : Nat) (ha : faultBase ≤ a) := hwords a (faultWord_outsideResult htakes.2.2.2.2.1 ha)
    refine ⟨_, hexec, fun severe => (congrArg (·.served severe) hfaults).trans (hserved severe),
      (congrArg _ hfaults).trans hactive, (congrArg _ hfaults).trans htotal, (congrArg _ hfaults).trans hexcl, hdone,
      hors.trans horders, fun p hpp => hpp ▸ hp, fun severe i hi hr => (hfault _ (by omega)).trans (hzero severe i hi hr),
      fun a hout ha => (hwords a hout).trans (hother a ha),
      fun h => (hframe.mono (by simp)).trans ((hstay h).mono (by simp)), fun h => ?_⟩
    obtain ⟨hmodc', harm, hwidth, ⟨hwatc', hpump, hnozzles⟩, houts, -, hleftFrame⟩ := hleft h
    refine ⟨hmodc'.trans (by rw [hmodc]), fun a => (harm a).trans (by rw [State.arm_congr harmc]), hwidth.trans (by rw [harmc]),
      ⟨hwatc'.trans (by rw [hwatc]), hpump, hnozzles⟩, (OutputsOnly.of_same htma).trans houts,
      (hframe.mono (by simp)).trans (hleftFrame.mono (by simp))⟩

end Sys2Proof.Machine

namespace Sys2Proof.Machine

/-! ### CLEAR_FAULT: the release of exclusions (R128, R72), and the order with the flag 1 -/

/-- A release of exclusions writes the exclusion word at most, and reaches the fault unit, the arms, the water and the outputs (R128). -/
structure ExclusionsReleased (s t : State) : Prop where
  wf : t.xmemWf
  words : ∀ a, a ≠ faultBase + 34 → t.xread a = s.xread a
  word : (t.faults.exclusions = s.faults.exclusions ∧ t.xread (faultBase + 34) = s.xread (faultBase + 34)) ∨
    t.xread (faultBase + 34) = exclusionWord t.faults.exclusions
  faults : t.faults = { s.faults with exclusions := t.faults.exclusions }
  width : t.armc.width = s.armc.width
  outputs : OutputsOnly s t
  frame : SameBut [.xmem, .faults, .armc, .watc, .tma] s t

theorem ExclusionsReleased.refl {s : State} (hwf : s.xmemWf) : ExclusionsReleased s s :=
  ⟨hwf, fun _ _ => rfl, .inl ⟨rfl, rfl⟩, rfl, rfl, rfl, SameBut.refl _ s⟩

theorem ExclusionsReleased.trans {s u t : State} (h : ExclusionsReleased s u) (hut : ExclusionsReleased u t) :
    ExclusionsReleased s t := by
  refine ⟨hut.wf, fun a ha => (hut.words a ha).trans (h.words a ha), ?_, ?_, hut.width.trans h.width, h.outputs.trans hut.outputs,
    h.frame.trans hut.frame⟩
  · obtain ⟨hexcl, hword⟩ | hword := hut.word
    · exact h.word.imp (fun ⟨hsame, hkept⟩ => ⟨hexcl.trans hsame, hword.trans hkept⟩) fun hset => by rw [hword, hset, hexcl]
    · exact .inr hword
  · rw [hut.faults, h.faults]

/-- The exclusions replaced, with their word (R121). -/
theorem setExclusions_released (x : Exclusions) {s : State} (hwf : s.xmemWf) : ExclusionsReleased s (setExclusions x s) := by
  have hbase : faultBase = 1792 := rfl
  have hwf' : (s.setFaults { s.faults with exclusions := x }).xmemWf := xmemWf_congr rfl hwf
  refine ⟨xwrite_xmemWf _ _ _ hwf', fun a ha => xread_xwrite_other _ _ _ _ ha, .inr ?_, rfl, rfl, rfl, fun b => ?_⟩
  · exact xread_xwrite_same _ _ _ hwf' (by omega)
  · cases b <;> simp [Block.same]

/-- The arm's exclusion is latched with its cause gone (R128). -/
def State.releasesArm (s : State) (a : Arm) : Bool := s.faults.exclusions.arm a && !(s.arm a).causePresent

/-- The water's exclusion is latched with both its conditions gone (R128). -/
def State.releasesWater (s : State) : Bool := s.faults.exclusions.water && !s.isActive .waterDry && !s.isActive .tankSensorLost

theorem releaseArm_of_not {a : Arm} {s : State} (h : s.releasesArm a = false) : releaseArm a s = s := by
  unfold releaseArm
  exact if_neg (by simpa [State.releasesArm] using h)

theorem releaseArm_of {a : Arm} {s : State} (h : s.releasesArm a = true) : releaseArm a s =
    handRecord a 0 (setArm a (releasedRecord (s.input (upInput a)) (s.arm a))
      (setExclusions (s.faults.exclusions.setArm a false) s)) := by
  unfold releaseArm
  exact if_pos h

/-- Each record after the release of one arm (R72). -/
theorem releaseArm_arm (a b : Arm) (s : State) : (releaseArm a s).arm b =
    if b = a ∧ s.releasesArm a = true then releasedRecord (s.input (upInput a)) (s.arm a) else s.arm b := by
  cases h : s.releasesArm a
  · simp [releaseArm_of_not h]
  · rw [releaseArm_of h, handRecord_arm, setArm_arm]
    simp only [and_true]
    rfl

/-- The outputs of each arm after the release of one (R72, R73). -/
theorem releaseArm_armOuts (a b : Arm) (s : State) : (releaseArm a s).armOuts b =
    if b = a ∧ s.releasesArm a = true then (releasedRecord (s.input (upInput a)) (s.arm a)).outs 0 else s.armOuts b := by
  cases h : s.releasesArm a
  · simp [releaseArm_of_not h]
  · rw [releaseArm_of h, handRecord_armOuts, setArm_arm]
    simp only [and_true, if_true]
    rfl

/-- The exclusions after the release of one arm (R128). -/
theorem releaseArm_exclusions (a : Arm) (s : State) : (releaseArm a s).faults.exclusions =
    if s.releasesArm a then s.faults.exclusions.setArm a false else s.faults.exclusions := by
  cases h : s.releasesArm a
  · simp [releaseArm_of_not h]
  · rw [releaseArm_of h]
    simp

/-- Each latch after that of an arm is set or cleared. -/
theorem Exclusions.setArm_arm (x : Exclusions) (a b : Arm) (v : Bool) : (x.setArm a v).arm b = if b = a then v else x.arm b := by
  cases a <;> cases b <;> rfl

theorem Exclusions.setArm_water (x : Exclusions) (a : Arm) (v : Bool) : (x.setArm a v).water = x.water := by
  cases a <;> rfl

/-- Each latch after the release of one arm (R128). -/
theorem releaseArm_latches (a b : Arm) (s : State) : (releaseArm a s).faults.exclusions.arm b =
    (s.faults.exclusions.arm b && !(decide (b = a) && s.releasesArm a)) := by
  rw [releaseArm_exclusions]
  cases s.releasesArm a
  · simp
  · simp only [if_true, Exclusions.setArm_arm, Bool.and_true]
    by_cases h : b = a <;> simp [h]

theorem releaseArm_water (a : Arm) (s : State) :
    (releaseArm a s).faults.exclusions.water = s.faults.exclusions.water := by
  rw [releaseArm_exclusions]
  split
  · exact Exclusions.setArm_water _ _ _
  · rfl

theorem releaseArm_released (a : Arm) {s : State} (hwf : s.xmemWf) : ExclusionsReleased s (releaseArm a s) := by
  cases h : s.releasesArm a
  · rw [releaseArm_of_not h]
    exact .refl hwf
  · rw [releaseArm_of h]
    have hset := setExclusions_released (s.faults.exclusions.setArm a false) hwf
    refine hset.trans ?_
    generalize setExclusions (s.faults.exclusions.setArm a false) s = u at hset
    have hxmem (v : State) : (handRecord a 0 v).xmem = v.xmem := by simp
    have hread (b : Nat) (r : ArmRecord) : (handRecord a 0 (setArm a r u)).xread b = u.xread b :=
      congrArg (fun m => Memory.read (word 0) m b) (hxmem _)
    have hfaults (r : ArmRecord) : (handRecord a 0 (setArm a r u)).faults = u.faults := by simp
    refine ⟨xmemWf_congr (hxmem _) hset.wf, fun b _ => hread b _, .inl ⟨by rw [hfaults], hread _ _⟩, by rw [hfaults], ?_, ?_, ?_⟩
    · simp
    · exact (OutputsOnly.of_same rfl).trans (handRecord_outputsOnly a 0 _)
    · intro b
      cases b <;> simp [Block.same]

theorem releaseArm_watc (a : Arm) (s : State) : (releaseArm a s).watc = s.watc := by
  cases h : s.releasesArm a
  · rw [releaseArm_of_not h]
  · rw [releaseArm_of h]
    simp

theorem releaseArm_input (a : Arm) (i : Input) (s : State) : (releaseArm a s).input i = s.input i := by
  refine State.input_congr ?_ i
  cases h : s.releasesArm a
  · rw [releaseArm_of_not h]
  · rw [releaseArm_of h, handRecord_outputsOnly]
    rfl

/-- The release of one arm leaves another's test (R128). -/
theorem releaseArm_releasesArm {a b : Arm} (hne : b ≠ a) (s : State) : (releaseArm a s).releasesArm b = s.releasesArm b := by
  simp [State.releasesArm, releaseArm_latches, releaseArm_arm, hne]

/-- The water's test is not moved by an arm's release (R128). -/
theorem releaseArm_releasesWater (a : Arm) (s : State) : (releaseArm a s).releasesWater = s.releasesWater := by
  have hactive (k : FaultKind) : (releaseArm a s).isActive k = s.isActive k := by
    cases h : s.releasesArm a
    · rw [releaseArm_of_not h]
    · rw [releaseArm_of h]
      simp [setExclusions, State.isActive]
  simp [State.releasesWater, releaseArm_water, hactive]

/-! #### The three arms in order -/

/-- The arms' part of the second stage (R128). -/
def releaseArms (s : State) : State := releaseArm .main (releaseArm .right (releaseArm .left s))

/-- Every record after the arms' part (R72). -/
theorem releaseArms_arm (a : Arm) (s : State) : (releaseArms s).arm a =
    if s.releasesArm a then releasedRecord (s.input (upInput a)) (s.arm a) else s.arm a := by
  cases a <;> simp [releaseArms, releaseArm_arm, releaseArm_releasesArm, releaseArm_input]

/-- The outputs after the arms' part (R72, R73). -/
theorem releaseArms_armOuts (a : Arm) (s : State) : (releaseArms s).armOuts a =
    if s.releasesArm a then (releasedRecord (s.input (upInput a)) (s.arm a)).outs 0 else s.armOuts a := by
  cases a <;> simp [releaseArms, releaseArm_armOuts, releaseArm_arm, releaseArm_releasesArm, releaseArm_input]

/-- The arms' latches after the arms' part (R128). -/
theorem releaseArms_latches (a : Arm) (s : State) : (releaseArms s).faults.exclusions.arm a =
    (s.faults.exclusions.arm a && (s.arm a).causePresent) := by
  have hmine : (s.faults.exclusions.arm a && !s.releasesArm a) = (s.faults.exclusions.arm a && (s.arm a).causePresent) := by
    cases h : s.faults.exclusions.arm a <;> simp [State.releasesArm, h]
  rw [← hmine]
  cases a <;> simp [releaseArms, releaseArm_latches, releaseArm_releasesArm]

theorem releaseArms_released {s : State} (hwf : s.xmemWf) : ExclusionsReleased s (releaseArms s) := by
  have hleft := releaseArm_released .left hwf
  have hright := releaseArm_released .right hleft.wf
  exact hleft.trans (hright.trans (releaseArm_released .main hright.wf))

/-! #### The water, and the second stage whole -/

theorem releaseWater_of_not {s : State} (h : s.releasesWater = false) : releaseWater s = s := by
  unfold releaseWater
  exact if_neg (by simpa [State.releasesWater] using h)

theorem releaseWater_of {s : State} (h : s.releasesWater = true) : releaseWater s =
    (setExclusions { s.faults.exclusions with water := false } s).setWatc { s.watc with waterOut := false } := by
  unfold releaseWater
  exact if_pos h

/-- The water's part of the second stage: the latch and the water-out flag (R128). -/
theorem releaseWater_latch (s : State) : (∀ a, (releaseWater s).faults.exclusions.arm a = s.faults.exclusions.arm a) ∧
    (releaseWater s).faults.exclusions.water = (s.faults.exclusions.water && !s.releasesWater) ∧
    (releaseWater s).watc = { s.watc with waterOut := s.watc.waterOut && !s.releasesWater } := by
  cases h : s.releasesWater
  · simp [releaseWater_of_not h]
  · rw [releaseWater_of h]
    refine ⟨fun a => ?_, ?_, ?_⟩
    · cases a <;> rfl
    · exact (Bool.and_false _).symm
    · simp

theorem releaseWater_armc (s : State) : (releaseWater s).armc = s.armc ∧ (releaseWater s).tma = s.tma := by
  cases h : s.releasesWater
  · rw [releaseWater_of_not h]
    exact ⟨rfl, rfl⟩
  · rw [releaseWater_of h]
    exact ⟨rfl, rfl⟩

theorem releaseWater_released {s : State} (hwf : s.xmemWf) : ExclusionsReleased s (releaseWater s) := by
  cases h : s.releasesWater
  · rw [releaseWater_of_not h]
    exact .refl hwf
  · rw [releaseWater_of h]
    have hset := setExclusions_released { s.faults.exclusions with water := false } hwf
    refine hset.trans ⟨xmemWf_congr rfl hset.wf, fun _ _ => rfl, .inl ⟨rfl, rfl⟩, rfl, rfl, rfl, ?_⟩
    exact (setWatc_sameBut _ _).mono (by simp)

theorem releaseExclusions_released {s : State} (hwf : s.xmemWf) : ExclusionsReleased s (releaseExclusions s) :=
  have harms := releaseArms_released hwf
  harms.trans (releaseWater_released harms.wf)

/-- Every record, with its outputs and its latch, after the second stage (R72, R128). -/
theorem releaseExclusions_arm (a : Arm) (s : State) :
    (releaseExclusions s).arm a =
      (if s.releasesArm a then releasedRecord (s.input (upInput a)) (s.arm a) else s.arm a) ∧
    (releaseExclusions s).armOuts a =
      (if s.releasesArm a then (releasedRecord (s.input (upInput a)) (s.arm a)).outs 0 else s.armOuts a) ∧
    (releaseExclusions s).faults.exclusions.arm a = (s.faults.exclusions.arm a && (s.arm a).causePresent) := by
  have hwhole : releaseExclusions s = releaseWater (releaseArms s) := rfl
  obtain ⟨harmc, htma⟩ := releaseWater_armc (releaseArms s)
  rw [hwhole]
  exact ⟨(State.arm_congr harmc a).trans (releaseArms_arm a s),
    (State.armOuts_congr (congrArg _ htma) a).trans (releaseArms_armOuts a s),
    ((releaseWater_latch _).1 a).trans (releaseArms_latches a s)⟩

/-- The water's latch and flag after the second stage (R128). -/
theorem releaseExclusions_water (s : State) :
    (releaseExclusions s).faults.exclusions.water = (s.faults.exclusions.water && (s.isActive .waterDry || s.isActive .tankSensorLost)) ∧
    (releaseExclusions s).watc = { s.watc with waterOut := s.watc.waterOut && !s.releasesWater } := by
  have hwhole : releaseExclusions s = releaseWater (releaseArms s) := rfl
  have htest : (releaseArms s).releasesWater = s.releasesWater := by
    simp only [releaseArms, releaseArm_releasesWater]
  have hlatch : (releaseArms s).faults.exclusions.water = s.faults.exclusions.water := by
    simp only [releaseArms, releaseArm_water]
  have hwatc : (releaseArms s).watc = s.watc := by simp only [releaseArms, releaseArm_watc]
  obtain ⟨-, hwater, hflag⟩ := releaseWater_latch (releaseArms s)
  rw [htest, hlatch] at hwater
  rw [htest, hwatc] at hflag
  refine ⟨hwhole ▸ hwater.trans ?_, hwhole ▸ hflag⟩
  cases h : s.faults.exclusions.water <;> simp [State.releasesWater, h]

end Sys2Proof.Machine

namespace Sys2Proof.Machine

/-! ### CLEAR_FAULT with the flag 1 (R126 to R129) -/

/-- The first two stages of CLEAR_FAULT with the flag 1, after the cursor moved on (R127, R128). -/
def clearedFaults (which : Nat) (s : State) : State := releaseExclusions (releaseHolds which (advanceCursor s))

/-- What the first two stages leave in the fault unit and its words (R127, R128). -/
theorem clearedFaults_faults {which : Nat} (hwhich : which ≤ 2) {s : State} (hwf : s.xmemWf) :
    (clearedFaults which s).xmemWf ∧
    (∀ severe, (clearedFaults which s).faults.served severe =
      if s.releasesHold which severe then (s.faults.served severe).released else s.faults.served severe) ∧
    (clearedFaults which s).faults.active = s.faults.active ∧ (clearedFaults which s).faults.total = s.faults.total ∧
    ((clearedFaults which s).faults.exclusions ≠ s.faults.exclusions →
      (clearedFaults which s).xread (faultBase + 34) = exclusionWord (clearedFaults which s).faults.exclusions) ∧
    (∀ severe i, i < 3 → s.releasesHold which severe = true →
      (clearedFaults which s).xread (faultBase + holdOffset severe + i) = 0) ∧
    ∀ a, a ≠ faultBase + 34 → (∀ severe i, i < 3 → s.releasesHold which severe = true → a ≠ faultBase + holdOffset severe + i) →
      (clearedFaults which s).xread a = s.xread a := by
  have hserved := fun severe => releaseHolds_served hwhich severe (advanceCursor s)
  obtain ⟨hactive, htotal, hexcl⟩ := releaseHolds_rest hwhich (advanceCursor s)
  obtain ⟨hzero, hother⟩ := releaseHolds_words hwhich (s := advanceCursor s) hwf
  have hwf' : (releaseHolds which (advanceCursor s)).xmemWf := (releaseHolds_opensNone _ _).wf hwf
  have hreleased := releaseExclusions_released hwf'
  have hoffset (severe : Bool) (i : Nat) (hi : i < 3) : faultBase + holdOffset severe + i ≠ faultBase + 34 := by
    have hprimary : holdOffset false = 0 := rfl
    have hsevere : holdOffset true = 16 := rfl
    cases severe <;> omega
  unfold clearedFaults
  generalize releaseHolds which (advanceCursor s) = u at *
  refine ⟨hreleased.wf, fun severe => ?_, ?_, ?_, fun hne => ?_, fun severe i hi hr => ?_, fun a ha hr => ?_⟩
  · refine Eq.trans ?_ (hserved severe)
    rw [hreleased.faults]
    cases severe <;> rfl
  · rw [hreleased.faults, hactive]
    rfl
  · rw [hreleased.faults, htotal]
    rfl
  · exact hreleased.word.resolve_left fun h => hne (h.1.trans hexcl)
  · exact (hreleased.words _ (hoffset severe i hi)).trans (hzero severe i hi hr)
  · exact (hreleased.words a ha).trans (hother a hr)

/-- What the first two stages leave of an arm, its outputs and its latch (R72, R128). -/
theorem clearedFaults_arm {which : Nat} (hwhich : which ≤ 2) (a : Arm) (s : State) :
    (clearedFaults which s).arm a = (if s.releasesArm a then releasedRecord (s.input (upInput a)) (s.arm a) else s.arm a) ∧
    (clearedFaults which s).armOuts a =
      (if s.releasesArm a then (releasedRecord (s.input (upInput a)) (s.arm a)).outs 0 else s.armOuts a) ∧
    (clearedFaults which s).faults.exclusions.arm a = (s.faults.exclusions.arm a && (s.arm a).causePresent) := by
  obtain ⟨-, -, hexcl⟩ := releaseHolds_rest hwhich (advanceCursor s)
  have hframe := releaseHolds_sameBut which (advanceCursor s)
  have harm : (releaseHolds which (advanceCursor s)).arm a = s.arm a := State.arm_congr (hframe.same .armc (by decide)) a
  have htma : (releaseHolds which (advanceCursor s)).tma = s.tma := hframe.same .tma (by decide)
  have hexcl' : (releaseHolds which (advanceCursor s)).faults.exclusions = s.faults.exclusions := hexcl
  have hafter := releaseExclusions_arm a (releaseHolds which (advanceCursor s))
  rwa [State.releasesArm, harm, hexcl', ← State.releasesArm, State.input_congr (congrArg _ htma),
    State.armOuts_congr (congrArg _ htma)] at hafter

/-- What the first two stages leave of the water (R128). -/
theorem clearedFaults_water {which : Nat} (hwhich : which ≤ 2) (s : State) :
    (clearedFaults which s).faults.exclusions.water =
      (s.faults.exclusions.water && (s.isActive .waterDry || s.isActive .tankSensorLost)) ∧
    (clearedFaults which s).watc = { s.watc with
      waterOut := s.watc.waterOut && !(s.faults.exclusions.water && !(clearedFaults which s).faults.exclusions.water) } := by
  obtain ⟨hactive, -, hexcl⟩ := releaseHolds_rest hwhich (advanceCursor s)
  have hwatc : (releaseHolds which (advanceCursor s)).watc = s.watc :=
    (releaseHolds_sameBut which (advanceCursor s)).same .watc (by decide)
  have hexcl' : (releaseHolds which (advanceCursor s)).faults.exclusions = s.faults.exclusions := hexcl
  have hpresent (k : FaultKind) : (releaseHolds which (advanceCursor s)).isActive k = s.isActive k := by
    rw [State.isActive, hactive]
    rfl
  obtain ⟨hwater, hflag⟩ := releaseExclusions_water (releaseHolds which (advanceCursor s))
  rw [State.releasesWater, hpresent, hpresent, hexcl', hwatc] at hflag
  rw [hpresent, hpresent, hexcl'] at hwater
  refine ⟨hwater, hflag.trans ?_⟩
  have hwater' : (clearedFaults which s).faults.exclusions.water = _ := hwater
  rw [hwater']
  cases s.faults.exclusions.water <;> cases s.isActive .waterDry <;> cases s.isActive .tankSensorLost <;> rfl

/-- The first two stages reach no order, the mode controller, the governor or the clock (R127, R128). -/
theorem clearedFaults_frame (which : Nat) {s : State} (hwf : s.xmemWf) :
    SameBut [.xmem, .orders, .faults, .armc, .watc, .tma] s (clearedFaults which s) ∧
    (clearedFaults which s).orders = { s.orders with cursor := nextCursor s } ∧
    OutputsOnly s (clearedFaults which s) ∧ (clearedFaults which s).armc.width = s.armc.width := by
  have hwf' : (releaseHolds which (advanceCursor s)).xmemWf := (releaseHolds_opensNone _ _).wf hwf
  have hframe := releaseHolds_sameBut which (advanceCursor s)
  have hreleased := releaseExclusions_released hwf'
  have htma : (releaseHolds which (advanceCursor s)).tma = s.tma := hframe.same .tma (by decide)
  have harmc : (releaseHolds which (advanceCursor s)).armc = s.armc := hframe.same .armc (by decide)
  have horders : (releaseHolds which (advanceCursor s)).orders = { s.orders with cursor := nextCursor s } :=
    hframe.same .orders (by decide)
  unfold clearedFaults
  generalize releaseHolds which (advanceCursor s) = u at *
  exact ⟨((advanceCursor_sameBut s).comp hframe (by decide) (by decide : _ ⊆ [.xmem, .orders, .faults, .armc, .watc, .tma])).trans
      (hreleased.frame.mono (by decide)), (hreleased.frame.same .orders (by decide)).trans horders,
    (OutputsOnly.of_same htma).trans hreleased.outputs, hreleased.width.trans (congrArg _ harmc)⟩

/-- The attempt to leave SAFE after the first two stages, seen from the state before them (R5, R128, R129). -/
theorem clearedFaults_canLeaveSafe {which : Nat} (hwhich : which ≤ 2) {s : State} (hwf : s.xmemWf) :
    (clearedFaults which s).canLeaveSafe = true ↔ s.modc.mode = .safe ∧ s.standstill = true ∧ s.stopActive = false ∧
      ∀ a, if s.faults.exclusions.arm a = true ∧ (s.arm a).causePresent = false then s.input (upInput a) = true
        else (s.arm a).state = .stowed ∨ (s.arm a).state = .out := by
  obtain ⟨hframe, -⟩ := clearedFaults_frame which hwf
  have hmodc : (clearedFaults which s).modc = s.modc := hframe.same .modc (by decide)
  have hgov : (clearedFaults which s).gov = s.gov := hframe.same .gov (by decide)
  have hactive := (clearedFaults_faults hwhich hwf).2.2.1
  have hstand : (clearedFaults which s).standstill = s.standstill := by rw [State.standstill, hgov, State.standstill]
  have hstop : (clearedFaults which s).stopActive = s.stopActive := by
    simp only [State.stopActive, State.haltActive, State.isActive, hactive]
  have hstate (a : Arm) : ((clearedFaults which s).arm a).state = .stowed ∨ ((clearedFaults which s).arm a).state = .out ↔
      if s.faults.exclusions.arm a = true ∧ (s.arm a).causePresent = false then s.input (upInput a) = true
        else (s.arm a).state = .stowed ∨ (s.arm a).state = .out := by
    have htest : s.releasesArm a = true ↔ s.faults.exclusions.arm a = true ∧ (s.arm a).causePresent = false := by
      simp [State.releasesArm]
    rw [(clearedFaults_arm hwhich a s).1]
    by_cases h : s.releasesArm a = true
    · rw [if_pos h, if_pos (htest.mp h)]
      cases s.input (upInput a) <;> simp [releasedRecord, enterState]
    · rw [if_neg h, if_neg (mt htest.mpr h)]
  rw [State.canLeaveSafe_iff, hmodc, hstand, hstop, forall_congr' hstate]

/-- The attempt to leave SAFE, made or not (R5, R129). -/
structure SafeAttempted (leaves : Bool) (s t : State) : Prop where
  modc : t.modc = if leaves then { s.modc with
      mode := .transport, reason := 25, phase := .none, settle := none, budget := 0
      commanded := ⟨false, false, false⟩, haltLatch := false, safeStopped := false } else s.modc
  arm : ∀ a, t.arm a = if leaves then { s.arm a with req := .stowed } else s.arm a
  width : t.armc.width = s.armc.width
  kept : leaves = false → t.watc = s.watc
  spray : leaves = true → SprayStopped s t
  outputs : OutputsOnly s t
  armOuts : ∀ a, t.armOuts a = s.armOuts a
  frame : SameBut [.xmem, .orders, .port, .modc, .armc, .watc, .tma] s t

theorem safeAttempted_of {leaves : Bool} {s t : State} (hstay : leaves = false → SameBut [.xmem, .orders, .port] s t)
    (hleft : leaves = true → SafeLeft s t) : SafeAttempted leaves s t := by
  cases leaves
  · have hframe := hstay rfl
    have harmc : t.armc = s.armc := hframe.same .armc (by decide)
    have htma : t.tma = s.tma := hframe.same .tma (by decide)
    exact ⟨hframe.same .modc (by decide), State.arm_congr harmc, congrArg _ harmc, fun _ => hframe.same .watc (by decide),
      fun h => absurd h (by simp), .of_same htma, State.armOuts_congr (congrArg _ htma), hframe.mono (by simp)⟩
  · obtain ⟨hmodc, harm, hwidth, hspray, houts, harmOuts, hframe⟩ := hleft rfl
    exact ⟨hmodc, harm, hwidth, fun h => absurd h (by simp), fun _ => hspray, houts, harmOuts, hframe⟩

/-- Settles O34. -/
theorem clearFaultReleasesExclusionsAndLeavesSafe : Obligations.ClearFaultReleasesExclusionsAndLeavesSafe := by
  intro o s leaves released htakes hwhich hflag hleaves hcalm hreleased
  have hwf := htakes.2.2.2.2.2
  have hexec := exec_clearFault (u := clearedFaults o.par.p0.toNat s) htakes hwhich (by omega) (if_pos hflag).symm
  obtain ⟨hwf', hserved, hactive, htotal, hexclWord, hzero, hother⟩ := clearedFaults_faults hwhich hwf
  have harms := fun a => clearedFaults_arm hwhich a s
  obtain ⟨hwater, hwatc⟩ := clearedFaults_water hwhich s
  obtain ⟨hframe, horders, houtputs, hwidth⟩ := clearedFaults_frame o.par.p0.toNat hwf
  have hcan : (clearedFaults o.par.p0.toNat s).canLeaveSafe = leaves :=
    Bool.eq_iff_iff.mpr ((clearedFaults_canLeaveSafe hwhich hwf).trans hleaves.symm)
  have hrelease : released = s.releasesHold o.par.p0.toNat := hreleased
  rw [← hrelease] at hserved hzero hother
  generalize clearedFaults o.par.p0.toNat s = u at *
  have hmodc : u.modc = s.modc := hframe.same .modc (by decide)
  have hgov : u.gov = s.gov := hframe.same .gov (by decide)
  have hport : u.port = s.port := hframe.same .port (by decide)
  have hslot (i : Nat) (hi : i < 16) : u.xread (slotBase s.orders.cursor + i) = s.xread (slotBase s.orders.cursor + i) := by
    have hsmall := slot_word_lt htakes.2.2.2.2.1 hi
    have hbase : faultBase = 1792 := rfl
    exact hother _ (by omega) fun _ _ _ _ => by omega
  have hcalm' : u.canLeaveSafe = true → u.calmArms := fun h a w hw => by
    refine hcalm (hcan ▸ h) a w ?_
    rw [← hw, (harms a).1]
    split <;> rfl
  have hclock : u.tma.clock = s.tma.clock := by
    rw [houtputs]
  rw [hcan] at hexec
  generalize hdetail : (if leaves = true then 1 else 0) + (if u.faults.exclusions.any = true then 2 else 0) +
    (if namedHoldSet o.par.p0.toNat s = true then 4 else 0) = detail at hexec
  obtain ⟨⟨hdone, hwords⟩, hors, hp, hfaults, hstay, hleft⟩ := completeNow_leaveSafe o detail htakes hwf' hslot hport hclock hcalm' rfl
  refine ⟨_, hexec, ?_⟩
  rw [hcan] at hp hstay hleft
  obtain ⟨hmodc', harm, hwidth', hkept, hspray, houts, harmOuts, hframe'⟩ := safeAttempted_of hstay hleft
  rw [hmodc] at hmodc'
  generalize completeNow (noteTake 9 o s) .ok detail (leaveSafe u) = t at *
  have hmode : leaves = true → s.modc.mode = .safe := fun h => (hleaves.mp h).1
  have hmove : t.modc.mode = s.modc.mode ↔ leaves = false := by
    rw [hmodc']
    cases leaves
    · simp
    · simp [hmode rfl]
  have hflag' : t.watc.waterOut = u.watc.waterOut := by
    cases leaves
    · rw [hkept rfl]
    · rw [(hspray rfl).1]
  have htransport (hsafe : s.modc.mode = .safe) : t.modc.mode = .transport ↔ leaves = true := by
    rw [hmodc']
    cases leaves <;> simp [hsafe]
  have hfault (a : Nat) (ha : faultBase ≤ a) := hwords a (faultWord_outsideResult htakes.2.2.2.2.1 ha)
  refine ⟨fun severe => (congrArg (·.served severe) hfaults).trans (hserved severe),
    fun severe i hi hr => (hfault _ (by omega)).trans (hzero severe i hi hr),
    fun hne => ?_, fun a hout hne hr => (hwords a hout).trans (hother a hne hr), ?_, ?_, ?_, ?_, ?_, ?_, ?_,
    hwidth'.trans hwidth, houtputs.trans houts, ?_, ?_, ?_, ?_, by rw [hfaults, hactive], by rw [hfaults, htotal], ?_,
    hors.trans horders, ?_⟩
  · rw [hfaults] at hne ⊢
    exact (hfault _ (by omega)).trans (hexclWord hne)
  · rw [hflag', hfaults, hwatc]
  · intro hsame
    rw [hkept (hmove.mp hsame), hwatc]
  · intro hne
    obtain ⟨hstopped, hpump, hnozzles⟩ := hspray (by simpa using mt hmove.mpr hne)
    refine ⟨?_, hpump, hnozzles⟩
    rw [hstopped, hwatc]
    rfl
  · rintro p rfl
    rw [hp]
    cases leaves
    · rw [if_pos (hmove.mpr rfl)]
      rfl
    · rw [if_neg (mt hmove.mp (by simp))]
      rfl
  · intro a
    rw [hfaults, (harms a).2.2]
  · intro a hlatched hgone
    obtain ⟨hrecord, hpins, -⟩ := harms a
    have hreleases : s.releasesArm a = true := by simp [State.releasesArm, hlatched, hgone]
    rw [if_pos hreleases] at hrecord hpins
    have houtsA := (harmOuts a).trans hpins
    refine ⟨?_, ?_, ?_, congrArg ArmOuts.motor houtsA⟩
    · rw [harm, hrecord]
      cases leaves <;> rfl
    · refine (congrArg ArmOuts.lower houtsA).trans ?_
      cases s.input (upInput a) <;> rfl
    · refine (congrArg ArmOuts.raise houtsA).trans ?_
      cases s.input (upInput a) <;> rfl
  · intro a hstands
    have hreleases : s.releasesArm a = false := by
      obtain h | h := hstands <;> simp [State.releasesArm, h]
    obtain ⟨hrecord, -⟩ := harms a
    rw [hreleases] at hrecord
    rw [harm, hrecord]
    cases leaves
    · rw [if_pos (hmove.mpr rfl)]
      rfl
    · rw [if_neg (mt hmove.mp (by simp))]
      rfl
  · rw [hfaults, hwater]
  · intro hne
    have hno : leaves = false := by simpa using mt hmode hne
    rw [hmodc', hno]
    rfl
  · intro hsafe
    refine ⟨htransport hsafe, (htransport hsafe).trans ?_, fun h => ?_, fun h => ?_⟩
    · have hstate (a : Arm) : (t.arm a).state = (u.arm a).state := by
        rw [harm]
        split <;> rfl
      have hstand : u.standstill = s.standstill := by rw [State.standstill, hgov, State.standstill]
      have hstop : u.stopActive = s.stopActive := by simp only [State.stopActive, State.haltActive, State.isActive, hactive]
      rw [← hcan, State.canLeaveSafe_iff, hmodc, hstand, hstop]
      simp only [hstate, hsafe, true_and]
    · rw [hmodc', if_pos ((htransport hsafe).mp h)]
      exact ⟨rfl, rfl, rfl⟩
    · rw [hmodc', if_neg (mt (htransport hsafe).mpr h)]
  · rw [hfaults]
    have hfirst : s.modc.mode = .safe ∧ t.modc.mode = .transport ↔ leaves = true :=
      ⟨fun ⟨hsafe, h⟩ => (htransport hsafe).mp h, fun h => ⟨hmode h, (htransport (hmode h)).mpr h⟩⟩
    have hheld : (o.par.p0.toNat ≠ 1 ∧ s.faults.primary.hold = true) ∨ (o.par.p0.toNat ≠ 0 ∧ s.faults.severe.hold = true) ↔
        namedHoldSet o.par.p0.toNat s = true := by simp [namedHoldSet]
    simp only [hfirst, hheld, hdetail]
    exact hdone
  · exact (hframe'.same .gov (by decide)).trans hgov
  · exact (hframe.mono (by simp)).trans (hframe'.mono (by simp))

end Sys2Proof.Machine

namespace Sys2Proof.Machine

/-! ### The entry to PARKED (R2, R16, R86, R116) -/

/-- The state in which the arms are put to rest at the entry to PARKED (R2, R61). -/
def parkEntered (s : State) : State := govNotice .parked (modeEntered .parked 20 s)

/-- The arms put to rest at the entry to PARKED, before their conditions end (R86). -/
def parkedArms (s : State) : State := handArmsOff (mapArms (fun _ r => parkRecord r) (parkEntered s))

/-- The waiting orders of the arms are dropped at the entry to PARKED, where none is open (R86). -/
theorem noticeWaiting_parked_sameBut (a : Arm) (s : State) : SameBut [.armc] s (noticeWaiting .parked a s) := by
  unfold noticeWaiting
  split
  · exact SameBut.refl _ s
  · rw [if_pos rfl]
    exact setArmc_sameBut _ _

/-- The entry to PARKED, part by part (R2). -/
theorem changeMode_parked {s : State} (hmode : s.modc.mode = .transport) : changeMode .parked 20 s =
    raiseCause .modeChange (loadNotice .parked (waterNotice .parked (noticeWaiting .parked .main (noticeWaiting .parked .right
      (noticeWaiting .parked .left (armConditionEnd .brushStall (armConditionEnd .armStuck (parkedArms s)))))))) := by
  rw [changeMode_eq, hmode]
  rfl

/-- The state in which the arms' conditions end at the entry to PARKED: nothing of exchange memory or the fault unit has moved. -/
theorem parkedArms_sameBut (s : State) : SameBut [.modc, .gov, .armc, .tma] s (parkedArms s) := by
  intro b
  cases b <;> simp [Block.same, parkedArms, parkEntered, govNotice]

/-- The arms as their conditions end at the entry to PARKED (R86). -/
theorem parkedArms_arm (a : Arm) (s : State) : (parkedArms s).arm a = parkRecord { s.arm a with req := .stowed } := by
  have hgov (u : State) : (govNotice .parked u).arm a = u.arm a := rfl
  have hstows : stowsOnEntry .parked = true := rfl
  rw [parkedArms, handArmsOff_arm, mapArms_arm, parkEntered, hgov, modeEntered_arm, if_pos hstows]

/-- After the arms' conditions: the load manager's own end, and its values (R116). -/
theorem changeMode_parked_after {s : State} (hmode : s.modc.mode = .transport) {u : State}
    (hu : u = armConditionEnd .brushStall (armConditionEnd .armStuck (parkedArms s))) :
    ∃ v, SameBut [.armc, .watc, .loadm, .tma] u v ∧
      v.loadm = { s.loadm with
        load := 1000, scale := 1000, floor := none, recovery := none, engineLoss := none, engineLossFlag := false } ∧
      changeMode .parked 20 s = raiseCause .modeChange (endIf s.loadm.engineLossFlag .engineSpeedLost v) := by
  have hwaits : SameBut [.armc] u (noticeWaiting .parked .main (noticeWaiting .parked .right (noticeWaiting .parked .left u))) :=
    (noticeWaiting_parked_sameBut _ _).trans ((noticeWaiting_parked_sameBut _ _).trans (noticeWaiting_parked_sameBut _ _))
  have hstart : u.loadm = s.loadm := by
    have hparked : (parkedArms s).loadm = s.loadm := (parkedArms_sameBut s).same .loadm (by decide)
    rw [hu]
    simp [hparked]
  rw [changeMode_parked hmode, ← hu]
  generalize noticeWaiting .parked .main (noticeWaiting .parked .right (noticeWaiting .parked .left u)) = x at hwaits
  have hwater : SameBut [.armc, .watc, .tma] u (waterNotice .parked x) := by
    refine (hwaits.mono (by simp)).trans ?_
    intro b
    cases b <;> simp [Block.same]
  generalize waterNotice .parked x = y at hwater
  have hloadm : y.loadm = s.loadm := (hwater.same .loadm (by decide)).trans hstart
  refine ⟨y.setLoadm { y.loadm with
    load := 1000, scale := 1000, floor := none, recovery := none, engineLoss := none, engineLossFlag := false },
    (hwater.mono (by simp)).trans ((setLoadm_sameBut _ _).mono (by simp)), by rw [← hloadm]; rfl, ?_⟩
  rw [loadNotice, if_pos rfl, hloadm]

/-- The fault unit, the load manager, the orders and the words after the entry to PARKED (R86, R116, R121). -/
theorem changeMode_parked_faults {s : State} (hmode : s.modc.mode = .transport) (hwf : s.xmemWf) :
    ActiveFollows s (changeMode .parked 20 s) ∧ ActiveOnly s (changeMode .parked 20 s) ∧
    (∀ k, (changeMode .parked 20 s).isActive k = (s.isActive k &&
      !(noFlagFor .armStuck (parkedArms s) && decide (k = .armStuck)) &&
      !(noFlagFor .brushStall (parkedArms s) && decide (k = .brushStall)) &&
      !(s.loadm.engineLossFlag && decide (k = .engineSpeedLost)))) ∧
    (changeMode .parked 20 s).loadm = { s.loadm with
      load := 1000, scale := 1000, floor := none, recovery := none, engineLoss := none, engineLossFlag := false } ∧
    (changeMode .parked 20 s).port = s.port.raise .modeChange ∧
    SameBut [.xmem, .port, .modc, .gov, .armc, .watc, .loadm, .faults, .tma] s (changeMode .parked 20 s) := by
  have hparked := parkedArms_sameBut s
  have hfaults : (parkedArms s).faults = s.faults := hparked.same .faults (by decide)
  have hfollows₀ : ActiveFollows s (parkedArms s) := .of_same hwf (hparked.same .xmem (by decide)) hfaults
  have hport : (parkedArms s).port = s.port := hparked.same .port (by decide)
  have hflag : noFlagFor .brushStall (armConditionEnd .armStuck (parkedArms s)) = noFlagFor .brushStall (parkedArms s) := by
    simp [noFlagFor]
  obtain ⟨v, hv, hloadm, heq⟩ := changeMode_parked_after hmode rfl
  rw [heq]
  generalize parkedArms s = p at *
  have hfollows₁ := hfollows₀.trans (endIf_activeFollows (noFlagFor .armStuck p) .armStuck hfollows₀.wf)
  have hfollows₂ := hfollows₁.trans (endIf_activeFollows (noFlagFor .brushStall (armConditionEnd .armStuck p)) .brushStall hfollows₁.wf)
  have honly : ActiveOnly s (armConditionEnd .brushStall (armConditionEnd .armStuck p)) :=
    (ActiveOnly.of_same hfaults).trans ((endIf_activeOnly _ _ _).trans (endIf_activeOnly _ _ _))
  have hactive (k : FaultKind) : (armConditionEnd .brushStall (armConditionEnd .armStuck p)).isActive k = (s.isActive k &&
      !(noFlagFor .armStuck p && decide (k = .armStuck)) && !(noFlagFor .brushStall p && decide (k = .brushStall))) := by
    rw [armConditionEnd, hflag, endIf_isActive, armConditionEnd, endIf_isActive, State.isActive_congr hfaults]
  have hframe : SameBut [.xmem, .modc, .gov, .armc, .faults, .tma] s (armConditionEnd .brushStall (armConditionEnd .armStuck p)) := by
    refine (hparked.mono (by simp)).trans ?_
    intro b
    cases b <;> simp [Block.same]
  have hport₂ : (armConditionEnd .brushStall (armConditionEnd .armStuck p)).port = s.port := by simp [hport]
  have hfollows₃ : ActiveFollows s (armConditionEnd .brushStall (armConditionEnd .armStuck p)) := hfollows₂
  generalize armConditionEnd .brushStall (armConditionEnd .armStuck p) = u at *
  have hvfaults : v.faults = u.faults := hv.same .faults (by decide)
  have hvport : v.port = s.port := (hv.same .port (by decide)).trans hport₂
  have hfollows₄ := hfollows₃.trans (.of_same hfollows₃.wf (hv.same .xmem (by decide)) hvfaults)
  have hfollows₅ := hfollows₄.trans (endIf_activeFollows s.loadm.engineLossFlag .engineSpeedLost hfollows₄.wf)
  refine ⟨hfollows₅.trans (.of_same hfollows₅.wf rfl rfl), ?_, fun k => ?_, ?_, ?_, ?_⟩
  · exact honly.trans ((ActiveOnly.of_same hvfaults).trans ((endIf_activeOnly _ _ _).trans (.of_same rfl)))
  · have hcause (x : State) : (raiseCause .modeChange x).isActive k = x.isActive k := rfl
    rw [hcause, endIf_isActive, State.isActive_congr hvfaults, hactive]
  · have hcause (x : State) : (raiseCause .modeChange x).loadm = x.loadm := rfl
    rw [hcause, ← hloadm]
    simp
  · have hcause (x : State) : (raiseCause .modeChange x).port = x.port.raise .modeChange := rfl
    rw [hcause, ← hvport]
    simp
  · refine ((hframe.mono (by simp)).trans (hv.mono (by simp))).trans ?_
    intro b
    cases b <;> simp [Block.same]

end Sys2Proof.Machine

namespace Sys2Proof.Machine

/-! ### PARK (R15, R16) -/

/-- The fields of the page are a matter of what they show (section 12.5). -/
theorem statusFields_congr {s t : State} (head : Word) (hmodc : t.modc = s.modc) (hgov : t.gov = s.gov) (harmc : t.armc = s.armc)
    (hwatc : t.watc = s.watc) (hloadm : t.loadm = s.loadm) (hfaults : t.faults = s.faults) (hcal : t.cal = s.cal)
    (horders : t.orders = s.orders) (hcount : t.publisher.traceCount = s.publisher.traceCount)
    (htrace : t.tma.trace = s.tma.trace) (hclock : t.tma.clock = s.tma.clock) : statusFields head t = statusFields head s := by
  simp only [statusFields, State.dose, hmodc, hgov, harmc, hwatc, hloadm, hfaults, hcal, horders, hcount, htrace, hclock]

/-- What the stages of the sleep leave (R16). -/
theorem sleepStages_after {s : State} (hwf : s.xmemWf) :
    (sleepStages s).port = { s.port with check := .disarmed, window := none } ∧
    (sleepStages s).tma = { s.tma with stepsRunning := false, stripRunning := false, outputs := outputsAllOff } ∧
    (sleepStages s).publisher = { s.publisher with headCount := s.publisher.headCount + 1 } ∧
    (∀ i, i < 58 → (sleepStages s).xread (statusBase + i) =
      (statusFields (s.publisher.headCount + 1) (sleepStages s)).getD i 0) ∧
    (∀ i, 58 ≤ i → i < 255 → (sleepStages s).xread (statusBase + i) = 0) ∧
    (sleepStages s).xread (statusBase + 255) = s.publisher.headCount + 1 ∧
    WordsKept statusBase 256 s (sleepStages s) ∧ SameBut [.xmem, .port, .publisher, .tma] s (sleepStages s) := by
  have hoff : SameBut [.tma] s (outputsOff s) := setTma_sameBut _ _
  have hclock : (outputsOff s).tma = { s.tma with outputs := outputsAllOff } := rfl
  have hport : (outputsOff s).port = s.port := rfl
  have hpublisher : (outputsOff s).publisher = s.publisher := rfl
  have hread (a : Nat) : (outputsOff s).xread a = s.xread a := rfl
  have hwf' : (outputsOff s).xmemWf := xmemWf_congr rfl hwf
  have hsleep : sleepStages s = disarmCheck ((publish (outputsOff s)).setTma
    { (publish (outputsOff s)).tma with stepsRunning := false, stripRunning := false }) := rfl
  rw [hsleep]
  generalize outputsOff s = u at *
  have hcounted := publish_publisher u
  have hpage := fun i hi => publish_page hwf' (i := i) hi
  have hkept := publish_wordsKept u
  have hframe := publish_sameBut u
  have hcount : (publish u).publisher.traceCount = u.publisher.traceCount := by rw [hcounted]
  have hfield (i : Nat) (hi : i < 58) := statusPage_field u hi
  have hreserved (i : Nat) (hlow : 58 ≤ i) (hhigh : i < 255) := statusPage_reserved u hlow hhigh
  have htail := statusPage_tail u
  generalize publish u = v at *
  generalize statusPage u = page at *
  have htma : v.tma = u.tma := hframe.same .tma (by decide)
  have hvport : v.port = u.port := hframe.same .port (by decide)
  have hxmem : (disarmCheck (v.setTma { v.tma with stepsRunning := false, stripRunning := false })).xmem = v.xmem := by
    simp [disarmCheck]
  have hafter := xread_congr hxmem
  refine ⟨?_, ?_, ?_, fun i hi => ?_, fun i hlow hhigh => ?_, ?_, fun a ha => ?_, ?_⟩
  · rw [disarmCheck, State.setPort_port, State.setTma_port, hvport, hport]
  · rw [disarmCheck, State.setPort_tma, State.setTma_tma, htma, hclock]
  · rw [disarmCheck, State.setPort_publisher, State.setTma_publisher, hcounted, hpublisher]
  · rw [hafter, hpage i (by omega), hfield i hi, hpublisher]
    refine congrArg (fun ws : List Word => ws.getD i 0) (statusFields_congr _ (hframe.same .modc (by decide)) (hframe.same .gov (by decide))
      (hframe.same .armc (by decide)) (hframe.same .watc (by decide)) (hframe.same .loadm (by decide))
      (hframe.same .faults (by decide)) (hframe.same .cal (by decide)) (hframe.same .orders (by decide)) hcount
      (congrArg _ htma) (congrArg _ htma)).symm
  · rw [hafter, hpage i (by omega), hreserved i hlow hhigh]
  · rw [hafter, hpage 255 (by decide), htail, hpublisher]
  · rw [hafter, hkept a ha, hread]
  · refine (hoff.mono (by simp)).trans ((hframe.mono (by simp)).trans ?_)
    intro b
    cases b <;> simp [Block.same, disarmCheck]

/-- An arm's record at the entry to PARKED (R86). -/
theorem parkRecord_cases (r : ArmRecord) :
    (r.state = .out ∧ r.stateTimer < 4000 → parkRecord r = { r with
      stateTimer := 4000
      causePresent := r.causePresent && decide (r.cause ≠ some .armStuck ∧ r.cause ≠ some .brushStall) }) ∧
    (r.state ≠ .out ∨ 4000 ≤ r.stateTimer → parkRecord r = r) := by
  refine ⟨fun h => ?_, fun h => if_neg fun ⟨hout, hearly⟩ => ?_⟩
  · rw [parkRecord, if_pos h, clearRaiseFlag]
    by_cases hstuck : r.cause = some .armStuck
    · simp [endsWithRaise, hstuck]
    · by_cases hstall : r.cause = some .brushStall
      · simp [endsWithRaise, hstall]
      · simp [endsWithRaise, hstuck, hstall]
  · obtain hstate | hlate := h
    · exact hstate hout
    · omega

/-- A record as the entry to PARKED leaves it (R2, R86). -/
theorem changedRecord_parked (up : Bool) (r : ArmRecord) : changedRecord .transport .parked up r =
    { parkRecord { r with req := .stowed } with waiting := none } := by
  have hwait (w : Option ArmWait) : keptWait .parked w = none := by
    cases w <;> simp [keptWait]
  have hstows : stowsOnEntry .parked = true := rfl
  have hderives : derivesArms .transport .parked = false := rfl
  rw [changedRecord, if_pos hstows, noticedRecord, hwait, hderives]
  rfl

/-- No flag of a kind stands, record by record (R83). -/
theorem noFlagFor_eq (k : FaultKind) (s : State) : noFlagFor k s =
    !([Arm.left, .right, .main].any fun a => decide ((s.arm a).cause = some k) && (s.arm a).causePresent) := by
  simp only [noFlagFor, List.any, Bool.or_false, Bool.or_assoc]
  rfl

/-- PARK refused (R15). -/
theorem park_refused {o : Order} {s : State} (htakes : s.takes) {r : Result} {d : Nat}
    (h : (s.modc.mode ≠ .transport ∧ r = .refusedMode ∧ d = 17) ∨
      (s.modc.mode = .transport ∧ s.standstill = false ∧ r = .refusedMode ∧ d = 20) ∨
      (s.modc.mode = .transport ∧ s.standstill = true ∧ s.allStowedOrOut = false ∧ r = .refusedMode ∧ d = 21) ∨
      (s.modc.mode = .transport ∧ s.standstill = true ∧ s.allStowedOrOut = true ∧ s.orders.entries.length ≠ 0 ∧
        r = .refusedBusy ∧ d = s.orders.entries.length) ∨
      (s.modc.mode = .transport ∧ s.standstill = true ∧ s.allStowedOrOut = true ∧ s.orders.entries.length = 0 ∧
        s.cal.op ≠ .idle ∧ r = .refusedBusy ∧ d = 0)) :
    ∃ t, exec (.park o) s = .next t ∧ DoneAtOnce o.notify r d s t ∧ SameBut [.xmem, .orders, .port] s t := by
  refine doneAtOnce_of_completeNow (dispatch := dispatchPark) (kind := 4) rfl htakes ?_
  have hstand : (advanceCursor s).standstill = s.standstill := rfl
  have hrest : (advanceCursor s).allStowedOrOut = s.allStowedOrOut := rfl
  have hmode' : (advanceCursor s).modc.mode = s.modc.mode := rfl
  have hentries : (advanceCursor s).orders.entries = s.orders.entries := rfl
  have hcal : (advanceCursor s).cal = s.cal := rfl
  unfold dispatchPark
  rw [hstand, hrest, hmode']
  obtain ⟨hmode, rfl, rfl⟩ | ⟨hmode, hmoves, rfl, rfl⟩ | ⟨hmode, hstill, harms, rfl, rfl⟩ |
    ⟨hmode, hstill, harms, hopen, rfl, rfl⟩ | ⟨hmode, hstill, harms, hnone, hbusy, rfl, rfl⟩ := h
  · exact if_pos hmode
  · rw [if_neg (not_not.mpr hmode), hmoves, Bool.not_false, if_pos rfl]
  · rw [if_neg (not_not.mpr hmode), hstill, harms, Bool.not_true, if_neg Bool.false_ne_true, Bool.not_false, if_pos rfl]
  · rw [if_neg (not_not.mpr hmode), hstill, harms, Bool.not_true, if_neg Bool.false_ne_true, if_neg Bool.false_ne_true, hentries,
      if_pos hopen]
  · rw [if_neg (not_not.mpr hmode), hstill, harms, Bool.not_true, if_neg Bool.false_ne_true, if_neg Bool.false_ne_true, hentries,
      if_neg (not_not.mpr hnone), hcal, if_pos hbusy]

/-- PARK without a reason to refuse it (R15, R16). -/
theorem exec_park {o : Order} {s : State} (htakes : s.takes) (hmode : s.modc.mode = .transport) (hstill : s.standstill = true)
    (harms : s.allStowedOrOut = true) (hnone : s.orders.entries = []) (hidle : s.cal.op = .idle) :
    exec (.park o) s = .next (enterParked (completeNow (noteTake 4 o s) .ok 0 (advanceCursor s))) := by
  have hexec : exec (.park o) s = orderCommand dispatchPark 4 o s := rfl
  have hstand : (advanceCursor s).standstill = s.standstill := rfl
  have hrest : (advanceCursor s).allStowedOrOut = s.allStowedOrOut := rfl
  have hmode' : (advanceCursor s).modc.mode = s.modc.mode := rfl
  have hentries : (advanceCursor s).orders.entries = s.orders.entries := rfl
  have hcal : (advanceCursor s).cal = s.cal := rfl
  refine hexec.trans ((orderCommand_of_takes dispatchPark 4 o htakes).trans (congrArg _ ?_))
  unfold dispatchPark
  rw [hstand, hrest, hmode', if_neg (not_not.mpr hmode), hstill, harms, Bool.not_true, if_neg Bool.false_ne_true,
    if_neg Bool.false_ne_true, hentries, hnone, List.length_nil, if_neg (not_not.mpr rfl), hcal, if_neg (not_not.mpr hidle)]

/-- PARKED entered from TRANSPORT: what each block keeps (R16, R61, R86, R107, R116, R142). -/
structure ParkedEntered (s t : State) : Prop where
  modc : t.modc = { s.modc with
    mode := .parked, reason := 20, phase := .none, settle := none, budget := 0, commanded := ⟨false, false, false⟩,
    wake := .dormant, restartPending := false }
  port : t.port = { s.port.raise .modeChange with check := .disarmed, window := none }
  tma : t.tma = { s.tma with stepsRunning := false, stripRunning := false, outputs := outputsAllOff }
  gov : t.gov = { s.gov with waiting := none }
  arm : ∀ a, t.arm a = { parkRecord { s.arm a with req := .stowed } with waiting := none }
  width : t.armc.width = s.armc.width
  watc : t.watc = { s.watc with
    qCmd := 0, openSet := 0, duty := 0, trim := 0, dryRun := none, flowLoss := none, prime := .idle, primeTimer := 0,
    primeHold := none }
  loadm : t.loadm = { s.loadm with
    load := 1000, scale := 1000, floor := none, recovery := none, engineLoss := none, engineLossFlag := false }
  faults : ActiveOnly s t
  active : ∀ k, t.isActive k = (s.isActive k && !(noFlagFor .armStuck (parkedArms s) && decide (k = .armStuck)) &&
    !(noFlagFor .brushStall (parkedArms s) && decide (k = .brushStall)) &&
    !(s.loadm.engineLossFlag && decide (k = .engineSpeedLost)))
  word : ActiveWordFollows s t
  publisher : t.publisher = { s.publisher with headCount := s.publisher.headCount + 1 }
  fields : ∀ i, i < 58 → t.xread (statusBase + i) = (statusFields (s.publisher.headCount + 1) t).getD i 0
  reserved : ∀ i, 58 ≤ i → i < 255 → t.xread (statusBase + i) = 0
  tail : t.xread (statusBase + 255) = s.publisher.headCount + 1
  words : ∀ a, a < statusBase ∨ statusBase + 256 ≤ a → a ≠ faultBase + 33 → t.xread a = s.xread a
  frame : SameBut [.xmem, .port, .publisher, .modc, .gov, .armc, .watc, .loadm, .faults, .tma] s t

/-- Entering PARKED is the change of mode, the sleep and the last page (R16). -/
theorem enterParked_entered {s : State} (hmode : s.modc.mode = .transport) (hwf : s.xmemWf) : ParkedEntered s (enterParked s) := by
  obtain ⟨hfollows, honly, hactive, hloadm, hport, hframe⟩ := changeMode_parked_faults hmode hwf
  have hmodc : (changeMode .parked 20 s).modc = _ := changeMode_modc .parked 20 s
  have hgov : (changeMode .parked 20 s).gov = _ := changeMode_gov .parked 20 s
  have hwatc : (changeMode .parked 20 s).watc = _ := changeMode_watc .parked 20 s
  have harm (a : Arm) : (changeMode .parked 20 s).arm a = { parkRecord { s.arm a with req := .stowed } with waiting := none } := by
    rw [changeMode_arm, hmode, changedRecord_parked]
  have hwidth := changeMode_width .parked 20 s
  have houts := changeMode_outputsOnly .parked 20 s
  have hsleeps : enterParked s = sleepStages ((changeMode .parked 20 s).setModc
      { (changeMode .parked 20 s).modc with wake := .dormant, restartPending := false }) := rfl
  rw [hsleeps]
  generalize changeMode .parked 20 s = u at *
  obtain ⟨htport, httma, htpublisher, hfields, hreserved, htail, hwords, htframe⟩ := sleepStages_after
    (s := u.setModc { u.modc with wake := .dormant, restartPending := false }) (xmemWf_congr rfl hfollows.wf)
  have hread (a : Nat) : (u.setModc { u.modc with wake := .dormant, restartPending := false }).xread a = u.xread a := rfl
  have hfaults : (sleepStages (u.setModc { u.modc with wake := .dormant, restartPending := false })).faults = u.faults :=
    htframe.same .faults (by decide)
  have harmc : (sleepStages (u.setModc { u.modc with wake := .dormant, restartPending := false })).armc = u.armc :=
    htframe.same .armc (by decide)
  have hpublisher : u.publisher = s.publisher := hframe.same .publisher (by decide)
  have hbase : faultBase = 1792 := rfl
  have hstatus : statusBase = 1536 := rfl
  have hcounts : (u.setModc { u.modc with wake := .dormant, restartPending := false }).publisher = s.publisher := hpublisher
  have hactiveWord := hfollows.activeWord
  generalize ht : sleepStages (u.setModc { u.modc with wake := .dormant, restartPending := false }) = t at *
  refine ⟨?_, ?_, ?_, ?_, fun a => (State.arm_congr harmc a).trans (harm a), (congrArg _ harmc).trans hwidth, ?_, ?_,
    honly.trans (.of_same hfaults), fun k => (State.isActive_congr hfaults k).trans (hactive k), ?_, htpublisher.trans (by rw [hcounts]),
    fun i hi => (hfields i hi).trans (by rw [hcounts]), hreserved, htail.trans (by rw [hcounts]), fun a ha hne => ?_, ?_⟩
  · refine (htframe.same .modc (by decide)).trans ?_
    rw [State.setModc_modc, hmodc, ModeControl.enters]
    simp [stowsOnEntry, hmode]
  · refine htport.trans ?_
    rw [State.setModc_port, hport]
  · refine httma.trans ?_
    rw [State.setModc_tma, houts]
  · exact (htframe.same .gov (by decide)).trans hgov
  · exact (htframe.same .watc (by decide)).trans hwatc
  · exact (htframe.same .loadm (by decide)).trans hloadm
  · unfold ActiveWordFollows at hactiveWord ⊢
    rw [hwords _ (.inr (by omega)), hread, hactiveWord, hfaults]
  · rw [hwords a ha, hread, hfollows.words a hne]
  · exact (hframe.mono (by simp)).trans (((setModc_sameBut u _).mono (by simp)).trans (htframe.mono (by simp)))

/-- Settles O28. -/
theorem parkSleepsOrIsRefused : Obligations.ParkSleepsOrIsRefused := by
  intro o s htakes
  refine ⟨fun r d h => park_refused htakes h, fun hmode hstill harms hnone hidle => ?_⟩
  refine ⟨_, exec_park htakes hmode hstill harms hnone hidle, ?_⟩
  obtain ⟨⟨hresult, houtside⟩, horders, hport⟩ := completeNow_doneAtOnce 4 o .ok 0 htakes (u := advanceCursor s) rfl rfl rfl rfl
  have hframe : SameBut [.xmem, .orders, .port] s (completeNow (noteTake 4 o s) .ok 0 (advanceCursor s)) :=
    completeNow_takenSameBut _ _ _ (SameBut.refl [] _)
  have hwf : (completeNow (noteTake 4 o s) .ok 0 (advanceCursor s)).xmemWf :=
    (completeNow_opensNone _ _ _ _).wf htakes.2.2.2.2.2
  generalize completeNow (noteTake 4 o s) .ok 0 (advanceCursor s) = u at *
  have hmodc : u.modc = s.modc := hframe.same .modc (by decide)
  have hgov : u.gov = s.gov := hframe.same .gov (by decide)
  have harmc : u.armc = s.armc := hframe.same .armc (by decide)
  have hwatc : u.watc = s.watc := hframe.same .watc (by decide)
  have hloadm : u.loadm = s.loadm := hframe.same .loadm (by decide)
  have hfaults : u.faults = s.faults := hframe.same .faults (by decide)
  have htma : u.tma = s.tma := hframe.same .tma (by decide)
  have hpublisher : u.publisher = s.publisher := hframe.same .publisher (by decide)
  have hpark := enterParked_entered (s := u) (by rw [hmodc]; exact hmode) hwf
  generalize enterParked u = t at *
  have hstatus : statusBase = 1536 := rfl
  have hfault : faultBase = 1792 := rfl
  have hcursor := htakes.2.2.2.2.1
  have hslot (i : Nat) (hi : i < 16) :
      t.xread (slotBase s.orders.cursor + i) = u.xread (slotBase s.orders.cursor + i) := by
    have hsmall := slot_word_lt hcursor hi
    exact hpark.words _ (.inl (by omega)) (by omega)
  have hheld (k : FaultKind) : noFlagFor k (parkedArms u) =
      !([Arm.left, .right, .main].any fun a => decide ((t.arm a).cause = some k) && (t.arm a).causePresent) := by
    rw [noFlagFor_eq]
    simp only [parkedArms_arm, hpark.arm]
  refine ⟨?_, ?_, ?_, ?_, ?_, ?_, fun a r hr => ?_, ?_, ?_, ?_, ?_, ?_, fun k hk => ?_, fun k hspeed hstuck hstall => ?_, ?_, ?_,
    fun i hi => ?_, ?_, ?_, fun i hlow hhigh => hpark.reserved i hlow hhigh, ?_, ?_, fun a hout hpage hne => ?_, ?_⟩
  · obtain ⟨howner, hcode, hdetail, hlow, hhigh, helapsed⟩ := hresult
    exact ⟨(hslot 0 (by decide)).trans howner, (hslot 11 (by decide)).trans (by rw [hcode, hnone]; rfl),
      (hslot 12 (by decide)).trans hdetail, (hslot 13 (by decide)).trans hlow, (hslot 14 (by decide)).trans hhigh,
      (hslot 15 (by decide)).trans helapsed⟩
  · exact (hpark.frame.same .orders (by decide)).trans horders
  · rw [hpark.modc, hmodc]
  · rw [hpark.port, hport]
  · rw [hpark.tma, htma]
  · rw [hpark.gov, hgov]
  · have hcases := parkRecord_cases { s.arm a with req := .stowed }
    have harm := hpark.arm a
    rw [State.arm_congr harmc] at harm
    subst hr
    exact ⟨fun h => harm.trans (by rw [hcases.1 h]), fun h => harm.trans (by rw [hcases.2 h])⟩
  · rw [hpark.width, harmc]
  · rw [hpark.watc, hwatc]
  · rw [hpark.loadm, hloadm]
  · rw [hpark.faults, hfaults]
  · rw [hpark.active, State.isActive_congr hfaults, hloadm]
    simp
  · rw [hpark.active, State.isActive_congr hfaults, hheld, hheld]
    obtain rfl | rfl := hk <;> simp
  · rw [hpark.active, State.isActive_congr hfaults]
    simp [hspeed, hstuck, hstall]
  · have hword := hpark.word
    unfold ActiveWordFollows at hword ⊢
    rw [hword, houtside _ (faultWord_outsideResult hcursor (by omega)), hfaults]
  · rw [hpark.publisher, hpublisher]
  · rw [hpark.fields i hi, hpark.publisher]
  · rw [hpark.fields 1 (by decide), show (statusFields (u.publisher.headCount + 1) t).getD 1 0 = word t.modc.mode.code from rfl,
      hpark.modc]
    rfl
  · rw [hpark.fields 2 (by decide), show (statusFields (u.publisher.headCount + 1) t).getD 2 0 = word t.modc.reason from rfl,
      hpark.modc]
  · exact (hpark.fields 0 (by decide)).trans (by rw [hpublisher]; rfl)
  · exact hpark.tail.trans (hpark.fields 0 (by decide)).symm
  · rw [hpark.words a hpage hne, houtside a hout]
  · exact (hframe.mono (by simp)).trans (hpark.frame.mono (by simp))

end Sys2Proof.Machine

namespace Sys2Proof.Machine

/-! ### The exclusion tests of an arm (R67, R78 to R82) -/

/-- A count reaches its limit within one step. -/
theorem countReached_iff (limit before after : Nat) : countReached limit before after = true ↔ before < limit ∧ limit ≤ after := by
  simp [countReached, and_comm]

/-- ARM_STUCK met at the next arm step (R82). -/
theorem stuckTest_iff (s : State) (a : Arm) (d : Nat) :
    s.stuckTest a (s.arm a) (s.dueRecord a) = some d ↔ ExclusionMet s a .armStuck d := by
  have htimer : (s.dueRecord a).stateTimer = min 65535 ((s.arm a).stateTimer + 10) := rfl
  have hreached : countReached 4000 (s.arm a).stateTimer (min 65535 ((s.arm a).stateTimer + 10)) = true ↔
      3990 ≤ (s.arm a).stateTimer ∧ (s.arm a).stateTimer < 4000 := by
    rw [countReached_iff]
    omega
  have hdetail : s.stuckDetail a (s.dueRecord a) = some d ↔
      ((s.arm a).state = .lowering ∧ s.input (downInput a) = false ∧ d = 1) ∨
        ((s.arm a).state = .raising ∧ s.input (upInput a) = false ∧ d = 2) ∨
        ((s.arm a).state = .lifting ∧ s.input (downInput a) = true ∧ d = 3) := by
    have hstate : (s.dueRecord a).state = (s.arm a).state := rfl
    unfold State.stuckDetail
    rw [hstate]
    cases (s.arm a).state <;> simp [eq_comm (b := d)]
  rw [State.stuckTest, htimer, Option.ite_none_right_eq_some, hreached, hdetail, and_assoc]
  exact Iff.rfl

/-- ARM_ANGLE_LOST met at the next arm step (R80). -/
theorem angleTest_iff (s : State) (a : Arm) (d : Nat) :
    s.angleTest a (s.arm a) (s.dueRecord a) = some d ↔ ExclusionMet s a .armAngleLost d := by
  have hreached : timerReached 200 (s.arm a).angleLoss (s.dueRecord a).angleLoss =
      ((judgesSwing (s.arm a) && !s.swingValid a) && timerDue 200 10 (s.arm a).angleLoss) := timerReached_follow _ _ _ _
  have hof (side : Side) (hside : armSide side.arm = some side) (hvalid : s.swingValid side.arm = s.valid (swingChannel side)) :
      (if (judgesSwing (s.arm side.arm) && !s.swingValid side.arm && timerDue 200 10 (s.arm side.arm).angleLoss) = true then
        some (lossDetail (s.channel (swingChannel side)).1) else none) = some d ↔ ExclusionMet s side.arm .armAngleLost d := by
    have hsame (x : Side) (h : x.arm = side.arm) : x = side := by cases x <;> cases side <;> first | rfl | exact absurd h (by decide)
    rw [hvalid, Option.ite_none_right_eq_some]
    simp only [ExclusionMet, Bool.and_eq_true, Bool.not_eq_true', Option.some.injEq, eq_comm (b := d)]
    constructor
    · rintro ⟨⟨⟨hjudges, hlost⟩, hdue⟩, hd⟩
      exact ⟨side, rfl, hjudges, hlost, hdue, hd⟩
    · rintro ⟨x, hx, hjudges, hlost, hdue, hd⟩
      obtain rfl := hsame x hx
      exact ⟨⟨⟨hjudges, hlost⟩, hdue⟩, hd⟩
  unfold State.angleTest
  rw [hreached]
  cases a
  case left => exact hof .left rfl rfl
  case right => exact hof .right rfl rfl
  case main =>
    refine ⟨fun h => absurd h (by simp [armSide]), fun ⟨x, hx, _⟩ => ?_⟩
    cases x <;> exact absurd hx (by decide)

/-- ARM_DEFLECT_LONG met at the next arm step (R67). -/
theorem deflectTest_iff (s : State) (a : Arm) (d : Nat) :
    deflectTest (s.arm a) (s.dueRecord a) = some d ↔ ExclusionMet s a .armDeflectLong d := by
  have hstate : (s.dueRecord a).state = (s.arm a).state := rfl
  have hswing : (s.dueRecord a).swing = (s.readArm a).swing := rfl
  have hdeflection : (s.dueRecord a).deflection =
      if (s.arm a).state = .deflected then min 2000 ((s.arm a).deflection + 10) else (s.arm a).deflection := rfl
  rw [deflectTest, hstate, hswing, hdeflection, Option.ite_none_right_eq_some, countReached_iff]
  simp only [ExclusionMet, Option.some.injEq]
  constructor
  · rintro ⟨⟨hdeflected, hbefore, hafter⟩, hd⟩
    rw [if_pos hdeflected] at hafter
    exact ⟨hdeflected, by omega, hbefore, hd.symm⟩
  · rintro ⟨hdeflected, hlow, hhigh, hd⟩
    rw [if_pos hdeflected]
    exact ⟨⟨hdeflected, hhigh, by omega⟩, hd.symm⟩

/-- The stall tests run at the next arm step (R78, R79). -/
theorem stallTested_due (s : State) (a : Arm) (x : ArmRecord) (hstate : x.state = (s.arm a).state)
    (hspin : x.spinUp = nextSpinUp (s.arm a)) (htarget : x.target = (s.readArm a).target) :
    stallTested x = true ↔ rotates (s.arm a) = true ∧ 1490 ≤ (s.arm a).spinUp ∧ 0 < (s.readArm a).target := by
  have hrotates : rotates x = rotates (s.arm a) := by
    unfold rotates
    rw [hstate]
  simp only [stallTested, Bool.and_eq_true, decide_eq_true_eq, hrotates, hspin, htarget, and_assoc]
  refine and_congr_right fun h => and_congr_left fun _ => ?_
  rw [nextSpinUp, if_pos h]
  omega

/-- BRUSH_STALL met by a stalled brush, or by a silent one, at the next arm step (R78, R79). -/
theorem stallTimers_iff (s : State) (a : Arm) :
    (timerReached 500 (s.arm a).stall (s.dueRecord a).stall = true ↔
      (rotates (s.arm a) = true ∧ 1490 ≤ (s.arm a).spinUp ∧ 0 < (s.readArm a).target) ∧ s.valid (brushChannel a) = true ∧
        s.brushSpeed a * 5 < (s.readArm a).target ∧ timerDue 500 10 (s.arm a).stall = true) ∧
    (timerReached 1000 (s.arm a).silence (s.dueRecord a).silence = true ↔
      (rotates (s.arm a) = true ∧ 1490 ≤ (s.arm a).spinUp ∧ 0 < (s.readArm a).target) ∧ s.valid (brushChannel a) = false ∧
        timerDue 1000 10 (s.arm a).silence = true) := by
  have hstall : timerReached 500 (s.arm a).stall (s.dueRecord a).stall = _ := timerReached_follow _ _ _ _
  have hsilence : timerReached 1000 (s.arm a).silence (s.dueRecord a).silence = _ := timerReached_follow _ _ _ _
  have htested := stallTested_due s a
    { s.readArm a with stateTimer := min 65535 ((s.readArm a).stateTimer + 10), spinUp := nextSpinUp (s.readArm a) } rfl rfl rfl
  rw [hstall, hsilence, State.stallHolds, State.silentBrush]
  constructor
  · simp only [Bool.and_eq_true, htested, decide_eq_true_eq, and_assoc]
    exact Iff.rfl
  · simp only [Bool.and_eq_true, htested, Bool.not_eq_true', and_assoc]

/-- BRUSH_STALL met at the next arm step (R78, R79). -/
theorem stallTest_iff (s : State) (a : Arm) (d : Nat) :
    stallTest (s.arm a) (s.dueRecord a) = some d ↔ ExclusionMet s a .brushStall d := by
  obtain ⟨hstall, hsilence⟩ := stallTimers_iff s a
  have hmeasured : (s.dueRecord a).measured = s.brushSpeed a := rfl
  rw [stallTest, hmeasured]
  simp only [ExclusionMet]
  split
  · next h =>
    obtain ⟨⟨hrotates, hspin, htarget⟩, hvalid, hslow, hdue⟩ := hstall.mp h
    constructor
    · exact fun hd => ⟨hrotates, hspin, htarget, .inl ⟨hvalid, hslow, hdue, (Option.some.inj hd).symm⟩⟩
    · rintro ⟨-, -, -, ⟨-, -, -, hd⟩ | ⟨hlost, -⟩⟩
      · rw [hd]
      · exact absurd (hvalid.symm.trans hlost) (by decide)
  · next h =>
    rw [Option.ite_none_right_eq_some, hsilence]
    constructor
    · rintro ⟨⟨⟨hrotates, hspin, htarget⟩, hvalid, hdue⟩, hd⟩
      exact ⟨hrotates, hspin, htarget, .inr ⟨hvalid, hdue, (Option.some.inj hd).symm⟩⟩
    · rintro ⟨hrotates, hspin, htarget, ⟨hvalid, hslow, hdue, -⟩ | ⟨hvalid, hdue, hd⟩⟩
      · exact absurd (hstall.mpr ⟨⟨hrotates, hspin, htarget⟩, hvalid, hslow, hdue⟩) h
      · exact ⟨⟨⟨hrotates, hspin, htarget⟩, hvalid, hdue⟩, by rw [hd]⟩

/-- The exclusion test of one kind at the next arm step, with its detail (R82). -/
def State.dueTest (s : State) (a : Arm) : FaultKind → Option Nat
  | .armStuck => s.stuckTest a (s.arm a) (s.dueRecord a)
  | .armAngleLost => s.angleTest a (s.arm a) (s.dueRecord a)
  | .armDeflectLong => deflectTest (s.arm a) (s.dueRecord a)
  | .brushStall => stallTest (s.arm a) (s.dueRecord a)
  | _ => none

/-- A kind's test is met where the step makes it so (R82). -/
theorem dueTest_iff (s : State) (a : Arm) (k : FaultKind) (d : Nat) : s.dueTest a k = some d ↔ ExclusionMet s a k d := by
  cases k
  case armStuck => exact stuckTest_iff s a d
  case armAngleLost => exact angleTest_iff s a d
  case armDeflectLong => exact deflectTest_iff s a d
  case brushStall => exact stallTest_iff s a d
  all_goals exact ⟨fun h => absurd h (by simp [State.dueTest]), fun h => h.elim⟩

/-- No kind before a test's in rank order has its own test met. -/
theorem firstExclusion_of_test {s : State} {a : Arm} {k : FaultKind} {d : Nat} (h : s.dueTest a k = some d)
    (hbefore : ∀ k', k'.rank < k.rank → s.dueTest a k' = none) : FirstExclusion s a k d := by
  refine ⟨(dueTest_iff s a k d).mp h, fun k' d' hmet => Nat.le_of_not_lt fun hlt => ?_⟩
  have hsome := (dueTest_iff s a k' d').mpr hmet
  rw [hbefore k' hlt] at hsome
  exact absurd hsome (by simp)

/-- The test that decides is the first met in rank order (R82). -/
theorem dueExclusion_first {s : State} {a : Arm} {k : FaultKind} {d : Nat} (h : s.dueExclusion a = some (k, d)) :
    FirstExclusion s a k d := by
  unfold State.dueExclusion State.exclusionTest at h
  split at h
  · next hstuck =>
    obtain ⟨rfl, rfl⟩ := Prod.mk.inj (Option.some.inj h)
    exact firstExclusion_of_test hstuck fun k' hk => by cases k' <;> first | rfl | exact absurd hk (by decide)
  · next hstuck hangle =>
    obtain ⟨rfl, rfl⟩ := Prod.mk.inj (Option.some.inj h)
    exact firstExclusion_of_test hangle fun k' hk => by cases k' <;> first | rfl | exact hstuck | exact absurd hk (by decide)
  · next hstuck hangle hdeflect =>
    obtain ⟨rfl, rfl⟩ := Prod.mk.inj (Option.some.inj h)
    exact firstExclusion_of_test hdeflect fun k' hk => by
      cases k' <;> first | rfl | exact hstuck | exact hangle | exact absurd hk (by decide)
  · next hstuck hangle hdeflect hstall =>
    obtain ⟨rfl, rfl⟩ := Prod.mk.inj (Option.some.inj h)
    exact firstExclusion_of_test hstall fun k' hk => by
      cases k' <;> first | rfl | exact hstuck | exact hangle | exact hdeflect | exact absurd hk (by decide)
  · exact absurd h (by simp)

/-- With no test met none decides (R82). -/
theorem dueExclusion_none {s : State} {a : Arm} (h : s.dueExclusion a = none) (k : FaultKind) (d : Nat) : ¬ExclusionMet s a k d := by
  unfold State.dueExclusion State.exclusionTest at h
  split at h
  case h_5 hstuck hangle hdeflect hstall =>
    rw [← dueTest_iff]
    have hnone : s.dueTest a k = none := by
      cases k <;> first | rfl | exact hstuck | exact hangle | exact hdeflect | exact hstall
    simp [hnone]
  all_goals exact absurd h (by simp)

/-- Which test decides at the next arm step (R82). -/
theorem dueExclusion_iff (s : State) (a : Arm) (k : FaultKind) (d : Nat) :
    s.dueExclusion a = some (k, d) ↔ FirstExclusion s a k d := by
  refine ⟨dueExclusion_first, fun ⟨hmet, hleast⟩ => ?_⟩
  cases hdue : s.dueExclusion a with
  | none => exact absurd hmet (dueExclusion_none hdue k d)
  | some x =>
    obtain ⟨hmet', hleast'⟩ := dueExclusion_first (k := x.1) (d := x.2) hdue
    have hk : x.1 = k := FaultKind.rank_inj (Nat.le_antisymm (hleast' k d hmet) (hleast x.1 x.2 hmet'))
    have hd : x.2 = d := by
      rw [hk, ← dueTest_iff] at hmet'
      rw [← dueTest_iff, hmet'] at hmet
      exact Option.some.inj hmet
    rw [← hk, ← hd]

theorem dueExclusion_none_iff (s : State) (a : Arm) : s.dueExclusion a = none ↔ ∀ k d, ¬ExclusionMet s a k d := by
  refine ⟨fun h => dueExclusion_none h, fun h => ?_⟩
  cases hdue : s.dueExclusion a with
  | none => rfl
  | some x => exact absurd (dueExclusion_first (k := x.1) (d := x.2) hdue).1 (h _ _)

end Sys2Proof.Machine

namespace Sys2Proof.Machine

/-! ### An arm goes OUT by its own test (R71, R73, R81, R82, R125) -/

/-- The report of an arm's exclusion (R82). -/
def armOutReport (a : Arm) (k : FaultKind) (d : Nat) : Report := { kind := k, source := .armc a, detail := d }

/-- The record of an arm that goes OUT at a step, with the readings of that step (R63, R71). -/
def outRecord (a : Arm) (k : FaultKind) (s : State) : ArmRecord := { enterOut k (s.readArm a) with angleLoss := none }

/-- The kinds whose test is met exclude their arm (section 7.1). -/
theorem ExclusionMet.cls {s : State} {a : Arm} {k : FaultKind} {d : Nat} (h : ExclusionMet s a k d) : k.cls = .armOut := by
  cases k <;> first | rfl | exact h.elim

/-- The record replaced, and the waiting order failed, before the exclusion is reported (R71). -/
def outFailed (a : Arm) (k : FaultKind) (s : State) : State :=
  failWaiting a (s.arm a).waiting k.rank (setArmAndWidth a (outRecord a k s) s)

/-- An arm found in OUT is left there by its own report (R124). -/
theorem armOutNotice_of_out {a : Arm} {k : FaultKind} {s : State} (h : (s.arm a).state = .out) : armOutNotice a k s = s := if_pos h

theorem outFailed_armc (a : Arm) (k : FaultKind) (s : State) :
    (outFailed a k s).armc = (setArmAndWidth a (outRecord a k s) s).armc ∧ (outFailed a k s).tma = s.tma ∧
    (outFailed a k s).faults = s.faults := by
  unfold outFailed failWaiting
  split <;> simp

/-- An arm's exclusion at a step: the record, the order, the outputs, and the report, whose reaction finds the arm OUT (R71, R124). -/
theorem excludeArm_eq {a : Arm} {k : FaultKind} (hcls : k.cls = .armOut) (d : Nat) (s : State) :
    excludeArm a k d s = takeReport (armOutReport a k d) (handRecord a 0 (outFailed a k s)) := by
  have hreact (u : State) (hout : (u.arm a).state = .out) : react (armOutReport a k d) u = u := by
    have hkind : (armOutReport a k d).kind = k := rfl
    have hsource : (armOutReport a k d).source = .armc a := rfl
    unfold react
    rw [hkind, hcls, hsource]
    exact armOutNotice_of_out hout
  have harm : (takeReport (armOutReport a k d) (handRecord a 0 (outFailed a k s))).arm a = outRecord a k s := by
    have hkept (u : State) : (takeReport (armOutReport a k d) u).arm a = u.arm a := State.arm_congr (by simp) a
    rw [hkept, handRecord_arm, State.arm_congr (outFailed_armc a k s).1, setArmAndWidth_arm, if_pos rfl]
  exact hreact _ ((congrArg ArmRecord.state harm).trans rfl)

/-- W follows the records as they stand (R30). -/
theorem setArmAndWidth_widthFollows (a : Arm) (r : ArmRecord) (s : State) : (setArmAndWidth a r s).widthFollows := rfl

theorem State.widthFollows_congr {s t : State} (h : t.armc = s.armc) (hs : s.widthFollows) : t.widthFollows := by
  unfold State.widthFollows at hs ⊢
  rw [h]
  exact hs

/-- The arm, its width, its outputs and its exclusion after it goes OUT by its own test (R71, R73, R81, R125). -/
theorem excludeArm_wentOut {a : Arm} {k : FaultKind} (hcls : k.cls = .armOut) (d : Nat) (s : State) :
    WentOut a k s (excludeArm a k d s) := by
  obtain ⟨harmc, htma, hfaults⟩ := outFailed_armc a k s
  rw [excludeArm_eq hcls]
  generalize outFailed a k s = u at harmc htma hfaults
  have hthen : (takeReport (armOutReport a k d) (handRecord a 0 u)).armc = (setArmAndWidth a (outRecord a k s) s).armc := by
    simp [harmc]
  have harm (b : Arm) : (takeReport (armOutReport a k d) (handRecord a 0 u)).arm b = if b = a then outRecord a k s else s.arm b :=
    (State.arm_congr hthen b).trans (setArmAndWidth_arm a b _ s)
  have houts : (takeReport (armOutReport a k d) (handRecord a 0 u)).tma = (handRecord a 0 u).tma := by simp
  have harmOuts : (takeReport (armOutReport a k d) (handRecord a 0 u)).armOuts a = (outRecord a k s).outs 0 := by
    rw [State.armOuts_congr (congrArg _ houts), handRecord_armOuts, if_pos rfl, State.arm_congr harmc, setArmAndWidth_arm, if_pos rfl]
  refine ⟨(harm a).trans (if_pos rfl), fun b hb => (harm b).trans (if_neg hb),
    State.widthFollows_congr hthen (setArmAndWidth_widthFollows _ _ _), ?_, congrArg ArmOuts.lower harmOuts,
    congrArg ArmOuts.raise harmOuts, congrArg ArmOuts.press harmOuts, congrArg ArmOuts.motor harmOuts, ?_⟩
  · rw [takeReport_exclusions]
    have hkind : (armOutReport a k d).kind = k := rfl
    have hsource : (armOutReport a k d).source = .armc a := rfl
    have hexcl : (handRecord a 0 u).faults.exclusions = s.faults.exclusions := by simp [hfaults]
    unfold Report.latches
    rw [hkind, hcls, hsource, hexcl]
  · exact ((OutputsOnly.of_same htma).trans (handRecord_outputsOnly a 0 u)).trans (.of_same houts)

/-- The report of an exclusion after the orders: the fault area, a fault cause, and no order (R71, R118 to R121). -/
theorem excludeArm_reports {a : Arm} {k : FaultKind} (hcls : k.cls = .armOut) (d : Nat) (s : State) :
    (excludeArm a k d s).orders = (outFailed a k s).orders ∧ WordsKept faultBase 35 (outFailed a k s) (excludeArm a k d s) ∧
    (excludeArm a k d s).port.pendingSet.getLsbD 0 = (outFailed a k s).port.pendingSet.getLsbD 0 ∧
    SameBut [.xmem, .port, .faults, .tma] (outFailed a k s) (excludeArm a k d s) := by
  rw [excludeArm_eq hcls]
  generalize outFailed a k s = u
  have hframe : SameBut [.tma] u (handRecord a 0 u) := by
    intro b
    cases b <;> simp [Block.same]
  refine ⟨by simp, ?_, ?_, (hframe.mono (by simp)).trans ((takeReport_sameBut _ _).mono (by simp))⟩
  · exact (WordsKept.of_xmem (hframe.same .xmem (by decide))).trans (takeReport_wordsKept _ _)
  · have hport : (handRecord a 0 u).port = u.port := hframe.same .port (by decide)
    rw [takeReport_port, hport]
    split
    · rfl
    · split <;> simp [HostPort.raise, Cause.bit]

theorem outRecord_sameBut (a : Arm) (k : FaultKind) (s : State) : SameBut [.armc] s (setArmAndWidth a (outRecord a k s) s) := by
  intro b
  cases b <;> simp [Block.same]

theorem outFailed_of_none {a : Arm} {s : State} (k : FaultKind) (h : (s.arm a).waiting = none) :
    outFailed a k s = setArmAndWidth a (outRecord a k s) s := by
  rw [outFailed, h]
  rfl

/-- The waiting order of an arm that goes OUT ends FAILED with the kind's rank, as an orphan, or its notice is discarded (R71, R149). -/
theorem outFailed_taken {a : Arm} {w : ArmWait} {s : State} (k : FaultKind) (h : (s.arm a).waiting = some w) :
    NoticeTaken (armTarget a) w.slot w.takeTime .failed k.rank s (outFailed a k s) ∧
    SameBut [.xmem, .orders, .port, .armc] s (outFailed a k s) := by
  have hnotice : outFailed a k s = completionNotice (armTarget a) w.slot w.takeTime .failed k.rank
      (setArmAndWidth a (outRecord a k s) s) := by
    rw [outFailed, h]
    rfl
  have hframe := outRecord_sameBut a k s
  rw [hnotice]
  generalize setArmAndWidth a (outRecord a k s) s = u at hframe
  have hport : u.port = s.port := hframe.same .port (by decide)
  have hsame : s.SameForOrders u :=
    ⟨hframe.same .xmem (by decide), hframe.same .orders (by decide), congrArg TimingArray.clock (hframe.same .tma (by decide)),
      by rw [hport]⟩
  exact ⟨(completionNotice_taken _ _ _ _ _ u).before hsame hport,
    (hframe.mono (by simp)).trans ((completionNotice_sameBut _ _ _ _ _ u).mono (by simp))⟩

/-- The exclusion's own command makes the exclusion tests of its arm (R82). -/
theorem exec_exclusion {s : State} {c : Instr} {a : Arm} {own k : FaultKind} {d0 d : Nat} (hrunning : s.running)
    (hc : (c = .armStuckTimeout a ∧ own = .armStuck) ∨
      (∃ side : Side, side.arm = a ∧ c = .angleLossTimeout side ∧ own = .armAngleLost) ∨
      (∃ side : Side, side.arm = a ∧ c = .deflectLongTimeout side ∧ own = .armDeflectLong) ∨
      (c = .brushStallTimeout a ∧ own = .brushStall ∧ s.valid (brushChannel a) = true) ∨
      (c = .brushSilenceTimeout a ∧ own = .brushStall ∧ s.valid (brushChannel a) = false))
    (hown : ExclusionMet s a own d0) (hfirst : FirstExclusion s a k d) : exec c s = .next (excludeArm a k d s) := by
  have hdue := (dueExclusion_iff s a k d).mpr hfirst
  have hmade {own : Bool} (h : own = true) : excludeDue a own s = excludeArm a k d s := by
    rw [excludeDue, if_pos h, hdue]
  have htest := (dueTest_iff s a own d0).mpr hown
  obtain ⟨hstall, hsilence⟩ := stallTimers_iff s a
  obtain ⟨rfl, rfl⟩ | ⟨side, rfl, rfl, rfl⟩ | ⟨side, rfl, rfl, rfl⟩ | ⟨rfl, rfl, hvalid⟩ | ⟨rfl, rfl, hlost⟩ := hc
  · exact (atStep_of_running hrunning).trans (congrArg _ (hmade (Option.isSome_iff_exists.mpr ⟨d0, htest⟩)))
  · exact (atStep_of_running hrunning).trans (congrArg _ (hmade (Option.isSome_iff_exists.mpr ⟨d0, htest⟩)))
  · exact (atStep_of_running hrunning).trans (congrArg _ (hmade (Option.isSome_iff_exists.mpr ⟨d0, htest⟩)))
  · refine (atStep_of_running hrunning).trans (congrArg _ (hmade (hstall.mpr ?_)))
    obtain ⟨hrotates, hspin, htarget, ⟨-, hslow, htimer, -⟩ | ⟨hlost, -⟩⟩ := hown
    · exact ⟨⟨hrotates, hspin, htarget⟩, hvalid, hslow, htimer⟩
    · exact absurd (hvalid.symm.trans hlost) (by decide)
  · refine (atStep_of_running hrunning).trans (congrArg _ (hmade (hsilence.mpr ?_)))
    obtain ⟨hrotates, hspin, htarget, ⟨hvalid, -⟩ | ⟨-, htimer, -⟩⟩ := hown
    · exact absurd (hvalid.symm.trans hlost) (by decide)
    · exact ⟨⟨hrotates, hspin, htarget⟩, hlost, htimer⟩

/-- A waiting order whose slot is still TAKEN, at its arm's exclusion (R71, R149). -/
theorem excludeArm_ends {a : Arm} {k : FaultKind} (hcls : k.cls = .armOut) (d : Nat) {s : State} {w : ArmWait} {e : Entry}
    (hw : (s.arm a).waiting = some w) (he : s.openTaken e (armTarget a) w.slot w.takeTime) :
    SlotResult e.slot .failed k.rank e.depth s.tma.clock (s.since e.takeTime) (excludeArm a k d s) ∧
      EntryLeaves e s (excludeArm a k d s) ∧ DoneNotified e s (excludeArm a k d s) ∧
      (∀ x, outsideResult e.slot x → (x < faultBase ∨ faultBase + 35 ≤ x) → (excludeArm a k d s).xread x = s.xread x) ∧
      SameBut [.xmem, .orders, .port, .armc, .faults, .tma] s (excludeArm a k d s) := by
  obtain ⟨hnotice, hframe⟩ := outFailed_taken k hw
  obtain ⟨⟨hslot, hwords⟩, ⟨hentries, hcursor, hstall⟩, hdone, -⟩ := hnotice.1 e he
  obtain ⟨horders, hkept, hpending, hreported⟩ := excludeArm_reports (a := a) hcls d s
  have hbase : faultBase = 1792 := rfl
  have hread (i : Nat) (hi : i < 16) := hkept (slotBase e.slot + i) (.inl (by have := slot_word_lt he.2.2.2.2.2.1 hi; omega))
  refine ⟨hslot.of_reads hread, ⟨fun x => ?_, ?_, ?_⟩, ?_, fun x hout hx => (hkept x hx).trans (hwords x hout),
    (hframe.mono (by simp)).trans (hreported.mono (by simp))⟩
  · rw [horders]
    exact hentries x
  · rw [horders, hcursor]
  · rw [horders, hstall]
  · rw [DoneNotified, hpending, hdone]

/-- An arm with no order waiting goes OUT: the fault unit takes the report, and no order is touched (R71, R118). -/
theorem excludeArm_unwaited {a : Arm} {k : FaultKind} (hcls : k.cls = .armOut) (d : Nat) {s : State}
    (hw : (s.arm a).waiting = none) : TookReport (armOutReport a k d) s (excludeArm a k d s) ∧
      WordsKept faultBase 35 s (excludeArm a k d s) ∧ SameBut [.xmem, .port, .armc, .faults, .tma] s (excludeArm a k d s) := by
  obtain ⟨-, hkept, -, hreported⟩ := excludeArm_reports (a := a) hcls d s
  rw [outFailed_of_none k hw] at hkept hreported
  have hframe := outRecord_sameBut a k s
  have hafter : SameBut [.xmem, .port, .armc, .faults, .tma] s (excludeArm a k d s) :=
    (hframe.mono (by simp)).trans (hreported.mono (by simp))
  refine ⟨?_, (WordsKept.of_xmem (hframe.same .xmem (by decide))).trans hkept, hafter⟩
  rw [excludeArm_eq hcls, outFailed_of_none k hw]
  generalize setArmAndWidth a (outRecord a k s) s = u at hframe
  have hhanded : SameBut [.armc, .tma] s (handRecord a 0 u) := by
    refine (hframe.mono (by simp)).trans ?_
    intro b
    cases b <;> simp [Block.same]
  have htma : u.tma = s.tma := hframe.same .tma (by decide)
  exact tookReport_of_faults (r := armOutReport a k d) rfl (hhanded.same .faults (by decide)) (hhanded.same .modc (by decide))
    (hhanded.same .orders (by decide)) (by rw [handRecord_outputsOnly, htma]) (by simp)

/-- Settles O52. -/
theorem armExpiriesSendTheArmOut : Obligations.ArmExpiriesSendTheArmOut := by
  intro s c a own k d0 d hrunning hc hown hfirst
  have hcls := hfirst.1.cls
  obtain ⟨horders, hkept, hpending, hreported⟩ := excludeArm_reports (a := a) hcls d s
  refine ⟨_, exec_exclusion hrunning hc hown hfirst, excludeArm_wentOut hcls d s, fun hw => ?_, fun w e hw he => excludeArm_ends hcls d hw he,
    fun w e hw he => ?_, fun w hw hgone => ?_⟩
  · exact excludeArm_unwaited hcls d hw
  · obtain ⟨hnotice, hframe⟩ := outFailed_taken k hw
    obtain ⟨hxmem, hport, ⟨hentries, hcursor, hstall⟩, horphans⟩ := hnotice.2.1 e he
    refine ⟨⟨fun x => ?_, ?_, ?_⟩, by rw [horders, horphans], by rw [hpending, hport],
      (WordsKept.of_xmem hxmem).trans hkept, (hframe.mono (by simp)).trans (hreported.mono (by simp))⟩
    · rw [horders]
      exact hentries x
    · rw [horders, hcursor]
    · rw [horders, hstall]
  · obtain ⟨hnotice, hframe⟩ := outFailed_taken k hw
    obtain ⟨hsame, hxmem, -⟩ := hnotice.2.2 hgone
    refine ⟨(WordsKept.of_xmem hxmem).trans hkept, ?_⟩
    exact ((hframe.narrow (more := [.xmem, .port, .armc]) (by simp [Block.same, hsame])).mono (by simp)).trans (hreported.mono (by simp))

end Sys2Proof.Machine

namespace Sys2Proof.Machine

/-! ### The moves an arm makes at its own timers (R64, R67, R68, R76, R83) -/

/-- A record moved between two arm steps: the others, W and the outputs (R64, R73, R74, R81). -/
theorem moveArm_moves (a : Arm) (r : ArmRecord) (s : State) :
    (moveArm a r s).arm a = { r with
      press := s.pressDuty a r, reach := s.reachOf a r, angleLoss := if judgesSwing r then r.angleLoss else none } ∧
    (∀ b, b ≠ a → (moveArm a r s).arm b = s.arm b) ∧ (moveArm a r s).widthFollows ∧
    (moveArm a r s).armOuts a = ⟨lowerValve r, raiseValve r, s.pressDuty a r, s.movedMotor a r⟩ ∧
    OutputsOnly s (moveArm a r s) ∧ SameBut [.armc, .tma] s (moveArm a r s) := by
  unfold moveArm
  generalize hnew : ({ r with
    press := s.pressDuty a r, reach := s.reachOf a r, angleLoss := if judgesSwing r then r.angleLoss else none } : ArmRecord) = new
  have hset : OutputsOnly s (setArmAndWidth a new s) := .of_same rfl
  have hwidth := setArmAndWidth_widthFollows a new s
  have hframe : SameBut [.armc] s (setArmAndWidth a new s) := by
    intro b
    cases b <;> simp [Block.same]
  have harm (b : Arm) := setArmAndWidth_arm a b new s
  generalize setArmAndWidth a new s = u at *
  refine ⟨?_, fun b hb => ?_, State.widthFollows_congr (by simp) hwidth, ?_, hset.trans (handRecord_outputsOnly a _ u), ?_⟩
  · rw [handRecord_arm, harm, if_pos rfl]
  · rw [handRecord_arm, harm, if_neg hb]
  · rw [handRecord_armOuts, if_pos rfl, harm, if_pos rfl, ← hnew]
    rfl
  · refine (hframe.mono (by simp)).trans ?_
    intro b
    cases b <;> simp [Block.same]

/-- A side arm has its side. -/
theorem armSide_arm (side : Side) : armSide side.arm = some side := by
  cases side <;> rfl

/-- A record that moves from one state of rotation to another, or to RAISING, as its move between two arm steps leaves it (R64). -/
theorem movedTo_of {side : Side} {s : State} {st : ArmState} (hst : st = .raising ∨ st = .hover ∨ st = .lifting ∨ st = .working)
    (hrotates : rotates (s.arm side.arm) = true) {r : ArmRecord}
    (hr : r = { s.readArm side.arm with
      state := st, stateTimer := 0, hover := none, ret := none, deflection := 0
      press := if st = .raising then 0 else (s.arm side.arm).press
      spinUp := if st = .raising then 0 else (s.arm side.arm).spinUp
      stall := if st = .raising then none else (s.arm side.arm).stall
      silence := if st = .raising then none else (s.arm side.arm).silence
      trim := if st = .raising then 0 else (s.arm side.arm).trim }) :
    MovedTo side st s (moveArm side.arm r s) ∧ SameBut [.armc, .tma] s (moveArm side.arm r s) := by
  obtain ⟨harm, hother, hwidth, houts, honly, hframe⟩ := moveArm_moves side.arm r s
  have hstate : r.state = st := by rw [hr]
  have hpress : s.pressDuty side.arm r =
      if st = .working then s.evalAt pressureCurveBase (s.modc.profile.downPressure side.arm) else 0 := by
    rw [State.pressDuty, hstate]
  have hreach : s.reachOf side.arm r = if st = .working then s.evalAt (reachTableBase side) (s.readArm side.arm).swing else 0 := by
    have hswing : r.swing = (s.readArm side.arm).swing := by rw [hr]
    rw [State.reachOf, armSide_arm, hstate, hswing]
    obtain rfl | rfl | rfl | rfl := hst <;> simp
  have hmotor : s.movedMotor side.arm r =
      if st = .raising then 0 else (s.tma.outputs.get (motorOutput side.arm)).held := by
    rw [State.movedMotor, hrotates, State.motorDuty, rotates, hstate]
    obtain rfl | rfl | rfl | rfl := hst <;> rfl
  have hangle : (if judgesSwing r then r.angleLoss else none) =
      if st = .raising ∨ st = .hover then none else (s.arm side.arm).angleLoss := by
    have hloss : r.angleLoss = (s.arm side.arm).angleLoss := by rw [hr]; rfl
    rw [judgesSwing, hstate, hloss]
    obtain rfl | rfl | rfl | rfl := hst <;> rfl
  refine ⟨⟨?_, hother, hwidth, ?_, ?_, ?_, ?_, honly⟩, hframe⟩
  · rw [harm, hpress, hreach, hangle, hr]
  · refine (congrArg ArmOuts.lower houts).trans ?_
    rw [lowerValve, hstate]
    obtain rfl | rfl | rfl | rfl := hst <;> rfl
  · refine (congrArg ArmOuts.raise houts).trans ?_
    rw [raiseValve, hstate]
    obtain rfl | rfl | rfl | rfl := hst <;> rfl
  · refine (congrArg ArmOuts.press houts).trans ?_
    rw [harm]
  · exact (congrArg ArmOuts.motor houts).trans hmotor

/-- The record that R64 gives an arm in DEFLECTED whose return is due (R67). -/
theorem dueTransition_deflected {side : Side} {s : State} (hstate : (s.arm side.arm).state = .deflected)
    (hbelow : s.belowRelease (s.readArm side.arm) = true) (hdue : timerDue 300 10 (s.arm side.arm).ret = true) :
    s.dueTransition side.arm =
      if (s.arm side.arm).req = .stowed then
        enterRaising { s.readArm side.arm with ret := (s.dueRecord side.arm).ret, hover := (s.dueRecord side.arm).hover }
      else enterState (if s.reverseState = true ∨ (s.arm side.arm).req = .hover then .lifting else .working)
        { s.readArm side.arm with ret := (s.dueRecord side.arm).ret, hover := (s.dueRecord side.arm).hover } := by
  have hret : timerAt 300 (s.dueRecord side.arm).ret = true := by
    have hfollows : (s.dueRecord side.arm).ret =
        if (s.arm side.arm).state = .deflected then timerFollow 300 10 (s.belowRelease (s.readArm side.arm)) (s.arm side.arm).ret
        else (s.arm side.arm).ret := rfl
    rw [hfollows, if_pos hstate, hbelow]
    exact timerAt_of_due hdue
  unfold State.dueTransition
  generalize hr : ({ s.readArm side.arm with
    ret := (s.dueRecord side.arm).ret, hover := (s.dueRecord side.arm).hover } : ArmRecord) = r
  have hrstate : r.state = .deflected := by rw [← hr]; exact hstate
  have hreq : r.req = (s.arm side.arm).req := by rw [← hr]; rfl
  have hrret : timerAt 300 r.ret = true := by rw [← hr]; exact hret
  unfold transition
  rw [stowable, rotates, reversible, armSide_arm, progress, hrstate, hreq]
  by_cases hstow : (s.arm side.arm).req = .stowed
  · rw [if_pos ⟨hstow, rfl⟩, if_pos hstow]
  · rw [if_neg fun h => hstow h.1, if_neg hstow]
    cases s.reverseState
    · rw [if_neg (by simp)]
      dsimp only
      rw [deflectProgress, hreq, hrret]
      by_cases hhover : (s.arm side.arm).req = .hover <;> simp [hhover]
    · simp

/-- The record that R64 gives an arm in LIFTING whose hover is due (R68). -/
theorem dueTransition_lifting {side : Side} {s : State} (hstate : (s.arm side.arm).state = .lifting)
    (hup : s.input (downInput side.arm) = false) (hdue : timerDue 300 10 (s.arm side.arm).hover = true) :
    s.dueTransition side.arm =
      if (s.arm side.arm).req = .stowed then
        enterRaising { s.readArm side.arm with ret := (s.dueRecord side.arm).ret, hover := (s.dueRecord side.arm).hover }
      else enterState .hover
        { s.readArm side.arm with ret := (s.dueRecord side.arm).ret, hover := (s.dueRecord side.arm).hover } := by
  have hhover : timerAt 300 (s.dueRecord side.arm).hover = true := by
    have hfollows : (s.dueRecord side.arm).hover =
        if (s.arm side.arm).state = .lifting then timerFollow 300 10 (!s.input (downInput side.arm)) (s.arm side.arm).hover
        else (s.arm side.arm).hover := rfl
    rw [hfollows, if_pos hstate, hup]
    exact timerAt_of_due hdue
  unfold State.dueTransition
  generalize hr : ({ s.readArm side.arm with
    ret := (s.dueRecord side.arm).ret, hover := (s.dueRecord side.arm).hover } : ArmRecord) = r
  have hrstate : r.state = .lifting := by rw [← hr]; exact hstate
  have hreq : r.req = (s.arm side.arm).req := by rw [← hr]; rfl
  have hrhover : timerAt 300 r.hover = true := by rw [← hr]; exact hhover
  unfold transition
  rw [stowable, rotates, reversible, progress, hrstate, hreq]
  by_cases hstow : (s.arm side.arm).req = .stowed
  · rw [if_pos ⟨hstow, rfl⟩, if_pos hstow]
  · rw [if_neg fun h => hstow h.1, if_neg hstow, if_neg (by simp)]
    exact if_pos hrhover

/-- A due move with no exclusion test met, carried out (R64). -/
theorem timedMove_movedTo {side : Side} {s : State} {st : ArmState} (hnone : ∀ k d, ¬ExclusionMet s side.arm k d)
    (hst : st = .raising ∨ st = .hover ∨ st = .lifting ∨ st = .working) (hrotates : rotates (s.arm side.arm) = true)
    (hmoves : st ≠ (s.arm side.arm).state) (hr : s.dueTransition side.arm = { s.readArm side.arm with
      state := st, stateTimer := 0, hover := none, ret := none, deflection := 0
      press := if st = .raising then 0 else (s.arm side.arm).press
      spinUp := if st = .raising then 0 else (s.arm side.arm).spinUp
      stall := if st = .raising then none else (s.arm side.arm).stall
      silence := if st = .raising then none else (s.arm side.arm).silence
      trim := if st = .raising then 0 else (s.arm side.arm).trim }) :
    MovedTo side st s (timedMove side.arm s) ∧ SameBut [.armc, .tma] s (timedMove side.arm s) := by
  have hdue := (dueExclusion_none_iff s side.arm).mpr hnone
  have hstate : (s.dueTransition side.arm).state = st := by rw [hr]
  have hmove : timedMove side.arm s = moveArm side.arm (s.dueTransition side.arm) s := by
    unfold timedMove
    rw [hdue, hstate]
    exact if_neg hmoves
  rw [hmove]
  exact movedTo_of hst hrotates hr

/-- DEFLECT_RETURN at its instant (R67). -/
theorem exec_deflectReturn {side : Side} {s : State} (hrunning : s.running) (hstate : (s.arm side.arm).state = .deflected)
    (hbelow : s.belowRelease (s.readArm side.arm) = true) (hdue : timerDue 300 10 (s.arm side.arm).ret = true) :
    exec (.deflectReturn side) s = .next (timedMove side.arm s) := by
  have hret : (s.dueRecord side.arm).ret =
      if (s.arm side.arm).state = .deflected then timerFollow 300 10 (s.belowRelease (s.readArm side.arm)) (s.arm side.arm).ret
      else (s.arm side.arm).ret := rfl
  refine (atStep_of_running (f := deflectReturn side.arm) hrunning).trans (congrArg _ (if_pos ?_))
  rw [hret, if_pos hstate, hstate, hbelow]
  exact hdue

/-- HOVER_REACHED at its instant (R68). -/
theorem exec_hoverReached {side : Side} {s : State} (hrunning : s.running) (hstate : (s.arm side.arm).state = .lifting)
    (hup : s.input (downInput side.arm) = false) (hdue : timerDue 300 10 (s.arm side.arm).hover = true) :
    exec (.hoverReached side) s = .next (timedMove side.arm s) := by
  have hhover : (s.dueRecord side.arm).hover =
      if (s.arm side.arm).state = .lifting then timerFollow 300 10 (!s.input (downInput side.arm)) (s.arm side.arm).hover
      else (s.arm side.arm).hover := rfl
  refine (atStep_of_running (f := hoverReached side.arm) hrunning).trans (congrArg _ (if_pos ?_))
  rw [hhover, if_pos hstate, hstate, hup]
  exact hdue

/-- The exclusion that takes a due move's place (R64, R82). -/
theorem timedMove_excludes {a : Arm} {s : State} {k : FaultKind} {d : Nat} (h : FirstExclusion s a k d) :
    timedMove a s = excludeArm a k d s := by
  unfold timedMove
  rw [(dueExclusion_iff s a k d).mpr h]

/-- The move of DEFLECT_RETURN or HOVER_REACHED with no exclusion test met (R64, R67, R68). -/
theorem timedMove_at_timer {side : Side} {c : Instr} {s : State}
    (hc : (c = .deflectReturn side ∧ (s.arm side.arm).state = .deflected ∧ s.belowRelease (s.readArm side.arm) = true ∧
        timerDue 300 10 (s.arm side.arm).ret = true) ∨
      (c = .hoverReached side ∧ (s.arm side.arm).state = .lifting ∧ s.input (downInput side.arm) = false ∧
        timerDue 300 10 (s.arm side.arm).hover = true)) (hnone : ∀ k d, ¬ExclusionMet s side.arm k d) {st : ArmState}
    (hst : st = if (s.arm side.arm).req = .stowed then ArmState.raising
      else if c = .hoverReached side then .hover
      else if s.reverseState = true ∨ (s.arm side.arm).req = .hover then .lifting else .working) :
    MovedTo side st s (timedMove side.arm s) ∧ SameBut [.armc, .tma] s (timedMove side.arm s) := by
  subst hst
  obtain ⟨rfl, hstate, hbelow, hdue⟩ | ⟨rfl, hstate, hup, hdue⟩ := hc
  · have hrotates : rotates (s.arm side.arm) = true := by rw [rotates, hstate]
    have hr := dueTransition_deflected hstate hbelow hdue
    rw [if_neg (by simp : ¬(Instr.deflectReturn side = Instr.hoverReached side))]
    by_cases hstow : (s.arm side.arm).req = .stowed
    · rw [if_pos hstow] at hr ⊢
      exact timedMove_movedTo hnone (.inl rfl) hrotates (by simp [hstate]) hr
    · rw [if_neg hstow] at hr ⊢
      by_cases hlift : s.reverseState = true ∨ (s.arm side.arm).req = .hover
      · rw [if_pos hlift] at hr ⊢
        exact timedMove_movedTo hnone (.inr (.inr (.inl rfl))) hrotates (by simp [hstate]) hr
      · rw [if_neg hlift] at hr ⊢
        exact timedMove_movedTo hnone (.inr (.inr (.inr rfl))) hrotates (by simp [hstate]) hr
  · have hrotates : rotates (s.arm side.arm) = true := by rw [rotates, hstate]
    have hr := dueTransition_lifting hstate hup hdue
    rw [if_pos (rfl : Instr.hoverReached side = Instr.hoverReached side)]
    by_cases hstow : (s.arm side.arm).req = .stowed
    · rw [if_pos hstow] at hr ⊢
      exact timedMove_movedTo hnone (.inl rfl) hrotates (by simp [hstate]) hr
    · rw [if_neg hstow] at hr ⊢
      exact timedMove_movedTo hnone (.inr (.inl rfl)) hrotates (by simp [hstate]) hr

/-- SPIN_UP_COMPLETE at its instant (R76). -/
theorem exec_spinUpComplete {a : Arm} {s : State} (hrunning : s.running) (hrotates : rotates (s.arm a) = true)
    (hshort : (s.arm a).spinUp < 1500) (hlast : 1490 ≤ (s.arm a).spinUp) :
    exec (.spinUpComplete a) s = .next (setArm a { s.arm a with spinUp := 1500 } s) := by
  refine (atStep_of_running (f := spinUpComplete a) hrunning).trans (congrArg _ (if_pos ?_))
  rw [hrotates, Bool.true_and, countReached_iff]
  omega

/-! #### The end of the OUT raise (R71, R83) -/

/-- The record of an arm whose OUT raise has ended (R71, R83). -/
def raiseEnded (r : ArmRecord) : ArmRecord := { r with
  stateTimer := r.stateTimer + 10
  causePresent := r.causePresent && decide (r.cause ≠ some .armStuck ∧ r.cause ≠ some .brushStall) }

theorem clearRaiseFlag_eq (r : ArmRecord) : clearRaiseFlag { r with stateTimer := r.stateTimer + 10 } = raiseEnded r := by
  rw [clearRaiseFlag]
  by_cases hstuck : r.cause = some .armStuck
  · simp [raiseEnded, endsWithRaise, hstuck]
  · by_cases hstall : r.cause = some .brushStall
    · simp [raiseEnded, endsWithRaise, hstall]
    · simp [raiseEnded, endsWithRaise, hstuck, hstall]

/-- The arm's outputs as its OUT raise ends, before its conditions end (R71). -/
def raiseOff (a : Arm) (s : State) : State := handRecord a 0 (setArm a (raiseEnded (s.arm a)) s)

theorem exec_outRaiseEnd {a : Arm} {s : State} (hrunning : s.running) (hout : (s.arm a).state = .out)
    (hshort : (s.arm a).stateTimer < 4000) (hlast : 3990 ≤ (s.arm a).stateTimer) :
    exec (.outRaiseEnd a) s = .next (armConditionEnd .brushStall (armConditionEnd .armStuck (raiseOff a s))) := by
  have hdue : (decide ((s.arm a).state = .out) && countReached 4000 (s.arm a).stateTimer ((s.arm a).stateTimer + 10)) = true := by
    rw [hout, decide_eq_true rfl, Bool.true_and, countReached_iff]
    omega
  have hraise : outRaiseEnd a s = armConditionEnd .brushStall (armConditionEnd .armStuck (handRecord a 0
      (setArm a (clearRaiseFlag { s.arm a with stateTimer := (s.arm a).stateTimer + 10 }) s))) := if_pos hdue
  rw [clearRaiseFlag_eq] at hraise
  exact (atStep_of_running (f := outRaiseEnd a) hrunning).trans (congrArg _ hraise)

/-- The conditions that the end of an OUT raise ends (R83). -/
theorem raiseOff_isActive (a : Arm) (s : State) (k : FaultKind) :
    (armConditionEnd .brushStall (armConditionEnd .armStuck (raiseOff a s))).isActive k = (s.isActive k &&
      !(noFlagFor .armStuck (raiseOff a s) && decide (k = .armStuck)) &&
      !(noFlagFor .brushStall (raiseOff a s) && decide (k = .brushStall))) := by
  have hflag : noFlagFor .brushStall (armConditionEnd .armStuck (raiseOff a s)) = noFlagFor .brushStall (raiseOff a s) := by
    simp [noFlagFor]
  have hactive : (raiseOff a s).isActive k = s.isActive k := State.isActive_congr (by simp [raiseOff]) k
  rw [armConditionEnd, hflag, endIf_isActive, armConditionEnd, endIf_isActive, hactive]

/-- An ended OUT raise leaves a flag of its kinds to the other arms alone (R83). -/
theorem raiseOff_noFlagFor {k : FaultKind} (hk : k = .armStuck ∨ k = .brushStall) (a : Arm) (s : State) :
    noFlagFor k (raiseOff a s) = false ↔ ∃ b, b ≠ a ∧ (s.arm b).cause = some k ∧ (s.arm b).causePresent = true := by
  have harm (b : Arm) : (raiseOff a s).arm b = if b = a then raiseEnded (s.arm a) else s.arm b := by
    rw [raiseOff, handRecord_arm, setArm_arm]
  have hflag (b : Arm) : (decide (((raiseOff a s).arm b).cause = some k) && ((raiseOff a s).arm b).causePresent) = true ↔
      b ≠ a ∧ (s.arm b).cause = some k ∧ (s.arm b).causePresent = true := by
    rw [harm]
    by_cases hb : b = a
    · obtain rfl | rfl := hk <;> simp [hb, raiseEnded]
      all_goals tauto
    · simp [hb]
  rw [noFlagFor_eq, Bool.not_eq_false', List.any_eq_true]
  simp only [hflag]
  refine ⟨fun ⟨b, _, hb⟩ => ⟨b, hb⟩, fun ⟨b, hb⟩ => ⟨b, ?_, hb⟩⟩
  cases b <;> simp

/-- The arm, the outputs and the fault area after the end of an OUT raise (R71, R83). -/
theorem raiseOff_ended {a : Arm} {s t : State} (hlast : 3990 ≤ (s.arm a).stateTimer) (hout : (s.arm a).state = .out)
    (ht : t = armConditionEnd .brushStall (armConditionEnd .armStuck (raiseOff a s))) :
    t.arm a = raiseEnded (s.arm a) ∧ (∀ b, b ≠ a → t.arm b = s.arm b) ∧ t.armc.width = s.armc.width ∧
    t.tma.outputs.lower a = false ∧ t.tma.outputs.raise a = false ∧ t.faults = { s.faults with active := t.faults.active } ∧
    WordsKept (faultBase + 33) 1 s t ∧ SameBut [.xmem, .armc, .faults, .tma] s t ∧ OutputsOnly s t := by
  have harm (b : Arm) : (raiseOff a s).arm b = if b = a then raiseEnded (s.arm a) else s.arm b := by
    rw [raiseOff, handRecord_arm, setArm_arm]
  have hwidth : (raiseOff a s).armc.width = s.armc.width := by simp [raiseOff]
  have houts : (raiseOff a s).armOuts a = (raiseEnded (s.arm a)).outs 0 := by
    rw [raiseOff, handRecord_armOuts, if_pos rfl, setArm_arm, if_pos rfl]
  have hframe : SameBut [.armc, .tma] s (raiseOff a s) := by
    intro b
    cases b <;> simp [Block.same, raiseOff]
  have honly : OutputsOnly s (raiseOff a s) :=
    (OutputsOnly.of_same (t := setArm a (raiseEnded (s.arm a)) s) rfl).trans (handRecord_outputsOnly a 0 _)
  generalize raiseOff a s = u at *
  have hends : SameBut [.xmem, .faults] u t := by
    subst ht
    intro b
    cases b <;> simp [Block.same]
  have harmc : t.armc = u.armc := hends.same .armc (by decide)
  have htma : t.tma = u.tma := hends.same .tma (by decide)
  have houts' := (State.armOuts_congr (congrArg _ htma) a).trans houts
  refine ⟨(State.arm_congr harmc a).trans ((harm a).trans (if_pos rfl)),
    fun b hb => (State.arm_congr harmc b).trans ((harm b).trans (if_neg hb)), (congrArg _ harmc).trans hwidth,
    (congrArg ArmOuts.lower houts').trans ?_, (congrArg ArmOuts.raise houts').trans ?_, ?_, ?_,
    (hframe.mono (by simp)).trans (hends.mono (by simp)), honly.trans (.of_same htma)⟩
  · simp [ArmRecord.outs, lowerValve, raiseEnded, hout]
  · simp only [ArmRecord.outs, raiseValve, raiseEnded, hout, decide_eq_false_iff_not]
    omega
  · rw [ht]
    exact (ActiveOnly.of_same (hframe.same .faults (by decide))).trans ((endIf_activeOnly _ _ _).trans (endIf_activeOnly _ _ _))
  · rw [ht]
    exact (WordsKept.of_xmem (hframe.same .xmem (by decide))).trans
      ((endIf_wordsKept _ _ _).trans (endIf_wordsKept _ _ _))

/-- Settles O53. -/
theorem armTimersMoveTheArm : Obligations.ArmTimersMoveTheArm := by
  intro s hrunning
  refine ⟨fun side c hc => ?_, fun a hrotates hshort hlast => ?_, fun a hout hshort hlast => ?_⟩
  · have hexec : exec c s = .next (timedMove side.arm s) := by
      obtain ⟨rfl, hstate, hbelow, hdue⟩ | ⟨rfl, hstate, hup, hdue⟩ := hc
      · exact exec_deflectReturn hrunning hstate hbelow hdue
      · exact exec_hoverReached hrunning hstate hup hdue
    refine ⟨fun k d hfirst hw => ?_, fun hnone => ?_⟩
    · have hcls := hfirst.1.cls
      rw [timedMove_excludes hfirst] at hexec
      obtain ⟨htook, -, hframe⟩ := excludeArm_unwaited hcls d hw
      exact ⟨_, hexec, excludeArm_wentOut hcls d s, htook, hframe⟩
    · obtain ⟨hmoved, hframe⟩ := timedMove_at_timer hc hnone rfl
      exact ⟨_, _, hexec, rfl, hmoved, hframe⟩
  · refine ⟨_, exec_spinUpComplete hrunning hrotates hshort hlast, ?_, fun b hb => ?_, setArm_width _ _ _, setArmc_sameBut _ _⟩
    · rw [setArm_arm, if_pos rfl]
    · rw [setArm_arm, if_neg hb]
  · refine ⟨_, exec_outRaiseEnd hrunning hout hshort hlast, ?_⟩
    have hactive := raiseOff_isActive a s
    have hflag := fun k hk => raiseOff_noFlagFor (k := k) hk a s
    obtain ⟨harm, hother, hwidth, hlower, hraise, hfaults, hwords, hframe, honly⟩ := raiseOff_ended hlast hout rfl
    generalize armConditionEnd .brushStall (armConditionEnd .armStuck (raiseOff a s)) = t at *
    refine ⟨harm, hother, hwidth, hraise, hlower, fun k hk => ?_, fun k hstuck hstall => ?_, hfaults, hwords, hframe, honly⟩
    · rw [← hflag k hk, hactive]
      obtain rfl | rfl := hk <;> simp
    · rw [hactive]
      simp [hstuck, hstall]

end Sys2Proof.Machine

namespace Sys2Proof.Machine

/-! ### The transition of an arm (R64 to R70) -/

/-- A record goes to a state: as it is if it holds that state, else entered, its motor started or stopped where it turns (R64, R70, R76). -/
def ArmRecord.goes (st : ArmState) (r : ArmRecord) : ArmRecord :=
  if st = r.state then r
  else if st = .raising then enterRaising r
  else if st = .lowering ∧ (r.state = .stowed ∨ r.state = .raising) then startLowering r
  else enterState st r

/-- A transition enters its state and changes nothing else (R64). -/
theorem transition_goes (s : State) (a : Arm) (r : ArmRecord) : transition s a r = r.goes (transition s a r).state := by
  have hstay : r = r.goes r.state := (if_pos rfl).symm
  have henter {st : ArmState} (hne : st ≠ r.state) (hraising : st ≠ .raising) (hlower : st = .lowering → r.state ≠ .stowed ∧ r.state ≠ .raising) :
      enterState st r = r.goes (enterState st r).state := by
    have hst : (enterState st r).state = st := rfl
    rw [hst, ArmRecord.goes, if_neg hne, if_neg hraising, if_neg fun h => (h.2.elim (hlower h.1).1 (hlower h.1).2)]
  have hstart (hfrom : r.state = .stowed ∨ r.state = .raising) : startLowering r = r.goes (startLowering r).state := by
    have hst : (startLowering r).state = .lowering := rfl
    have hne : ArmState.lowering ≠ r.state := by obtain h | h := hfrom <;> rw [h] <;> decide
    rw [hst, ArmRecord.goes, if_neg hne, if_neg (by decide), if_pos ⟨rfl, hfrom⟩]
  unfold transition
  split
  · next h =>
    have hst : (enterRaising r).state = .raising := rfl
    have hne : ArmState.raising ≠ r.state := fun heq => by
      have := h.2
      rw [stowable, rotates, ← heq] at this
      exact absurd this (by decide)
    rw [hst, ArmRecord.goes, if_neg hne, if_pos rfl]
  split
  · next h =>
    refine henter (fun heq => ?_) (by decide) (by simp)
    have := h.2.2
    rw [reversible, ← heq] at this
    exact absurd this (by decide)
  unfold progress
  split
  · next hstate =>
    split
    · exact hstart (.inl hstate)
    · exact hstay
  · next hstate =>
    unfold lowerProgress
    repeat' split
    all_goals first | exact hstay | exact henter (by simp [hstate]) (by simp) (by simp)
  · next hstate =>
    unfold workProgress
    repeat' split
    all_goals first | exact hstay | exact henter (by simp [hstate]) (by simp) (by simp)
  · next hstate =>
    unfold deflectProgress
    repeat' split
    all_goals first | exact hstay | exact henter (by simp [hstate]) (by simp) (by simp)
  · next hstate =>
    unfold liftProgress
    split
    · exact henter (by simp [hstate]) (by simp) (by simp)
    · exact hstay
  · next hstate =>
    unfold hoverProgress
    split
    · exact henter (by simp [hstate]) (by simp) (by simp [hstate])
    · exact hstay
  · next hstate =>
    unfold raiseProgress
    repeat' split
    · exact henter (by simp [hstate]) (by simp) (by simp)
    · exact hstart (.inr hstate)
    · exact hstay
  · exact hstay

/-- The arm may go down (R65, R70), in the state's terms. -/
theorem mayLower_iff {s : State} {a : Arm} {r : ArmRecord} (hreq : r.req = (s.arm a).req) : s.mayLower a r = true ↔ s.goesDown a := by
  unfold State.mayLower State.goesDown
  rw [hreq]
  cases a <;> simp [armSide, State.worksMode, and_assoc]

/-- The state that R64 gives an arm, on a record with the readings and the progress timers of the next arm step (R64 to R70). -/
theorem nextArmState_iff {s : State} {a : Arm} {r : ArmRecord} (hstate : r.state = (s.arm a).state) (hreq : r.req = (s.arm a).req)
    (hswing : r.swing = (s.readArm a).swing) (hret : r.ret = (s.dueRecord a).ret) (hhover : r.hover = (s.dueRecord a).hover)
    (st : ArmState) : NextArmState s a st ↔ st = (transition s a r).state := by
  have hmay := mayLower_iff hreq
  have hside : (armSide a).isSome = true ↔ a ≠ .main := by cases a <;> simp [armSide]
  have hdueRet : (s.dueRecord a).ret =
      if (s.arm a).state = .deflected then timerFollow 300 10 (s.belowRelease (s.readArm a)) (s.arm a).ret else (s.arm a).ret := rfl
  have hdueHover : (s.dueRecord a).hover =
      if (s.arm a).state = .lifting then timerFollow 300 10 (!s.input (downInput a)) (s.arm a).hover else (s.arm a).hover := rfl
  have hat (cond : Bool) (t : Timer) : timerAt 300 (timerFollow 300 10 cond t) = (cond && (timerDue 300 10 t || timerAt 300 t)) := by
    cases cond
    · rfl
    · unfold timerDue timerReached
      cases hthere : timerAt 300 t
      · simp
      · have hstays : timerAt 300 (timerFollow 300 10 true t) = true := by
          cases t with
          | none => exact absurd hthere (by decide)
          | some v =>
            simp only [timerAt, timerFollow, if_true, decide_eq_true_eq] at hthere ⊢
            omega
        simp [hstays]
  have hstows : stowable r = rotates (s.arm a) := by rw [stowable, rotates, hstate, rotates]
  have hreversible : reversible r = true ↔
      ((s.arm a).state = .lowering ∨ (s.arm a).state = .working ∨ (s.arm a).state = .deflected) := by
    rw [reversible, hstate]
    cases (s.arm a).state <;> simp
  unfold NextArmState
  by_cases hstow : rotates (s.arm a) = true ∧ (s.arm a).req = .stowed
  · have hgoes : transition s a r = enterRaising r := if_pos ⟨hreq.trans hstow.2, hstows.trans hstow.1⟩
    rw [if_pos hstow, hgoes]
    exact Iff.rfl
  have hstow' : ¬(r.req = .stowed ∧ stowable r = true) := fun h => hstow ⟨hstows.symm.trans h.2, hreq.symm.trans h.1⟩
  rw [if_neg hstow]
  by_cases hrev : a ≠ .main ∧ s.reverseState = true ∧
      ((s.arm a).state = .lowering ∨ (s.arm a).state = .working ∨ (s.arm a).state = .deflected)
  · have hgoes : transition s a r = enterState .lifting r :=
      (if_neg hstow').trans (if_pos ⟨hside.mpr hrev.1, hrev.2.1, hreversible.mpr hrev.2.2⟩)
    rw [if_pos hrev, hgoes]
    exact Iff.rfl
  have hgoes : transition s a r = progress s a r :=
    (if_neg hstow').trans (if_neg fun h => hrev ⟨hside.mp h.1, h.2.1, hreversible.mp h.2.2⟩)
  rw [if_neg hrev, hgoes]
  unfold progress
  rw [hstate]
  cases hold : (s.arm a).state
  case stowed =>
    dsimp only
    by_cases hgoes : s.goesDown a
    · rw [if_pos (hmay.mpr hgoes)]
      simp [hgoes, startLowering, enterState]
    · rw [if_neg (mt hmay.mp hgoes)]
      simp [hgoes, hstate, hold]
  case lowering =>
    dsimp only
    unfold lowerProgress
    rw [hreq]
    cases hdown : s.input (downInput a) <;> cases hwish : (s.arm a).req <;> simp [hstate, hold, enterState]
    by_cases hmain : a = .main
    · subst hmain
      simp [armSide, hstate, hold]
    · simp [hside.mpr hmain, hmain]
  case working =>
    dsimp only
    unfold workProgress
    rw [hreq, hswing]
    by_cases hmain : a = .main
    · subst hmain
      simp [armSide, hstate, hold]
    · have hnone : (armSide a).isNone = false := by cases a <;> first | rfl | exact absurd rfl hmain
      rw [if_neg hmain, hnone, if_neg Bool.false_ne_true]
      by_cases hlift : (s.arm a).req = .hover
      · rw [if_pos hlift, if_pos hlift]
        exact Iff.rfl
      rw [if_neg hlift, if_neg hlift]
      by_cases hdeflects : s.deflectThreshold < (s.readArm a).swing
      · rw [if_pos hdeflects, if_pos hdeflects]
        exact Iff.rfl
      · rw [if_neg hdeflects, if_neg hdeflects, hstate, hold]
  case deflected =>
    dsimp only
    unfold deflectProgress
    rw [hreq, hret, hdueRet, if_pos hold, hat]
    by_cases hlift : (s.arm a).req = .hover
    · rw [if_pos hlift, if_pos hlift]
      exact Iff.rfl
    · by_cases hdue : (s.belowRelease (s.readArm a) && (timerDue 300 10 (s.arm a).ret || timerAt 300 (s.arm a).ret)) = true
      · rw [if_neg hlift, if_neg hlift, if_pos (Bool.and_eq_true_iff.mp hdue), if_pos hdue]
        exact Iff.rfl
      · rw [if_neg hlift, if_neg hlift, if_neg fun h => hdue (Bool.and_eq_true_iff.mpr h), if_neg hdue, hstate, hold]
  case lifting =>
    dsimp only
    unfold liftProgress
    rw [hhover, hdueHover, if_pos hold, hat]
    by_cases hdue : ((!s.input (downInput a)) && (timerDue 300 10 (s.arm a).hover || timerAt 300 (s.arm a).hover)) = true
    · obtain ⟨hup, htimer⟩ := Bool.and_eq_true_iff.mp hdue
      rw [if_pos ⟨by simpa using hup, htimer⟩, if_pos hdue]
      exact Iff.rfl
    · rw [if_neg fun h => hdue (Bool.and_eq_true_iff.mpr ⟨by simpa using h.1, h.2⟩), if_neg hdue, hstate, hold]
  case hover =>
    dsimp only
    unfold hoverProgress
    rw [hreq]
    have hworks : s.worksMode = true ↔ s.modc.mode = .engaging ∨ s.modc.mode = .sweeping := by simp [State.worksMode]
    by_cases hdown : (s.arm a).req = .working ∧ s.reverseState = false ∧ (s.modc.mode = .engaging ∨ s.modc.mode = .sweeping)
    · rw [if_pos hdown, if_pos ⟨hdown.1, by simp [hdown.2.1], hworks.mpr hdown.2.2⟩]
      exact Iff.rfl
    · rw [if_neg hdown, if_neg fun h => hdown ⟨h.1, by simpa using h.2.1, hworks.mp h.2.2⟩, hstate, hold]
  case raising =>
    dsimp only
    unfold raiseProgress
    by_cases hup : s.input (upInput a) = true
    · rw [if_pos hup, if_pos hup]
      exact Iff.rfl
    · rw [if_neg hup, if_neg hup]
      by_cases hgoes : s.goesDown a
      · rw [if_pos (hmay.mpr hgoes)]
        simp [hgoes, startLowering, enterState]
      · rw [if_neg (mt hmay.mp hgoes)]
        simp [hgoes, hstate, hold]
  case out =>
    dsimp only
    rw [hstate, hold]

end Sys2Proof.Machine

namespace Sys2Proof.Machine

/-! ### The waiting orders' own ends (R48, R49, R85) -/

/-- The governor's own completion of its waiting order (R50). -/
theorem endTravelWait_taken {s : State} {w : TravelWait} (h : s.gov.waiting = some w) (r : Result) (d : Nat) :
    NoticeTaken .travel w.slot w.takeTime r d s (endTravelWait r d s) ∧
    (endTravelWait r d s).gov = { s.gov with waiting := none } ∧ SameBut [.xmem, .orders, .port, .gov] s (endTravelWait r d s) := by
  have hend : endTravelWait r d s = completionNotice .travel w.slot w.takeTime r d (setTravelWait none s) := by
    unfold endTravelWait
    rw [h]
  have hset : SameBut [.gov] s (setTravelWait none s) := setGov_sameBut s _
  have hgov : (setTravelWait none s).gov = { s.gov with waiting := none } := rfl
  have hsame : s.SameForOrders (setTravelWait none s) := ⟨rfl, rfl, rfl, rfl⟩
  have hport : (setTravelWait none s).port = s.port := rfl
  rw [hend]
  generalize setTravelWait none s = u at *
  exact ⟨(completionNotice_taken _ _ _ _ _ u).before hsame hport, by simp [hgov],
    (hset.mono (by simp)).trans ((completionNotice_sameBut _ _ _ _ _ u).mono (by simp))⟩

/-- A waiting SET_PACE that arrives (R48). -/
theorem arrive_eq (limiter : Limiter) (w : TravelWait) (s : State) : arrive limiter w s =
    endTravelWait (if w.clampCount = 0 then .ok else .clamped) (if w.clampCount = 0 then limiter.code else w.clampCount) s := by
  unfold arrive
  split <;> rfl

/-- The arm controller's own completion of a waiting order (R85). -/
theorem endArmWait_taken {s : State} (a : Arm) (w : ArmWait) (r : Result) (d : Nat) :
    NoticeTaken (armTarget a) w.slot w.takeTime r d s (endArmWait a w r d s) ∧
    (∀ b, (endArmWait a w r d s).arm b = if b = a then { s.arm a with waiting := none } else s.arm b) ∧
    (endArmWait a w r d s).armc.width = s.armc.width ∧ (endArmWait a w r d s).tma = s.tma ∧
    SameBut [.xmem, .orders, .port, .armc] s (endArmWait a w r d s) := by
  have hset : SameBut [.armc] s (setArm a { s.arm a with waiting := none } s) := setArmc_sameBut s _
  have hsame : s.SameForOrders (setArm a { s.arm a with waiting := none } s) := ⟨rfl, rfl, rfl, rfl⟩
  have hport : (setArm a { s.arm a with waiting := none } s).port = s.port := rfl
  have harm (b : Arm) := setArm_arm a b { s.arm a with waiting := none } s
  have hwidth := setArm_width a { s.arm a with waiting := none } s
  have htma : (setArm a { s.arm a with waiting := none } s).tma = s.tma := rfl
  unfold endArmWait
  generalize setArm a { s.arm a with waiting := none } s = u at *
  have harmc : (completionNotice (armTarget a) w.slot w.takeTime r d u).armc = u.armc := by simp
  refine ⟨(completionNotice_taken _ _ _ _ _ u).before hsame hport, fun b => (State.arm_congr harmc b).trans (harm b),
    (congrArg _ harmc).trans hwidth, ?_, (hset.mono (by simp)).trans ((completionNotice_sameBut _ _ _ _ _ u).mono (by simp))⟩
  rw [← htma]
  simp

/-- A waiting order judged: a match ends it OK, its timeout TIMED_OUT (R85). -/
theorem armWaiting_of_late {s : State} {a : Arm} {w : ArmWait} (h : (s.arm a).waiting = some w) (hlate : 8000 ≤ s.since w.takeTime) :
    armWaiting a s = endArmWait a w (if matchesReq (s.arm a).state w.req then .ok else .timedOut)
      (if matchesReq (s.arm a).state w.req then 0 else (s.arm a).state.code) s := by
  unfold armWaiting
  rw [h]
  dsimp only
  rw [if_pos hlate]
  split <;> rfl

theorem armWaiting_of_none {s : State} {a : Arm} (h : (s.arm a).waiting = none) : armWaiting a s = s := by
  unfold armWaiting
  rw [h]

/-- SET_ARM_TIMEOUT at its instant (R85). -/
theorem exec_setArmTimeout {s : State} {a : Arm} {w : ArmWait} (hrunning : s.running) (h : (s.arm a).waiting = some w)
    (hlate : 8000 ≤ s.since w.takeTime) : exec (.setArmTimeout a) s = .next (armWaiting a (timedMove a s)) := by
  refine (atStep_of_running (f := setArmTimeout a) hrunning).trans (congrArg _ ?_)
  unfold setArmTimeout
  rw [h]
  exact if_pos hlate

/-- SET_ARM_TIMEOUT with an exclusion due (R64, R71). -/
theorem setArmTimeout_excludes {s : State} {a : Arm} {w : ArmWait} (hrunning : s.running) (h : (s.arm a).waiting = some w)
    (hlate : 8000 ≤ s.since w.takeTime) {k : FaultKind} {d : Nat} (hfirst : FirstExclusion s a k d) :
    exec (.setArmTimeout a) s = .next (excludeArm a k d s) := by
  have hwent := (excludeArm_wentOut (a := a) hfirst.1.cls d s).1
  rw [exec_setArmTimeout hrunning h hlate, timedMove_excludes hfirst, armWaiting_of_none (by rw [hwent])]

/-- The record as the arm's move between two arm steps leaves it (R64). -/
theorem goes_fields {st : ArmState} {r : ArmRecord} (hne : st ≠ r.state) : (r.goes st).state = st ∧ (r.goes st).stateTimer = 0 ∧
    (r.goes st).req = r.req ∧ (r.goes st).cause = r.cause ∧ (r.goes st).swing = r.swing ∧ (r.goes st).measured = r.measured ∧
    (r.goes st).target = r.target ∧ (r.goes st).waiting = r.waiting := by
  unfold ArmRecord.goes
  rw [if_neg hne]
  split
  · next h => exact ⟨h.symm, rfl, rfl, rfl, rfl, rfl, rfl, rfl⟩
  split
  · next h => exact ⟨h.1.symm, rfl, rfl, rfl, rfl, rfl, rfl, rfl⟩
  · exact ⟨rfl, rfl, rfl, rfl, rfl, rfl, rfl, rfl⟩

/-- No transition leads from another state to STOWED's or OUT's raise valve but RAISING and LIFTING (R73). -/
theorem raiseValve_of_not_out {r : ArmRecord} (h : r.state ≠ .out) : raiseValve r = decide (r.state = .lifting ∨ r.state = .raising) := by
  unfold raiseValve
  cases hstate : r.state <;> first | rfl | exact absurd hstate h

/-- W is a matter of the states and the reaches (R30). -/
theorem State.widthFollows.of_arms {s t : State} (h : s.widthFollows) (hwidth : t.armc.width = s.armc.width)
    (hstate : ∀ b, (t.arm b).state = (s.arm b).state) (hreach : ∀ b, (t.arm b).reach = (s.arm b).reach) : t.widthFollows := by
  have hmain : t.armc.main.state = s.armc.main.state := hstate .main
  have hleft : t.armc.left.reach = s.armc.left.reach := hreach .left
  have hright : t.armc.right.reach = s.armc.right.reach := hreach .right
  unfold State.widthFollows at h ⊢
  rw [hwidth, hmain, hleft, hright, h]

/-- No transition of R64 leads into OUT. -/
theorem NextArmState.ne_out {s : State} {a : Arm} {st : ArmState} (h : NextArmState s a st) (hne : st ≠ (s.arm a).state) : st ≠ .out := by
  rintro rfl
  unfold NextArmState at h
  split at h
  · exact absurd h (by decide)
  split at h
  · exact absurd h (by decide)
  cases hstate : (s.arm a).state <;> rw [hstate] at h <;> simp only [reduceCtorEq, and_false, or_self, ite_self] at h
  exact hne hstate.symm

/-- SET_ARM_TIMEOUT without an exclusion due: the order's end, after the arm's own move (R64, R85). -/
theorem setArmTimeout_completes {s : State} {a : Arm} {w : ArmWait} (hrunning : s.running) (h : (s.arm a).waiting = some w)
    (hlate : 8000 ≤ s.since w.takeTime) {st : ArmState} (hnone : ∀ k d, ¬ExclusionMet s a k d) (hst : NextArmState s a st) :
    ∃ t, exec (.setArmTimeout a) s = .next t ∧
      NoticeTaken (armTarget a) w.slot w.takeTime (if matchesReq st w.req then .ok else .timedOut)
        (if matchesReq st w.req then 0 else st.code) s t ∧
      (st = (s.arm a).state → t.arm a = { s.arm a with waiting := none } ∧ t.armc.width = s.armc.width ∧ t.tma = s.tma) ∧
      (st ≠ (s.arm a).state → (t.arm a).state = st ∧ (t.arm a).stateTimer = 0 ∧ (t.arm a).waiting = none ∧
        (t.arm a).req = (s.arm a).req ∧ (t.arm a).cause = (s.arm a).cause ∧ (t.arm a).swing = (s.readArm a).swing ∧
        (t.arm a).measured = s.brushSpeed a ∧ (t.arm a).target = (s.readArm a).target ∧ t.widthFollows ∧
        t.tma.outputs.lower a = decide (st = .lowering) ∧
        t.tma.outputs.raise a = decide (st = .lifting ∨ st = .raising) ∧
        (t.tma.outputs.get (pressOutput a)).held = (t.arm a).press ∧ OutputsOnly s t) ∧
      (∀ b, b ≠ a → t.arm b = s.arm b) ∧ SameBut [.xmem, .orders, .port, .armc, .tma] s t := by
  have hexec := exec_setArmTimeout hrunning h hlate
  have hdue := (dueExclusion_none_iff s a).mpr hnone
  have hstate : st = (s.dueTransition a).state :=
    (nextArmState_iff (s := s) (a := a) (r := { s.readArm a with ret := (s.dueRecord a).ret, hover := (s.dueRecord a).hover })
      rfl rfl rfl rfl rfl st).mp hst
  have hmove : timedMove a s = if (s.dueTransition a).state = (s.arm a).state then s else moveArm a (s.dueTransition a) s := by
    unfold timedMove
    rw [hdue]
  rw [← hstate] at hmove
  by_cases hsame : st = (s.arm a).state
  · rw [if_pos hsame] at hmove
    rw [hmove, armWaiting_of_late h hlate, ← hsame] at hexec
    obtain ⟨hnotice, harm, hwidth, htma, hframe⟩ := endArmWait_taken (s := s) a w
      (if matchesReq st w.req then .ok else .timedOut) (if matchesReq st w.req then 0 else st.code)
    exact ⟨_, hexec, hnotice, fun _ => ⟨(harm a).trans (if_pos rfl), hwidth, htma⟩, fun hne => absurd hsame hne,
      fun b hb => (harm b).trans (if_neg hb), hframe.mono (by simp)⟩
  · rw [if_neg hsame] at hmove
    have hgoes : s.dueTransition a = _ := transition_goes s a _
    rw [show (transition s a _).state = st from hstate.symm] at hgoes
    obtain ⟨hrstate, htimer, hreq, hcause, hswing, hmeasured, htarget, hwaiting⟩ := goes_fields
      (r := { s.readArm a with ret := (s.dueRecord a).ret, hover := (s.dueRecord a).hover }) hsame
    rw [← hgoes] at hrstate htimer hreq hcause hswing hmeasured htarget hwaiting
    have hout := hst.ne_out hsame
    generalize s.dueTransition a = r at *
    obtain ⟨harm, hother, hwidth, houts, honly, hframe⟩ := moveArm_moves a r s
    rw [hmove] at hexec
    generalize moveArm a r s = u at *
    have hport : u.port = s.port := hframe.same .port (by decide)
    have hclock : u.tma.clock = s.tma.clock := by rw [honly]
    have hbefore : s.SameForOrders u := ⟨hframe.same .xmem (by decide), hframe.same .orders (by decide), hclock, by rw [hport]⟩
    have huw : (u.arm a).waiting = some w := by rw [harm, hwaiting]; exact h
    have hustate : (u.arm a).state = st := by rw [harm]; exact hrstate
    have hulate : 8000 ≤ u.since w.takeTime := by rw [State.since, hclock]; exact hlate
    rw [armWaiting_of_late huw hulate, hustate] at hexec
    obtain ⟨hnotice, htarm, htwidth, htma, htframe⟩ := endArmWait_taken (s := u) a w
      (if matchesReq st w.req then .ok else .timedOut) (if matchesReq st w.req then 0 else st.code)
    generalize endArmWait a w _ _ u = t at *
    refine ⟨_, hexec, hnotice.before hbefore hport, fun heq => absurd heq hsame, fun _ => ?_,
      fun b hb => ((htarm b).trans (if_neg hb)).trans (hother b hb), (hframe.mono (by simp)).trans (htframe.mono (by simp))⟩
    have hta : t.arm a = { u.arm a with waiting := none } := (htarm a).trans (if_pos rfl)
    have htouts := (State.armOuts_congr (congrArg _ htma) a).trans houts
    refine ⟨by rw [hta]; exact hustate, by rw [hta, harm]; exact htimer, by rw [hta], by rw [hta, harm]; exact hreq,
      by rw [hta, harm]; exact hcause, by rw [hta, harm]; exact hswing, by rw [hta, harm]; exact hmeasured,
      by rw [hta, harm]; exact htarget, ?_, (congrArg ArmOuts.lower htouts).trans ?_, (congrArg ArmOuts.raise htouts).trans ?_,
      (congrArg ArmOuts.press htouts).trans (by rw [hta, harm]), honly.trans (.of_same htma)⟩
    · refine hwidth.of_arms htwidth (fun b => ?_) fun b => ?_
      all_goals
        rw [htarm b]
        split
        · next hb => rw [hb]
        · rfl
    · rw [lowerValve, hrstate]
    · rw [raiseValve_of_not_out (by rw [hrstate]; exact hout), hrstate]

/-- Settles O50. -/
theorem waitingOrdersEnd : Obligations.WaitingOrdersEnd := by
  refine ⟨fun s w hrunning hw => ⟨fun hkind hdue => ?_, fun hkind hdue htime => ?_, fun hkind htime => ?_⟩,
    fun s a w hrunning hw hlate => ⟨fun k d hfirst => ?_, fun st hnone hst => setArmTimeout_completes hrunning hw hlate hnone hst⟩⟩
  · have hrun : paceArrival s = arrive (travelDrive s).gov.limiter w s := by
      unfold paceArrival
      rw [hw]
      exact if_pos (by rw [hkind, hdue]; rfl)
    rw [arrive_eq] at hrun
    exact ⟨_, (atStep_of_running (f := paceArrival) hrunning).trans (congrArg _ hrun), endTravelWait_taken hw _ _⟩
  · have hrun : paceTimeout s = endTravelWait .timedOut (travelDrive s).gov.limiter.code s := by
      unfold paceTimeout
      rw [hw]
      exact if_pos (by rw [hkind, hdue, decide_eq_true htime]; rfl)
    exact ⟨_, (atStep_of_running (f := paceTimeout) hrunning).trans (congrArg _ hrun), endTravelWait_taken hw _ _⟩
  · have hrun : stopTimeout s = endTravelWait (if (travelDrive s).standstill then .ok else .timedOut)
        (if (travelDrive s).standstill then 0 else (travelDrive s).gov.vAct) s := by
      unfold stopTimeout
      rw [hw]
      refine (if_pos (by rw [hkind, decide_eq_true htime]; rfl)).trans ?_
      rw [stopTest, if_pos htime]
      split <;> rfl
    exact ⟨_, (atStep_of_running (f := stopTimeout) hrunning).trans (congrArg _ hrun), endTravelWait_taken hw _ _⟩
  · have hcls := hfirst.1.cls
    obtain ⟨-, hframe⟩ := outFailed_taken k hw
    obtain ⟨-, -, -, hreported⟩ := excludeArm_reports (a := a) hcls d s
    refine ⟨_, setArmTimeout_excludes hrunning hw hlate hfirst, excludeArm_wentOut hcls d s, fun e he => ?_,
      (hframe.mono (by simp)).trans (hreported.mono (by simp))⟩
    obtain ⟨hslot, hleaves, hdone, hwords, -⟩ := excludeArm_ends hcls d hw he
    exact ⟨hslot, hleaves, hdone, hwords⟩

end Sys2Proof.Machine

namespace Sys2Proof.Machine

/-! ### The entry to SAFE (R4, R61, R86, R107) -/

/-- The open order on MODE that an entry to SAFE fails: an ENGAGE or a DISENGAGE (R4). -/
def failsMode (e : Entry) : Bool := decide (e.target = .mode ∧ (e.kind = 2 ∨ e.kind = 3))

/-- The open orders that an entry to SAFE fails (R4, R61, R86). -/
def State.failsAtSafe (s : State) (e : Entry) : Bool := failsMode e || s.failsPace e || s.failsArm e

/-- SAFE entered, before an open ENGAGE or DISENGAGE fails (R4). -/
def safeEntered (k : FaultKind) (halt : Bool) (s : State) : State :=
  (changeMode .safe k.rank s).setModc
    { (changeMode .safe k.rank s).modc with
      safeStopped := false, haltLatch := (changeMode .safe k.rank s).modc.haltLatch || halt }

theorem enterSafe_eq {s : State} (h : s.atWork) (k : FaultKind) (halt : Bool) :
    enterSafe k halt s = completeMode [2, 3] .failed k.rank (safeEntered k halt s) := enterSafe_of_work h k halt

theorem State.atWork.ne {s : State} (h : s.atWork) : s.modc.mode ≠ .starting ∧ s.modc.mode ≠ .parked ∧ s.modc.mode ≠ .safe := by
  obtain h | h | h | h := h <;> simp [h]

/-- SAFE as the mode's entry leaves it: the mode controller, the request, the arms and the spray (R4, R61, R86, R107). -/
theorem safeEntered_enters {s : State} (h : s.atWork) (k : FaultKind) (halt : Bool) :
    EnteredSafe k halt s (safeEntered k halt s) ∧
    (safeEntered k halt s).gov = { s.gov with
      reqSpeed := 0, reqDir := .neutral, reversePending := false, waiting := keptTravelWait s.gov.waiting } ∧
    (safeEntered k halt s).faults = s.faults ∧
    SameBut [.xmem, .orders, .port, .modc, .gov, .armc, .watc, .tma] s (safeEntered k halt s) := by
  obtain ⟨hstarting, hparked, -⟩ := h.ne
  have hmodc := changeMode_modc .safe k.rank s
  have hgov := changeMode_gov .safe k.rank s
  obtain ⟨b, hport⟩ := changeMode_portDone (new := .safe) k.rank s (by decide)
  rw [if_neg hstarting] at hport
  have hraised := raisedArms_changeMode (new := .safe) k.rank (.inr rfl) ⟨hstarting, hparked⟩
  have hspray := sprayStopped_changeMode (new := .safe) k.rank (s := s) rfl
  have houts := changeMode_outputsOnly .safe k.rank s
  have hfaults : (changeMode .safe k.rank s).faults = s.faults := changeMode_faults k.rank (by decide)
  have hframe : SameBut [.xmem, .orders, .port, .modc, .gov, .armc, .watc, .tma] s (changeMode .safe k.rank s) :=
    (changeMode_sameBut k.rank s (by decide)).narrow (by simp [noticeReach, Block.same, hfaults])
  unfold safeEntered
  generalize changeMode .safe k.rank s = u at *
  have hwait : (noticedGov .safe s.gov).waiting = keptTravelWait s.gov.waiting := by
    unfold noticedGov keptTravelWait
    cases s.gov.waiting with
    | none => rfl
    | some w => cases hkind : w.kind <;> simp [hkind, Option.filter]
  have hgov' : u.gov = { s.gov with
      reqSpeed := 0, reqDir := .neutral, reversePending := false, waiting := keptTravelWait s.gov.waiting } := by
    rw [hgov, ← hwait]
    rfl
  refine ⟨⟨?_, ?_, ?_, ?_, ?_, ?_, hraised, hspray, houts⟩, hgov', hfaults,
    hframe.trans ((setModc_sameBut u _).mono (by simp))⟩
  · rw [State.setModc_modc, hmodc]
    simp [ModeControl.enters, stowsOnEntry, hstarting]
  · rw [State.setModc_gov, hgov']
  · rw [State.setModc_gov, hgov']
  · rw [State.setModc_gov, hgov']
  · rw [State.setModc_gov, hgov']
  · rw [State.setModc_port, hport, HostPort.raise, BitVec.getLsbD_or, Cause.modeChange_getLsbD]
    simp

/-- An entry to SAFE seen beside moves that touch neither the blocks it enters nor a cause but ORDER_DONE. -/
theorem EnteredSafe.congr {k : FaultKind} {halt : Bool} {s u v t : State} (h : EnteredSafe k halt u v) (hmodc : u.modc = s.modc)
    (hc : u.gov.c = s.gov.c) (harmc : u.armc = s.armc) (hwatc : u.watc = s.watc) (htma : u.tma = s.tma)
    (ht : SameBut [.xmem, .orders, .port] v t) (hcause : t.port.pendingSet.getLsbD 3 = v.port.pendingSet.getLsbD 3) :
    EnteredSafe k halt s t := by
  obtain ⟨hmode, hspeed, hdir, hpending, hkept, hraised, ⟨hwidth, harms⟩, ⟨hstopped, hspray⟩, houts⟩ := h
  have hsarm := State.arm_congr harmc
  have htarm := State.arm_congr (ht.same .armc (by decide))
  have htgov : t.gov = v.gov := ht.same .gov (by decide)
  have httma : t.tma = v.tma := ht.same .tma (by decide)
  refine ⟨?_, by rw [htgov, hspeed], by rw [htgov, hdir], by rw [htgov, hpending], by rw [htgov, hkept, hc], hcause.trans hraised,
    ⟨?_, fun a => ?_⟩, ⟨?_, by rw [httma]; exact hspray⟩, ?_⟩
  · rw [ht.same .modc (by decide), hmode, hmodc]
  · rw [ht.same .armc (by decide), hwidth, harmc]
  · rw [htarm, httma, ← hsarm]
    exact harms a
  · rw [ht.same .watc (by decide), hstopped, hwatc]
  · unfold OutputsOnly at houts ⊢
    rw [httma, houts, htma]

/-- A completion of the mode controller's raises ORDER_DONE at most (R149). -/
theorem completeMode_portDone (kinds : List Nat) (r : Result) (d : Nat) (s : State) : PortDone s (completeMode kinds r d s) := by
  unfold completeMode
  split
  · split
    · exact completionNotice_portDone _ _ _ _ _ _
    · exact .of_same rfl
  · exact .of_same rfl

/-- An entry to SAFE: what it enters, and what it reaches (R4). -/
theorem enterSafe_enters {s : State} (h : s.atWork) (k : FaultKind) (halt : Bool) :
    EnteredSafe k halt s (enterSafe k halt s) ∧
    (enterSafe k halt s).gov = { s.gov with
      reqSpeed := 0, reqDir := .neutral, reversePending := false, waiting := keptTravelWait s.gov.waiting } ∧
    (enterSafe k halt s).faults = s.faults ∧
    SameBut [.xmem, .orders, .port, .modc, .gov, .armc, .watc, .tma] s (enterSafe k halt s) := by
  obtain ⟨hentered, hgov, hfaults, hframe⟩ := safeEntered_enters h k halt
  rw [enterSafe_eq h]
  generalize safeEntered k halt s = u at *
  have hended := completeMode_sameBut [2, 3] .failed k.rank u
  obtain ⟨b, hport⟩ := completeMode_portDone [2, 3] .failed k.rank u
  have hended' : SameBut [.xmem, .orders, .port] u (completeMode [2, 3] .failed k.rank u) := hended.mono (by decide)
  refine ⟨hentered.congr rfl rfl rfl rfl rfl hended' ?_, (hended.same .gov (by decide)).trans hgov,
    (hended.same .faults (by decide)).trans hfaults, hframe.trans (hended.mono (by decide))⟩
  rw [hport, HostPort.notifyDone_other b u.port (by decide)]

/-! #### The orders at an entry to SAFE -/

/-- An ENGAGE or DISENGAGE open on MODE ends FAILED (R4). -/
theorem completeMode_endsMode {s : State} (d : Nat) (hinv : s.ordersInv) (hwf : s.xmemWf) :
    Ends (failedWith d failsMode) noWord s (completeMode [2, 3] .failed d s) := by
  have hnodup := hinv.1
  have hkept (u : State) (h : u = s) (hfails : ∀ x ∈ s.orders.entries, failsMode x = false) :
      Ends (failedWith d failsMode) noWord s u := by
    subst h
    exact (Ends.of_same ⟨rfl, rfl, rfl, rfl⟩).congr fun x hx => by rw [failedWith, hfails x hx]; rfl
  cases hopen : s.openOn .mode with
  | none =>
    refine hkept _ (completeMode_of_none _ _ _ hopen) fun x hx => decide_eq_false fun h => ?_
    exact absurd (decide_eq_true h.1) (List.find?_eq_none.mp hopen x hx)
  | some e =>
    have he : e ∈ s.orders.entries := List.mem_of_find?_eq_some hopen
    have htarget : e.target = .mode :=
      of_decide_eq_true (List.find?_some (p := fun x : Entry => decide (x.target = .mode)) hopen)
    have honly (x : Entry) (hx : x ∈ s.orders.entries) (hmode : x.target = .mode) : x = e :=
      eq_of_target_eq hnodup he hx (hmode.trans htarget.symm)
    unfold completeMode
    rw [hopen]
    dsimp only
    by_cases hkind : e.kind = 2 ∨ e.kind = 3
    · rw [if_pos (by simpa using hkind)]
      refine (completionNotice_endsOne .mode e.slot e.takeTime .failed d hinv hwf).congr fun x hx => ?_
      have hsame : x.answers .mode e.slot e.takeTime = failsMode x := by
        refine Bool.eq_iff_iff.mpr ⟨fun h => ?_, fun h => ?_⟩
        · have hmode := (Entry.answers_iff.mp h).1
          rw [honly x hx hmode]
          exact decide_eq_true ⟨htarget, hkind⟩
        · rw [honly x hx (of_decide_eq_true h).1]
          exact Entry.answers_iff.mpr ⟨htarget, rfl, rfl⟩
      rw [hsame]
      rfl
    · rw [if_neg (by simpa using hkind)]
      refine hkept _ rfl fun x hx => decide_eq_false fun h => hkind ?_
      rw [← honly x hx h.1]
      exact h.2

/-- The orders that an entry to SAFE fails, all together (R4, R61, R86). -/
theorem enterSafe_ends {s : State} (h : s.atWork) (k : FaultKind) (halt : Bool) (hinv : s.ordersInv) (hwf : s.xmemWf) :
    Ends (failedWith k.rank s.failsAtSafe) noWord s (enterSafe k halt s) := by
  have hchange := changeMode_ends (new := .safe) k.rank (by decide) hinv hwf
  have hlatch (u : State) (m : ModeControl) : u.SameForOrders (u.setModc m) := ⟨rfl, rfl, rfl, rfl⟩
  have hentered := hchange.after (hlatch _ { (changeMode .safe k.rank s).modc with
    safeStopped := false, haltLatch := (changeMode .safe k.rank s).modc.haltLatch || halt }) hinv
  rw [← safeEntered] at hentered
  have hdone := completeMode_endsMode k.rank (hentered.ordersInv hinv) (hentered.wf hwf)
  rw [enterSafe_eq h]
  refine (hentered.failed_andThen hdone hinv).congr fun e _ => ?_
  rw [failedWith, failedWith, State.failsAtSafe]
  cases failsMode e <;> cases s.failsPace e <;> cases s.failsArm e <;> rfl

/-! #### An entry to SAFE at which no waiting order fails -/

/-- A waiting STOP waits on at the notice to SAFE (R61). -/
theorem govNotice_safe_of_stop {s : State} (hstop : ∀ w, s.gov.waiting = some w → w.kind = .stop) :
    govNotice .safe s = s.setGov { s.gov with reqSpeed := 0, reqDir := .neutral, reversePending := false } := by
  unfold govNotice
  cases hw : s.gov.waiting with
  | none => rfl
  | some w => simp [hstop w hw]

/-- With a STOP alone waiting, and no order for WORKING or HOVER, the change to SAFE ends no order (R2, R61, R86). -/
theorem changeMode_safe_of_calm (reason : Nat) {s : State} (hstop : ∀ w, s.gov.waiting = some w → w.kind = .stop)
    (hcalm : s.calmArms) : (changeMode .safe reason s).xmem = s.xmem ∧ (changeMode .safe reason s).orders = s.orders ∧
      (changeMode .safe reason s).port = s.port.raise (if s.modc.mode = .starting then .started else .modeChange) := by
  have hentered : (modeEntered .safe reason s).gov = s.gov := by simp
  have hgov := govNotice_safe_of_stop (s := modeEntered .safe reason s) fun w hw => hstop w (by rw [← hentered]; exact hw)
  have hsame : (govNotice .safe (modeEntered .safe reason s)).xmem = s.xmem ∧
      (govNotice .safe (modeEntered .safe reason s)).orders = s.orders ∧
      (govNotice .safe (modeEntered .safe reason s)).port = s.port := by
    rw [hgov]
    simp
  have hwait (a : Arm) : ((govNotice .safe (modeEntered .safe reason s)).arm a).waiting = (s.arm a).waiting := by
    rw [govNotice_arm, modeEntered_arm]
    split <;> rfl
  obtain ⟨hx, ho, hp⟩ := hsame
  rw [changeMode_eq, sendNotices, armNotice_eq]
  generalize govNotice .safe (modeEntered .safe reason s) = u at hx ho hp hwait
  have hwaits (a : Arm) : ((movedArms .safe (derivedArms s.modc.mode .safe u)).arm a).waiting = (s.arm a).waiting := by
    rw [movedArms_arm, movedRecord_waiting, derivedArms_arm, derivesOrNot_waiting, hwait]
  have hstay (a : Arm) : noticeWaiting .safe a (movedArms .safe (derivedArms s.modc.mode .safe u)) =
      movedArms .safe (derivedArms s.modc.mode .safe u) :=
    noticeWaiting_of_calm (by decide) fun w hw => hcalm a w ((hwaits a).symm.trans hw)
  have hmoved := movedArms_sameForOrders (prev := s.modc.mode) (s := u) (new := .safe) (by decide)
  have hport : (movedArms .safe (derivedArms s.modc.mode .safe u)).port = u.port := movedArms_port _ _ _
  rw [hstay, hstay, hstay]
  refine ⟨?_, ?_, ?_⟩
  · simp [loadNotice, hmoved.xmem, hx]
  · simp [loadNotice, hmoved.orders, ho]
  · simp [loadNotice, raiseCause, hport, hp]

/-- So does the entry to SAFE, but for an ENGAGE or DISENGAGE open on MODE (R4). -/
theorem safeEntered_of_calm {s : State} (h : s.atWork) (k : FaultKind) (halt : Bool)
    (hstop : ∀ w, s.gov.waiting = some w → w.kind = .stop) (hcalm : s.calmArms) : s.SameForOrders (safeEntered k halt s) := by
  obtain ⟨hxmem, horders, hport⟩ := changeMode_safe_of_calm k.rank hstop hcalm
  rw [if_neg h.ne.1] at hport
  have hclock : (safeEntered k halt s).tma.clock = s.tma.clock := by rw [(safeEntered_enters h k halt).1.2.2.2.2.2.2.2.2]
  exact sameForOrders_of_raise (c := .modeChange) rfl hxmem horders hclock hport

end Sys2Proof.Machine

namespace Sys2Proof.Machine

/-! ### A stopping kind reported at its expiry (R4, R58, R59, R44, R158) -/

/-- A report's taking ends no order: it writes the fault area, and raises a fault cause (R118 to R121). -/
theorem takeReport_ends (r : Report) (s : State) : Ends (fun _ => none) faultWord s (takeReport r s) where
  entries := by simp
  cursor := by simp
  stall := by simp
  orphans := by simp [addOrphans]
  done := by
    rw [takeReport_port, List.any_eq_false.mpr fun _ _ => by simp, Bool.or_false]
    split
    · rfl
    · split <;> simp [HostPort.raise, Cause.bit]
  slots := fun _ _ _ _ hends => absurd hends (by simp)
  words := fun a _ hnot => takeReport_wordsKept r s a (by unfold faultWord at hnot; omega)
  clock := by simp
  wf := (takeReport_opensNone r s).wf

/-- The class of a stopping kind, as it enters SAFE with the halt latch or without (R4, section 7.6). -/
def Report.stops (r : Report) (halt : Bool) : Prop := r.kind.cls = if halt then .haltTravel else .stopWork

/-- The mode controller's reaction to a stopping kind (R4, R124). -/
theorem react_of_stop {r : Report} {halt : Bool} (h : r.stops halt) (s : State) : react r s = enterSafe r.kind halt s := by
  unfold Report.stops at h
  unfold react
  cases halt <;> rw [h] <;> rfl

/-- A stopping kind reported alone: the fault unit takes it, and the mode controller reacts (R4, R118). -/
theorem reportBatch_of_stop {r : Report} {halt : Bool} (h : r.stops halt) (s : State) :
    reportBatch [r] s = enterSafe r.kind halt (takeReport r s) := react_of_stop h _

/-- No entry to SAFE, nor what it does elsewhere, touches the host check (R158). -/
theorem enterSafe_check (k : FaultKind) (halt : Bool) (s : State) :
    (enterSafe k halt s).port.check = s.port.check ∧ (enterSafe k halt s).port.window = s.port.window := by
  by_cases h : s.atWork
  · obtain ⟨b, hmode⟩ := changeMode_portDone (new := .safe) k.rank s (by decide)
    obtain ⟨b', hdone⟩ := completeMode_portDone [2, 3] .failed k.rank (safeEntered k halt s)
    have hentered : (safeEntered k halt s).port = (changeMode .safe k.rank s).port := by simp [safeEntered]
    rw [enterSafe_eq h, hdone, hentered, hmode]
    cases b <;> cases b' <;> exact ⟨rfl, rfl⟩
  · rw [enterSafe_of_rest h]
    split <;> exact ⟨rfl, rfl⟩

theorem State.failsAtSafe_congr {s u : State} (hgov : u.gov.waiting = s.gov.waiting) (harmc : u.armc = s.armc) (e : Entry) :
    u.failsAtSafe e = s.failsAtSafe e := by
  unfold State.failsAtSafe State.failsPace State.failsArm
  rw [hgov]
  simp only [State.arm_congr harmc]

/-- What a stopping kind's own job changes of the state before it reports: of the governor neither c nor the waiting order, of the
port no cause. -/
structure BesideStop (s u : State) : Prop where
  frame : SameBut [.gov, .port] s u
  c : u.gov.c = s.gov.c
  waiting : u.gov.waiting = s.gov.waiting
  cause : u.port.pendingSet = s.port.pendingSet

theorem BesideStop.sameForOrders {s u : State} (h : BesideStop s u) : s.SameForOrders u :=
  ⟨h.frame.same .xmem (by decide), h.frame.same .orders (by decide),
    congrArg TimingArray.clock (h.frame.same .tma (by decide)), congrArg (BitVec.getLsbD · 0) h.cause⟩

/-- The state from which the mode controller reacts: the report taken beside the job's own change. -/
theorem BesideStop.taken {s u : State} (h : BesideStop s u) (r : Report) :
    (takeReport r u).modc = s.modc ∧ (takeReport r u).gov = u.gov ∧ (takeReport r u).armc = s.armc ∧
    (takeReport r u).watc = s.watc ∧ (takeReport r u).tma = s.tma ∧ (takeReport r u).orders = s.orders ∧
    WordsKept faultBase 35 s (takeReport r u) ∧ SameBut [.xmem, .port, .gov, .faults] s (takeReport r u) := by
  have hframe : SameBut [.xmem, .port, .gov, .faults] s (takeReport r u) :=
    (h.frame.mono (by simp)).trans ((takeReport_sameBut r u).mono (by simp))
  exact ⟨hframe.same .modc (by decide), by simp, hframe.same .armc (by decide), hframe.same .watc (by decide),
    hframe.same .tma (by decide), hframe.same .orders (by decide),
    (WordsKept.of_xmem (h.frame.same .xmem (by decide))).trans (takeReport_wordsKept r u), hframe⟩

/-- In a mode of work the kind enters SAFE (R4). -/
theorem BesideStop.enters {s u : State} (h : BesideStop s u) (r : Report) (halt : Bool) (hwork : s.atWork) :
    (enterSafe r.kind halt (takeReport r u)).gov = { u.gov with
      reqSpeed := 0, reqDir := .neutral, reversePending := false, waiting := keptTravelWait s.gov.waiting } ∧
    EnteredSafe r.kind halt s (enterSafe r.kind halt (takeReport r u)) ∧
    SameBut [.xmem, .orders, .port, .modc, .gov, .armc, .watc, .faults, .tma] s (enterSafe r.kind halt (takeReport r u)) := by
  obtain ⟨hmodc, hgov, harmc, hwatc, htma, -, -, hframe⟩ := h.taken r
  generalize takeReport r u = v at *
  have hwork' : v.atWork := by
    unfold State.atWork at hwork ⊢
    rwa [hmodc]
  obtain ⟨hentered, hgoverned, -, hreach⟩ := enterSafe_enters hwork' r.kind halt
  refine ⟨?_, hentered.congr hmodc ((congrArg _ hgov).trans h.c) harmc hwatc htma (.refl _ _) rfl, ?_⟩
  · rw [hgoverned, hgov, h.waiting]
  · exact (hframe.mono (by simp)).trans (hreach.mono (by simp))

/-- The orders that the entry to SAFE fails, the report taken before it (R4, R61, R86). -/
theorem BesideStop.ends {s u : State} (h : BesideStop s u) (r : Report) (halt : Bool) (hwork : s.atWork) (hinv : s.ordersInv)
    (hwf : s.xmemWf) : Ends (failedWith r.kind.rank s.failsAtSafe) faultWord s (enterSafe r.kind halt (takeReport r u)) := by
  obtain ⟨hmodc, hgov, harmc, -⟩ := h.taken r
  have htaken : Ends (fun _ => none) faultWord s (takeReport r u) :=
    (((Ends.of_same (region := noWord) h.sameForOrders).comp (takeReport_ends r u) hinv (fun _ h => h.elim)
      fun _ h => by have hbase : faultBase = 1792 := rfl; unfold faultWord at h; omega).congr fun _ _ => rfl).mono
      fun _ h => h.elim False.elim id
  generalize takeReport r u = v at *
  have hwork' : v.atWork := by
    unfold State.atWork at hwork ⊢
    rwa [hmodc]
  have hfails (e : Entry) : v.failsAtSafe e = s.failsAtSafe e :=
    State.failsAtSafe_congr ((congrArg Governor.waiting hgov).trans h.waiting) harmc e
  have hends := enterSafe_ends hwork' r.kind halt (htaken.ordersInv hinv) (htaken.wf hwf)
  refine ((htaken.comp hends hinv (fun _ h => ?_) fun _ h => h.elim).mono fun _ h => h.elim id False.elim).congr fun e _ => ?_
  · have hbase : faultBase = 1792 := rfl
    unfold faultWord at h
    omega
  · rw [Option.none_or, failedWith, failedWith, hfails]

/-- The entry to SAFE where it fails no waiting order of the governor's or the arms', before an ENGAGE or DISENGAGE fails (R4). -/
theorem BesideStop.calm {s u : State} (h : BesideStop s u) (r : Report) (halt : Bool) (hwork : s.atWork)
    (hstop : ∀ w, s.gov.waiting = some w → w.kind = .stop) (hcalm : s.calmArms) : ∃ v,
    enterSafe r.kind halt (takeReport r u) = completeMode [2, 3] .failed r.kind.rank v ∧ v.orders = s.orders ∧
    v.tma.clock = s.tma.clock ∧ v.port.pendingSet.getLsbD 0 = s.port.pendingSet.getLsbD 0 ∧ (s.xmemWf → v.xmemWf) ∧
    WordsKept faultBase 35 s v ∧ SameBut [.xmem, .port, .modc, .gov, .armc, .watc, .faults, .tma] s v := by
  obtain ⟨hmodc, hgov, harmc, -, htma, horders, hwords, hframe⟩ := h.taken r
  have hdone : (takeReport r u).port.pendingSet.getLsbD 0 = s.port.pendingSet.getLsbD 0 := by
    rw [(takeReport_ends r u).done, List.any_eq_false.mpr fun _ _ => by simp, Bool.or_false, h.cause]
  have hwf (hs : s.xmemWf) : (takeReport r u).xmemWf :=
    (takeReport_opensNone r u).wf (xmemWf_congr (h.frame.same .xmem (by decide)) hs)
  generalize takeReport r u = x at *
  have hwork' : x.atWork := by
    unfold State.atWork at hwork ⊢
    rwa [hmodc]
  have hwaits : x.gov.waiting = s.gov.waiting := (congrArg Governor.waiting hgov).trans h.waiting
  have hsame := safeEntered_of_calm hwork' r.kind halt (fun w hw => hstop w (hwaits.symm.trans hw)) fun a w hw =>
    hcalm a w (by rw [← State.arm_congr harmc]; exact hw)
  have hreach := (safeEntered_enters hwork' r.kind halt).2.2.2.narrow (more := [.xmem, .port, .modc, .gov, .armc, .watc, .tma])
    (by simp [Block.same, hsame.orders])
  exact ⟨_, enterSafe_eq hwork' r.kind halt, hsame.orders.trans horders, hsame.clock.trans (by rw [htma]),
    hsame.done.trans hdone, fun hs => xmemWf_congr hsame.xmem (hwf hs), hwords.trans (.of_xmem hsame.xmem),
    (hframe.mono (by simp)).trans (hreach.mono (by simp))⟩

/-- With no order open on MODE such an entry ends no order at all (R4). -/
theorem BesideStop.calm_unopened {s u : State} (h : BesideStop s u) (r : Report) (halt : Bool) (hwork : s.atWork)
    (hstop : ∀ w, s.gov.waiting = some w → w.kind = .stop) (hcalm : s.calmArms) (hopen : s.openOn .mode = none) :
    WordsKept faultBase 35 s (enterSafe r.kind halt (takeReport r u)) ∧
    SameBut [.xmem, .port, .modc, .gov, .armc, .watc, .faults, .tma] s (enterSafe r.kind halt (takeReport r u)) := by
  obtain ⟨v, hsafe, horders, -, -, -, hwords, hframe⟩ := h.calm r halt hwork hstop hcalm
  have hopen' : v.openOn .mode = none := by
    rw [State.openOn, horders]
    exact hopen
  rw [hsafe, completeMode_of_none _ _ _ hopen']
  exact ⟨hwords, hframe⟩

/-- An ENGAGE or DISENGAGE open on MODE whose slot is still TAKEN ends FAILED alone (R4, R149). -/
theorem BesideStop.calm_opened {s u : State} (h : BesideStop s u) (r : Report) (halt : Bool) (hwork : s.atWork)
    (hstop : ∀ w, s.gov.waiting = some w → w.kind = .stop) (hcalm : s.calmArms) {e : Entry}
    (he : s.openTaken e .mode e.slot e.takeTime) (hkind : e.kind = 2 ∨ e.kind = 3) :
    SlotResult e.slot .failed r.kind.rank e.depth s.tma.clock (s.since e.takeTime) (enterSafe r.kind halt (takeReport r u)) ∧
    EntryLeaves e s (enterSafe r.kind halt (takeReport r u)) ∧ DoneNotified e s (enterSafe r.kind halt (takeReport r u)) ∧
    (enterSafe r.kind halt (takeReport r u)).orders.orphans = s.orders.orphans ∧
    (∀ a, outsideResult e.slot a → (a < faultBase ∨ faultBase + 35 ≤ a) →
      (enterSafe r.kind halt (takeReport r u)).xread a = s.xread a) := by
  obtain ⟨v, hsafe, horders, hclock, hdone, hwf, hwords, -⟩ := h.calm r halt hwork hstop hcalm
  obtain ⟨hmem, htarget, -, -, htaken, hslot, hnodup, hs⟩ := he
  have howner : v.owner e.slot = s.owner e.slot :=
    hwords _ (.inl (by have hbase : faultBase = 1792 := rfl; have := slot_word_lt (i := 0) hslot (by decide); omega))
  have hopen : v.openTaken e .mode e.slot e.takeTime :=
    ⟨by rw [horders]; exact hmem, htarget, rfl, rfl, howner.trans htaken, hslot, by rw [horders]; exact hnodup, hwf hs⟩
  obtain ⟨⟨hresult, houtside⟩, ⟨hentries, hcursor, hstall⟩, hnotified, horphans⟩ :=
    completeMode_ends [2, 3] .failed r.kind.rank hopen (by simpa using hkind)
  rw [hsafe]
  refine ⟨?_, ⟨?_, ?_, ?_⟩, ?_, ?_, fun a hout ha => (houtside a hout).trans (hwords a ha)⟩
  · rw [State.since, hclock] at hresult
    exact hresult
  · rw [← horders]
    exact hentries
  · rw [hcursor, horders]
  · rw [hstall, horders]
  · rw [DoneNotified, hnotified, hdone]
  · rw [horphans, horders]

/-- Outside the modes of work the kind at most sets the halt latch (R4). -/
theorem BesideStop.rests {s u : State} (h : BesideStop s u) (r : Report) (halt : Bool) :
    (s.modc.mode = .safe → (enterSafe r.kind halt (takeReport r u)).gov = u.gov ∧
      (enterSafe r.kind halt (takeReport r u)).modc = { s.modc with haltLatch := s.modc.haltLatch || halt } ∧
      WordsKept faultBase 35 s (enterSafe r.kind halt (takeReport r u)) ∧
      SameBut [.xmem, .port, .modc, .gov, .faults] s (enterSafe r.kind halt (takeReport r u))) ∧
    (s.modc.mode = .starting ∨ s.modc.mode = .parked → (enterSafe r.kind halt (takeReport r u)).gov = u.gov ∧
      WordsKept faultBase 35 s (enterSafe r.kind halt (takeReport r u)) ∧
      SameBut [.xmem, .port, .gov, .faults] s (enterSafe r.kind halt (takeReport r u))) := by
  obtain ⟨hmodc, hgov, -, -, -, -, hwords, hframe⟩ := h.taken r
  generalize takeReport r u = x at *
  refine ⟨fun hmode => ?_, fun hmode => ?_⟩
  · have hsafe : enterSafe r.kind halt x = x.setModc { x.modc with haltLatch := x.modc.haltLatch || halt } :=
      (enterSafe_of_rest (by simp [State.atWork, hmodc, hmode]) _ _).trans (if_pos (by rw [hmodc, hmode]))
    rw [hsafe]
    refine ⟨by simpa using hgov, by simp [hmodc], hwords.trans (.of_xmem (by simp)), ?_⟩
    exact (hframe.mono (by simp)).trans ((setModc_sameBut x _).mono (by simp))
  · have hrest : enterSafe r.kind halt x = x := by
      refine (enterSafe_of_rest ?_ _ _).trans (if_neg ?_) <;> rcases hmode with hmode | hmode <;>
        simp [State.atWork, hmodc, hmode]
    rw [hrest]
    exact ⟨hgov, hwords, hframe⟩

/-- What the fault unit holds after the reaction is what the report left (R118 to R122); a stopping kind latches no exclusion (R125). -/
theorem BesideStop.took {s u : State} (h : BesideStop s u) {r : Report} {halt : Bool} (hstop : r.stops halt) :
    TookReport r s (enterSafe r.kind halt (takeReport r u)) ∧
    (enterSafe r.kind halt (takeReport r u)).faults.exclusions = s.faults.exclusions := by
  have hfaults (x : State) : (enterSafe r.kind halt x).faults = x.faults ∧ (enterSafe r.kind halt x).gov.vAct = x.gov.vAct := by
    by_cases hwork : x.atWork
    · obtain ⟨-, hgov, hfaults, -⟩ := enterSafe_enters hwork r.kind halt
      exact ⟨hfaults, by rw [hgov]⟩
    · rw [enterSafe_of_rest hwork]
      split <;> exact ⟨rfl, rfl⟩
  obtain ⟨hkept, hspeed⟩ := hfaults (takeReport r u)
  have hunit : u.faults = s.faults := h.frame.same .faults (by decide)
  refine ⟨tookReport_of_faults hkept hunit (h.frame.same .modc (by decide)) (h.frame.same .orders (by decide))
    h.sameForOrders.clock (hspeed.trans (by simp)), ?_⟩
  rw [hkept, takeReport_exclusions, hunit]
  unfold Report.stops at hstop
  unfold Report.latches
  cases halt <;> rw [hstop] <;> rfl

/-- The expiry of a stopping kind as its command makes it: the job's own change, and the report alone (R4, R44, R58, R59, R158). -/
theorem exec_stopExpiry {s : State} {c : Instr} {r : Report} {halt : Bool} {g : Governor} (hhigh : s.resetHeld = false)
    (hc : (s.running ∧ (travelSense s).silenceHolds = true ∧ timerDue 1000 10 s.gov.silence = true ∧ c = .wheelSilenceTimeout ∧
      r = wheelsLostReport ∧ halt = true ∧ g = { s.gov with silence := some 1000, vAct := 0 }) ∨
    (s.running ∧ (travelDrive s).operatorHolds = true ∧ timerDue 1000 10 s.gov.operator = true ∧ c = .operatorAbsentTimeout ∧
      r = operatorReport ∧ halt = true ∧ g = { s.gov with operator := some 1000, vAct := (travelDrive s).gov.vAct }) ∨
    (s.running ∧ (travelDrive s).overspeedHolds = true ∧ timerDue 1000 10 s.gov.overspeed = true ∧ c = .overspeedTimeout ∧
      r = overspeedReport (travelDrive s).gov.vAct ∧ halt = false ∧
      g = { s.gov with overspeed := some 1000, vAct := (travelDrive s).gov.vAct }) ∨
    (timerAt s.port.windowLength s.port.window = true ∧ c = .hostCheckExpiry ∧
      r = { kind := .hostSilent, source := .host, detail := s.port.windowLength } ∧ halt = false ∧ g = s.gov)) :
    ∃ u, exec c s = .next (enterSafe r.kind halt (takeReport r u)) ∧ BesideStop s u ∧ r.stops halt ∧ u.gov = g ∧
      (c = .hostCheckExpiry → u.port.check = .disarmed ∧ u.port.window = none) := by
  have hgov (g : Governor) (hcommand : g.c = s.gov.c) (hwait : g.waiting = s.gov.waiting) : BesideStop s (s.setGov g) :=
    ⟨(setGov_sameBut s g).mono (by simp), hcommand, hwait, rfl⟩
  obtain ⟨hrun, hholds, hdue, rfl, rfl, rfl, rfl⟩ | ⟨hrun, hholds, hdue, rfl, rfl, rfl, rfl⟩ |
    ⟨hrun, hholds, hdue, rfl, rfl, rfl, rfl⟩ | ⟨hdue, rfl, rfl, rfl, rfl⟩ := hc
  · have hnone : (travelSense s).gov.vAct = 0 := by
      simp only [State.silenceHolds, State.noneInUse, Bool.and_eq_true, decide_eq_true_eq] at hholds
      obtain ⟨⟨ha, hb⟩, -⟩ := hholds
      exact (travelSense_speed s).2.2.2 ha hb
    have hbatch : silenceTimeout s = enterSafe wheelsLostReport.kind true (takeReport wheelsLostReport
        (s.setGov { s.gov with silence := some 1000, vAct := 0 })) := by
      rw [silenceTimeout, if_pos (by rw [hholds, hdue]; rfl), reportBatch_of_stop (r := wheelsLostReport) (halt := true) rfl, State.withSpeed, hnone]
    exact ⟨_, (atStep_of_running (f := silenceTimeout) hrun).trans (congrArg _ hbatch), hgov _ rfl rfl, rfl, rfl, nofun⟩
  · have hbatch : operatorTimeout s = enterSafe operatorReport.kind true (takeReport operatorReport
        (s.setGov { s.gov with operator := some 1000, vAct := (travelDrive s).gov.vAct })) := by
      rw [operatorTimeout, if_pos (by rw [hholds, hdue]; rfl), reportBatch_of_stop (r := operatorReport) (halt := true) rfl, State.withSpeed]
    exact ⟨_, (atStep_of_running (f := operatorTimeout) hrun).trans (congrArg _ hbatch), hgov _ rfl rfl, rfl, rfl, nofun⟩
  · have hbatch : overspeedTimeout s = enterSafe .overspeed false (takeReport (overspeedReport (travelDrive s).gov.vAct)
        (s.setGov { s.gov with overspeed := some 1000, vAct := (travelDrive s).gov.vAct })) := by
      rw [overspeedTimeout, if_pos (by rw [hholds, hdue]; rfl), reportBatch_of_stop (r := overspeedReport _) (halt := false) rfl, State.withSpeed]
      rfl
    exact ⟨_, (atStep_of_running (f := overspeedTimeout) hrun).trans (congrArg _ hbatch), hgov _ rfl rfl, rfl, rfl, nofun⟩
  · have hbatch : checkExpiry s = enterSafe .hostSilent false (takeReport
        { kind := .hostSilent, source := .host, detail := s.port.windowLength } (disarmCheck s)) := by
      exact (if_pos hdue).trans (reportBatch_of_stop (r := { kind := .hostSilent, source := .host, detail := _ }) (halt := false) rfl _)
    refine ⟨disarmCheck s, (live_of_high (f := checkExpiry) hhigh).trans (congrArg _ hbatch), ⟨?_, rfl, rfl, rfl⟩, rfl, rfl,
      fun _ => ⟨rfl, rfl⟩⟩
    exact (setPort_sameBut s _).mono (by simp)

/-- Settles O48. -/
theorem stopExpiriesEnterSafe : Obligations.StopExpiriesEnterSafe := by
  intro s c r halt g hhigh hc
  obtain ⟨u, hexec, hbeside, hstops, rfl, hcheck⟩ := exec_stopExpiry hhigh hc
  obtain ⟨htook, hexclusions⟩ := hbeside.took hstops
  obtain ⟨hsafe, hasleep⟩ := hbeside.rests r halt
  refine ⟨_, hexec, htook, hexclusions, fun hhost => ?_, fun hwork => ?_, fun hwork hstop hcalm => ⟨fun hopen => ?_, fun e he hkind => ?_⟩,
    hsafe, hasleep⟩
  · obtain ⟨hdisarmed, hwindow⟩ := enterSafe_check r.kind halt (takeReport r u)
    have hport : (takeReport r u).port.check = u.port.check ∧ (takeReport r u).port.window = u.port.window := by
      rw [takeReport_port]
      split
      · exact ⟨rfl, rfl⟩
      · split <;> exact ⟨rfl, rfl⟩
    rw [hdisarmed, hwindow, hport.1, hport.2]
    exact hcheck hhost
  · obtain ⟨hgov, hentered, hframe⟩ := hbeside.enters r halt hwork
    refine ⟨hgov, hentered, hframe, fun ended hinv hwf hended => ?_⟩
    have hsame : s.failsAtSafe = ended := hended.symm
    have hends := hbeside.ends r halt hwork hinv hwf
    rw [hsame] at hends
    obtain ⟨htogether, hwords⟩ := failedTogether_of_endsIn hends
    exact ⟨htogether, fun a hout ha => hwords a hout (by unfold faultWord; omega)⟩
  · exact hbeside.calm_unopened r halt hwork hstop hcalm hopen
  · obtain ⟨hresult, hleaves, hdone, horphans, hwords⟩ := hbeside.calm_opened r halt hwork hstop hcalm he hkind
    exact ⟨hresult, hleaves, hdone, horphans, hwords, (hbeside.enters r halt hwork).2.2⟩

end Sys2Proof.Machine

namespace Sys2Proof.Machine

/-! ### What the stages of the travel step form (R39 to R57) -/

/-- A governor with another's wheel sensing: the channels, their loss timers and counts, v_act, and the two timers of stage 1. -/
def Governor.sensed (g by' : Governor) : Governor :=
  { g with
    chanA := by'.chanA, chanB := by'.chanB, lossA := by'.lossA, lossB := by'.lossB, readmitA := by'.readmitA, readmitB := by'.readmitB
    vAct := by'.vAct, disagree := by'.disagree, silence := by'.silence }

theorem Governor.sensed_c (g by' : Governor) : (g.sensed by').c = g.c := rfl

/-- Stage 1 moves the wheel sensing alone (R40 to R44). -/
theorem travelSense_sensed (s : State) : (travelSense s).gov = s.gov.sensed (travelSense s).gov := by
  have hreport (w : Wheel) (u : State) : (wheelReport w u).gov = u.gov.sensed (wheelReport w u).gov := by
    rw [wheelReport_eq]
    cases w <;> rfl
  have hloss (w : Wheel) (u : State) : (wheelLoss w u).gov = u.gov.sensed (wheelLoss w u).gov := by
    rw [wheelLoss_eq]
    cases w <;> rfl
  have hstep {g g' g'' : Governor} (h : g' = g.sensed g') (h' : g'' = g'.sensed g'') : g'' = g.sensed g'' := by
    rw [h'] at *
    rw [h]
    rfl
  have hwheels := hstep (hstep (hstep (hreport .a s) (hreport .b _)) (hloss .a _)) (hloss .b _)
  unfold travelSense travelReport
  generalize wheelLoss .b (wheelLoss .a (wheelReport .b (wheelReport .a s))) = u at hwheels ⊢
  exact hstep hwheels rfl

/-- The governor before the ramp: sensed, its limits formed, the dwell one step on where c is 0 (R32 to R34, R52). -/
theorem travelApproach_governor (s : State) : (travelApproach s).gov = { (travelSense s).gov with
    vW := s.waterLimit, vL := s.loadLimit, vT := (travelApproach s).gov.vT, limiter := (travelApproach s).gov.limiter
    dwell := if s.gov.c = 0 then min 65535 (s.gov.dwell + 10) else s.gov.dwell } := by
  have hsensed := travelSense_sensed s
  have hformed := formedLimits_travelSense s
  unfold travelApproach travelDwell
  generalize travelSense s = u at hsensed hformed ⊢
  have hlimits := (travelLimits_limits u).trans hformed
  have hc : u.gov.c = s.gov.c := by rw [hsensed]; rfl
  have hdwell : u.gov.dwell = s.gov.dwell := by rw [hsensed]; rfl
  have hgov : (travelLimits u).gov = { u.gov with
      vW := s.waterLimit, vL := s.loadLimit, vT := (travelLimits u).gov.vT, limiter := (travelLimits u).gov.limiter } := by
    have hw : (travelLimits u).gov.vW = s.waterLimit := congrArg Prod.fst hlimits
    have hl : (travelLimits u).gov.vL = s.loadLimit := congrArg (fun x => x.2.1) hlimits
    rw [← hw, ← hl]
    rfl
  have hc' : (travelLimits u).gov.c = s.gov.c := hc
  rw [hc']
  split
  · rw [State.setGov_gov, hgov, ← hdwell]
  · rw [hgov, ← hdwell]

/-- The dwell timer and the last sign as a step brings the command to 0 (R52), and the reverse-pending flag (R54). -/
theorem travelReverse_governor (c : Int) (v : State) : (travelReverse c v).gov = { v.gov with
    dwell := if c ≠ 0 ∧ v.gov.c = 0 then 0 else v.gov.dwell
    lastSign := if c ≠ 0 ∧ v.gov.c = 0 then signOf c else v.gov.lastSign
    reversePending := nextReversePending v.gov.c v.sign v.gov.reversePending } := by
  unfold travelReverse
  by_cases hmoved : c = 0 <;> by_cases hstands : v.gov.c = 0 <;> simp [hmoved, hstands]

/-- The governor after stages 4 to 6 (R52, R54 to R57). -/
theorem travelMove_governor (target : Int) (u : State) : (travelMove target u).gov = { u.gov with
    c := rampToward u.rampUp u.rampDown u.gov.c target
    dwell := if u.gov.c ≠ 0 ∧ rampToward u.rampUp u.rampDown u.gov.c target = 0 then 0 else u.gov.dwell
    lastSign := if u.gov.c ≠ 0 ∧ rampToward u.rampUp u.rampDown u.gov.c target = 0 then signOf u.gov.c else u.gov.lastSign
    reversePending := nextReversePending (rampToward u.rampUp u.rampDown u.gov.c target) u.sign u.gov.reversePending
    trim := (travelMove target u).gov.trim } := by
  have houtput (v : State) : (travelOutput v).gov = { v.gov with trim := v.nextTravelTrim } := by simp [travelOutput]
  unfold travelMove
  rw [houtput, travelReverse_governor]
  rfl

/-! #### The output (R56, R57) -/

/-- The trim follows the command and v_act of the step (R56). -/
theorem travelMove_trim (target : Int) (u : State) : (travelMove target u).gov.trim =
    if (travelMove target u).gov.c = 0 ∨ (u.gov.chanA ≠ .inUse ∧ u.gov.chanB ≠ .inUse) then 0
    else clampInt (-200) 200 (u.gov.trim +
      roundDiv ((((travelMove target u).gov.c.natAbs : Int) - u.gov.vAct) * u.kTrim) 1024) := by
  have hgov := travelReverse_governor u.gov.c (travelRamp target u)
  have hktrim : (travelReverse u.gov.c (travelRamp target u)).kTrim = u.kTrim := rfl
  unfold travelMove
  generalize travelReverse u.gov.c (travelRamp target u) = v at hgov hktrim ⊢
  have houtput : (travelOutput v).gov = { v.gov with trim := v.nextTravelTrim } := by simp [travelOutput]
  have hkept : v.gov.chanA = u.gov.chanA ∧ v.gov.chanB = u.gov.chanB ∧ v.gov.vAct = u.gov.vAct ∧ v.gov.trim = u.gov.trim := by
    rw [hgov]
    exact ⟨rfl, rfl, rfl, rfl⟩
  rw [houtput]
  simp only [State.nextTravelTrim, State.noneInUse, hkept, hktrim, Bool.and_eq_true, decide_eq_true_eq]
  by_cases hc : v.gov.c = 0
  · simp [hc]
  · simp [hc]

/-- The one duty of the solenoid that the command's sign names (R57); the periods in progress stand (R135). -/
theorem travelMove_outputs (target : Int) (u : State) : (travelMove target u).tma = { u.tma with
    outputs := { u.tma.outputs with
      travelFwd := { u.tma.outputs.travelFwd with
        held := if 0 < (travelMove target u).gov.c then (travelMove target u).travelDuty else 0 }
      travelRev := { u.tma.outputs.travelRev with
        held := if (travelMove target u).gov.c < 0 then (travelMove target u).travelDuty else 0 } } } := by
  have htma : (travelReverse u.gov.c (travelRamp target u)).tma = u.tma := rfl
  unfold travelMove
  generalize travelReverse u.gov.c (travelRamp target u) = v at htma ⊢
  have hgov : (travelOutput v).gov = { v.gov with trim := v.nextTravelTrim } := by simp [travelOutput]
  have hduty : (travelOutput v).travelDuty = (v.setGov { v.gov with trim := v.nextTravelTrim }).travelDuty := by
    simp [State.travelDuty, travelOutput, State.iMax, State.iFull, State.evalAt, State.curve, State.calWord]
  rw [hduty, hgov, ← htma]
  rfl

/-- A current within 0 to i_max drives its duty, rounded half up and at most 1000 (R57). -/
theorem dutyOf_current (full current : Nat) :
    (clampInt 0 1000 (roundDiv ((current : Int) * 1000) full)).toNat = min 1000 ((2000 * current + full) / (2 * full)) := by
  have hround : roundDiv ((current : Int) * 1000) full = (((2000 * current + full) / (2 * full) : Nat) : Int) := by
    rw [roundDiv, if_pos (by omega)]
    push_cast
    congr 1
    omega
  have hcast (n : Nat) : clampInt 0 1000 n = (min 1000 n : Nat) := by
    rw [clampInt, max_eq_right (le_min (by decide) (Int.natCast_nonneg n))]
    push_cast
    rfl
  rw [hround, hcast, Int.toNat_natCast]

/-- The solenoid current and its duty (R57). -/
theorem travelDuty_of (s : State) : ∃ current : Nat, (current : Int) =
    (if s.gov.c = 0 then 0 else clampInt 0 s.iMax ((s.evalAt travelCurveBase s.gov.c.natAbs : Int) + s.gov.trim)) ∧
    (0 < s.iFull → s.travelDuty = min 1000 ((2000 * current + s.iFull) / (2 * s.iFull))) := by
  by_cases hc : s.gov.c = 0
  · refine ⟨0, by rw [if_pos hc]; rfl, fun hfull => ?_⟩
    rw [State.travelDuty, if_pos hc]
    have hhalf : (2000 * 0 + s.iFull) / (2 * s.iFull) = 0 := Nat.div_eq_of_lt (by omega)
    omega
  · have hpos : 0 ≤ clampInt 0 s.iMax ((s.evalAt travelCurveBase s.gov.c.natAbs : Int) + s.gov.trim) := le_max_left _ _
    refine ⟨_, (Int.toNat_of_nonneg hpos).trans (if_neg hc).symm, fun _ => ?_⟩
    rw [State.travelDuty, if_neg hc, ← dutyOf_current, Int.toNat_of_nonneg hpos]

end Sys2Proof.Machine

namespace Sys2Proof.Machine

/-! ### The wheel channels after stage 1, in the state before the step (R40 to R44) -/

/-- A channel that the reports leave without a signal was not LOST (R40, R43). -/
theorem travelReport_noSignal {s : State} {w : Wheel} (h : (travelReport s).gov.chan w = .noSignal) : s.gov.chan w ≠ .lost := by
  have hrecord (u : State) (hlost : u.gov.chan w = .lost) : (u.reportedRecord w).1 ≠ .noSignal := by
    unfold State.reportedRecord
    rw [if_pos hlost]
    repeat' split
    all_goals simp
  intro hlost
  cases w
  · exact hrecord s hlost ((congrArg Prod.fst (travelReport_wheelA s)).symm.trans h)
  · have hkept : (wheelReport .a s).gov.chan .b = .lost := by
      rw [wheelReport_eq]
      exact hlost
    exact hrecord _ hkept ((congrArg Prod.fst (travelReport_wheelB s)).symm.trans h)

theorem travelReport_c (s : State) : (travelReport s).gov.c = s.gov.c := by
  simp [travelReport, wheelReport_c]

/-- The loss timer reaches its limit at the step where it has counted 490 ms (R42). -/
theorem timerAt_follow_iff (limit period : Nat) (cond : Bool) (t : Timer) (h : 0 < limit) :
    timerAt limit (timerFollow limit period cond t) = true ↔ cond = true ∧ ∃ v, t = some v ∧ limit ≤ v + period := by
  cases cond
  · simp [timerFollow, timerAt]
  · cases t with
    | none =>
      have hne : limit ≠ 0 := by omega
      simp [timerFollow, timerAt, hne]
    | some v => simp [timerFollow, timerAt]

/-- The loss condition that stage 1 tests, in the channels it leaves (R42). -/
theorem lossHolds_iff (s : State) (w : Wheel) : (travelReport s).lossHolds w = true ↔
    (travelReport s).gov.chan w = .noSignal ∧ (travelSense s).gov.chan (otherWheel w) = .inUse ∧ s.gov.c ≠ 0 := by
  rw [travelSense_inUse, State.lossHolds, travelReport_c]
  simp only [Bool.and_eq_true, decide_eq_true_eq, and_assoc]

/-- A channel whose loss condition does not hold keeps its report, its loss timer off (R42). -/
theorem travelSense_wheel_of_held {s : State} {w : Wheel} (h : (travelReport s).lossHolds w = false) :
    (travelSense s).gov.chan w = (travelReport s).gov.chan w ∧ (travelSense s).gov.loss w = none ∧
    (travelSense s).gov.readmit w = (travelReport s).gov.readmit w := by
  have hwheel := travelSense_wheel s w
  rw [lossRecord_chan_of_held h] at hwheel
  exact ⟨congrArg Prod.fst hwheel, congrArg (fun x => x.2.1) hwheel, congrArg (fun x => x.2.2) hwheel⟩

/-- A channel whose loss condition holds becomes LOST at 500 ms, and counts on until then (R42). -/
theorem travelSense_wheel_of_loss {s : State} {w : Wheel} (h : (travelReport s).lossHolds w = true) :
    ((∃ v, s.gov.loss w = some v ∧ 490 ≤ v) → (travelSense s).gov.chan w = .lost ∧ (travelSense s).gov.loss w = none ∧
      (travelSense s).gov.readmit w = 0) ∧
    (¬(∃ v, s.gov.loss w = some v ∧ 490 ≤ v) → (travelSense s).gov.chan w = .noSignal ∧
      (travelSense s).gov.loss w = timerFollow 500 10 true (s.gov.loss w) ∧
      (travelSense s).gov.readmit w = s.gov.readmit w) := by
  have hsignal : (travelReport s).gov.chan w = .noSignal := ((lossHolds_iff s w).mp h).1
  have hkept := travelReport_of_not_lost (travelReport_noSignal hsignal)
  have hloss : (travelReport s).gov.loss w = s.gov.loss w := congrArg (fun x => x.2.1) hkept
  have hreadmit : (travelReport s).gov.readmit w = s.gov.readmit w := congrArg (fun x => x.2.2) hkept
  have hwheel := travelSense_wheel s w
  rw [State.lossRecord, h, hloss, hreadmit, hsignal] at hwheel
  have hlimit : timerAt 500 (timerFollow 500 10 true (s.gov.loss w)) = true ↔ ∃ v, s.gov.loss w = some v ∧ 490 ≤ v := by
    rw [timerAt_follow_iff _ _ _ _ (by decide)]
    simp
  refine ⟨fun hdue => ?_, fun hshort => ?_⟩
  · rw [if_pos (hlimit.mpr hdue)] at hwheel
    exact ⟨congrArg Prod.fst hwheel, congrArg (fun x => x.2.1) hwheel, congrArg (fun x => x.2.2) hwheel⟩
  · rw [if_neg (fun hdue => hshort (hlimit.mp hdue))] at hwheel
    exact ⟨congrArg Prod.fst hwheel, congrArg (fun x => x.2.1) hwheel, congrArg (fun x => x.2.2) hwheel⟩

/-- A channel that was not LOST (R40, R42). -/
theorem travelSense_of_not_lost {s : State} {w : Wheel} (h : s.gov.chan w ≠ .lost) :
    (s.valid (wheelChannel w) = true → (travelSense s).gov.chan w = .inUse) ∧
    (s.valid (wheelChannel w) = false → (travelSense s).gov.chan w =
      if (travelSense s).gov.chan (otherWheel w) = .inUse ∧ s.gov.c ≠ 0 ∧ ∃ v, s.gov.loss w = some v ∧ 490 ≤ v then .lost
      else .noSignal) ∧
    (travelSense s).gov.readmit w = if (travelSense s).gov.chan w = .lost then 0 else s.gov.readmit w := by
  have hkept := travelReport_of_not_lost h
  have hchan : (travelReport s).gov.chan w = if s.valid (wheelChannel w) then .inUse else .noSignal := congrArg Prod.fst hkept
  have hreadmit : (travelReport s).gov.readmit w = s.gov.readmit w := congrArg (fun x => x.2.2) hkept
  have hiff := lossHolds_iff s w
  cases hvalid : s.valid (wheelChannel w)
  · rw [hvalid] at hchan
    have hsignal : (travelReport s).gov.chan w = .noSignal := hchan
    cases hholds : (travelReport s).lossHolds w
    · obtain ⟨hheld, -, hcount⟩ := travelSense_wheel_of_held hholds
      rw [hholds] at hiff
      have hnot : ¬((travelSense s).gov.chan (otherWheel w) = .inUse ∧ s.gov.c ≠ 0) := fun hcond =>
        absurd (hiff.mpr ⟨hsignal, hcond⟩) (by decide)
      refine ⟨nofun, fun _ => ?_, ?_⟩
      · rw [hheld, hsignal, if_neg fun hcond => hnot ⟨hcond.1, hcond.2.1⟩]
      · rw [hheld, hsignal, hcount, hreadmit, if_neg nofun]
    · obtain ⟨-, hother, hmoves⟩ := hiff.mp hholds
      obtain ⟨hlost, hcounts⟩ := travelSense_wheel_of_loss hholds
      refine ⟨nofun, fun _ => ?_, ?_⟩
      · by_cases hdue : ∃ v, s.gov.loss w = some v ∧ 490 ≤ v
        · rw [(hlost hdue).1, if_pos ⟨hother, hmoves, hdue⟩]
        · rw [(hcounts hdue).1, if_neg fun hcond => hdue hcond.2.2]
      · by_cases hdue : ∃ v, s.gov.loss w = some v ∧ 490 ≤ v
        · rw [(hlost hdue).1, (hlost hdue).2.2, if_pos rfl]
        · rw [(hcounts hdue).1, (hcounts hdue).2.2, if_neg nofun]
  · rw [hvalid] at hchan
    have hin : (travelReport s).gov.chan w = .inUse := hchan
    have hholds : (travelReport s).lossHolds w = false := by simp [State.lossHolds, hin]
    obtain ⟨hheld, -, hcount⟩ := travelSense_wheel_of_held hholds
    exact ⟨fun _ => hheld.trans hin, nofun, by rw [hheld, hin, hcount, hreadmit, if_neg nofun]⟩

/-- A LOST channel beside one that is not LOST: back in use at its second agreeing reading (R43). -/
theorem travelSense_of_lost {s : State} {w : Wheel} (h : s.gov.chan w = .lost) (hother : s.gov.chan (otherWheel w) ≠ .lost) :
    ((travelSense s).gov.chan w = if s.valid (wheelChannel w) = true ∧ 1 ≤ s.gov.readmit w ∧
        (s.valid (wheelChannel (otherWheel w)) = false ∨ speedsAgree (s.wheelSpeed w) (s.wheelSpeed (otherWheel w)) = true) then .inUse
      else .lost) ∧
    (travelSense s).gov.readmit w = if s.valid (wheelChannel w) = true ∧ s.gov.readmit w = 0 ∧
        (s.valid (wheelChannel (otherWheel w)) = false ∨ speedsAgree (s.wheelSpeed w) (s.wheelSpeed (otherWheel w)) = true) then 1
      else 0 := by
  obtain ⟨hin, hstays, -, hone, hzero⟩ := travelReport_of_lost h hother
  have hsignal : (travelReport s).gov.chan w ≠ .noSignal := fun hsignal => travelReport_noSignal hsignal h
  obtain ⟨hheld, -, hcount⟩ := travelSense_wheel_of_held (s := s) (w := w) (by simp [State.lossHolds, hsignal])
  rw [hheld, hcount]
  refine ⟨?_, ?_⟩
  · by_cases hagrees : s.agrees w ∧ 1 ≤ s.gov.readmit w
    · rw [hin.mpr hagrees, if_pos ⟨hagrees.1.1, hagrees.2, hagrees.1.2⟩]
    · rw [hstays (fun hchan => hagrees (hin.mp hchan)), if_neg fun hcond => hagrees ⟨⟨hcond.1, hcond.2.2⟩, hcond.2.1⟩]
  · by_cases hagrees : s.agrees w ∧ s.gov.readmit w = 0
    · rw [hone hagrees, if_pos ⟨hagrees.1.1, hagrees.2, hagrees.1.2⟩]
    · rw [hzero hagrees, if_neg fun hcond => hagrees ⟨⟨hcond.1, hcond.2.2⟩, hcond.2.1⟩]

/-- The loss timer follows the loss condition on the channels that stage 1 leaves (R42). -/
theorem travelSense_loss (s : State) (w : Wheel) : (travelSense s).gov.loss w =
    if (travelSense s).gov.chan w = .noSignal ∧ (travelSense s).gov.chan (otherWheel w) = .inUse ∧ s.gov.c ≠ 0 then
      timerFollow 500 10 true (s.gov.loss w) else none := by
  have hiff := lossHolds_iff s w
  cases hholds : (travelReport s).lossHolds w
  · obtain ⟨hheld, hloss, -⟩ := travelSense_wheel_of_held hholds
    rw [hholds] at hiff
    rw [hloss, if_neg fun hcond => absurd (hiff.mpr ⟨hheld.symm.trans hcond.1, hcond.2⟩) (by decide)]
  · obtain ⟨-, hother, hmoves⟩ := hiff.mp hholds
    obtain ⟨hlost, hcounts⟩ := travelSense_wheel_of_loss hholds
    by_cases hdue : ∃ v, s.gov.loss w = some v ∧ 490 ≤ v
    · rw [(hlost hdue).1, (hlost hdue).2.1, if_neg fun hcond => absurd hcond.1 nofun]
    · rw [(hcounts hdue).1, (hcounts hdue).2.1, if_pos ⟨rfl, hother, hmoves⟩]

/-- The disagreement and silence timers of stage 1 (R41, R44). -/
theorem travelSense_timers (s : State) :
    (travelSense s).gov.disagree = timerFollow 1000 10 (travelSense s).disagreeHolds s.gov.disagree ∧
    (travelSense s).gov.silence = timerFollow 1000 10 (travelSense s).silenceHolds s.gov.silence := by
  have hreport (w : Wheel) (u : State) :
      (wheelReport w u).gov.disagree = u.gov.disagree ∧ (wheelReport w u).gov.silence = u.gov.silence := by
    rw [wheelReport_eq]
    cases w <;> exact ⟨rfl, rfl⟩
  have hloss (w : Wheel) (u : State) :
      (wheelLoss w u).gov.disagree = u.gov.disagree ∧ (wheelLoss w u).gov.silence = u.gov.silence := by
    rw [wheelLoss_eq]
    cases w <;> exact ⟨rfl, rfl⟩
  have hkept : (wheelLoss .b (wheelLoss .a (travelReport s))).gov.disagree = s.gov.disagree ∧
      (wheelLoss .b (wheelLoss .a (travelReport s))).gov.silence = s.gov.silence := by
    simp only [travelReport, hreport, hloss, and_self]
  obtain ⟨hdisagree, hsilence⟩ := hkept
  unfold travelSense
  generalize wheelLoss .b (wheelLoss .a (travelReport s)) = u at hdisagree hsilence ⊢
  rw [← hdisagree, ← hsilence]
  exact ⟨rfl, rfl⟩

/-- The conditions of stage 1's timers, in the channels it leaves (R41, R44). -/
theorem travelSense_conditions (s : State) :
    (travelSense s).disagreeHolds = (decide ((travelSense s).gov.chanA = .inUse ∧ (travelSense s).gov.chanB = .inUse) &&
      !speedsAgree (s.wheelSpeed .a) (s.wheelSpeed .b)) ∧
    (travelSense s).silenceHolds = decide ((travelSense s).gov.chanA ≠ .inUse ∧ (travelSense s).gov.chanB ≠ .inUse ∧
      300 < s.gov.c.natAbs) := by
  have hspeed (w : Wheel) : (travelSense s).wheelSpeed w = s.wheelSpeed w := by
    obtain ⟨g, hg⟩ := travelSense_gov s
    rw [hg, wheelSpeed_setGov]
  have hc : (travelSense s).gov.c = s.gov.c :=
    (congrArg Governor.c (travelSense_sensed s)).trans (Governor.sensed_c _ _)
  simp only [State.disagreeHolds, State.bothInUse, State.silenceHolds, State.noneInUse, hspeed, hc, Bool.decide_and, Bool.and_assoc,
    and_self]

end Sys2Proof.Machine

namespace Sys2Proof.Machine

/-! ### The state that the travel step drives, before it reports (R39 to R59) -/

/-- Stages 1 to 6 and the two timers of stage 7. -/
@[irreducible] def State.driven (s : State) : State := travelWatch (travelDrive s)

/-- The signed target of the step (R51). -/
@[irreducible] def State.steered (s : State) : Int := (travelApproach s).signedTarget

/-- The driven governor's wheel sensing is stage 1's, its request and waiting order are those before the step. -/
theorem driven_sensing (s : State) : s.driven.gov = s.driven.gov.sensed (travelSense s).gov ∧
    s.driven.gov.reqSpeed = s.gov.reqSpeed ∧ s.driven.gov.reqDir = s.gov.reqDir ∧ s.driven.gov.waiting = s.gov.waiting := by
  have hsensed := travelSense_sensed s
  have happroach := travelApproach_governor s
  have hmove := travelMove_governor (travelApproach s).signedTarget (travelApproach s)
  unfold State.driven travelDrive
  generalize travelMove (travelApproach s).signedTarget (travelApproach s) = v at hmove ⊢
  generalize travelSense s = w at *
  generalize travelApproach s = u at *
  have hwatch : (travelWatch v).gov = { v.gov with
    overspeed := timerFollow 1000 10 v.overspeedHolds v.gov.overspeed
    operator := timerFollow 1000 10 v.operatorHolds v.gov.operator } := rfl
  rw [hwatch, hmove, happroach, hsensed]
  exact ⟨rfl, rfl, rfl, rfl⟩

/-- What the step keeps of the state before it reports. -/
theorem driven_frame (s : State) : SameBut [.gov, .tma] s s.driven ∧ s.driven.tma = { s.tma with
    outputs := { s.tma.outputs with
      travelFwd := { s.tma.outputs.travelFwd with held := if 0 < s.driven.gov.c then s.driven.travelDuty else 0 }
      travelRev := { s.tma.outputs.travelRev with held := if s.driven.gov.c < 0 then s.driven.travelDuty else 0 } } } := by
  have happroach := travelApproach_sameBut s
  have hmove := travelMove_sameBut (travelApproach s).signedTarget (travelApproach s)
  have htma := travelMove_outputs (travelApproach s).signedTarget (travelApproach s)
  have hkept : (travelApproach s).tma = s.tma := happroach.same .tma (by decide)
  have hwatch (v : State) : SameBut [.gov] v (travelWatch v) := setGov_sameBut v _
  have hdriven (v : State) : (travelWatch v).tma = v.tma ∧ (travelWatch v).gov.c = v.gov.c ∧
    (travelWatch v).travelDuty = v.travelDuty := ⟨rfl, rfl, rfl⟩
  unfold State.driven travelDrive
  rw [hkept] at htma
  obtain ⟨h1, h2, h3⟩ := hdriven (travelMove (travelApproach s).signedTarget (travelApproach s))
  rw [h1, h2, h3]
  refine ⟨?_, htma⟩
  exact ((happroach.mono (by simp)).trans (hmove.mono (by simp))).trans ((hwatch _).mono (by simp))

/-- The gate of R52 and R53 at the step, its dwell timer a step on. -/
theorem gateOpen_iff {u s : State} (hlast : u.gov.lastSign = s.gov.lastSign) (hdwell : u.gov.dwell = min 65535 (s.gov.dwell + 10))
    (harmc : u.armc = s.armc) (sign : Sign) : u.gateOpen sign = true ↔
    (sign = s.gov.lastSign ∨ 290 ≤ s.gov.dwell) ∧
      (sign = .negative → forbidsReverse s.armc.left = false ∧ forbidsReverse s.armc.right = false) := by
  have hgate : 300 ≤ u.gov.dwell ↔ 290 ≤ s.gov.dwell := by
    rw [hdwell]
    omega
  unfold State.gateOpen
  rw [hlast, harmc]
  simp only [hgate, Bool.and_eq_true, Bool.or_eq_true, decide_eq_true_eq, Bool.not_eq_true', Bool.or_eq_false_iff,
    ← imp_iff_not_or, ne_eq]

/-- The signed target in the state before the step (R51). -/
theorem steered_eq (s : State) : s.steered =
    if s.gov.c ≠ 0 then (if s.sign = signOf s.gov.c then withSign (travelApproach s).gov.vT s.sign else 0)
    else if s.sign = .none then 0
    else if (s.sign = s.gov.lastSign ∨ 290 ≤ s.gov.dwell) ∧
        (s.sign = .negative → forbidsReverse s.armc.left = false ∧ forbidsReverse s.armc.right = false) then
      withSign (travelApproach s).gov.vT s.sign
    else 0 := by
  unfold State.steered
  have hsensed := travelSense_sensed s
  have happroach := travelApproach_governor s
  have harmc : (travelApproach s).armc = s.armc := (travelApproach_sameBut s).same .armc rfl
  generalize travelSense s = w at *
  generalize travelApproach s = u at *
  have hc : u.gov.c = s.gov.c := by rw [happroach, hsensed]; rfl
  have hsign : u.sign = s.sign := by rw [State.sign, happroach, hsensed]; rfl
  have hlast : u.gov.lastSign = s.gov.lastSign := by rw [happroach, hsensed]; rfl
  have hdwell : u.gov.dwell = if s.gov.c = 0 then min 65535 (s.gov.dwell + 10) else s.gov.dwell := by rw [happroach]
  unfold State.signedTarget
  rw [hc, hsign]
  by_cases hmoves : s.gov.c = 0
  · have hgate := gateOpen_iff hlast (hdwell.trans (if_pos hmoves)) harmc s.sign
    simp only [hgate]
  · rw [if_pos hmoves, if_pos hmoves]

/-- The command and what follows it (R51, R52, R54, R55). -/
theorem driven_command (s : State) :
    s.driven.gov.vT = (travelApproach s).gov.vT ∧
    s.driven.gov.c = rampToward s.rampUp s.rampDown s.gov.c s.steered ∧
    s.driven.gov.dwell = (if s.gov.c ≠ 0 ∧ s.driven.gov.c = 0 then 0
      else if s.gov.c = 0 then min 65535 (s.gov.dwell + 10) else s.gov.dwell) ∧
    s.driven.gov.lastSign = (if s.gov.c ≠ 0 ∧ s.driven.gov.c = 0 then signOf s.gov.c else s.gov.lastSign) ∧
    s.driven.gov.reversePending = nextReversePending s.driven.gov.c s.sign s.gov.reversePending := by
  have hsensed := travelSense_sensed s
  have happroach := travelApproach_governor s
  have hmodc : (travelApproach s).modc = s.modc := (travelApproach_sameBut s).same .modc rfl
  have hmove := travelMove_governor (travelApproach s).signedTarget (travelApproach s)
  unfold State.driven State.steered travelDrive
  generalize travelMove (travelApproach s).signedTarget (travelApproach s) = v at hmove ⊢
  generalize travelSense s = w at *
  generalize travelApproach s = u at *
  have hc : u.gov.c = s.gov.c := by rw [happroach, hsensed]; rfl
  have hsign : u.sign = s.sign := by rw [State.sign, happroach, hsensed]; rfl
  have hlast : u.gov.lastSign = s.gov.lastSign := by rw [happroach, hsensed]; rfl
  have hpending : u.gov.reversePending = s.gov.reversePending := by rw [happroach, hsensed]; rfl
  have hdwell : u.gov.dwell = if s.gov.c = 0 then min 65535 (s.gov.dwell + 10) else s.gov.dwell := by rw [happroach]
  have hup : u.rampUp = s.rampUp := by rw [State.rampUp, hmodc, State.rampUp]
  have hdown : u.rampDown = s.rampDown := by rw [State.rampDown, hmodc, State.rampDown]
  rw [hc, hsign, hlast, hpending, hdwell, hup, hdown] at hmove
  have hwatch (x : State) : (travelWatch x).gov.vT = x.gov.vT ∧ (travelWatch x).gov.c = x.gov.c ∧
    (travelWatch x).gov.dwell = x.gov.dwell ∧ (travelWatch x).gov.lastSign = x.gov.lastSign ∧
    (travelWatch x).gov.reversePending = x.gov.reversePending := ⟨rfl, rfl, rfl, rfl, rfl⟩
  obtain ⟨h1, h2, h3, h4, h5⟩ := hwatch v
  rw [h1, h2, h3, h4, h5, hmove]
  exact ⟨rfl, rfl, rfl, rfl, rfl⟩

/-- The trim of the step (R56). -/
theorem driven_trim (s : State) : s.driven.gov.trim =
    if s.driven.gov.c = 0 ∨ (s.driven.gov.chanA ≠ .inUse ∧ s.driven.gov.chanB ≠ .inUse) then 0
    else clampInt (-200) 200 (s.gov.trim + roundDiv (((s.driven.gov.c.natAbs : Int) - s.driven.gov.vAct) * s.kTrim) 1024) := by
  have hsensed := travelSense_sensed s
  have happroach := travelApproach_governor s
  have hcal : (travelApproach s).cal = s.cal := (travelApproach_sameBut s).same .cal rfl
  have hmove := travelMove_governor (travelApproach s).signedTarget (travelApproach s)
  have htrim := travelMove_trim (travelApproach s).signedTarget (travelApproach s)
  unfold State.driven travelDrive
  generalize travelMove (travelApproach s).signedTarget (travelApproach s) = v at hmove htrim ⊢
  generalize travelSense s = w at *
  generalize travelApproach s = u at *
  have hkept : v.gov.chanA = u.gov.chanA ∧ v.gov.chanB = u.gov.chanB ∧ v.gov.vAct = u.gov.vAct := by
    rw [hmove]
    exact ⟨rfl, rfl, rfl⟩
  obtain ⟨hchanA, hchanB, hspeed⟩ := hkept
  have hold : u.gov.trim = s.gov.trim := by rw [happroach, hsensed]; rfl
  have hktrim : u.kTrim = s.kTrim := by
    unfold State.kTrim State.calWord
    rw [hcal]
  rw [← hchanA, ← hchanB, ← hspeed, hold, hktrim] at htrim
  exact htrim

/-- The two timers of stage 7 (R58, R59). -/
theorem driven_watch (s : State) :
    s.driven.gov.overspeed =
      timerFollow 1000 10 (decide (overspeedThreshold s.driven.gov.c < s.driven.gov.vAct)) s.gov.overspeed ∧
    s.driven.gov.operator = timerFollow 1000 10
      (!s.input .operator && decide (s.driven.gov.c ≠ 0 ∨ s.modc.mode = .engaging ∨ s.modc.mode = .sweeping)) s.gov.operator := by
  have hsensed := travelSense_sensed s
  have happroach := travelApproach_governor s
  have hmove := travelMove_governor (travelApproach s).signedTarget (travelApproach s)
  have hmodc : (travelDrive s).modc = s.modc :=
    ((travelMove_sameBut _ _).same .modc rfl).trans ((travelApproach_sameBut s).same .modc rfl)
  have hinput : (travelDrive s).input .operator = s.input .operator := by
    obtain ⟨-, -, -, -, -, -, -, hinputs⟩ := travelMove_keeps (travelApproach s).signedTarget (travelApproach s)
    have htma : (travelApproach s).tma = s.tma := (travelApproach_sameBut s).same .tma rfl
    exact State.input_congr (hinputs.trans (by rw [htma])) _
  unfold State.driven
  unfold travelDrive at hmodc hinput ⊢
  generalize travelMove (travelApproach s).signedTarget (travelApproach s) = v at *
  generalize travelSense s = w at *
  generalize travelApproach s = u at *
  have hover : v.gov.overspeed = s.gov.overspeed := by rw [hmove, happroach, hsensed]; rfl
  have hoperator : v.gov.operator = s.gov.operator := by rw [hmove, happroach, hsensed]; rfl
  have hholds : v.operatorHolds =
      (!s.input .operator && decide (v.gov.c ≠ 0 ∨ s.modc.mode = .engaging ∨ s.modc.mode = .sweeping)) := by
    simp only [State.operatorHolds, hinput, hmodc, Bool.decide_or, Bool.or_assoc]
  have hwatch : (travelWatch v).gov.operator = timerFollow 1000 10 v.operatorHolds v.gov.operator := rfl
  have hc : (travelWatch v).gov.c = v.gov.c := rfl
  refine ⟨?_, ?_⟩
  · rw [← hover]
    rfl
  · rw [hwatch, hholds, hoperator, hc]

end Sys2Proof.Machine

namespace Sys2Proof.Machine

/-! ### Stages 7 and 8 of the travel step, and the reactions after them (R45, R48, R49, R60) -/

/-- A move that ends no order and writes words of the fault area alone. -/
structure FaultAreaOnly (s t : State) : Prop where
  orders : t.orders = s.orders
  words : WordsKept faultBase 35 s t
  done : t.port.pendingSet.getLsbD 0 = s.port.pendingSet.getLsbD 0
  clock : t.tma.clock = s.tma.clock
  wf : s.xmemWf → t.xmemWf

theorem FaultAreaOnly.of_same {s t : State} (h : s.SameForOrders t) : FaultAreaOnly s t :=
  ⟨h.orders, .of_xmem h.xmem, h.done, h.clock, xmemWf_congr h.xmem⟩

theorem FaultAreaOnly.trans {s t u : State} (h : FaultAreaOnly s t) (htu : FaultAreaOnly t u) : FaultAreaOnly s u :=
  ⟨htu.orders.trans h.orders, h.words.trans htu.words, htu.done.trans h.done, htu.clock.trans h.clock, htu.wf ∘ h.wf⟩

/-- Such a move has ended none of the orders. -/
theorem FaultAreaOnly.ends {s t : State} (h : FaultAreaOnly s t) : Ends (fun _ => none) faultWord s t where
  entries := by simp [h.orders]
  cursor := by rw [h.orders]
  stall := by simp [h.orders]
  orphans := by simp [h.orders, addOrphans]
  done := by rw [h.done, List.any_eq_false.mpr fun _ _ => by simp, Bool.or_false]
  slots := fun _ _ _ _ hends => absurd hends (by simp)
  words := fun a _ hnot => h.words a (by unfold faultWord at hnot; omega)
  clock := h.clock
  wf := h.wf

theorem takeReport_faultArea (r : Report) (s : State) : FaultAreaOnly s (takeReport r s) := by
  refine ⟨by simp, takeReport_wordsKept r s, ?_, by simp, (takeReport_opensNone r s).wf⟩
  have hdone := (takeReport_ends r s).done
  rwa [List.any_eq_false.mpr fun _ _ => by simp, Bool.or_false] at hdone

theorem takeReports_faultArea (rs : List Report) (s : State) : FaultAreaOnly s (takeReports rs s) := by
  induction rs generalizing s with
  | nil => exact .of_same ⟨rfl, rfl, rfl, rfl⟩
  | cons r rs ih => exact (takeReport_faultArea r s).trans (ih _)

theorem endIf_faultArea (b : Bool) (k : FaultKind) (s : State) : FaultAreaOnly s (endIf b k s) :=
  ⟨by simp, (endIf_wordsKept b k s).mono (by decide) (by decide), by simp, by simp, (endIf_opensNone b k s).wf⟩

theorem travelSupervise_faultArea (g0 : Governor) (s : State) : FaultAreaOnly s (travelSupervise g0 s) :=
  ((((takeReports_faultArea _ _).trans (endIf_faultArea _ _ _)).trans (endIf_faultArea _ _ _)).trans (endIf_faultArea _ _ _)).trans
    (endIf_faultArea _ _ _)

/-- Reports reach the fault unit, its words and its causes (R118 to R121). -/
theorem takeReports_sameBut (rs : List Report) (s : State) : SameBut [.xmem, .port, .faults] s (takeReports rs s) := by
  induction rs generalizing s with
  | nil => exact .refl _ s
  | cons r rs ih => exact (takeReport_sameBut r s).trans (ih _)

/-- Stage 7 reaches the fault unit, its words and its causes (R60, R45). -/
theorem travelSupervise_sameBut (g0 : Governor) (s : State) : SameBut [.xmem, .port, .faults] s (travelSupervise g0 s) := by
  have hend (b : Bool) (k : FaultKind) (u : State) : SameBut [.xmem, .port, .faults] u (endIf b k u) :=
    (endIf_kept b k u).2.mono (by simp)
  exact (((((takeReports_sameBut _ _).trans (hend _ _ _)).trans (hend _ _ _)).trans (hend _ _ _)).trans (hend _ _ _))

/-- With nothing to report stage 7 moves the active set and its word alone (R45, R121). -/
theorem travelSupervise_unreported {g0 : Governor} {s : State} (h : travelReports g0 s = []) :
    (travelSupervise g0 s).port = s.port ∧ WordsKept (faultBase + 33) 1 s (travelSupervise g0 s) ∧
    (travelSupervise g0 s).faults = { s.faults with active := (travelSupervise g0 s).faults.active } := by
  have hport (b : Bool) (k : FaultKind) (u : State) := (endIf_kept b k u).1
  unfold travelSupervise
  rw [h]
  refine ⟨?_, ?_, ?_⟩
  · simp only [travelEnds, hport]
    rfl
  · exact (((endIf_wordsKept _ _ _).trans (endIf_wordsKept _ _ _)).trans (endIf_wordsKept _ _ _)).trans (endIf_wordsKept _ _ _)
  · exact (((endIf_activeOnly _ _ _).trans (endIf_activeOnly _ _ _)).trans (endIf_activeOnly _ _ _)).trans (endIf_activeOnly _ _ _)

/-- The kinds active after stage 7 (R45, R58 to R60). -/
theorem travelSupervise_isActive (g0 : Governor) (s : State) (k : FaultKind) : (travelSupervise g0 s).isActive k =
    ((s.isActive k || ((travelReports g0 s).any fun r => decide (k = r.kind))) &&
      !((!timerReached 1000 g0.silence s.gov.silence &&
        (decide (s.gov.chanA = .inUse) || decide (s.gov.chanB = .inUse) || decide (s.gov.c = 0))) && decide (k = .wheelSensorsLost)) &&
      !(s.input .operator && decide (k = .operatorAbsent)) && !(!s.overspeedHolds && decide (k = .overspeed)) &&
      !(s.gov.disagreeOver && decide (k = .wheelSensorDisagree))) := by
  simp only [travelSupervise, travelEnds, endIf_isActive, takeReports_isActive]

end Sys2Proof.Machine

namespace Sys2Proof.Machine

/-! ### Stage 8: the governor's waiting order (R48, R49) -/

/-- The waiting order as it waits on after a travel step: a SET_PACE with its arrival timer moved (R48). -/
def waitedOn (t : State) (target : Int) (w : TravelWait) : TravelWait :=
  if w.kind = .setPace then { w with arrival := arrivalAfter t target w } else w

/-- The results of stage 8 are judged on the governor and the clock (R48, R49). -/
theorem travelWaitEnd_congr {s s' t t' : State} (hclock : s'.tma.clock = s.tma.clock) (hvT : t'.gov.vT = t.gov.vT)
    (hspeed : t'.gov.vAct = t.gov.vAct) (hlimiter : t'.gov.limiter = t.gov.limiter) (hc : t'.gov.c = t.gov.c) (target : Int)
    (w : TravelWait) : travelWaitEnd s' t' target w = travelWaitEnd s t target w ∧ arrivalAfter t' target w = arrivalAfter t target w := by
  have harrival : arrivalAfter t' target w = arrivalAfter t target w := by simp only [arrivalAfter, hvT, hspeed]
  refine ⟨?_, harrival⟩
  have hsince : s'.since w.takeTime = s.since w.takeTime := by rw [State.since, hclock, State.since]
  unfold travelWaitEnd
  rw [harrival, hsince, hspeed, hlimiter, hc]

/-- A waiting order that ends at stage 8. -/
theorem travelWaiting_of_end {s : State} {target : Int} {w : TravelWait} {r : Result} {d : Nat} (hw : s.gov.waiting = some w)
    (h : travelWaitEnd s s target w = some (r, d)) : travelWaiting target s = endTravelWait r d s := by
  have hstill : s.standstill = true ↔ s.gov.c = 0 ∧ s.gov.vAct = 0 := by simp [State.standstill]
  unfold travelWaitEnd at h
  unfold travelWaiting
  rw [hw]
  dsimp only
  cases hkind : w.kind
  · rw [hkind] at h
    dsimp only at h ⊢
    unfold paceTest
    split at h
    next hdue =>
      refine (if_pos hdue).trans ?_
      unfold arrive
      split at h
      next hcount =>
        obtain ⟨rfl, rfl⟩ := Prod.mk.inj (Option.some.inj h)
        exact if_pos hcount
      next hcount =>
        obtain ⟨rfl, rfl⟩ := Prod.mk.inj (Option.some.inj h)
        exact if_neg hcount
    next hdue =>
      refine (if_neg hdue).trans ?_
      split at h
      next hlate =>
        obtain ⟨rfl, rfl⟩ := Prod.mk.inj (Option.some.inj h)
        exact if_pos hlate
      next => exact nomatch h
  · rw [hkind] at h
    dsimp only at h ⊢
    unfold stopTest
    split at h
    next hstands =>
      obtain ⟨rfl, rfl⟩ := Prod.mk.inj (Option.some.inj h)
      exact if_pos (hstill.mpr hstands)
    next hstands =>
      refine (if_neg fun hs => hstands (hstill.mp hs)).trans ?_
      split at h
      next hlate =>
        obtain ⟨rfl, rfl⟩ := Prod.mk.inj (Option.some.inj h)
        exact if_pos hlate
      next => exact nomatch h

/-- A waiting order that waits on through stage 8. -/
theorem travelWaiting_of_wait {s : State} {target : Int} {w : TravelWait} (hw : s.gov.waiting = some w)
    (h : travelWaitEnd s s target w = none) : travelWaiting target s = setTravelWait (some (waitedOn s target w)) s := by
  have hstill : s.standstill = true ↔ s.gov.c = 0 ∧ s.gov.vAct = 0 := by simp [State.standstill]
  unfold travelWaitEnd at h
  unfold travelWaiting waitedOn
  rw [hw]
  dsimp only
  cases hkind : w.kind
  · rw [hkind] at h
    dsimp only at h ⊢
    unfold paceTest
    split at h
    next => exact nomatch h
    next hdue =>
      split at h
      next => exact nomatch h
      next hlate =>
        refine (if_neg hdue).trans ((if_neg hlate).trans ?_)
        rw [if_pos rfl, ← hkind]
        rfl
  · rw [hkind] at h
    dsimp only at h ⊢
    unfold stopTest
    split at h
    next => exact nomatch h
    next hstands =>
      split at h
      next => exact nomatch h
      next hlate =>
        refine (if_neg fun hs => hstands (hstill.mp hs)).trans ((if_neg hlate).trans ?_)
        rw [if_neg nofun, setTravelWait, ← hw]
        exact (State.setGov_self s).symm

theorem travelWaiting_of_none {s : State} (target : Int) (hw : s.gov.waiting = none) : travelWaiting target s = s := by
  rw [travelWaiting, hw]

/-- What stage 8 leaves waiting (R48, R49). -/
theorem travelWaiting_gov (target : Int) (s : State) : (travelWaiting target s).gov = { s.gov with
    waiting := s.gov.waiting.bind fun w =>
      if (travelWaitEnd s s target w).isSome then none else some (waitedOn s target w) } := by
  cases hw : s.gov.waiting with
  | none =>
    rw [travelWaiting_of_none target hw, Option.bind_none, ← hw]
  | some w =>
    rw [Option.bind_some]
    cases hend : travelWaitEnd s s target w with
    | none =>
      rw [travelWaiting_of_wait hw hend]
      rfl
    | some x =>
      rw [travelWaiting_of_end hw hend, (endTravelWait_taken hw x.1 x.2).2.1]
      rfl

/-- How stage 8 ends an open order. -/
def stageEnd (s t : State) (target : Int) (e : Entry) : Option (Result × Nat) :=
  if e.target = .travel then
    s.gov.waiting.bind fun w => if w.slot = e.slot ∧ w.takeTime = e.takeTime then travelWaitEnd s t target w else none
  else none

/-- The orders after stage 8 (R48, R49, R149). -/
theorem travelWaiting_ends (target : Int) {s : State} (hinv : s.ordersInv) (hwf : s.xmemWf) :
    Ends (stageEnd s s target) noWord s (travelWaiting target s) := by
  have hsame (w : Option TravelWait) : s.SameForOrders (setTravelWait w s) := ⟨rfl, rfl, rfl, rfl⟩
  have hstay (u : State) (hu : s.SameForOrders u) (hnone : ∀ e, stageEnd s s target e = none) :
      Ends (stageEnd s s target) noWord s u := (Ends.of_same hu).congr fun e _ => (hnone e).symm
  cases hw : s.gov.waiting with
  | none =>
    rw [travelWaiting_of_none target hw]
    refine hstay _ ⟨rfl, rfl, rfl, rfl⟩ fun e => ?_
    rw [stageEnd, hw]
    split <;> rfl
  | some w =>
    cases hend : travelWaitEnd s s target w with
    | none =>
      rw [travelWaiting_of_wait hw hend]
      refine hstay _ (hsame _) fun e => ?_
      rw [stageEnd, hw, Option.bind_some, hend]
      split_ifs <;> rfl
    | some x =>
      have hnotice : travelWaiting target s =
          completionNotice .travel w.slot w.takeTime x.1 x.2 (setTravelWait none s) := by
        rw [travelWaiting_of_end hw hend]
        unfold endTravelWait
        rw [hw]
      rw [hnotice]
      refine (completionNotice_endsAfter (hsame none) .travel w.slot w.takeTime x.1 x.2 hinv hwf).congr fun e _ => ?_
      rw [stageEnd, hw, Option.bind_some, hend]
      by_cases htarget : e.target = .travel
      · rw [if_pos htarget]
        by_cases hentry : w.slot = e.slot ∧ w.takeTime = e.takeTime
        · rw [if_pos hentry, if_pos (Entry.answers_iff.mpr ⟨htarget, hentry.1.symm, hentry.2.symm⟩)]
        · rw [if_neg hentry, if_neg fun h => ?_]
          obtain ⟨-, hslot, htime⟩ := Entry.answers_iff.mp h
          exact hentry ⟨hslot.symm, htime.symm⟩
      · rw [if_neg htarget, if_neg fun h => htarget (Entry.answers_iff.mp h).1]

/-- Stage 8 raises ORDER_DONE at most (R149). -/
theorem travelWaiting_portDone (target : Int) (s : State) : PortDone s (travelWaiting target s) := by
  cases hw : s.gov.waiting with
  | none =>
    rw [travelWaiting_of_none target hw]
    exact .of_same rfl
  | some w =>
    cases hend : travelWaitEnd s s target w with
    | none =>
      rw [travelWaiting_of_wait hw hend]
      exact PortDone.of_same (s := s) (t := setTravelWait _ s) rfl
    | some x =>
      rw [travelWaiting_of_end hw hend]
      unfold endTravelWait
      rw [hw]
      exact completionNotice_portAfter (s := s) (u := setTravelWait none s) rfl _ _ _ _ _

/-! ### The reactions to a travel step's reports (R4, R60, R124) -/

/-- A second stopping kind that asks no more than the first adds nothing (R4). -/
theorem enterSafe_again {k k' : FaultKind} {halt halt' : Bool} (h : halt' = true → halt = true) (s : State) :
    enterSafe k' halt' (enterSafe k halt s) = enterSafe k halt s := by
  have hself (v : State) (hmode : v.modc.mode = .safe) (hlatch : halt' = true → v.modc.haltLatch = true) :
      enterSafe k' halt' v = v := by
    have hkept : (v.modc.haltLatch || halt') = v.modc.haltLatch := by
      cases halt'
      · exact Bool.or_false _
      · rw [hlatch rfl]
        rfl
    rw [enterSafe_of_rest (by simp [State.atWork, hmode]), if_pos hmode, hkept]
    exact State.setModc_self v
  by_cases hwork : s.atWork
  · have hmodc := (enterSafe_enters hwork k halt).1.1
    exact hself _ (by rw [hmodc]) fun hh => by rw [hmodc, h hh]; exact Bool.or_true _
  · rw [enterSafe_of_rest hwork]
    split
    next hmode => exact hself _ hmode fun hh => by simp [h hh]
    next hmode =>
      rw [enterSafe_of_rest hwork, if_neg hmode]

theorem reactAll_append (xs ys : List Report) (s : State) : reactAll (xs ++ ys) s = reactAll ys (reactAll xs s) := by
  induction xs generalizing s with
  | nil => rfl
  | cons r rs ih => exact ih _

theorem reactAll_reportIf (b : Bool) (r : Report) (s : State) : reactAll (reportIf b r) s = if b then react r s else s := by
  cases b <;> rfl

/-- The reactions to a travel step's reports are those to the first stopping kind among them, with the halt latch if any asks it (R4, R60). -/
theorem reactAll_travelReports {s t : State} (d v : State) (hd : d.gov.silence = t.gov.silence ∧ d.gov.operator = t.gov.operator ∧
    d.gov.overspeed = t.gov.overspeed) : reactAll (travelReports s.gov d) v =
      (firstStop s t).elim v fun k => enterSafe k (haltsTravel s t) v := by
  obtain ⟨hsilence, hoperator, hoverspeed⟩ := hd
  have hsilent (u : State) : react wheelsLostReport u = enterSafe .wheelSensorsLost true u :=
    react_of_stop (r := wheelsLostReport) (halt := true) rfl u
  have hunmanned (u : State) : react operatorReport u = enterSafe .operatorAbsent true u :=
    react_of_stop (r := operatorReport) (halt := true) rfl u
  have hfast (n : Nat) (u : State) : react (overspeedReport n) u = enterSafe .overspeed false u :=
    react_of_stop (r := overspeedReport n) (halt := false) rfl u
  have hdisagree (u : State) : react disagreeReport u = u := react_of_note (.inr rfl) u
  have hloss (w : Wheel) (u : State) : react (lossReport w) u = u := react_of_note (.inr rfl) u
  simp only [travelReports, reactAll_append, reactAll_reportIf, hdisagree, hloss, ite_self, hsilent, hunmanned, hfast, hsilence,
    hoperator, hoverspeed]
  unfold firstStop haltsTravel
  cases timerReached 1000 s.gov.silence t.gov.silence <;> cases timerReached 1000 s.gov.operator t.gov.operator <;>
    cases timerReached 1000 s.gov.overspeed t.gov.overspeed <;> simp [enterSafe_again]

end Sys2Proof.Machine

namespace Sys2Proof.Machine

/-! ### The travel step as a whole (R39) -/

/-- The state that the travel step leaves before its reactions: driven, its reports taken, the waiting order judged. -/
@[irreducible] def State.waited (s : State) : State :=
  travelWaiting s.steered (travelSupervise s.gov s.driven)

theorem firstStop_congr {s t t' : State} (h : t'.gov.silence = t.gov.silence ∧ t'.gov.operator = t.gov.operator ∧
    t'.gov.overspeed = t.gov.overspeed) : firstStop s t' = firstStop s t ∧ haltsTravel s t' = haltsTravel s t := by
  obtain ⟨hsilence, hoperator, hoverspeed⟩ := h
  unfold firstStop haltsTravel
  rw [hsilence, hoperator, hoverspeed]
  exact ⟨rfl, rfl⟩

/-- The reactions follow after stage 8 (R60). -/
theorem travelStep_eq (s : State) : travelStep s =
    (firstStop s s.driven).elim s.waited fun k => enterSafe k (haltsTravel s s.driven) s.waited := by
  have hstep : travelStep s = reactAll (travelReports s.gov s.driven) s.waited := by
    unfold State.waited State.driven State.steered
    rfl
  rw [hstep, reactAll_travelReports s.driven s.waited ⟨rfl, rfl, rfl⟩]

/-- Stage 8 on a state with a driven governor and the clock before the step (R48, R49). -/
theorem travelWaiting_gov_driven {s u d : State} (hgov : u.gov = d.gov) (hclock : u.tma.clock = s.tma.clock)
    (hwait : d.gov.waiting = s.gov.waiting) (target : Int) : (travelWaiting target u).gov = { d.gov with
      waiting := s.gov.waiting.bind fun w =>
        if (travelWaitEnd s d target w).isSome then none else some (waitedOn d target w) } := by
  have hends (w : TravelWait) : travelWaitEnd u u target w = travelWaitEnd s d target w ∧ waitedOn u target w = waitedOn d target w := by
    obtain ⟨hend, harrival⟩ := travelWaitEnd_congr (s := s) (s' := u) (t := d) (t' := u) hclock (by rw [hgov]) (by rw [hgov])
      (by rw [hgov]) (by rw [hgov]) target w
    exact ⟨hend, by rw [waitedOn, harrival, waitedOn]⟩
  rw [travelWaiting_gov, hgov, hwait]
  simp only [hends]

/-- The orders after stage 8 on such a state, the fault area written before it (R48, R49, R149). -/
theorem travelWaiting_ends_driven {s u d : State} (harea : FaultAreaOnly s u) (hgov : u.gov = d.gov)
    (hwait : d.gov.waiting = s.gov.waiting) (target : Int) (hinv : s.ordersInv) (hwf : s.xmemWf) :
    Ends (stageEnd s d target) faultWord s (travelWaiting target u) := by
  have hends := travelWaiting_ends target (harea.ends.ordersInv hinv) (harea.wf hwf)
  refine ((harea.ends.comp hends hinv (fun a h => ?_) fun _ h => h.elim).mono fun _ h => h.elim id False.elim).congr fun e _ => ?_
  · have hbase : faultBase = 1792 := rfl
    unfold faultWord at h
    omega
  · have hend (w : TravelWait) : travelWaitEnd u u target w = travelWaitEnd s d target w :=
      (travelWaitEnd_congr harea.clock (by rw [hgov]) (by rw [hgov]) (by rw [hgov]) (by rw [hgov]) target w).1
    simp only [Option.none_or, stageEnd, hgov, hwait, hend]

/-- The governor before the reactions: driven, with what stage 8 leaves waiting. -/
theorem waited_gov (s : State) : s.waited.gov = { s.driven.gov with
    waiting := s.gov.waiting.bind fun w =>
      if (travelWaitEnd s s.driven s.steered w).isSome then none else some (waitedOn s.driven s.steered w) } := by
  have hclock : s.driven.tma.clock = s.tma.clock := by rw [(driven_frame s).2]
  unfold State.waited
  exact travelWaiting_gov_driven (travelSupervise_gov _ _) ((travelSupervise_faultArea _ _).clock.trans hclock) (driven_sensing s).2.2.2 _

/-- The reach of the step before its reactions. -/
theorem waited_frame (s : State) : SameBut [.xmem, .port, .orders, .gov, .faults, .tma] s s.waited ∧ s.waited.tma = s.driven.tma ∧
    s.waited.faults = (travelSupervise s.gov s.driven).faults ∧ PortDone (travelSupervise s.gov s.driven) s.waited := by
  have hwait := travelWaiting_sameBut s.steered (travelSupervise s.gov s.driven)
  have hsup := travelSupervise_sameBut s.gov s.driven
  have hdriven := (driven_frame s).1
  have hport := travelWaiting_portDone s.steered (travelSupervise s.gov s.driven)
  unfold State.waited
  refine ⟨?_, ?_, hwait.same .faults (by decide), hport⟩
  · exact ((hdriven.mono (by simp)).trans (hsup.mono (by simp))).trans (hwait.mono (by simp))
  · exact (hwait.same .tma (by decide)).trans (hsup.same .tma (by decide))

theorem driven_sameForOrders (s : State) : s.SameForOrders s.driven := by
  obtain ⟨hframe, htma⟩ := driven_frame s
  have hport : s.driven.port = s.port := hframe.same .port (by decide)
  exact ⟨hframe.same .xmem (by decide), hframe.same .orders (by decide), by rw [htma], by rw [hport]⟩

/-- The orders before the reactions (R48, R49, R149). -/
theorem waited_ends {s : State} (hinv : s.ordersInv) (hwf : s.xmemWf) :
    Ends (stageEnd s s.driven s.steered) faultWord s s.waited := by
  have harea : FaultAreaOnly s (travelSupervise s.gov s.driven) :=
    (FaultAreaOnly.of_same (driven_sameForOrders s)).trans (travelSupervise_faultArea s.gov s.driven)
  unfold State.waited
  exact travelWaiting_ends_driven harea (travelSupervise_gov _ _) (driven_sensing s).2.2.2 _ hinv hwf

/-- A step that enters SAFE by its own reports (R4, R60). -/
def State.stopsWork (s : State) : Prop := s.atWork ∧ firstStop s s.driven ≠ none

/-- A step that does not enter SAFE leaves what stage 8 left, but for the halt latch (R4). -/
theorem travelStep_of_calm {s : State} (h : ¬s.stopsWork) : SameBut [.modc] s.waited (travelStep s) ∧
    (travelStep s).modc = (if s.modc.mode = .safe ∧ firstStop s s.driven ≠ none then
      { s.modc with haltLatch := s.modc.haltLatch || haltsTravel s s.driven } else s.modc) := by
  have hmodc : s.waited.modc = s.modc := (waited_frame s).1.same .modc (by decide)
  rw [travelStep_eq]
  unfold State.stopsWork at h
  cases hstop : firstStop s s.driven with
  | none => exact ⟨.refl _ _, by simpa using hmodc⟩
  | some k =>
    have hrest : ¬s.waited.atWork := fun hwork => h ⟨by unfold State.atWork at hwork ⊢; rwa [hmodc] at hwork, by rw [hstop]; nofun⟩
    have helim : (some k).elim s.waited (fun k => enterSafe k (haltsTravel s s.driven) s.waited) =
        enterSafe k (haltsTravel s s.driven) s.waited := rfl
    rw [helim, enterSafe_of_rest hrest, hmodc]
    by_cases hmode : s.modc.mode = .safe
    · rw [if_pos hmode, if_pos ⟨hmode, nofun⟩]
      exact ⟨setModc_sameBut _ _, rfl⟩
    · rw [if_neg hmode, if_neg fun hsafe => hmode hsafe.1]
      exact ⟨.refl _ _, hmodc⟩

/-- A step that enters SAFE (R4, R60). -/
theorem travelStep_of_stop {s : State} (h : s.stopsWork) : ∃ k, firstStop s s.driven = some k ∧ s.waited.atWork ∧
    travelStep s = enterSafe k (haltsTravel s s.driven) s.waited := by
  obtain ⟨hwork, hstop⟩ := h
  obtain ⟨k, hk⟩ := Option.ne_none_iff_exists'.mp hstop
  have hmodc : s.waited.modc = s.modc := (waited_frame s).1.same .modc (by decide)
  refine ⟨k, hk, ?_, ?_⟩
  · unfold State.atWork at hwork ⊢
    rwa [hmodc]
  · rw [travelStep_eq, hk]
    rfl

/-- Outside an entry to SAFE the mode stands; the entry makes it SAFE for the first kind (R4). -/
theorem travelStep_mode (s : State) : (travelStep s).modc.mode ≠ s.modc.mode ↔ s.stopsWork := by
  refine ⟨fun hchanged => ?_, fun h => ?_⟩
  · by_contra hcalm
    refine hchanged ?_
    rw [(travelStep_of_calm hcalm).2]
    split <;> rfl
  · obtain ⟨k, -, hwork, hstep⟩ := travelStep_of_stop h
    rw [hstep, (enterSafe_enters hwork _ _).1.1]
    exact fun hmode => h.1.ne.2.2 hmode.symm

/-- The governor after the step: but for the request, the reverse-pending flag and the waiting order it is the driven one (R61). -/
theorem travelStep_gov (s : State) : (travelStep s).gov = { s.driven.gov with
    reqSpeed := (travelStep s).gov.reqSpeed, reqDir := (travelStep s).gov.reqDir
    reversePending := (travelStep s).gov.reversePending, waiting := (travelStep s).gov.waiting } := by
  have hgov := waited_gov s
  by_cases h : s.stopsWork
  · obtain ⟨k, -, hwork, hstep⟩ := travelStep_of_stop h
    rw [hstep, (enterSafe_enters hwork _ _).2.1, hgov]
  · have hcalm : (travelStep s).gov = s.waited.gov := (travelStep_of_calm h).1.same .gov (by decide)
    rw [hcalm, hgov]

/-- The request stands but at an entry to SAFE (R61). -/
theorem travelStep_gov_of_calm {s : State} (h : ¬s.stopsWork) : (travelStep s).gov = s.waited.gov :=
  (travelStep_of_calm h).1.same .gov (by decide)

/-- What waits on after the step (R48, R49, R61). -/
theorem travelStep_waiting (s : State) : (travelStep s).gov.waiting = s.gov.waiting.bind fun w =>
    if (travelWaitEnd s s.driven s.steered w).isSome then none
    else if w.kind = .setPace ∧ (travelStep s).modc.mode ≠ s.modc.mode then none
    else some (waitedOn s.driven s.steered w) := by
  have hgov := congrArg Governor.waiting (waited_gov s)
  have hkind (w : TravelWait) : (waitedOn s.driven s.steered w).kind = w.kind := by
    unfold waitedOn
    split <;> rfl
  have hmode := travelStep_mode s
  by_cases h : s.stopsWork
  · obtain ⟨k, -, hwork, hstep⟩ := travelStep_of_stop h
    simp only [eq_true (hmode.mpr h), and_true]
    rw [hstep, (enterSafe_enters hwork _ _).2.1, hgov]
    cases s.gov.waiting with
    | none => rfl
    | some w =>
      simp only [Option.bind_some, keptTravelWait]
      cases travelWaitEnd s s.driven s.steered w
      · cases hpace : w.kind <;> simp [Option.filter, hkind, hpace]
      · rfl
  · simp only [eq_false fun hchanged => h (hmode.mp hchanged), and_false, if_false]
    rw [travelStep_gov_of_calm h, hgov]

end Sys2Proof.Machine

namespace Sys2Proof.Machine

/-! ### The orders after the travel step (R48, R49, R149, R61, R86) -/

/-- Orders that end, as the statements say it (R149). -/
theorem endedTogether_of_ends {ends : Entry → Option (Result × Nat)} {region : Nat → Prop} {s t : State} (h : Ends ends region s t) :
    EndedTogether ends s t := by
  refine ⟨h.entries, h.cursor, ?_, fun lost hlost => ?_, ?_, fun e he r d hends htaken => h.slots e he r d hends htaken⟩
  · rw [h.stall, List.all_filter]
    congr 1
    refine List.all_congr rfl fun e => ?_
    cases ends e <;> simp
  · rw [h.orphans, hlost, ← List.countP_eq_length_filter, addOrphans]
  · rw [h.done]
    simp only [State.notifies, Bool.and_assoc]

/-- How stage 8 ends an order depends on the driven governor alone. -/
theorem stageEnd_congr {s t d : State} (hvT : t.gov.vT = d.gov.vT) (hspeed : t.gov.vAct = d.gov.vAct)
    (hlimiter : t.gov.limiter = d.gov.limiter) (hc : t.gov.c = d.gov.c) (target : Int) (e : Entry) :
    stageEnd s t target e = stageEnd s d target e := by
  have hend (w : TravelWait) : travelWaitEnd s t target w = travelWaitEnd s d target w :=
    (travelWaitEnd_congr rfl hvT hspeed hlimiter hc target w).1
  simp only [stageEnd, hend]

/-- The results of a step in two parts: those of stage 8, then those of an entry to SAFE. -/
theorem travelEntryEnd_eq (s t : State) (target : Int) (e : Entry) : travelEntryEnd s t target e =
    (stageEnd s t target e).or
      (if t.modc.mode ≠ s.modc.mode ∧ s.failsAtSafe e = true then some (.failed, t.modc.reason) else none) := by
  have hfails : s.failsAtSafe e = true ↔ (e.target = .mode ∧ (e.kind = 2 ∨ e.kind = 3)) ∨ s.failsPace e = true ∨ s.failsArm e = true := by
    simp only [State.failsAtSafe, failsMode, Bool.or_eq_true, decide_eq_true_eq, or_assoc]
  simp only [hfails]
  rfl

/-- An order that stage 8 has not ended is failed at an entry to SAFE as it would have been before the step (R61, R86). -/
theorem failsAtSafe_waited {s u d : State} {target : Int} (harmc : u.armc = s.armc) (hwaiting : u.gov.waiting = s.gov.waiting.bind fun w =>
      if (travelWaitEnd s d target w).isSome then none else some (waitedOn d target w)) {e : Entry}
    (hnone : stageEnd s d target e = none) : u.failsAtSafe e = s.failsAtSafe e := by
  have hpace : u.failsPace e = s.failsPace e := by
    unfold State.failsPace
    rw [hwaiting]
    unfold stageEnd at hnone
    cases hw : s.gov.waiting with
    | none => rfl
    | some w =>
      rw [hw, Option.bind_some] at hnone
      rw [Option.bind_some]
      cases hend : travelWaitEnd s d target w with
      | none =>
        have hkept : (waitedOn d target w).kind = w.kind ∧ (waitedOn d target w).slot = w.slot ∧
            (waitedOn d target w).takeTime = w.takeTime := by
          unfold waitedOn
          split <;> exact ⟨rfl, rfl, rfl⟩
        simp [hkept]
      | some x =>
        rw [hend] at hnone
        by_cases htravel : e.target = .travel
        · rw [if_pos htravel] at hnone
          have hother : ¬(w.slot = e.slot ∧ w.takeTime = e.takeTime) := fun hentry => by
            rw [if_pos hentry] at hnone
            exact nomatch hnone
          by_cases hslot : w.slot = e.slot
          · have htime : w.takeTime ≠ e.takeTime := fun h => hother ⟨hslot, h⟩
            simp [htime]
          · simp [hslot]
        · simp [htravel]
  have harm : u.failsArm e = s.failsArm e := by
    unfold State.failsArm
    simp only [State.arm_congr harmc]
  unfold State.failsAtSafe
  rw [hpace, harm]

/-- The orders after the step (R48, R49, R149, R4, R61, R86). -/
theorem travelStep_ends {s : State} (hinv : s.ordersInv) (hwf : s.xmemWf) :
    Ends (travelEntryEnd s (travelStep s) s.steered) faultWord s (travelStep s) := by
  have hwaited := waited_ends hinv hwf
  have hgov := travelStep_gov s
  have hstage (e : Entry) : stageEnd s (travelStep s) s.steered e = stageEnd s s.driven s.steered e :=
    stageEnd_congr (by rw [hgov]) (by rw [hgov]) (by rw [hgov]) (by rw [hgov]) _ e
  have hmode := travelStep_mode s
  by_cases h : s.stopsWork
  · obtain ⟨k, -, hwork, hstep⟩ := travelStep_of_stop h
    have hreason : (travelStep s).modc.reason = k.rank := by
      rw [hstep, (enterSafe_enters hwork _ _).1.1]
    have harmc : s.waited.armc = s.armc := (waited_frame s).1.same .armc (by decide)
    have hends := enterSafe_ends hwork k (haltsTravel s s.driven) (hwaited.ordersInv hinv) (hwaited.wf hwf)
    rw [← hstep] at hends
    have hchanged := hmode.mpr h
    clear hstep hmode
    generalize travelStep s = t at *
    refine ((hwaited.comp hends hinv (fun a h => ?_) fun _ h => h.elim).mono fun _ h => h.elim id False.elim).congr fun e _ => ?_
    · have hbase : faultBase = 1792 := rfl
      unfold faultWord at h
      omega
    · rw [travelEntryEnd_eq, hstage, hreason]
      cases hend : stageEnd s s.driven s.steered e with
      | some x => rw [Option.some_or, Option.some_or]
      | none =>
        rw [failedWith, failsAtSafe_waited harmc (congrArg Governor.waiting (waited_gov s)) hend]
        simp only [hchanged, not_false_eq_true, true_and, ne_eq]
  · have hframe := (travelStep_of_calm h).1
    generalize travelStep s = t at *
    have hport : t.port = s.waited.port := hframe.same .port (by decide)
    have htma : t.tma = s.waited.tma := hframe.same .tma (by decide)
    have hsame : s.waited.SameForOrders t :=
      ⟨hframe.same .xmem (by decide), hframe.same .orders (by decide), by rw [htma], by rw [hport]⟩
    have hafter : Ends (fun _ => none) noWord s.waited t := .of_same hsame
    refine ((hwaited.comp hafter hinv (fun a h => ?_) fun _ h => h.elim).mono fun _ h => h.elim id False.elim).congr fun e _ => ?_
    · have hbase : faultBase = 1792 := rfl
      unfold faultWord at h
      omega
    · rw [travelEntryEnd_eq, hstage, if_neg fun hcond => h (hmode.mp hcond.1)]

end Sys2Proof.Machine

namespace Sys2Proof.Machine

/-! ### O45: the ramp of the travel step -/

/-- The reach of the travel step (R39, R60). -/
theorem travelStep_frame (s : State) :
    SameBut [.xmem, .port, .orders, .modc, .gov, .armc, .watc, .faults, .tma] s (travelStep s) ∧ OutputsOnly s (travelStep s) := by
  obtain ⟨hframe, htma, -⟩ := waited_frame s
  have houts : OutputsOnly s s.waited := by
    unfold OutputsOnly
    rw [htma, (driven_frame s).2]
  by_cases h : s.stopsWork
  · obtain ⟨k, -, hwork, hstep⟩ := travelStep_of_stop h
    obtain ⟨hentered, -, -, hreach⟩ := enterSafe_enters hwork k (haltsTravel s s.driven)
    rw [hstep]
    exact ⟨(hframe.mono (by simp)).trans (hreach.mono (by simp)), houts.trans hentered.2.2.2.2.2.2.2.2⟩
  · have hcalm := (travelStep_of_calm h).1
    have hkept : (travelStep s).tma = s.waited.tma := hcalm.same .tma (by decide)
    exact ⟨(hframe.mono (by simp)).trans (hcalm.mono (by simp)), houts.trans (.of_same hkept)⟩

/-- With no order waiting and the mode as it was, the step ends no order (R48 to R50). -/
theorem travelStep_unwaited {s : State} (hwaiting : s.gov.waiting = none) (hmode : (travelStep s).modc.mode = s.modc.mode) :
    (travelStep s).orders = s.orders ∧ WordsKept faultBase 35 s (travelStep s) := by
  have hcalm : ¬s.stopsWork := fun h => (travelStep_mode s).mpr h hmode
  have hframe := (travelStep_of_calm hcalm).1
  have hsup : s.waited = travelSupervise s.gov s.driven := by
    unfold State.waited
    exact travelWaiting_of_none _ (by rw [travelSupervise_gov, (driven_sensing s).2.2.2, hwaiting])
  have harea : FaultAreaOnly s s.waited := by
    rw [hsup]
    exact (FaultAreaOnly.of_same (driven_sameForOrders s)).trans (travelSupervise_faultArea s.gov s.driven)
  have horders : (travelStep s).orders = s.waited.orders := hframe.same .orders (by decide)
  exact ⟨horders.trans harea.orders, harea.words.trans (.of_xmem (hframe.same .xmem (by decide)))⟩

/-- The reverse-pending flag of a step that leaves the mode as it was (R54). -/
theorem travelStep_reversePending {s : State} (hmode : (travelStep s).modc.mode = s.modc.mode) :
    (travelStep s).gov.reversePending =
      if s.driven.gov.c = 0 ∧ s.sign = .negative then true
      else if s.driven.gov.c < 0 ∨ s.sign ≠ .negative then false
      else s.gov.reversePending := by
  have hcalm : ¬s.stopsWork := fun h => (travelStep_mode s).mpr h hmode
  rw [travelStep_gov_of_calm hcalm, waited_gov, (driven_command s).2.2.2.2]
  unfold nextReversePending
  by_cases hzero : s.driven.gov.c = 0 ∧ s.sign = .negative
  · rw [if_pos hzero, if_pos hzero]
  · rw [if_neg hzero, if_neg hzero]
    by_cases hback : s.driven.gov.c < 0
    · rw [if_pos hback, if_pos (.inl hback)]
    · rw [if_neg hback]
      by_cases hsign : s.sign = .negative <;> simp [hsign, hback]

/-- Settles O45. -/
theorem travelStepRampsTowardTheTarget : Obligations.TravelStepRampsTowardTheTarget := by
  intro s hrun
  have hgov := travelStep_gov s
  obtain ⟨hvT, hc, hdwell, hlast, -⟩ := driven_command s
  have htarget := steered_eq s
  have hpending := travelStep_reversePending (s := s)
  have hwaiting := travelStep_waiting s
  have hends := travelStep_ends (s := s)
  have hunwaited := travelStep_unwaited (s := s)
  obtain ⟨hframe, houts⟩ := travelStep_frame s
  refine ⟨travelStep s, s.steered, _, exec_travelStep hrun, ?_, rfl, ?_⟩
  · rw [hgov, htarget, hvT]
  generalize travelStep s = t at *
  have htc : t.gov.c = s.driven.gov.c := by rw [hgov]
  have htdwell : t.gov.dwell = s.driven.gov.dwell := by rw [hgov]
  have htlast : t.gov.lastSign = s.driven.gov.lastSign := by rw [hgov]
  have hjudged (w : TravelWait) : travelWaitEnd s t s.steered w = travelWaitEnd s s.driven s.steered w ∧
      arrivalAfter t s.steered w = arrivalAfter s.driven s.steered w :=
    travelWaitEnd_congr rfl (by rw [hgov]) (by rw [hgov]) (by rw [hgov]) (by rw [hgov]) _ w
  rw [htc, htdwell, htlast, hdwell, hlast]
  refine ⟨fun hnear => ?_, fun hfar => ?_, fun hmoves hstops => ?_, fun hmoves hruns => ?_, fun hstands => ?_, hpending, ?_,
    fun hinv hwf => ?_, hunwaited, hframe, houts⟩
  · rw [hc]
    exact if_pos hnear
  · rw [hc]
    exact if_neg (Nat.not_le.mpr hfar)
  · rw [if_pos ⟨hmoves, hstops⟩, if_pos ⟨hmoves, hstops⟩]
    exact ⟨rfl, rfl⟩
  · simp [hmoves, hruns]
  · simp [hstands]
  · rw [hwaiting]
    simp only [hjudged]
    congr 1
    funext w
    cases travelWaitEnd s s.driven s.steered w with
    | some x => rfl
    | none =>
      unfold waitedOn
      cases w.kind
      · by_cases hmode : t.modc.mode = s.modc.mode <;> simp [hmode]
      · simp
  · have hended := hends hinv hwf
    exact ⟨endedTogether_of_ends hended, fun a hout ha => hended.words a hout (by unfold faultWord; omega)⟩

end Sys2Proof.Machine

namespace Sys2Proof.Machine

/-! ### O46: what the travel step measures, drives and reports -/

/-! #### The travel outputs -/

/-- The two travel outputs, their periods included. -/
def State.travelPwm (s : State) : Pwm × Pwm := (s.tma.outputs.travelFwd, s.tma.outputs.travelRev)

theorem State.travelPwm_congr {s t : State} (h : t.tma.outputs = s.tma.outputs) : t.travelPwm = s.travelPwm := by
  rw [State.travelPwm, h, State.travelPwm]

theorem handArmsOff_travelPwm (s : State) : (handArmsOff s).travelPwm = s.travelPwm := by
  have hhand (a : Arm) (u : State) : (handRecord a 0 u).travelPwm = u.travelPwm := by cases a <;> rfl
  simp only [handArmsOff, hhand]

/-- A change of mode leaves the travel outputs (R2). -/
theorem changeMode_travelPwm (new : Mode) (reason : Nat) (s : State) : (changeMode new reason s).travelPwm = s.travelPwm := by
  have hcause (c : Cause) (u : State) : (raiseCause c u).travelPwm = u.travelPwm := rfl
  have hmap (f : Arm → ArmRecord → ArmRecord) (u : State) : (mapArms f u).travelPwm = u.travelPwm := rfl
  have hderived (prev : Mode) (u : State) : (derivedArms prev new u).travelPwm = u.travelPwm := by
    unfold derivedArms deriveArms
    split
    · rw [handArmsOff_travelPwm, hmap]
    · rfl
  have hends (k l : FaultKind) (u : State) : (armConditionEnd k (armConditionEnd l u)).travelPwm = u.travelPwm :=
    State.travelPwm_congr (by simp)
  have hmoved (u : State) : (movedArms new u).travelPwm = u.travelPwm := by
    unfold movedArms
    split <;> simp only [handArmsOff_travelPwm, hmap, hends]
  have hwait (a : Arm) (u : State) : (noticeWaiting new a u).travelPwm = u.travelPwm := State.travelPwm_congr (by simp)
  have hwater (u : State) : (waterNotice new u).travelPwm = u.travelPwm := by cases new <;> rfl
  have hload (u : State) : (loadNotice new u).travelPwm = u.travelPwm := State.travelPwm_congr (by simp)
  have hgov (u : State) : (govNotice new u).travelPwm = u.travelPwm := State.travelPwm_congr (by simp)
  rw [changeMode_eq, hcause, sendNotices, hload, hwater, armNotice_eq]
  simp only [hwait, hmoved, hderived, hgov, State.travelPwm_congr (modeEntered_outputs new reason s)]

/-- So does an entry to SAFE (R4). -/
theorem enterSafe_travelPwm (k : FaultKind) (halt : Bool) (s : State) : (enterSafe k halt s).travelPwm = s.travelPwm := by
  have hlatch (u : State) (m : ModeControl) : (u.setModc m).travelPwm = u.travelPwm := rfl
  by_cases h : s.atWork
  · have hended (u : State) : (completeMode [2, 3] .failed k.rank u).travelPwm = u.travelPwm := State.travelPwm_congr (by simp)
    rw [enterSafe_eq h, hended, safeEntered, hlatch, changeMode_travelPwm]
  · rw [enterSafe_of_rest h]
    split
    · exact hlatch _ _
    · rfl

/-- The travel outputs after the step are those the driven state hands (R57). -/
theorem travelStep_travelPwm (s : State) : (travelStep s).travelPwm = s.driven.travelPwm := by
  have htma : s.waited.travelPwm = s.driven.travelPwm := State.travelPwm_congr (by rw [(waited_frame s).2.1])
  by_cases h : s.stopsWork
  · obtain ⟨k, -, -, hstep⟩ := travelStep_of_stop h
    rw [hstep, enterSafe_travelPwm, htma]
  · have hkept : (travelStep s).tma = s.waited.tma := (travelStep_of_calm h).1.same .tma (by decide)
    exact (State.travelPwm_congr (s := s.waited) (by rw [hkept])).trans htma

/-! #### The wheel sensing after the step -/

/-- The wheel sensing after the step is stage 1's (R40 to R44). -/
theorem travelStep_sensing (s : State) :
    (∀ w, (travelStep s).gov.chan w = (travelSense s).gov.chan w ∧ (travelStep s).gov.loss w = (travelSense s).gov.loss w ∧
      (travelStep s).gov.readmit w = (travelSense s).gov.readmit w) ∧
    (travelStep s).gov.vAct = (travelSense s).gov.vAct ∧ (travelStep s).gov.disagree = (travelSense s).gov.disagree ∧
    (travelStep s).gov.silence = (travelSense s).gov.silence := by
  have hgov := travelStep_gov s
  have hsensing := (driven_sensing s).1
  generalize travelStep s = t at *
  generalize s.driven = d at *
  generalize travelSense s = u at *
  rw [hgov, hsensing]
  refine ⟨fun w => ?_, rfl, rfl, rfl⟩
  cases w <;> exact ⟨rfl, rfl, rfl⟩

/-- So is the driven state's. -/
theorem driven_wheels (s : State) : (∀ w, s.driven.gov.chan w = (travelSense s).gov.chan w) ∧
    s.driven.gov.vAct = (travelSense s).gov.vAct ∧ s.driven.gov.disagree = (travelSense s).gov.disagree ∧
    s.driven.gov.silence = (travelSense s).gov.silence := by
  have hsensing := (driven_sensing s).1
  generalize s.driven = d at *
  generalize travelSense s = u at *
  rw [hsensing]
  refine ⟨fun w => ?_, rfl, rfl, rfl⟩
  cases w <;> rfl

/-! #### The governor's conditions after the step (R45, R58, R59) -/

/-- The reactions leave the active set of stage 7 (R124). -/
theorem travelStep_faults (s : State) : (travelStep s).faults = (travelSupervise s.gov s.driven).faults := by
  rw [← (waited_frame s).2.2.1]
  by_cases h : s.stopsWork
  · obtain ⟨k, -, hwork, hstep⟩ := travelStep_of_stop h
    rw [hstep]
    exact (enterSafe_enters hwork k _).2.2.1
  · exact (travelStep_of_calm h).1.same .faults (by decide)

/-- The kinds active after the step (R45, R58 to R60). -/
theorem travelStep_isActive (s : State) (k : FaultKind) : (travelStep s).isActive k =
    ((s.isActive k || ((travelReports s.gov s.driven).any fun r => decide (k = r.kind))) &&
      !((!timerReached 1000 s.gov.silence s.driven.gov.silence &&
        (decide (s.driven.gov.chanA = .inUse) || decide (s.driven.gov.chanB = .inUse) || decide (s.driven.gov.c = 0))) &&
          decide (k = .wheelSensorsLost)) &&
      !(s.input .operator && decide (k = .operatorAbsent)) && !(!s.driven.overspeedHolds && decide (k = .overspeed)) &&
      !(s.driven.gov.disagreeOver && decide (k = .wheelSensorDisagree))) := by
  obtain ⟨hframe, htma⟩ := driven_frame s
  have hfaults : s.driven.faults = s.faults := hframe.same .faults (by decide)
  have hactive : s.driven.isActive k = s.isActive k := State.isActive_congr hfaults k
  have hinput : s.driven.input .operator = s.input .operator := State.input_congr (by rw [htma]) _
  rw [State.isActive_congr (travelStep_faults s), travelSupervise_isActive, hactive, hinput]

/-- WHEEL_SENSORS_LOST after the step (R44, R45). -/
theorem travelStep_wheelsLost (s : State) : (travelStep s).isActive .wheelSensorsLost = true ↔
    timerReached 1000 s.gov.silence s.driven.gov.silence = true ∨ (s.isActive .wheelSensorsLost = true ∧
      s.driven.gov.chanA ≠ .inUse ∧ s.driven.gov.chanB ≠ .inUse ∧ s.driven.gov.c ≠ 0) := by
  rw [travelStep_isActive]
  simp only [travelReports, List.any_append, any_reportIf]
  cases timerReached 1000 s.gov.silence s.driven.gov.silence <;>
    simp [wheelsLostReport, operatorReport, overspeedReport, disagreeReport, lossReport, and_assoc]

/-- OPERATOR_ABSENT after the step (R59). -/
theorem travelStep_operatorAbsent (s : State) : (travelStep s).isActive .operatorAbsent = true ↔ s.input .operator = false ∧
    (s.isActive .operatorAbsent = true ∨ timerReached 1000 s.gov.operator s.driven.gov.operator = true) := by
  rw [travelStep_isActive]
  simp only [travelReports, List.any_append, any_reportIf]
  cases s.input .operator <;>
    simp [wheelsLostReport, operatorReport, overspeedReport, disagreeReport, lossReport]

/-- OVERSPEED after the step (R58). -/
theorem travelStep_overspeed (s : State) : (travelStep s).isActive .overspeed = true ↔ s.driven.overspeedHolds = true ∧
    (s.isActive .overspeed = true ∨ timerReached 1000 s.gov.overspeed s.driven.gov.overspeed = true) := by
  rw [travelStep_isActive]
  simp only [travelReports, List.any_append, any_reportIf]
  cases s.driven.overspeedHolds <;>
    simp [wheelsLostReport, operatorReport, overspeedReport, disagreeReport, lossReport]

/-- WHEEL_SENSOR_DISAGREE after the step (R41, R42, R45). -/
theorem travelStep_wheelsDisagree (s : State) : (travelStep s).isActive .wheelSensorDisagree = true ↔
    s.driven.gov.disagreeOver = false ∧ (s.isActive .wheelSensorDisagree = true ∨
      timerReached 1000 s.gov.disagree s.driven.gov.disagree = true ∨
      becameLost .a s.gov s.driven.gov = true ∨ becameLost .b s.gov s.driven.gov = true) := by
  rw [travelStep_isActive]
  simp only [travelReports, List.any_append, any_reportIf]
  cases s.driven.gov.disagreeOver <;>
    simp [wheelsLostReport, operatorReport, overspeedReport, disagreeReport, lossReport, or_assoc]

end Sys2Proof.Machine

namespace Sys2Proof.Machine

/-! #### What the step reports, and what it does then (R4, R60) -/

/-- The governor's timers after the step are the driven ones. -/
theorem travelStep_stops (s : State) : firstStop s (travelStep s) = firstStop s s.driven ∧
    haltsTravel s (travelStep s) = haltsTravel s s.driven := by
  have hgov := travelStep_gov s
  exact firstStop_congr ⟨by rw [hgov], by rw [hgov], by rw [hgov]⟩

/-- A step that reports nothing (R60). -/
theorem travelReports_of_nothing {s : State} (h : TravelReportsNothing s (travelStep s)) : travelReports s.gov s.driven = [] ∧
    firstStop s s.driven = none := by
  have hgov := travelStep_gov s
  generalize travelStep s = t at *
  obtain ⟨hsilence, hoperator, hoverspeed, hdisagree, hlost⟩ := h
  have hchan (w : Wheel) : t.gov.chan w = s.driven.gov.chan w := by
    rw [hgov]
    cases w <;> rfl
  have hnever (w : Wheel) : becameLost w s.gov s.driven.gov = false := by
    have hstays := hlost w
    rw [hchan] at hstays
    simp only [becameLost, Bool.and_eq_false_iff, decide_eq_false_iff_not, not_not]
    by_cases hc : s.driven.gov.chan w = .lost
    · exact .inl (hstays hc)
    · exact .inr hc
  rw [hgov] at hsilence hoperator hoverspeed hdisagree
  refine ⟨?_, ?_⟩
  · simp [travelReports, hsilence, hoperator, hoverspeed, hdisagree, hnever, reportIf]
  · simp [firstStop, hsilence, hoperator, hoverspeed]

/-- A step that reports nothing moves the active set alone beside the governor, the outputs and the orders (R45, R60, R121). -/
theorem travelStep_of_nothing {s : State} (h : TravelReportsNothing s (travelStep s)) :
    (travelStep s).modc = s.modc ∧ (travelStep s).armc = s.armc ∧ (travelStep s).watc = s.watc ∧
    (travelStep s).faults = { s.faults with active := (travelStep s).faults.active } ∧ CausesKept false s (travelStep s) ∧
    (travelStep s).port = { s.port with pendingSet := (travelStep s).port.pendingSet } ∧
    (s.gov.waiting = none → (travelStep s).orders = s.orders ∧ (travelStep s).port = s.port ∧
      WordsKept (faultBase + 33) 1 s (travelStep s)) := by
  obtain ⟨hreports, hstop⟩ := travelReports_of_nothing h
  obtain ⟨hport, hwords, hfaults⟩ := travelSupervise_unreported hreports
  obtain ⟨hdriven, -⟩ := driven_frame s
  obtain ⟨hframe, -, hwaited, hdone⟩ := waited_frame s
  have hwait : s.gov.waiting = none → s.waited = travelSupervise s.gov s.driven := fun hnone => by
    unfold State.waited
    exact travelWaiting_of_none _ (by rw [travelSupervise_gov, (driven_sensing s).2.2.2, hnone])
  have horders : (travelSupervise s.gov s.driven).orders = s.driven.orders := (travelSupervise_faultArea s.gov s.driven).orders
  have hstep : travelStep s = s.waited := by
    rw [travelStep_eq, hstop]
    rfl
  rw [hstep]
  clear hstep h hreports hstop
  generalize travelSupervise s.gov s.driven = u at *
  generalize s.driven = d at *
  generalize s.waited = v at *
  have hunit : d.faults = s.faults := hdriven.same .faults (by decide)
  have hdport : d.port = s.port := hdriven.same .port (by decide)
  obtain ⟨b, hb⟩ := hdone
  rw [hport, hdport] at hb
  refine ⟨hframe.same .modc (by decide), hframe.same .armc (by decide), hframe.same .watc (by decide), ?_, fun i hi => ?_, ?_,
    fun hnone => ?_⟩
  · rw [hwaited, hfaults, hunit]
  · rw [hb, HostPort.notifyDone_other b s.port hi, Bool.false_and, Bool.or_false]
  · rw [hb]
    cases b <;> rfl
  · rw [hwait hnone]
    exact ⟨horders.trans (hdriven.same .orders (by decide)), hport.trans hdport,
      (WordsKept.of_xmem (hdriven.same .xmem (by decide))).trans hwords⟩

/-- Without an entry to SAFE the step leaves the arms and the water (R4). -/
theorem travelStep_rest {s : State} (h : ¬s.stopsWork) : (travelStep s).armc = s.armc ∧ (travelStep s).watc = s.watc ∧
    (travelStep s).gov.reqSpeed = s.gov.reqSpeed ∧ (travelStep s).gov.reqDir = s.gov.reqDir := by
  have hcalm := (travelStep_of_calm h).1
  have hframe := (waited_frame s).1
  have harmc : s.waited.armc = s.armc := hframe.same .armc (by decide)
  have hwatc : s.waited.watc = s.watc := hframe.same .watc (by decide)
  obtain ⟨-, hspeed, hdir, -⟩ := driven_sensing s
  have hgov := waited_gov s
  refine ⟨?_, ?_, ?_, ?_⟩
  · exact Eq.trans (hcalm.same .armc (by decide)) harmc
  · exact Eq.trans (hcalm.same .watc (by decide)) hwatc
  · rw [travelStep_gov_of_calm h, hgov]
    exact hspeed
  · rw [travelStep_gov_of_calm h, hgov]
    exact hdir

/-- The entry to SAFE at the step (R4, R61, R86, R107). -/
theorem travelStep_enters {s : State} (h : s.stopsWork) {k : FaultKind} (hk : firstStop s s.driven = some k) :
    (travelStep s).modc = { s.modc with
      mode := .safe, reason := k.rank, phase := .none, settle := none, budget := 0, commanded := ⟨false, false, false⟩,
      haltLatch := s.modc.haltLatch || haltsTravel s s.driven, safeStopped := false } ∧
    (travelStep s).gov.reqSpeed = 0 ∧ (travelStep s).gov.reqDir = .neutral ∧ (travelStep s).gov.reversePending = false ∧
    (travelStep s).port.pendingSet.getLsbD 3 = true ∧ RaisedArms s (travelStep s) ∧ SprayStopped s (travelStep s) := by
  obtain ⟨k', hk', hwork, hstep⟩ := travelStep_of_stop h
  obtain rfl : k' = k := Option.some.inj (hk'.symm.trans hk)
  have hframe := (waited_frame s).1
  have hmodc : s.waited.modc = s.modc := hframe.same .modc (by decide)
  have harmc : s.waited.armc = s.armc := hframe.same .armc (by decide)
  have hwatc : s.waited.watc = s.watc := hframe.same .watc (by decide)
  obtain ⟨hmode, hspeed, hdir, hpending, -, hcause, ⟨hwidth, harms⟩, ⟨hstopped, hspray⟩, -⟩ :=
    (enterSafe_enters hwork k' (haltsTravel s s.driven)).1
  rw [← hstep] at hmode hspeed hdir hpending hcause hwidth harms hstopped hspray
  have hkept := State.arm_congr harmc
  refine ⟨hmode.trans (by rw [hmodc]), hspeed, hdir, hpending, hcause, ⟨hwidth.trans (by rw [harmc]), fun a => ?_⟩,
    hstopped.trans (by rw [hwatc]), hspray⟩
  rw [← hkept a]
  exact harms a

/-- The four parts of the statement on stopping kinds (R4, R44, R58, R59). -/
theorem travelStep_stopping (s : State) :
    (firstStop s (travelStep s) = none →
      (travelStep s).modc = s.modc ∧ (travelStep s).armc = s.armc ∧ (travelStep s).watc = s.watc) ∧
    (∀ k, firstStop s (travelStep s) = some k →
      (s.atWork → (travelStep s).modc = { s.modc with
          mode := .safe, reason := k.rank, phase := .none, settle := none, budget := 0, commanded := ⟨false, false, false⟩,
          haltLatch := s.modc.haltLatch || haltsTravel s (travelStep s), safeStopped := false } ∧
        (travelStep s).gov.reqSpeed = 0 ∧ (travelStep s).gov.reqDir = .neutral ∧ (travelStep s).gov.reversePending = false ∧
        (travelStep s).port.pendingSet.getLsbD 3 = true ∧ RaisedArms s (travelStep s) ∧ SprayStopped s (travelStep s)) ∧
      (s.modc.mode = .safe → (travelStep s).modc = { s.modc with haltLatch := s.modc.haltLatch || haltsTravel s (travelStep s) } ∧
        (travelStep s).armc = s.armc ∧ (travelStep s).watc = s.watc) ∧
      (s.modc.mode = .starting ∨ s.modc.mode = .parked →
        (travelStep s).modc = s.modc ∧ (travelStep s).armc = s.armc ∧ (travelStep s).watc = s.watc)) ∧
    (¬(s.atWork ∧ firstStop s (travelStep s) ≠ none) →
      (travelStep s).gov.reqSpeed = s.gov.reqSpeed ∧ (travelStep s).gov.reqDir = s.gov.reqDir) := by
  obtain ⟨hfirst, hhalts⟩ := travelStep_stops s
  rw [hfirst, hhalts]
  have hrest (h : ¬s.stopsWork) := travelStep_rest h
  have hcalm (h : ¬s.stopsWork) := (travelStep_of_calm h).2
  refine ⟨fun hnone => ?_, fun k hk => ⟨fun hwork => ?_, fun hmode => ?_, fun hmode => ?_⟩, fun h => ?_⟩
  · have hnot : ¬s.stopsWork := fun h => h.2 hnone
    obtain ⟨harmc, hwatc, -⟩ := hrest hnot
    exact ⟨(hcalm hnot).trans (if_neg fun h => h.2 hnone), harmc, hwatc⟩
  · exact travelStep_enters ⟨hwork, by rw [hk]; nofun⟩ hk
  · have hnot : ¬s.stopsWork := fun h => h.1.ne.2.2 hmode
    obtain ⟨harmc, hwatc, -⟩ := hrest hnot
    exact ⟨(hcalm hnot).trans (if_pos ⟨hmode, by rw [hk]; nofun⟩), harmc, hwatc⟩
  · have hnot : ¬s.stopsWork := fun h => hmode.elim h.1.ne.1 h.1.ne.2.1
    obtain ⟨harmc, hwatc, -⟩ := hrest hnot
    refine ⟨(hcalm hnot).trans (if_neg fun h => ?_), harmc, hwatc⟩
    rcases hmode with hmode | hmode <;> exact absurd (hmode.symm.trans h.1) nofun
  · obtain ⟨-, -, hspeed, hdir⟩ := hrest h
    exact ⟨hspeed, hdir⟩

end Sys2Proof.Machine

namespace Sys2Proof.Machine

/-- The timers of stage 7 reach their limit with their conditions (R58, R59). -/
theorem driven_reached (s : State) :
    timerReached 1000 s.gov.silence s.driven.gov.silence =
      (decide (s.driven.gov.chanA ≠ .inUse ∧ s.driven.gov.chanB ≠ .inUse ∧ 300 < s.gov.c.natAbs) && timerDue 1000 10 s.gov.silence) ∧
    timerReached 1000 s.gov.operator s.driven.gov.operator =
      ((!s.input .operator && decide (s.driven.gov.c ≠ 0 ∨ s.modc.mode = .engaging ∨ s.modc.mode = .sweeping)) &&
        timerDue 1000 10 s.gov.operator) ∧
    timerReached 1000 s.gov.overspeed s.driven.gov.overspeed =
      (decide (overspeedThreshold s.driven.gov.c < s.driven.gov.vAct) && timerDue 1000 10 s.gov.overspeed) := by
  obtain ⟨hoverspeed, hoperator⟩ := driven_watch s
  obtain ⟨hchan, -, -, hsilence⟩ := driven_wheels s
  have hA : s.driven.gov.chanA = (travelSense s).gov.chanA := hchan .a
  have hB : s.driven.gov.chanB = (travelSense s).gov.chanB := hchan .b
  refine ⟨?_, ?_, ?_⟩
  · rw [hsilence, (travelSense_timers s).2, timerReached_follow, (travelSense_conditions s).2, hA, hB]
  · rw [hoperator, timerReached_follow]
  · rw [hoverspeed, timerReached_follow]

/-- What the step makes of the governor's conditions (R45, R58, R59). -/
theorem travelStep_conditions {s t : State} (ht : t = travelStep s) :
    (t.isActive .wheelSensorsLost = true ↔
      (t.gov.chanA ≠ .inUse ∧ t.gov.chanB ≠ .inUse ∧ 300 < s.gov.c.natAbs ∧ timerDue 1000 10 s.gov.silence = true) ∨
        (s.isActive .wheelSensorsLost = true ∧ t.gov.chanA ≠ .inUse ∧ t.gov.chanB ≠ .inUse ∧ t.gov.c ≠ 0)) ∧
    (t.isActive .operatorAbsent = true ↔ s.input .operator = false ∧
      (s.isActive .operatorAbsent = true ∨ (timerDue 1000 10 s.gov.operator = true ∧
        (t.gov.c ≠ 0 ∨ s.modc.mode = .engaging ∨ s.modc.mode = .sweeping)))) ∧
    (t.isActive .overspeed = true ↔ overspeedThreshold t.gov.c < t.gov.vAct ∧
      (s.isActive .overspeed = true ∨ timerDue 1000 10 s.gov.overspeed = true)) ∧
    (t.isActive .wheelSensorDisagree = true ↔
      (t.gov.chanA = .lost ∨ t.gov.chanB = .lost ∨ timerAt 1000 t.gov.disagree = true) ∧
        (s.isActive .wheelSensorDisagree = true ∨ timerReached 1000 s.gov.disagree t.gov.disagree = true ∨
          ∃ w, s.gov.chan w ≠ .lost ∧ t.gov.chan w = .lost)) := by
  have hgov := travelStep_gov s
  have hlost := travelStep_wheelsLost s
  have hoperator := travelStep_operatorAbsent s
  have hoverspeed := travelStep_overspeed s
  have hdisagree := travelStep_wheelsDisagree s
  obtain ⟨hsilent, hunmanned, hfast⟩ := driven_reached s
  rw [← ht] at hgov hlost hoperator hoverspeed hdisagree
  have hA : t.gov.chanA = s.driven.gov.chanA := by rw [hgov]
  have hB : t.gov.chanB = s.driven.gov.chanB := by rw [hgov]
  have hc : t.gov.c = s.driven.gov.c := by rw [hgov]
  have hspeed : t.gov.vAct = s.driven.gov.vAct := by rw [hgov]
  have hdis : t.gov.disagree = s.driven.gov.disagree := by rw [hgov]
  rw [hlost, hoperator, hoverspeed, hdisagree, hA, hB, hc, hspeed, hdis, hsilent, hunmanned, hfast]
  clear hlost hoperator hoverspeed hdisagree hsilent hunmanned hfast
  generalize s.driven = d at *
  refine ⟨?_, ?_, ?_, ?_⟩
  · simp only [Bool.and_eq_true, decide_eq_true_eq, and_assoc]
  · simp only [Bool.and_eq_true, decide_eq_true_eq, Bool.not_eq_true']
    tauto
  · simp only [State.overspeedHolds, Bool.and_eq_true, decide_eq_true_eq]
    tauto
  · have hover : d.gov.disagreeOver = false ↔
        d.gov.chanA = .lost ∨ d.gov.chanB = .lost ∨ timerAt 1000 d.gov.disagree = true := by
      simp only [Governor.disagreeOver, Bool.and_eq_false_iff, decide_eq_false_iff_not, not_not, Bool.not_eq_false', or_assoc]
    have hchan (w : Wheel) : becameLost w s.gov d.gov = true ↔ s.gov.chan w ≠ .lost ∧ t.gov.chan w = .lost := by
      have hkept : t.gov.chan w = d.gov.chan w := by cases w <;> assumption
      rw [hkept]
      simp [becameLost]
    rw [hover, hchan, hchan]
    refine and_congr_right fun _ => or_congr_right (or_congr_right ⟨fun h => ?_, fun ⟨w, hw⟩ => ?_⟩)
    · exact h.elim (fun ha => ⟨.a, ha⟩) fun hb => ⟨.b, hb⟩
    · cases w
      · exact .inl hw
      · exact .inr hw

/-- The governor's timers after the step (R41, R44, R58, R59). -/
theorem travelStep_timers {s t : State} (ht : t = travelStep s) :
    (t.gov.disagree = timerFollow 1000 10 (decide (t.gov.chanA = .inUse ∧ t.gov.chanB = .inUse) &&
      !speedsAgree (s.wheelSpeed .a) (s.wheelSpeed .b)) s.gov.disagree) ∧
    t.gov.silence = timerFollow 1000 10
      (decide (t.gov.chanA ≠ .inUse ∧ t.gov.chanB ≠ .inUse ∧ 300 < s.gov.c.natAbs)) s.gov.silence ∧
    t.gov.overspeed = timerFollow 1000 10 (decide (overspeedThreshold t.gov.c < t.gov.vAct)) s.gov.overspeed ∧
    t.gov.operator = timerFollow 1000 10
      (!s.input .operator && decide (t.gov.c ≠ 0 ∨ s.modc.mode = .engaging ∨ s.modc.mode = .sweeping)) s.gov.operator := by
  have hgov := travelStep_gov s
  obtain ⟨hchan, -, hdisagree, hsilence⟩ := travelStep_sensing s
  obtain ⟨hoverspeed, hoperator⟩ := driven_watch s
  rw [← ht] at hgov hchan hdisagree hsilence
  have hA : t.gov.chanA = (travelSense s).gov.chanA := (hchan .a).1
  have hB : t.gov.chanB = (travelSense s).gov.chanB := (hchan .b).1
  have hc : t.gov.c = s.driven.gov.c := by rw [hgov]
  have hspeed : t.gov.vAct = s.driven.gov.vAct := by rw [hgov]
  refine ⟨?_, ?_, ?_, ?_⟩
  · rw [hA, hB, ← (travelSense_conditions s).1, hdisagree, (travelSense_timers s).1]
  · rw [hA, hB, ← (travelSense_conditions s).2, hsilence, (travelSense_timers s).2]
  · rw [hc, hspeed, ← hoverspeed, hgov]
  · rw [hc, ← hoperator, hgov]

/-- v_act after the step (R40, R41). -/
theorem travelStep_speed {s t : State} (ht : t = travelStep s) :
    (t.gov.chanA = .inUse → t.gov.chanB = .inUse → t.gov.vAct =
      if speedsAgree (s.wheelSpeed .a) (s.wheelSpeed .b) then (s.wheelSpeed .a + s.wheelSpeed .b) / 2
      else max (s.wheelSpeed .a) (s.wheelSpeed .b)) ∧
    (t.gov.chanA = .inUse → t.gov.chanB ≠ .inUse → t.gov.vAct = s.wheelSpeed .a) ∧
    (t.gov.chanA ≠ .inUse → t.gov.chanB = .inUse → t.gov.vAct = s.wheelSpeed .b) ∧
    (t.gov.chanA ≠ .inUse → t.gov.chanB ≠ .inUse → t.gov.vAct = 0) := by
  obtain ⟨hchan, hspeed, -, -⟩ := travelStep_sensing s
  rw [← ht] at hchan hspeed
  have hA : t.gov.chanA = (travelSense s).gov.chan .a := (hchan .a).1
  have hB : t.gov.chanB = (travelSense s).gov.chan .b := (hchan .b).1
  rw [hA, hB, hspeed]
  exact travelSense_speed s

/-- The trim and the outputs after the step (R56, R57, R135). -/
theorem travelStep_outputs {s t : State} (ht : t = travelStep s) : ∃ current duty : Nat,
    t.gov.trim =
      (if t.gov.c = 0 ∨ (t.gov.chanA ≠ .inUse ∧ t.gov.chanB ≠ .inUse) then 0
       else clampInt (-200) 200 (s.gov.trim + roundDiv (((t.gov.c.natAbs : Int) - t.gov.vAct) * s.kTrim) 1024)) ∧
    (current : Int) =
      (if t.gov.c = 0 then 0
       else clampInt 0 s.iMax ((s.evalAt travelCurveBase t.gov.c.natAbs : Int) + t.gov.trim)) ∧
    (0 < s.iFull → duty = min 1000 ((2000 * current + s.iFull) / (2 * s.iFull))) ∧
    (t.gov.c = 0 → t.tma.outputs.travelFwd.held = 0 ∧ t.tma.outputs.travelRev.held = 0) ∧
    (0 < t.gov.c → t.tma.outputs.travelFwd.held = duty ∧ t.tma.outputs.travelRev.held = 0) ∧
    (t.gov.c < 0 → t.tma.outputs.travelFwd.held = 0 ∧ t.tma.outputs.travelRev.held = duty) ∧
    t.tma.outputs.travelFwd.applied = s.tma.outputs.travelFwd.applied ∧
    t.tma.outputs.travelRev.applied = s.tma.outputs.travelRev.applied := by
  have hgov := travelStep_gov s
  have hpwm := travelStep_travelPwm s
  rw [← ht] at hgov hpwm
  have htrim := driven_trim s
  obtain ⟨hframe, htma⟩ := driven_frame s
  have hcal : s.driven.cal = s.cal := hframe.same .cal (by decide)
  obtain ⟨current, hcurrent, hduty⟩ := travelDuty_of s.driven
  have hmax : s.driven.iMax = s.iMax := by rw [State.iMax, State.calWord, hcal, State.iMax, State.calWord]
  have hfull : s.driven.iFull = s.iFull := by rw [State.iFull, State.calWord, hcal, State.iFull, State.calWord]
  have hcurve (x : Nat) : s.driven.evalAt travelCurveBase x = s.evalAt travelCurveBase x := by
    simp only [State.evalAt, State.curve, State.calWord, hcal]
  rw [hmax, hcurve] at hcurrent
  rw [hfull] at hduty
  have hfwd : t.tma.outputs.travelFwd = { s.tma.outputs.travelFwd with
      held := if 0 < s.driven.gov.c then s.driven.travelDuty else 0 } :=
    (congrArg Prod.fst hpwm).trans (congrArg (fun m : TimingArray => m.outputs.travelFwd) htma)
  have hrev : t.tma.outputs.travelRev = { s.tma.outputs.travelRev with
      held := if s.driven.gov.c < 0 then s.driven.travelDuty else 0 } :=
    (congrArg Prod.snd hpwm).trans (congrArg (fun m : TimingArray => m.outputs.travelRev) htma)
  have hA : t.gov.chanA = s.driven.gov.chanA := by rw [hgov]
  have hB : t.gov.chanB = s.driven.gov.chanB := by rw [hgov]
  have hc : t.gov.c = s.driven.gov.c := by rw [hgov]
  have hspeed : t.gov.vAct = s.driven.gov.vAct := by rw [hgov]
  have htrimmed : t.gov.trim = s.driven.gov.trim := by rw [hgov]
  rw [hA, hB, hc, hspeed, htrimmed, hfwd, hrev]
  refine ⟨current, s.driven.travelDuty, htrim, hcurrent, hduty, fun hzero => ?_, fun hahead => ?_, fun hback => ?_, rfl, rfl⟩
  · exact ⟨if_neg (by omega), if_neg (by omega)⟩
  · exact ⟨if_pos hahead, if_neg (by omega)⟩
  · exact ⟨if_neg (by omega), if_pos hback⟩

/-- Settles O46. -/
theorem travelStepMeasuresAndDrives : Obligations.TravelStepMeasuresAndDrives := by
  intro s hrun
  obtain ⟨hwheel, -, -, -⟩ := travelStep_sensing s
  have hfree (w : Wheel) (h : s.gov.chan w ≠ .lost) := travelSense_of_not_lost h
  have hlost (w : Wheel) (h : s.gov.chan w = .lost) (hother : s.gov.chan (otherWheel w) ≠ .lost) := travelSense_of_lost h hother
  have hloss := travelSense_loss s
  have hnothing := travelStep_of_nothing (s := s)
  obtain ⟨hquiet, hstops, hkept⟩ := travelStep_stopping s
  obtain ⟨hsensors, hoperator, hover, hdisagrees⟩ := travelStep_conditions (s := s) rfl
  obtain ⟨hdisagree, hsilence, hoverspeed, hoperators⟩ := travelStep_timers (s := s) rfl
  obtain ⟨hboth, honlyA, honlyB, hnone⟩ := travelStep_speed (s := s) rfl
  obtain ⟨current, duty, htrim, hcurrent, hduty, hstands, hahead, hback, hfwd, hrev⟩ := travelStep_outputs (s := s) rfl
  refine ⟨travelStep s, current, duty, exec_travelStep hrun, fun w h => ?_, fun w h hother => ?_, hsensors, hoperator, hover,
    hdisagrees, hdisagree, hsilence, hoverspeed, hoperators, fun w => ?_, fun w h => ?_, fun w h hother => ?_, hnothing, hquiet, hstops,
    hkept, hboth, honlyA, honlyB, hnone, htrim, hcurrent, hduty, hstands, hahead, hback, hfwd, hrev⟩
  · rw [(hwheel w).1, (hwheel (otherWheel w)).1]
    exact ⟨(hfree w h).1, (hfree w h).2.1⟩
  · rw [(hwheel w).1]
    exact (hlost w h hother).1
  · rw [(hwheel w).1, (hwheel w).2.1, (hwheel (otherWheel w)).1]
    exact hloss w
  · rw [(hwheel w).1, (hwheel w).2.2]
    exact (hfree w h).2.2
  · rw [(hwheel w).2.2]
    exact (hlost w h hother).2

end Sys2Proof.Machine

namespace Sys2Proof.Machine

/-! ### Stage 3 of the arm step (R64 to R71, R82, R83) -/

/-- What the arm step reads beside the records stands while the records, the orders, exchange memory and the port alone move. -/
theorem armReads_congr {s u : State} (h : SameBut [.xmem, .port, .orders, .armc] s u) :
    (∀ a r0 r, u.exclusionTest a r0 r = s.exclusionTest a r0 r) ∧ (∀ a r, transition u a r = transition s a r) ∧
    (∀ a r, settleAngle u a r = settleAngle s a r) ∧ (∀ a r0 r, outStep u a r0 r = outStep s a r0 r) ∧
    (∀ a r, armOutputs u a r = armOutputs s a r) ∧ ∀ a r, u.motorDuty a r = s.motorDuty a r := by
  have hu : u = { s with xmem := u.xmem, port := u.port, orders := u.orders, armc := u.armc } := by
    rw [← (h.same .pending (by decide) : u.pending = s.pending), ← (h.same .resetHeld (by decide) : u.resetHeld = s.resetHeld),
      ← (h.same .publisher (by decide) : u.publisher = s.publisher), ← (h.same .modc (by decide) : u.modc = s.modc),
      ← (h.same .gov (by decide) : u.gov = s.gov), ← (h.same .watc (by decide) : u.watc = s.watc),
      ← (h.same .loadm (by decide) : u.loadm = s.loadm), ← (h.same .faults (by decide) : u.faults = s.faults),
      ← (h.same .cal (by decide) : u.cal = s.cal), ← (h.same .tma (by decide) : u.tma = s.tma),
      ← (h.same .eeprom (by decide) : u.eeprom = s.eeprom), ← (h.same .freeReads (by decide) : u.freeReads = s.freeReads)]
  rw [hu]
  exact ⟨fun _ _ _ => rfl, fun _ _ => rfl, fun _ _ => rfl, fun _ _ _ => rfl, fun _ _ => rfl, fun _ _ => rfl⟩

/-- The records as the step reads and times them (R63, R75). -/
theorem armPrepare_arm (s : State) (a : Arm) : (armPrepare s).arm a = s.dueRecord a := by
  cases a <;> rfl

/-- A record after stage 3 (R64). -/
def State.turned (s : State) (a : Arm) : ArmRecord :=
  if (s.arm a).state = .out then outStep s a (s.arm a) (s.dueRecord a)
  else settleAngle s a ((s.dueExclusion a).elim (transition s a (s.dueRecord a)) fun x => enterOut x.1 (s.dueRecord a))

/-- An arm in OUT meets no exclusion test (R71, R82). -/
theorem dueExclusion_of_out {s : State} {a : Arm} (h : (s.arm a).state = .out) : s.dueExclusion a = none := by
  rw [dueExclusion_none_iff]
  intro k d hmet
  cases k <;> simp [ExclusionMet, judgesSwing, rotates, h] at hmet

/-- How stage 3 ends an arm's waiting order: FAILED where the arm goes OUT (R71). -/
def excludedEnd (s : State) (a : Arm) (e : Entry) : Option (Result × Nat) :=
  if e.target = armTarget a then
    (s.arm a).waiting.bind fun w =>
      if w.slot = e.slot ∧ w.takeTime = e.takeTime then (s.dueExclusion a).map fun x => (.failed, x.1.rank) else none
  else none

/-- The waiting order of a record failed at the arm's own exclusion, among the open orders (R71, R149). -/
theorem failWaiting_ends {s : State} (a : Arm) (w : Option ArmWait) (d : Nat) (hinv : s.ordersInv) (hwf : s.xmemWf) :
    Ends (fun e => if e.target = armTarget a then
      w.bind fun w => if w.slot = e.slot ∧ w.takeTime = e.takeTime then some (.failed, d) else none else none) noWord s
      (failWaiting a w d s) := by
  cases w with
  | none => exact (Ends.of_same ⟨rfl, rfl, rfl, rfl⟩).congr fun e _ => by simp
  | some w =>
    refine (completionNotice_endsOne (armTarget a) w.slot w.takeTime .failed d hinv hwf).congr fun e _ => ?_
    rw [Option.bind_some]
    by_cases h : e.answers (armTarget a) w.slot w.takeTime = true
    · obtain ⟨htarget, hslot, htime⟩ := Entry.answers_iff.mp h
      rw [if_pos h, if_pos htarget, if_pos ⟨hslot.symm, htime.symm⟩]
    · rw [if_neg h]
      by_cases htarget : e.target = armTarget a
      · rw [if_pos htarget, if_neg fun hentry => h (Entry.answers_iff.mpr ⟨htarget, hentry.1.symm, hentry.2.symm⟩)]
      · rw [if_neg htarget]

theorem failWaiting_portDone (a : Arm) (w : Option ArmWait) (d : Nat) (s : State) : PortDone s (failWaiting a w d s) := by
  unfold failWaiting
  split
  · exact .of_same rfl
  · exact completionNotice_portDone _ _ _ _ _ _

/-- Stage 3 of one arm, its record as the step has read it (R64). -/
theorem armTransition_eq {s u : State} (a : Arm) (h : SameBut [.xmem, .port, .orders, .armc] s u) (ha : u.arm a = s.dueRecord a) :
    armTransition s a u = (s.dueExclusion a).elim (setArm a (s.turned a) u) fun x =>
      failWaiting a (s.arm a).waiting x.1.rank (setArm a (s.turned a) u) := by
  obtain ⟨htest, htransition, hsettle, hout, -, -⟩ := armReads_congr h
  have hstate : (s.dueRecord a).state = (s.arm a).state := rfl
  have hwaiting : (s.dueRecord a).waiting = (s.arm a).waiting := rfl
  have hdue : s.exclusionTest a (s.arm a) (s.dueRecord a) = s.dueExclusion a := rfl
  unfold armTransition State.turned
  rw [ha]
  dsimp only
  rw [hstate]
  by_cases hgone : (s.arm a).state = .out
  · rw [if_pos hgone, if_pos hgone, dueExclusion_of_out hgone, hout]
    rfl
  · rw [if_neg hgone, if_neg hgone, htest, hdue, hwaiting]
    cases s.dueExclusion a with
    | none =>
      dsimp only
      rw [hsettle, htransition]
      rfl
    | some x =>
      dsimp only
      rw [hsettle]
      rfl

/-- What stage 3 of one arm does (R64, R71). -/
theorem armTransition_turns {s u : State} (a : Arm) (h : SameBut [.xmem, .port, .orders, .armc] s u)
    (ha : u.arm a = s.dueRecord a) :
    (∀ b, (armTransition s a u).arm b = if b = a then s.turned a else u.arm b) ∧
    SameBut [.xmem, .port, .orders, .armc] s (armTransition s a u) ∧ PortDone u (armTransition s a u) ∧
    (u.ordersInv → u.xmemWf → Ends (excludedEnd s a) noWord u (armTransition s a u)) ∧
    (s.dueExclusion a = none ∨ (s.arm a).waiting = none → SameBut [.armc] u (armTransition s a u)) := by
  have heq := armTransition_eq a h ha
  have hframe : SameBut [.xmem, .port, .orders, .armc] s (armTransition s a u) :=
    h.trans (armTransition_sameBut s a u)
  have hset : SameBut [.armc] u (setArm a (s.turned a) u) := setArm_sameBut a _ u
  have harm (b : Arm) := setArm_arm a b (s.turned a) u
  have hsame : u.SameForOrders (setArm a (s.turned a) u) := ⟨rfl, rfl, rfl, rfl⟩
  have hport : (setArm a (s.turned a) u).port = u.port := rfl
  generalize setArm a (s.turned a) u = v at heq hset harm hsame hport
  refine ⟨fun b => ?_, hframe, ?_, fun hinv hwf => ?_, fun hcalm => ?_⟩
  · rw [heq]
    cases s.dueExclusion a with
    | none => exact harm b
    | some x => exact (failWaiting_arm a b _ _ v).trans (harm b)
  · rw [heq]
    cases s.dueExclusion a with
    | none => exact .of_same hport
    | some x => exact (PortDone.of_same hport).trans (failWaiting_portDone a _ _ v)
  · have hends : Ends (excludedEnd s a) noWord v (armTransition s a u) := by
      have hinv' := ordersInv_congr hsame.orders hinv
      have hwf' := xmemWf_congr hsame.xmem hwf
      rw [heq]
      cases hdue : s.dueExclusion a with
      | none =>
        refine (Ends.of_same ⟨rfl, rfl, rfl, rfl⟩).congr fun e _ => ?_
        rw [excludedEnd, hdue]
        split
        · cases (s.arm a).waiting <;> simp
        · rfl
      | some x =>
        refine (failWaiting_ends a (s.arm a).waiting x.1.rank hinv' hwf').congr fun e _ => ?_
        rw [excludedEnd, hdue]
        rfl
    exact hends.before hsame hinv
  · rw [heq]
    cases hdue : s.dueExclusion a with
    | none => exact hset
    | some x =>
      obtain hnone | hnone := hcalm
      · exact absurd (hdue.symm.trans hnone) nofun
      · rw [hnone]
        exact hset

/-- Stage 3 of the three arms (R64, R71). -/
theorem armTransitions_turns (s : State) :
    (∀ a, (armTransitions s (armPrepare s)).arm a = s.turned a) ∧
    SameBut [.xmem, .port, .orders, .armc] s (armTransitions s (armPrepare s)) ∧ PortDone s (armTransitions s (armPrepare s)) ∧
    (s.ordersInv → s.xmemWf → Ends (fun e => ((excludedEnd s .left e).or (excludedEnd s .right e)).or (excludedEnd s .main e)) noWord s
      (armTransitions s (armPrepare s))) ∧
    ((∀ a, s.dueExclusion a = none ∨ (s.arm a).waiting = none) → SameBut [.armc] s (armTransitions s (armPrepare s))) := by
  have hprepare : SameBut [.armc] s (armPrepare s) := setArmc_sameBut s _
  have hprepared := armPrepare_arm s
  have hsame : s.SameForOrders (armPrepare s) := ⟨rfl, rfl, rfl, rfl⟩
  have hport : (armPrepare s).port = s.port := rfl
  unfold armTransitions
  generalize armPrepare s = u0 at *
  obtain ⟨hL, hLframe, hLport, hLends, hLcalm⟩ := armTransition_turns .left (hprepare.mono (by decide)) (hprepared .left)
  generalize armTransition s .left u0 = u1 at *
  obtain ⟨hR, hRframe, hRport, hRends, hRcalm⟩ := armTransition_turns .right hLframe ((hL .right).trans (hprepared .right))
  generalize armTransition s .right u1 = u2 at *
  obtain ⟨hM, hMframe, hMport, hMends, hMcalm⟩ := armTransition_turns .main hRframe
    ((hR .main).trans ((hL .main).trans (hprepared .main)))
  generalize armTransition s .main u2 = u3 at *
  refine ⟨fun a => ?_, hMframe, (((PortDone.of_same hport).trans hLport).trans hRport).trans hMport, fun hinv hwf => ?_, fun hcalm => ?_⟩
  · cases a
    · exact (hM .left).trans ((hR .left).trans (hL .left))
    · exact (hM .right).trans (hR .right)
    · exact hM .main
  · have hends0 : Ends (fun _ => none) noWord s u0 := .of_same hsame
    have hends1 := (hLends (hends0.ordersInv hinv) (hends0.wf hwf)).before hsame hinv
    have hends2 := hends1.andThen (hRends (hends1.ordersInv hinv) (hends1.wf hwf)) hinv
    exact hends2.andThen (hMends (hends2.ordersInv hinv) (hends2.wf hwf)) hinv
  · exact ((hprepare.trans (hLcalm (hcalm .left))).trans (hRcalm (hcalm .right))).trans (hMcalm (hcalm .main))

end Sys2Proof.Machine

namespace Sys2Proof.Machine

/-! ### Stages 4 and 5 of the arm step (R29, R30, R73, R74, R77) -/

/-- A record after stage 4 (R29, R74, R77). -/
def State.published (s : State) (a : Arm) : ArmRecord := armOutputs s a (s.turned a)

theorem motorDuty_congr {s u : State} (h : u.cal = s.cal) (a : Arm) (r : ArmRecord) : u.motorDuty a r = s.motorDuty a r := by
  have heval (base x : Nat) : u.evalAt base x = s.evalAt base x := by
    simp only [State.evalAt, State.curve, State.calWord, h]
  simp only [State.motorDuty, heval]

/-- An arm's outputs handed with its motor duty of R77. -/
theorem handWorking_eq {s x : State} {a : Arm} {r : ArmRecord} (hcal : x.cal = s.cal) (ha : x.arm a = r) :
    handWorking a x = handRecord a (s.motorDuty a r) x := by
  rw [handWorking, ha, motorDuty_congr hcal]

/-- The three arms' outputs handed together leave the records and every other output (R73). -/
theorem handRecords_hand (m : Arm → Nat) (v : State) :
    (∀ a, (handRecord .main (m .main) (handRecord .right (m .right) (handRecord .left (m .left) v))).arm a = v.arm a ∧
      (handRecord .main (m .main) (handRecord .right (m .right) (handRecord .left (m .left) v))).armOuts a = (v.arm a).outs (m a) ∧
      ((handRecord .main (m .main) (handRecord .right (m .right) (handRecord .left (m .left) v))).tma.outputs.get
        (pressOutput a)).applied = (v.tma.outputs.get (pressOutput a)).applied) ∧
    (handRecord .main (m .main) (handRecord .right (m .right) (handRecord .left (m .left) v))).travelPwm = v.travelPwm ∧
    (handRecord .main (m .main) (handRecord .right (m .right) (handRecord .left (m .left) v))).tma.outputs.waterPump =
      v.tma.outputs.waterPump ∧
    (handRecord .main (m .main) (handRecord .right (m .right) (handRecord .left (m .left) v))).tma.outputs.nozzles =
      v.tma.outputs.nozzles ∧
    OutputsOnly v (handRecord .main (m .main) (handRecord .right (m .right) (handRecord .left (m .left) v))) := by
  have hothers (a : Arm) (n : Nat) (u : State) := handRecord_others a n u
  have hnozzles (a : Arm) (n : Nat) (u : State) : (handRecord a n u).tma.outputs.nozzles = u.tma.outputs.nozzles := by
    cases a <;> rfl
  refine ⟨fun a => ⟨by simp, ?_, ?_⟩, ?_, ?_, ?_, ?_⟩
  · cases a <;> simp
  · cases a <;> simp only [handRecord_pwm] <;> rfl
  · simp only [State.travelPwm, hothers]
  · simp only [hothers]
  · simp only [hnozzles]
  · exact ((handRecord_outputsOnly _ _ _).trans (handRecord_outputsOnly _ _ _)).trans (handRecord_outputsOnly _ _ _)

/-- The records, W and the outputs that the step hands (R30, R73, R77, R135). -/
theorem armPublish_hands {s u : State} (h : SameBut [.xmem, .port, .orders, .armc] s u) (hu : ∀ a, u.arm a = s.turned a) :
    (∀ a, (armPublish u).arm a = s.published a) ∧ (armPublish u).widthFollows ∧
    (∀ a, (armPublish u).armOuts a = (s.published a).outs (s.motorDuty a (s.published a)) ∧
      ((armPublish u).tma.outputs.get (pressOutput a)).applied = (s.tma.outputs.get (pressOutput a)).applied) ∧
    (armPublish u).travelPwm = s.travelPwm ∧ (armPublish u).tma.outputs.waterPump = s.tma.outputs.waterPump ∧
    (armPublish u).tma.outputs.nozzles = s.tma.outputs.nozzles ∧ OutputsOnly s (armPublish u) ∧
    SameBut [.armc, .tma] u (armPublish u) := by
  obtain ⟨-, -, -, -, houtputs, -⟩ := armReads_congr h
  have hmap : SameBut [.xmem, .port, .orders, .armc] s (mapArms (armOutputs u) u) := h.trans ((setArmc_sameBut u _).mono (by decide))
  have hmarm (a : Arm) : (mapArms (armOutputs u) u).arm a = s.published a := by
    have hrecord : (mapArms (armOutputs u) u).arm a = armOutputs u a (u.arm a) := by cases a <;> rfl
    rw [hrecord, houtputs, hu]
    rfl
  have hframe := armPublish_sameBut u
  unfold armPublish at hframe ⊢
  generalize mapArms (armOutputs u) u = v at *
  have hcal : v.cal = s.cal := hmap.same .cal (by decide)
  have htma : v.tma = s.tma := hmap.same .tma (by decide)
  have hhanded := handRecords_hand (fun a => s.motorDuty a (s.published a)) v
  dsimp only at hframe ⊢
  rw [handWorking_eq (a := .left) hcal (hmarm .left),
    handWorking_eq (a := .right) (s := s) (r := s.published .right) (by simp [hcal]) (by simp [hmarm]),
    handWorking_eq (a := .main) (s := s) (r := s.published .main) (by simp [hcal]) (by simp [hmarm])] at hframe ⊢
  generalize handRecord .main _ (handRecord .right _ (handRecord .left _ v)) = w at *
  have hpublish : (publishWidth w).tma = w.tma ∧ (∀ a, (publishWidth w).arm a = w.arm a) ∧ (publishWidth w).widthFollows :=
    ⟨rfl, fun a => by cases a <;> rfl, rfl⟩
  generalize publishWidth w = x at *
  obtain ⟨hxtma, hxarm, hwidth⟩ := hpublish
  obtain ⟨harms, htravel, hpump, hnozzles, honly⟩ := hhanded
  rw [htma] at hpump hnozzles
  refine ⟨fun a => ?_, hwidth, fun a => ⟨?_, ?_⟩, ?_, ?_, ?_, ?_, hframe⟩
  · rw [hxarm, (harms a).1, hmarm]
  · rw [State.armOuts_congr (s := w) (by rw [hxtma]), (harms a).2.1, hmarm]
  · rw [hxtma, (harms a).2.2, htma]
  · rw [State.travelPwm_congr (s := w) (by rw [hxtma]), htravel, State.travelPwm_congr (s := s) (by rw [htma])]
  · rw [hxtma, hpump]
  · rw [hxtma, hnozzles]
  · exact ((OutputsOnly.of_same htma).trans honly).trans (.of_same hxtma)

end Sys2Proof.Machine

namespace Sys2Proof.Machine

/-! ### The reports of the arm step, and the condition ends (R82, R83, R125) -/

/-- One arm's reports of a kind (R82). -/
theorem armReport_eq (s : State) (k : FaultKind) (a : Arm) : armReport s (armPrepare s) k a =
    (s.dueExclusion a).elim [] fun x => reportIf (decide (x.1 = k)) (armOutReport a k x.2) := by
  have hprepare : SameBut [.armc] s (armPrepare s) := setArmc_sameBut s _
  obtain ⟨htest, -⟩ := armReads_congr (hprepare.mono (by decide))
  have hstate : (s.dueRecord a).state = (s.arm a).state := rfl
  have hdue : s.exclusionTest a (s.arm a) (s.dueRecord a) = s.dueExclusion a := rfl
  unfold armReport
  rw [armPrepare_arm, htest, hdue, hstate]
  by_cases hgone : (s.arm a).state = .out
  · rw [if_pos hgone, dueExclusion_of_out hgone]
    rfl
  · rw [if_neg hgone]
    cases s.dueExclusion a with
    | none => rfl
    | some x => rfl

/-- The reports of the step are those of the arms that go OUT (R82). -/
theorem armReports_mem (s : State) (r : Report) : r ∈ armReports s (armPrepare s) ↔
    ∃ a k d, s.dueExclusion a = some (k, d) ∧ r = armOutReport a k d := by
  have hof (k : FaultKind) (a : Arm) : r ∈ armReport s (armPrepare s) k a ↔
      ∃ d, s.dueExclusion a = some (k, d) ∧ r = armOutReport a k d := by
    rw [armReport_eq]
    cases hdue : s.dueExclusion a with
    | none => simp
    | some x =>
      obtain ⟨k', d⟩ := x
      by_cases hk : k' = k
      · subst hk
        simp [reportIf]
      · simp [reportIf, hk]
  have hkinds {a : Arm} {k : FaultKind} {d : Nat} (hdue : s.dueExclusion a = some (k, d)) :
      k = .armStuck ∨ k = .armAngleLost ∨ k = .armDeflectLong ∨ k = .brushStall := by
    have hmet := ((dueExclusion_iff s a k d).mp hdue).1
    cases k <;> first | exact hmet.elim | simp
  unfold armReports
  simp only [List.mem_flatMap, List.mem_append, hof]
  constructor
  · rintro ⟨k, -, (⟨d, hd⟩ | ⟨d, hd⟩) | ⟨d, hd⟩⟩ <;> exact ⟨_, k, d, hd⟩
  · rintro ⟨a, k, d, hdue, hr⟩
    refine ⟨k, by simpa using hkinds hdue, ?_⟩
    cases a
    · exact .inl (.inl ⟨d, hdue, hr⟩)
    · exact .inl (.inr ⟨d, hdue, hr⟩)
    · exact .inr ⟨d, hdue, hr⟩

/-- The reports of arms that are found in OUT ask nothing more (R124). -/
theorem reactAll_of_out {rs : List Report} {v : State}
    (h : ∀ r ∈ rs, ∃ a k d, r = armOutReport a k d ∧ k.cls = .armOut ∧ (v.arm a).state = .out) : reactAll rs v = v := by
  induction rs with
  | nil => rfl
  | cons r rs ih =>
    obtain ⟨a, k, d, rfl, hcls, hout⟩ := h r List.mem_cons_self
    have hreact : react (armOutReport a k d) v = v := by
      have hkind : (armOutReport a k d).kind = k := rfl
      have hsource : (armOutReport a k d).source = .armc a := rfl
      unfold react
      rw [hkind, hcls, hsource]
      exact armOutNotice_of_out hout
    rw [reactAll, hreact]
    exact ih fun r hr => h r (List.mem_cons_of_mem _ hr)

/-- The exclusions that the reports of arms latch (R125). -/
theorem takeReports_exclusions {rs : List Report} (h : ∀ r ∈ rs, ∃ a k d, r = armOutReport a k d ∧ k.cls = .armOut) (v : State) :
    (∀ b, (takeReports rs v).faults.exclusions.arm b = true ↔
      v.faults.exclusions.arm b = true ∨ ∃ k d, armOutReport b k d ∈ rs) ∧
    (takeReports rs v).faults.exclusions.water = v.faults.exclusions.water := by
  induction rs generalizing v with
  | nil => exact ⟨fun b => by simp [takeReports], rfl⟩
  | cons r rs ih =>
    obtain ⟨a, k, d, rfl, hcls⟩ := h r List.mem_cons_self
    obtain ⟨harm, hwater⟩ := ih (fun r hr => h r (List.mem_cons_of_mem _ hr)) (takeReport (armOutReport a k d) v)
    have hlatched : (takeReport (armOutReport a k d) v).faults.exclusions = v.faults.exclusions.setArm a true := by
      have hkind : (armOutReport a k d).kind = k := rfl
      have hsource : (armOutReport a k d).source = .armc a := rfl
      rw [takeReport_exclusions]
      unfold Report.latches
      rw [hkind, hcls, hsource]
    refine ⟨fun b => ?_, ?_⟩
    · have hset : (if b = a then true else v.faults.exclusions.arm b) = true ↔ b = a ∨ v.faults.exclusions.arm b = true := by
        split <;> simp [*]
      rw [takeReports, harm, hlatched, Exclusions.setArm_arm, hset]
      simp only [List.mem_cons]
      constructor
      · rintro ((rfl | hold) | ⟨k', d', hmem⟩)
        · exact .inr ⟨k, d, .inl rfl⟩
        · exact .inl hold
        · exact .inr ⟨k', d', .inr hmem⟩
      · rintro (hold | ⟨k', d', heq | hmem⟩)
        · exact .inl (.inr hold)
        · have hb : b = a := by
            have hsource := congrArg Report.source heq
            simpa [armOutReport] using hsource
          exact .inl (.inl hb)
        · exact .inr ⟨k', d', hmem⟩
    · rw [takeReports, hwater, hlatched, Exclusions.setArm_water]

/-- The condition ends of the arm step reach the active set and its word alone (R83, R121). -/
theorem armEnds_reach (s : State) : FaultAreaOnly s (armEnds s) ∧ (armEnds s).port = s.port ∧ ActiveOnly s (armEnds s) ∧
    WordsKept (faultBase + 33) 1 s (armEnds s) ∧ SameBut [.xmem, .faults] s (armEnds s) := by
  have hport (b : Bool) (k : FaultKind) (u : State) := (endIf_kept b k u).1
  have hkept (b : Bool) (k : FaultKind) (u : State) := (endIf_kept b k u).2
  refine ⟨?_, ?_, ?_, ?_, ?_⟩
  · exact (((endIf_faultArea _ _ _).trans (endIf_faultArea _ _ _)).trans (endIf_faultArea _ _ _)).trans (endIf_faultArea _ _ _)
  · simp only [armEnds, armConditionEnd, hport]
  · exact (((endIf_activeOnly _ _ _).trans (endIf_activeOnly _ _ _)).trans (endIf_activeOnly _ _ _)).trans (endIf_activeOnly _ _ _)
  · exact (((endIf_wordsKept _ _ _).trans (endIf_wordsKept _ _ _)).trans (endIf_wordsKept _ _ _)).trans (endIf_wordsKept _ _ _)
  · exact (((hkept _ _ _).trans (hkept _ _ _)).trans (hkept _ _ _)).trans (hkept _ _ _)

/-- A kind's flag is no one's where no record holds it (R83). -/
theorem noFlagFor_iff (k : FaultKind) (s : State) : noFlagFor k s = true ↔
    ¬∃ a, (s.arm a).cause = some k ∧ (s.arm a).causePresent = true := by
  rw [noFlagFor_eq, Bool.not_eq_true', ← Bool.not_eq_true, List.any_eq_true]
  refine not_congr ⟨fun ⟨a, _, ha⟩ => ⟨a, by simpa using ha⟩, fun ⟨a, ha⟩ => ⟨a, ?_, by simpa using ha⟩⟩
  cases a <;> simp

/-- The kinds active after the condition ends (R83). -/
theorem armEnds_isActive (s : State) (k : FaultKind) :
    (excludesArm k → ((armEnds s).isActive k = true ↔ s.isActive k = true ∧
      ∃ a, (s.arm a).cause = some k ∧ (s.arm a).causePresent = true)) ∧
    (¬excludesArm k → (armEnds s).isActive k = s.isActive k) := by
  have hflag (k k' : FaultKind) (b : Bool) (u : State) : noFlagFor k (endIf b k' u) = noFlagFor k u := by
    unfold noFlagFor
    rw [(endIf_kept b k' u).2.same .armc (by decide)]
  have hactive : (armEnds s).isActive k = (s.isActive k && !(noFlagFor .armStuck s && decide (k = .armStuck)) &&
      !(noFlagFor .armAngleLost s && decide (k = .armAngleLost)) && !(noFlagFor .armDeflectLong s && decide (k = .armDeflectLong)) &&
      !(noFlagFor .brushStall s && decide (k = .brushStall))) := by
    simp only [armEnds, armConditionEnd, hflag, endIf_isActive]
  have hheld (k : FaultKind) : noFlagFor k s = false ↔ ∃ a, (s.arm a).cause = some k ∧ (s.arm a).causePresent = true := by
    rw [← Bool.not_eq_true, noFlagFor_iff, not_not]
  rw [hactive]
  refine ⟨fun hk => ?_, fun hk => ?_⟩
  · rw [← hheld]
    obtain rfl | rfl | rfl | rfl := hk <;> simp
  · simp only [excludesArm, not_or] at hk
    obtain ⟨h1, h2, h3, h4⟩ := hk
    simp [h1, h2, h3, h4]

end Sys2Proof.Machine

namespace Sys2Proof.Machine

/-! ### The waiting orders at stage 6 of the arm step (R85) -/

/-- How stage 6 ends an arm's waiting order: OK at a match, TIMED_OUT at 8000 ms (R85). -/
def judgedEnd (s : State) (a : Arm) (w : ArmWait) : Option (Result × Nat) :=
  if matchesReq (s.arm a).state w.req = true then some (.ok, 0)
  else if 8000 ≤ s.since w.takeTime then some (.timedOut, (s.arm a).state.code)
  else none

/-- How it ends an open order. -/
def judgedEntryEnd (s : State) (a : Arm) (e : Entry) : Option (Result × Nat) :=
  if e.target = armTarget a then
    (s.arm a).waiting.bind fun w => if w.slot = e.slot ∧ w.takeTime = e.takeTime then judgedEnd s a w else none
  else none

theorem armWaiting_of_end {s : State} {a : Arm} {w : ArmWait} {r : Result} {d : Nat} (hw : (s.arm a).waiting = some w)
    (h : judgedEnd s a w = some (r, d)) : armWaiting a s = endArmWait a w r d s := by
  unfold judgedEnd at h
  unfold armWaiting
  rw [hw]
  dsimp only
  split at h
  next hmatch =>
    obtain ⟨rfl, rfl⟩ := Prod.mk.inj (Option.some.inj h)
    exact if_pos hmatch
  next hmatch =>
    split at h
    next hlate =>
      obtain ⟨rfl, rfl⟩ := Prod.mk.inj (Option.some.inj h)
      exact (if_neg hmatch).trans (if_pos hlate)
    next => exact nomatch h

theorem armWaiting_of_wait {s : State} {a : Arm} {w : ArmWait} (hw : (s.arm a).waiting = some w) (h : judgedEnd s a w = none) :
    armWaiting a s = s := by
  unfold judgedEnd at h
  unfold armWaiting
  rw [hw]
  dsimp only
  split at h
  next => exact nomatch h
  next hmatch =>
    split at h
    next => exact nomatch h
    next hlate => exact (if_neg hmatch).trans (if_neg hlate)

/-- Stage 6 of one arm: its waiting order, among the open orders (R85, R149). -/
theorem armWaiting_judges (a : Arm) (s : State) :
    (∀ b, (armWaiting a s).arm b = if b = a then
      { s.arm a with waiting := (s.arm a).waiting.filter fun w => (judgedEnd s a w).isNone } else s.arm b) ∧
    (armWaiting a s).armc.width = s.armc.width ∧ (armWaiting a s).tma = s.tma ∧ PortDone s (armWaiting a s) ∧
    (s.ordersInv → s.xmemWf → Ends (judgedEntryEnd s a) noWord s (armWaiting a s)) ∧
    ((s.arm a).waiting = none → armWaiting a s = s) := by
  have hstays (heq : armWaiting a s = s) (hkept : (s.arm a).waiting.filter (fun w => (judgedEnd s a w).isNone) = (s.arm a).waiting)
      (hnone : ∀ e, judgedEntryEnd s a e = none) : (∀ b, (armWaiting a s).arm b = if b = a then
        { s.arm a with waiting := (s.arm a).waiting.filter fun w => (judgedEnd s a w).isNone } else s.arm b) ∧
      (armWaiting a s).armc.width = s.armc.width ∧ (armWaiting a s).tma = s.tma ∧ PortDone s (armWaiting a s) ∧
      (s.ordersInv → s.xmemWf → Ends (judgedEntryEnd s a) noWord s (armWaiting a s)) ∧
      ((s.arm a).waiting = none → armWaiting a s = s) := by
    rw [heq, hkept]
    refine ⟨fun b => ?_, rfl, rfl, .of_same rfl, fun _ _ => ?_, fun _ => rfl⟩
    · split
      next hb => rw [hb]
      next => rfl
    · exact (Ends.of_same ⟨rfl, rfl, rfl, rfl⟩).congr fun e _ => (hnone e).symm
  cases hw : (s.arm a).waiting with
  | none =>
    refine hw ▸ hstays (armWaiting_of_none hw) (by rw [hw]; rfl) fun e => ?_
    rw [judgedEntryEnd, hw]
    split <;> rfl
  | some w =>
    cases hend : judgedEnd s a w with
    | none =>
      refine hw ▸ hstays (armWaiting_of_wait hw hend) (by simp [hw, Option.filter, hend]) fun e => ?_
      rw [judgedEntryEnd, hw, Option.bind_some, hend]
      split_ifs <;> rfl
    | some x =>
      have heq := armWaiting_of_end hw hend
      obtain ⟨-, harm, hwidth, htma, -⟩ := endArmWait_taken (s := s) a w x.1 x.2
      have hsame : s.SameForOrders (setArm a { s.arm a with waiting := none } s) := ⟨rfl, rfl, rfl, rfl⟩
      have hport : (setArm a { s.arm a with waiting := none } s).port = s.port := rfl
      rw [heq]
      refine ⟨fun b => ?_, hwidth, htma, completionNotice_portAfter hport _ _ _ _ _, fun hinv hwf => ?_, fun hnone => nomatch hnone⟩
      · rw [harm b]
        simp [Option.filter, hend]
      · refine (completionNotice_endsAfter hsame (armTarget a) w.slot w.takeTime x.1 x.2 hinv hwf).congr fun e _ => ?_
        rw [judgedEntryEnd, hw, Option.bind_some, hend]
        by_cases h : e.answers (armTarget a) w.slot w.takeTime = true
        · obtain ⟨htarget, hslot, htime⟩ := Entry.answers_iff.mp h
          rw [if_pos h, if_pos htarget, if_pos ⟨hslot.symm, htime.symm⟩]
        · rw [if_neg h]
          by_cases htarget : e.target = armTarget a
          · rw [if_pos htarget, if_neg fun hentry => h (Entry.answers_iff.mpr ⟨htarget, hentry.1.symm, hentry.2.symm⟩)]
          · rw [if_neg htarget]

/-- An arm's waiting order is judged on its own record and the clock (R85). -/
theorem judged_congr {s u : State} {a : Arm} (harm : u.arm a = s.arm a) (hclock : u.tma.clock = s.tma.clock) :
    judgedEnd u a = judgedEnd s a ∧ judgedEntryEnd u a = judgedEntryEnd s a := by
  have hend : judgedEnd u a = judgedEnd s a := by
    funext w
    rw [judgedEnd, harm, State.since, hclock, judgedEnd, State.since]
  refine ⟨hend, ?_⟩
  funext e
  rw [judgedEntryEnd, harm, hend, judgedEntryEnd]

/-- The three arms' waiting orders at stage 6 (R85, R149). -/
theorem armWaitings_judge (s : State) :
    (∀ a, (armWaiting .main (armWaiting .right (armWaiting .left s))).arm a =
      { s.arm a with waiting := (s.arm a).waiting.filter fun w => (judgedEnd s a w).isNone }) ∧
    (armWaiting .main (armWaiting .right (armWaiting .left s))).armc.width = s.armc.width ∧
    (armWaiting .main (armWaiting .right (armWaiting .left s))).tma = s.tma ∧
    PortDone s (armWaiting .main (armWaiting .right (armWaiting .left s))) ∧
    (s.ordersInv → s.xmemWf → Ends (fun e => ((judgedEntryEnd s .left e).or (judgedEntryEnd s .right e)).or (judgedEntryEnd s .main e))
      noWord s (armWaiting .main (armWaiting .right (armWaiting .left s)))) ∧
    ((∀ a, (s.arm a).waiting = none) → armWaiting .main (armWaiting .right (armWaiting .left s)) = s) ∧
    SameBut [.xmem, .port, .orders, .armc] s (armWaiting .main (armWaiting .right (armWaiting .left s))) := by
  have hframe : SameBut [.xmem, .port, .orders, .armc] s (armWaiting .main (armWaiting .right (armWaiting .left s))) :=
    ((armWaiting_sameBut .left s).trans (armWaiting_sameBut .right _)).trans (armWaiting_sameBut .main _)
  obtain ⟨hL, hLwidth, hLtma, hLport, hLends, hLnone⟩ := armWaiting_judges .left s
  generalize armWaiting .left s = u1 at *
  obtain ⟨hR, hRwidth, hRtma, hRport, hRends, hRnone⟩ := armWaiting_judges .right u1
  generalize armWaiting .right u1 = u2 at *
  obtain ⟨hM, hMwidth, hMtma, hMport, hMends, hMnone⟩ := armWaiting_judges .main u2
  generalize armWaiting .main u2 = u3 at *
  have hright : u1.arm .right = s.arm .right := hL .right
  have hmain : u2.arm .main = s.arm .main := (hR .main).trans (hL .main)
  obtain ⟨hRjudged, hRentry⟩ := judged_congr hright (by rw [hLtma])
  obtain ⟨hMjudged, hMentry⟩ := judged_congr hmain (by rw [hRtma, hLtma])
  refine ⟨fun a => ?_, (hMwidth.trans hRwidth).trans hLwidth, (hMtma.trans hRtma).trans hLtma, (hLport.trans hRport).trans hMport,
    fun hinv hwf => ?_, fun hnone => ?_, hframe⟩
  · cases a
    · exact (hM .left).trans ((hR .left).trans (hL .left))
    · refine (hM .right).trans ((hR .right).trans ?_)
      rw [if_pos rfl, hRjudged, hright]
    · refine (hM .main).trans ?_
      rw [if_pos rfl, hMjudged, hmain]
  · have hends1 := hLends hinv hwf
    have hends2 := hends1.andThen (hRends (hends1.ordersInv hinv) (hends1.wf hwf)) hinv
    have hends3 := hends2.andThen (hMends (hends2.ordersInv hinv) (hends2.wf hwf)) hinv
    rwa [hRentry, hMentry] at hends3
  · have h1 := hLnone (hnone .left)
    have h2 := hRnone (by rw [hright]; exact hnone .right)
    have h3 := hMnone (by rw [hmain]; exact hnone .main)
    rw [h3, h2, h1]

end Sys2Proof.Machine

namespace Sys2Proof.Machine

/-! ### The records after the arm step (R63 to R71, R75 to R83) -/

/-- What a record keeps as it goes to a state. -/
theorem goes_keeps (st : ArmState) (r : ArmRecord) : (r.goes st).state = st ∧ (r.goes st).req = r.req ∧ (r.goes st).cause = r.cause ∧
    (r.goes st).causePresent = r.causePresent ∧ (r.goes st).swing = r.swing ∧ (r.goes st).measured = r.measured ∧
    (r.goes st).target = r.target ∧ (r.goes st).waiting = r.waiting ∧ (r.goes st).angleLoss = r.angleLoss := by
  unfold ArmRecord.goes
  split
  · next h => exact ⟨h.symm, rfl, rfl, rfl, rfl, rfl, rfl, rfl, rfl⟩
  split
  · next h => exact ⟨h.symm, rfl, rfl, rfl, rfl, rfl, rfl, rfl, rfl⟩
  split
  · next h => exact ⟨h.1.symm, rfl, rfl, rfl, rfl, rfl, rfl, rfl, rfl⟩
  · exact ⟨rfl, rfl, rfl, rfl, rfl, rfl, rfl, rfl, rfl⟩

/-- The timers of motion are a record's own in each state (R64, R67, R68, R82). -/
theorem goes_timers (st : ArmState) (r : ArmRecord) :
    (st = r.state → (r.goes st).stateTimer = r.stateTimer ∧ (r.goes st).hover = r.hover ∧ (r.goes st).ret = r.ret ∧
      (r.goes st).deflection = r.deflection) ∧
    (st ≠ r.state → (r.goes st).stateTimer = 0 ∧ (r.goes st).hover = none ∧ (r.goes st).ret = none ∧ (r.goes st).deflection = 0) := by
  unfold ArmRecord.goes
  refine ⟨fun h => ?_, fun h => ?_⟩
  · rw [if_pos h]
    exact ⟨rfl, rfl, rfl, rfl⟩
  · rw [if_neg h]
    split
    · exact ⟨rfl, rfl, rfl, rfl⟩
    split <;> exact ⟨rfl, rfl, rfl, rfl⟩

/-- The motor's timers and trim go on unless it starts from rest or stops (R76). -/
theorem goes_motor (st : ArmState) (r : ArmRecord) :
    (motorTurns r.state st → (r.goes st).spinUp = 0 ∧ (r.goes st).stall = none ∧ (r.goes st).silence = none) ∧
    (¬motorTurns r.state st → (r.goes st).spinUp = r.spinUp ∧ (r.goes st).stall = r.stall ∧ (r.goes st).silence = r.silence ∧
      (r.goes st).trim = r.trim) := by
  unfold ArmRecord.goes motorTurns
  refine ⟨fun h => ?_, fun h => ?_⟩
  · obtain ⟨hraising, hfrom⟩ | ⟨hlowering, hfrom⟩ := h
    · rw [if_neg fun heq => hfrom (heq.symm.trans hraising), if_pos hraising]
      exact ⟨rfl, rfl, rfl⟩
    · have hne : st ≠ r.state := fun heq => by
        rw [hlowering] at heq
        rw [← heq] at hfrom
        simp at hfrom
      rw [if_neg hne, if_neg (by simp [hlowering]), if_pos ⟨hlowering, hfrom⟩]
      exact ⟨rfl, rfl, rfl⟩
  · split
    next => exact ⟨rfl, rfl, rfl, rfl⟩
    next hne =>
      have hraising : st ≠ .raising := fun hr => h (.inl ⟨hr, fun heq => hne (hr.trans heq.symm)⟩)
      rw [if_neg hraising, if_neg fun hl => h (.inr hl)]
      exact ⟨rfl, rfl, rfl, rfl⟩

/-- An arm in OUT stays there, its cause-present flag judged (R71, R83). -/
theorem turned_of_out {s : State} {a : Arm} (h : (s.arm a).state = .out) :
    s.turned a = outStep s a (s.arm a) (s.dueRecord a) := if_pos h

/-- An arm whose exclusion test is met goes OUT (R71, R82). -/
theorem turned_of_excluded {s : State} {a : Arm} {k : FaultKind} {d : Nat} (h : s.dueExclusion a = some (k, d)) :
    s.turned a = settleAngle s a (enterOut k (s.dueRecord a)) := by
  have hstate : (s.arm a).state ≠ .out := fun hout => nomatch (dueExclusion_of_out hout).symm.trans h
  unfold State.turned
  rw [if_neg hstate, h]
  rfl

/-- Any other arm makes the one move of R64. -/
theorem turned_of_moved {s : State} {a : Arm} (hstate : (s.arm a).state ≠ .out) (h : s.dueExclusion a = none) :
    s.turned a = settleAngle s a ((s.dueRecord a).goes (transition s a (s.dueRecord a)).state) ∧
    (∀ st, NextArmState s a st ↔ st = (transition s a (s.dueRecord a)).state) ∧
    (transition s a (s.dueRecord a)).state ≠ .out := by
  have hnext (st : ArmState) : NextArmState s a st ↔ st = (transition s a (s.dueRecord a)).state :=
    nextArmState_iff (s := s) (a := a) (r := s.dueRecord a) rfl rfl rfl rfl rfl st
  refine ⟨?_, hnext, fun hout => ?_⟩
  · unfold State.turned
    rw [if_neg hstate, h, Option.elim_none]
    exact congrArg _ (transition_goes s a _)
  · by_cases hsame : (transition s a (s.dueRecord a)).state = (s.arm a).state
    · exact hstate (hsame.symm.trans hout)
    · exact ((hnext _).mpr rfl).ne_out hsame hout

/-- The three ways of a record through stage 3 (R64, R71). -/
theorem turned_cases (s : State) (a : Arm) :
    ((s.arm a).state = .out ∧ s.turned a = outStep s a (s.arm a) (s.dueRecord a)) ∨
    (∃ k d, s.dueExclusion a = some (k, d) ∧ s.turned a = settleAngle s a (enterOut k (s.dueRecord a))) ∨
    ((s.arm a).state ≠ .out ∧ s.dueExclusion a = none ∧
      s.turned a = settleAngle s a ((s.dueRecord a).goes (transition s a (s.dueRecord a)).state)) := by
  by_cases hstate : (s.arm a).state = .out
  · exact .inl ⟨hstate, turned_of_out hstate⟩
  · cases hdue : s.dueExclusion a with
    | some x => exact .inr (.inl ⟨x.1, x.2, rfl, turned_of_excluded hdue⟩)
    | none => exact .inr (.inr ⟨hstate, rfl, (turned_of_moved hstate hdue).1⟩)

/-- The readings and the target of the step stand through stage 3 (R63, R75). -/
theorem turned_reads (s : State) (a : Arm) : (s.turned a).target = s.modc.profile.brushSpeed a * s.loadm.scale / 1000 ∧
    (s.turned a).measured = s.brushSpeed a ∧ (s.turned a).swing = (s.readArm a).swing := by
  have hread : (s.dueRecord a).target = s.modc.profile.brushSpeed a * s.loadm.scale / 1000 ∧
      (s.dueRecord a).measured = s.brushSpeed a ∧ (s.dueRecord a).swing = (s.readArm a).swing := ⟨rfl, rfl, rfl⟩
  obtain ⟨-, h⟩ | ⟨k, d, -, h⟩ | ⟨-, -, h⟩ := turned_cases s a
  · rw [h]
    unfold outStep
    split <;> exact hread
  · rw [h]
    exact hread
  · rw [h]
    obtain ⟨-, -, -, -, hswing, hmeasured, htarget, -⟩ := goes_keeps (transition s a (s.dueRecord a)).state (s.dueRecord a)
    exact ⟨htarget.trans hread.1, hmeasured.trans hread.2.1, hswing.trans hread.2.2⟩

/-- An arm goes OUT at the step exactly where an exclusion test is met (R71, R82). -/
theorem turned_out_iff (s : State) (a : Arm) :
    ((s.turned a).state = .out ↔ (s.arm a).state = .out ∨ s.dueExclusion a ≠ none) ∧
    (∀ k d, s.dueExclusion a = some (k, d) → (s.turned a).state = .out ∧ (s.turned a).cause = some k) ∧
    (s.turned a).waiting = if s.dueExclusion a = none then (s.arm a).waiting else none := by
  obtain ⟨hout, h⟩ | ⟨k, d, hdue, h⟩ | ⟨hstate, hdue, h⟩ := turned_cases s a
  · have hkept : (s.turned a).state = .out ∧ (s.turned a).waiting = (s.arm a).waiting := by
      rw [h]
      unfold outStep
      split <;> exact ⟨hout, rfl⟩
    rw [dueExclusion_of_out hout]
    exact ⟨⟨fun _ => .inl hout, fun _ => hkept.1⟩, fun _ _ hdue => by simp at hdue, hkept.2.trans (if_pos rfl).symm⟩
  · rw [h, hdue]
    refine ⟨⟨fun _ => .inr nofun, fun _ => rfl⟩, fun k' d' heq => ?_, rfl⟩
    obtain ⟨rfl, -⟩ := Prod.mk.inj (Option.some.inj heq)
    exact ⟨rfl, rfl⟩
  · have hne := (turned_of_moved hstate hdue).2.2
    obtain ⟨hgoes, -, -, -, -, -, -, hwaiting, -⟩ := goes_keeps (transition s a (s.dueRecord a)).state (s.dueRecord a)
    rw [h, hdue]
    refine ⟨⟨fun hout => absurd (hgoes.symm.trans hout) hne, fun hcond => ?_⟩, fun _ _ heq => by simp at heq, hwaiting.trans (if_pos rfl).symm⟩
    exact hcond.elim (fun hout => absurd hout hstate) fun hne => absurd rfl hne

/-- A motor past its spin-up has run on with its trim (R76, R77). -/
theorem turned_trim {s : State} {a : Arm} (hrotates : rotates (s.turned a) = true) (hspin : 1500 ≤ (s.turned a).spinUp) :
    (s.turned a).trim = (s.arm a).trim := by
  obtain ⟨hout, h⟩ | ⟨k, d, -, h⟩ | ⟨-, -, h⟩ := turned_cases s a
  · rw [h] at hrotates ⊢
    unfold outStep
    split <;> rfl
  · rw [h] at hrotates
    exact absurd hrotates (by simp [rotates, settleAngle, enterOut, enterState])
  · rw [h] at hspin ⊢
    have hmotor := goes_motor (transition s a (s.dueRecord a)).state (s.dueRecord a)
    by_cases hturns : motorTurns (s.dueRecord a).state (transition s a (s.dueRecord a)).state
    · have hzero : ((s.dueRecord a).goes (transition s a (s.dueRecord a)).state).spinUp = 0 := (hmotor.1 hturns).1
      have hspin' : 1500 ≤ ((s.dueRecord a).goes (transition s a (s.dueRecord a)).state).spinUp := hspin
      omega
    · exact (hmotor.2 hturns).2.2.2

end Sys2Proof.Machine

namespace Sys2Proof.Machine

/-- A record that differs from another at most in its outputs and its waiting order. -/
def ArmRecord.drives (r x : ArmRecord) : Prop := r = { x with trim := r.trim, press := r.press, reach := r.reach, waiting := r.waiting }

theorem ArmRecord.drives.fields {r x : ArmRecord} (h : r.drives x) : r.state = x.state ∧ r.stateTimer = x.stateTimer ∧
    r.req = x.req ∧ r.hover = x.hover ∧ r.ret = x.ret ∧ r.deflection = x.deflection ∧ r.swing = x.swing ∧ r.measured = x.measured ∧
    r.target = x.target ∧ r.spinUp = x.spinUp ∧ r.stall = x.stall ∧ r.silence = x.silence ∧ r.angleLoss = x.angleLoss ∧
    r.cause = x.cause ∧ r.causePresent = x.causePresent := by
  unfold ArmRecord.drives at h
  rw [h]
  exact ⟨rfl, rfl, rfl, rfl, rfl, rfl, rfl, rfl, rfl, rfl, rfl, rfl, rfl, rfl, rfl⟩

/-- The timers that the step advances before the transition (R67, R68, R76, R78 to R80; log entry 17). -/
theorem dueRecord_timers (s : State) (a : Arm) :
    (s.dueRecord a).stateTimer = min 65535 ((s.arm a).stateTimer + 10) ∧
    (s.dueRecord a).spinUp = (if rotates (s.arm a) = true then min 1500 ((s.arm a).spinUp + 10) else (s.arm a).spinUp) ∧
    (s.dueRecord a).hover =
      (if (s.arm a).state = .lifting then timerFollow 300 10 (!s.input (downInput a)) (s.arm a).hover else (s.arm a).hover) ∧
    (s.dueRecord a).ret =
      (if (s.arm a).state = .deflected then timerFollow 300 10 (s.belowRelease (s.readArm a)) (s.arm a).ret else (s.arm a).ret) ∧
    (s.dueRecord a).deflection =
      (if (s.arm a).state = .deflected then min 2000 ((s.arm a).deflection + 10) else (s.arm a).deflection) ∧
    (s.dueRecord a).angleLoss = timerFollow 200 10 (judgesSwing (s.arm a) && !s.swingValid a) (s.arm a).angleLoss :=
  ⟨rfl, rfl, rfl, rfl, rfl, rfl⟩

/-- The stall and silence timers of the step (R78, R79). -/
theorem dueRecord_stall (s : State) (a : Arm) {tested : Prop}
    (htested : tested ↔ rotates (s.arm a) = true ∧ 1490 ≤ (s.arm a).spinUp ∧ 0 < (s.readArm a).target) :
    (tested ∧ s.valid (brushChannel a) = true ∧ s.brushSpeed a * 5 < (s.readArm a).target →
      (s.dueRecord a).stall = timerFollow 500 10 true (s.arm a).stall) ∧
    (¬(tested ∧ s.valid (brushChannel a) = true ∧ s.brushSpeed a * 5 < (s.readArm a).target) → (s.dueRecord a).stall = none) ∧
    (tested ∧ s.valid (brushChannel a) = false → (s.dueRecord a).silence = timerFollow 1000 10 true (s.arm a).silence) ∧
    (¬(tested ∧ s.valid (brushChannel a) = false) → (s.dueRecord a).silence = none) := by
  have hdue := stallTested_due s a
    { s.readArm a with stateTimer := min 65535 ((s.readArm a).stateTimer + 10), spinUp := nextSpinUp (s.readArm a) } rfl rfl rfl
  have hstall : (s.dueRecord a).stall = timerFollow 500 10 (s.stallHolds a { s.readArm a with
    stateTimer := min 65535 ((s.readArm a).stateTimer + 10), spinUp := nextSpinUp (s.readArm a) }) (s.arm a).stall := rfl
  have hsilence : (s.dueRecord a).silence = timerFollow 1000 10 (s.silentBrush a { s.readArm a with
    stateTimer := min 65535 ((s.readArm a).stateTimer + 10), spinUp := nextSpinUp (s.readArm a) }) (s.arm a).silence := rfl
  have hstalls : s.stallHolds a { s.readArm a with
      stateTimer := min 65535 ((s.readArm a).stateTimer + 10), spinUp := nextSpinUp (s.readArm a) } = true ↔
      tested ∧ s.valid (brushChannel a) = true ∧ s.brushSpeed a * 5 < (s.readArm a).target := by
    rw [htested, ← hdue]
    simp only [State.stallHolds, Bool.and_eq_true, decide_eq_true_eq, and_assoc]
    exact Iff.rfl
  have hsilent : s.silentBrush a { s.readArm a with
      stateTimer := min 65535 ((s.readArm a).stateTimer + 10), spinUp := nextSpinUp (s.readArm a) } = true ↔
      tested ∧ s.valid (brushChannel a) = false := by
    rw [htested, ← hdue]
    simp only [State.silentBrush, Bool.and_eq_true, Bool.not_eq_true']
  rw [hstall, hsilence]
  refine ⟨fun h => ?_, fun h => ?_, fun h => ?_, fun h => ?_⟩
  · rw [hstalls.mpr h]
  · rw [Bool.eq_false_iff.mpr fun hholds => h (hstalls.mp hholds)]
    rfl
  · rw [hsilent.mpr h]
  · rw [Bool.eq_false_iff.mpr fun hholds => h (hsilent.mp hholds)]
    rfl

/-- The angle-loss timer after the transition (R80, log entry 17). -/
theorem settleAngle_follows (s : State) (a : Arm) (g : ArmRecord)
    (h : g.angleLoss = timerFollow 200 10 (judgesSwing (s.arm a) && !s.swingValid a) (s.arm a).angleLoss) :
    (settleAngle s a g).angleLoss = if judgesSwing g = true ∧ s.swingValid a = false then
      (if judgesSwing (s.arm a) = true then timerFollow 200 10 true (s.arm a).angleLoss else some 0) else none := by
  have hsettled : (settleAngle s a g).angleLoss =
      if judgesSwing g && !s.swingValid a then some (g.angleLoss.getD 0) else none := rfl
  rw [hsettled, h]
  cases hjudged : judgesSwing g
  · simp
  cases hvalid : s.swingValid a
  · cases judgesSwing (s.arm a)
    · simp [timerFollow]
    · cases (s.arm a).angleLoss <;> simp [timerFollow]
  · simp

/-- The timers of a record that has made its move (R64, R67, R68, R76, R78 to R80). -/
theorem armTimersFollow_of_moved {s : State} {a : Arm} (hstate : (s.arm a).state ≠ .out) (hdue : s.dueExclusion a = none)
    {r : ArmRecord} (hr : r.drives (s.turned a)) : ArmTimersFollow s a r := by
  have hturned := (turned_of_moved hstate hdue).1
  obtain ⟨hstateTimer, hspinUp, hhover, hret, hdeflection, hangle⟩ := dueRecord_timers s a
  have hqstate : (s.dueRecord a).state = (s.arm a).state := rfl
  have hqreads : (s.dueRecord a).target = (s.readArm a).target ∧ (s.dueRecord a).measured = s.brushSpeed a ∧
    (s.dueRecord a).swing = (s.readArm a).swing := ⟨rfl, rfl, rfl⟩
  have hstall {tested : Prop} := dueRecord_stall s a (tested := tested)
  generalize (transition s a (s.dueRecord a)).state = st at *
  generalize s.dueRecord a = q at *
  obtain ⟨hgoes, -, -, -, hswing, hmeasured, htarget, -, hloss⟩ := goes_keeps st q
  obtain ⟨hstays, hmoves⟩ := goes_timers st q
  obtain ⟨hturns, hruns⟩ := goes_motor st q
  have hsettled := settleAngle_follows s a (q.goes st) (hloss.trans hangle)
  rw [hqstate] at hstays hmoves hturns hruns
  generalize q.goes st = g at *
  obtain ⟨hrstate, hrtimer, -, hrhover, hrret, hrdeflection, hrswing, hrmeasured, hrtarget, hrspin, hrstall, hrsilence, hrloss, -⟩ :=
    hr.fields
  rw [hturned] at hrstate hrtimer hrhover hrret hrdeflection hrswing hrmeasured hrtarget hrspin hrstall hrsilence hrloss
  replace hrstate : r.state = st := hrstate.trans hgoes
  replace hrtarget : r.target = (s.readArm a).target := hrtarget.trans (htarget.trans hqreads.1)
  replace hrmeasured : r.measured = s.brushSpeed a := hrmeasured.trans (hmeasured.trans hqreads.2.1)
  replace hrswing : r.swing = (s.readArm a).swing := hrswing.trans (hswing.trans hqreads.2.2)
  replace hrtimer : r.stateTimer = g.stateTimer := hrtimer
  replace hrspin : r.spinUp = g.spinUp := hrspin
  replace hrstall : r.stall = g.stall := hrstall
  replace hrsilence : r.silence = g.silence := hrsilence
  replace hrhover : r.hover = g.hover := hrhover
  replace hrret : r.ret = g.ret := hrret
  replace hrdeflection : r.deflection = g.deflection := hrdeflection
  have hjudges : judgesSwing r = judgesSwing g := by rw [judgesSwing, hrstate, judgesSwing, hgoes]
  have hbelow : s.belowRelease r = s.belowRelease (s.readArm a) := by rw [State.belowRelease, hrswing, State.belowRelease]
  unfold ArmTimersFollow
  dsimp only
  rw [hrstate, hrtarget, hrmeasured, hrtimer, hrspin, hrstall, hrsilence, hrhover, hrret, hrdeflection, hrloss, hjudges, hbelow,
    hsettled]
  refine ⟨?_, hturns, fun hrun => ?_, rfl, fun hne => ?_, fun heq => ?_⟩
  · split
    next heq => rw [(hstays heq).1, hstateTimer]
    next hne => rw [(hmoves hne).1]
  · obtain ⟨h1, h2, h3, -⟩ := hruns hrun
    rw [h1, h2, h3]
    exact ⟨hspinUp, hstall Iff.rfl⟩
  · obtain ⟨-, h1, h2, h3⟩ := hmoves hne
    exact ⟨h1, h2, h3⟩
  · obtain ⟨-, h1, h2, h3⟩ := hstays heq
    rw [h1, h2, h3]
    exact ⟨hhover, hret, hdeflection⟩

/-- The record of an arm that makes its move keeps its request and its cause (R64). -/
theorem moved_keeps {s : State} {a : Arm} (hstate : (s.arm a).state ≠ .out) (hdue : s.dueExclusion a = none)
    {r : ArmRecord} (hr : r.drives (s.turned a)) : (∀ st, NextArmState s a st → r.state = st) ∧ r.req = (s.arm a).req ∧
      r.cause = (s.arm a).cause ∧ r.causePresent = (s.arm a).causePresent := by
  obtain ⟨hturned, hnext, -⟩ := turned_of_moved hstate hdue
  obtain ⟨hgoes, hreq, hcause, hpresent, -⟩ := goes_keeps (transition s a (s.dueRecord a)).state (s.dueRecord a)
  have hkept : (s.turned a).state = (transition s a (s.dueRecord a)).state ∧ (s.turned a).req = (s.dueRecord a).req ∧
      (s.turned a).cause = (s.dueRecord a).cause ∧ (s.turned a).causePresent = (s.dueRecord a).causePresent := by
    rw [hturned]
    exact ⟨hgoes, hreq, hcause, hpresent⟩
  obtain ⟨h1, h2, h3, h4⟩ := hkept
  obtain ⟨hrstate, -, hrreq, -, -, -, -, -, -, -, -, -, -, hrcause, hrpresent⟩ := hr.fields
  exact ⟨fun st hst => hrstate.trans (h1.trans ((hnext st).mp hst).symm), hrreq.trans h2, hrcause.trans h3, hrpresent.trans h4⟩

/-- The record of an arm that goes OUT (R71, R82). -/
theorem excluded_record {s : State} {a : Arm} {k : FaultKind} {d : Nat} (hdue : s.dueExclusion a = some (k, d))
    {r : ArmRecord} (hr : r.drives (s.turned a)) : r.state = .out ∧ r.stateTimer = 0 ∧ r.cause = some k ∧ r.causePresent = true ∧
      r.req = .stowed ∧ r.spinUp = 0 ∧ r.stall = none ∧ r.silence = none ∧ r.angleLoss = none := by
  unfold ArmRecord.drives at hr
  rw [turned_of_excluded hdue] at hr
  rw [hr]
  have hjudges : judgesSwing (enterOut k (s.dueRecord a)) = false := rfl
  have hloss : (settleAngle s a (enterOut k (s.dueRecord a))).angleLoss = none := by
    rw [settleAngle, hjudges]
    rfl
  exact ⟨rfl, rfl, rfl, rfl, rfl, rfl, rfl, rfl, hloss⟩

/-- The record of an arm in OUT (R71, R83). -/
theorem out_record {s : State} {a : Arm} (hout : (s.arm a).state = .out) {r : ArmRecord} (hr : r.drives (s.turned a)) :
    r.state = .out ∧ r.cause = (s.arm a).cause ∧ r.stateTimer = min 65535 ((s.arm a).stateTimer + 10) ∧ r.req = (s.arm a).req ∧
      (r.causePresent = true ↔ (s.arm a).causePresent = true ∧ ¬CauseEndsAt s a) := by
  unfold ArmRecord.drives at hr
  rw [turned_of_out hout] at hr
  have hcount : countReached 4000 (s.arm a).stateTimer (s.dueRecord a).stateTimer = true ↔
      (s.arm a).stateTimer < 4000 ∧ 4000 ≤ (s.arm a).stateTimer + 10 := by
    rw [countReached_iff, (dueRecord_timers s a).1]
    omega
  have hbelow : s.belowRelease (s.dueRecord a) = s.belowRelease (s.readArm a) := rfl
  have hqcause : (s.dueRecord a).cause = (s.arm a).cause := rfl
  have hends : s.causeEnds a (s.arm a) (s.dueRecord a) = true ↔ CauseEndsAt s a := by
    unfold State.causeEnds CauseEndsAt
    rw [hbelow, hqcause, ← hcount]
    cases hcause : (s.arm a).cause with
    | none => simp
    | some k => cases k <;> simp
  by_cases hcond : s.causeEnds a (s.arm a) (s.dueRecord a) = true
  · have hstep : outStep s a (s.arm a) (s.dueRecord a) = { s.dueRecord a with causePresent := false } := if_pos hcond
    rw [hstep] at hr
    rw [hr]
    refine ⟨hout, rfl, rfl, rfl, ⟨fun h => absurd h (by simp), fun h => absurd (hends.mp hcond) h.2⟩⟩
  · have hstep : outStep s a (s.arm a) (s.dueRecord a) = s.dueRecord a := if_neg hcond
    rw [hstep] at hr
    rw [hr]
    exact ⟨hout, rfl, rfl, rfl, ⟨fun h => ⟨h, fun hc => hcond (hends.mpr hc)⟩, fun h => h.1⟩⟩

end Sys2Proof.Machine

namespace Sys2Proof.Machine

/-! ### The arm step as a whole (R63) -/

/-- The state that stages 1 to 5 leave. -/
@[irreducible] def State.handed (s : State) : State := armPublish (armTransitions s (armPrepare s))

/-- That state with the step's reports taken and its condition ends sent. -/
@[irreducible] def State.judged (s : State) : State := armEnds (takeReports (armReports s (armPrepare s)) s.handed)

/-- What stages 1 to 5 leave (R63 to R81). -/
theorem handed_reach (s : State) :
    (∀ a, s.handed.arm a = s.published a) ∧ s.handed.widthFollows ∧
    (∀ a, s.handed.armOuts a = (s.published a).outs (s.motorDuty a (s.published a)) ∧
      (s.handed.tma.outputs.get (pressOutput a)).applied = (s.tma.outputs.get (pressOutput a)).applied) ∧
    s.handed.travelPwm = s.travelPwm ∧ s.handed.tma.outputs.waterPump = s.tma.outputs.waterPump ∧
    s.handed.tma.outputs.nozzles = s.tma.outputs.nozzles ∧ OutputsOnly s s.handed ∧
    SameBut [.xmem, .port, .orders, .armc, .tma] s s.handed ∧ PortDone s s.handed ∧
    (s.ordersInv → s.xmemWf → Ends (fun e => ((excludedEnd s .left e).or (excludedEnd s .right e)).or (excludedEnd s .main e)) noWord s
      s.handed) ∧
    ((∀ a, s.dueExclusion a = none ∨ (s.arm a).waiting = none) → SameBut [.armc, .tma] s s.handed) := by
  obtain ⟨hturned, hframe, hport, hends, hcalm⟩ := armTransitions_turns s
  unfold State.handed
  generalize armTransitions s (armPrepare s) = u at *
  obtain ⟨harms, hwidth, houts, htravel, hpump, hnozzles, honly, hpublish⟩ := armPublish_hands hframe hturned
  generalize armPublish u = v at *
  have huv : v.port = u.port := hpublish.same .port (by decide)
  have huclock : u.tma = s.tma := hframe.same .tma (by decide)
  have hclock : v.tma.clock = u.tma.clock := by rw [honly, huclock]
  have hsame : u.SameForOrders v := ⟨hpublish.same .xmem (by decide), hpublish.same .orders (by decide), hclock, by rw [huv]⟩
  exact ⟨harms, hwidth, houts, htravel, hpump, hnozzles, honly, (hframe.mono (by simp)).trans (hpublish.mono (by simp)),
    hport.trans (.of_same huv), fun hinv hwf => (hends hinv hwf).after hsame hinv,
    fun h => ((hcalm h).mono (by simp)).trans (hpublish.mono (by simp))⟩

/-- The reports of the step ask nothing more of the arms, which are found in OUT (R124). -/
theorem armReports_out {s : State} {r : Report} (hr : r ∈ armReports s (armPrepare s)) :
    ∃ a k d, r = armOutReport a k d ∧ k.cls = .armOut ∧ s.dueExclusion a = some (k, d) := by
  obtain ⟨a, k, d, hdue, rfl⟩ := (armReports_mem s r).mp hr
  exact ⟨a, k, d, rfl, ((dueExclusion_iff s a k d).mp hdue).1.cls, hdue⟩

/-- The record of an arm after stage 5 is its record after stage 3 with its outputs. -/
theorem published_drives (s : State) (a : Arm) : (s.published a).drives (s.turned a) := rfl

/-- The arm step in its stages (R63). -/
theorem armStep_eq (s : State) : armStep s = armWaiting .main (armWaiting .right (armWaiting .left s.judged)) := by
  have hstep : armStep s = armFinish (armReports s (armPrepare s)) s.handed := by
    unfold State.handed
    rfl
  obtain ⟨harms, -⟩ := handed_reach s
  have hreact : reactAll (armReports s (armPrepare s)) (takeReports (armReports s (armPrepare s)) s.handed) =
      takeReports (armReports s (armPrepare s)) s.handed := by
    refine reactAll_of_out fun r hr => ?_
    obtain ⟨a, k, d, heq, hcls, hdue⟩ := armReports_out hr
    refine ⟨a, k, d, heq, hcls, ?_⟩
    rw [State.arm_congr ((takeReports_sameBut _ s.handed).same .armc (by decide)), harms, (published_drives s a).fields.1]
    exact ((turned_out_iff s a).2.1 k d hdue).1
  rw [hstep, armFinish, reportBatch, hreact]
  unfold State.judged
  rfl

/-- The reports and the condition ends reach the fault unit, its words and its causes (R82, R83). -/
theorem judged_reach (s : State) : SameBut [.xmem, .port, .faults] s.handed s.judged ∧ FaultAreaOnly s.handed s.judged := by
  have htake := takeReports_sameBut (armReports s (armPrepare s)) s.handed
  have harea := takeReports_faultArea (armReports s (armPrepare s)) s.handed
  unfold State.judged
  generalize takeReports (armReports s (armPrepare s)) s.handed = v at *
  obtain ⟨hends, -, -, -, hframe⟩ := armEnds_reach v
  exact ⟨htake.trans (hframe.mono (by simp)), harea.trans hends⟩

/-- With no arm's exclusion test met the active set and its word alone move (R83, R121). -/
theorem judged_unreported {s : State} (h : ∀ a, s.dueExclusion a = none) : s.judged.port = s.handed.port ∧
    ActiveOnly s.handed s.judged ∧ WordsKept (faultBase + 33) 1 s.handed s.judged := by
  have hnone : armReports s (armPrepare s) = [] := by
    rw [List.eq_nil_iff_forall_not_mem]
    intro r hr
    obtain ⟨a, k, d, -, -, hdue⟩ := armReports_out hr
    exact nomatch (h a).symm.trans hdue
  unfold State.judged
  rw [hnone]
  obtain ⟨-, hport, hactive, hwords, -⟩ := armEnds_reach s.handed
  exact ⟨hport, hactive, hwords⟩

/-- The exclusions after the step (R125). -/
theorem judged_exclusions (s : State) :
    (∀ a, s.judged.faults.exclusions.arm a = true ↔ s.faults.exclusions.arm a = true ∨ s.dueExclusion a ≠ none) ∧
    s.judged.faults.exclusions.water = s.faults.exclusions.water := by
  have hfaults : s.handed.faults = s.faults := (handed_reach s).2.2.2.2.2.2.2.1.same .faults (by decide)
  obtain ⟨harm, hwater⟩ := takeReports_exclusions (rs := armReports s (armPrepare s))
    (fun r hr => by obtain ⟨a, k, d, heq, hcls, -⟩ := armReports_out hr; exact ⟨a, k, d, heq, hcls⟩) s.handed
  have hmem := armReports_mem s
  unfold State.judged
  generalize takeReports (armReports s (armPrepare s)) s.handed = v at *
  have hactive : (armEnds v).faults.exclusions = v.faults.exclusions := by rw [(armEnds_reach v).2.2.1]
  rw [hactive, hwater, hfaults]
  refine ⟨fun a => ?_, rfl⟩
  rw [harm, hfaults]
  refine or_congr_right ⟨fun ⟨k, d, hr⟩ => ?_, fun hne => ?_⟩
  · obtain ⟨b, k', d', hdue, heq⟩ := (hmem _).mp hr
    have hb : a = b := by
      have hsource := congrArg Report.source heq
      simpa [armOutReport] using hsource
    rw [hb, hdue]
    nofun
  · obtain ⟨⟨k, d⟩, hdue⟩ := Option.ne_none_iff_exists'.mp hne
    exact ⟨k, d, (hmem _).mpr ⟨a, k, d, hdue, rfl⟩⟩

/-- The kinds active after the step (R82, R83). -/
theorem judged_isActive (s : State) (k : FaultKind) :
    (excludesArm k → (s.judged.isActive k = true ↔ (s.isActive k = true ∨ ∃ a d, s.dueExclusion a = some (k, d)) ∧
      ∃ a, (s.judged.arm a).cause = some k ∧ (s.judged.arm a).causePresent = true)) ∧
    (¬excludesArm k → s.judged.isActive k = s.isActive k) := by
  have hfaults : s.handed.faults = s.faults := (handed_reach s).2.2.2.2.2.2.2.1.same .faults (by decide)
  have hmem := armReports_mem s
  have htaken := takeReports_isActive (armReports s (armPrepare s)) s.handed k
  rw [State.isActive_congr hfaults] at htaken
  have hany : ((armReports s (armPrepare s)).any fun r => decide (k = r.kind)) = true ↔ ∃ a d, s.dueExclusion a = some (k, d) := by
    simp only [List.any_eq_true, decide_eq_true_eq, hmem]
    constructor
    · rintro ⟨r, ⟨a, k', d, hdue, rfl⟩, hk⟩
      exact ⟨a, d, by rw [hdue, hk]; rfl⟩
    · rintro ⟨a, d, hdue⟩
      exact ⟨_, ⟨a, k, d, hdue, rfl⟩, rfl⟩
  have hkinds {a : Arm} {d : Nat} (hdue : s.dueExclusion a = some (k, d)) : excludesArm k := by
    have hmet := ((dueExclusion_iff s a k d).mp hdue).1
    cases k <;> first | exact hmet.elim | simp [excludesArm]
  unfold State.judged
  generalize takeReports (armReports s (armPrepare s)) s.handed = v at *
  obtain ⟨hexcludes, hother⟩ := armEnds_isActive v k
  have harm := State.arm_congr ((armEnds_reach v).2.2.2.2.same .armc (by decide))
  refine ⟨fun hk => ?_, fun hk => ?_⟩
  · rw [hexcludes hk, htaken, Bool.or_eq_true, hany]
    simp only [harm]
  · have hnone : ((armReports s (armPrepare s)).any fun r => decide (k = r.kind)) = false := by
      refine Bool.eq_false_iff.mpr fun h => ?_
      obtain ⟨a, d, hdue⟩ := hany.mp h
      exact hk (hkinds hdue)
    rw [hother hk, htaken, hnone, Bool.or_false]

end Sys2Proof.Machine

namespace Sys2Proof.Machine

/-! ### The arm step: its orders, its faults, its frame (R64, R82, R83, R85, R149) -/

/-- The records after stage 6 are those after stage 5, an ended order gone. -/
theorem judged_arm (s : State) (a : Arm) : s.judged.arm a = s.published a := by
  rw [State.arm_congr ((judged_reach s).1.same .armc (by decide)), (handed_reach s).1 a]

/-- The outputs after the reports are those that the step hands. -/
theorem judged_tma (s : State) : s.judged.tma = s.handed.tma := (judged_reach s).1.same .tma (by decide)

/-- An arm step takes no time. -/
theorem judged_since (s : State) (x : BitVec 32) : s.judged.since x = s.since x := by
  have honly : OutputsOnly s s.handed := (handed_reach s).2.2.2.2.2.2.1
  have hclock : s.judged.tma.clock = s.tma.clock := by rw [judged_tma, honly]
  rw [State.since, hclock, State.since]

/-- Where no exclusion test is met the arm waits for the order it waited for; where one is, the order has failed (R71). -/
theorem published_waiting (s : State) (a : Arm) :
    (s.published a).waiting = if s.dueExclusion a = none then (s.arm a).waiting else none :=
  (turned_out_iff s a).2.2

/-- The record of an arm after the step. -/
theorem armStep_arm (s : State) (a : Arm) : (armStep s).arm a =
    { s.published a with waiting := (s.published a).waiting.filter fun w => (judgedEnd s.judged a w).isNone } := by
  rw [armStep_eq, (armWaitings_judge s.judged).1 a, judged_arm]

/-- It differs from the record after stage 3 in its outputs and its waiting order. -/
theorem armStep_drives (s : State) (a : Arm) : ((armStep s).arm a).drives (s.turned a) := by
  rw [armStep_arm]
  rfl

/-- How the step ends an arm's waiting order: at stage 3 with the arm's exclusion, else at stage 6 (R71, R85). -/
theorem armWaitEnd_eq (s : State) (a : Arm) (w : ArmWait) : armWaitEnd s (armStep s) a w =
    (s.dueExclusion a).elim (judgedEnd s.judged a w) fun x => some (.failed, x.1.rank) := by
  obtain ⟨hout, hexcluded, -⟩ := turned_out_iff s a
  obtain ⟨hstate, -, -, -, -, -, -, -, -, -, -, -, -, hcause, -⟩ := (armStep_drives s a).fields
  have hjudged : (s.judged.arm a).state = (s.turned a).state := by rw [judged_arm]; rfl
  unfold armWaitEnd
  rw [hstate, hcause]
  cases hdue : s.dueExclusion a with
  | none =>
    have hkept : ¬((s.turned a).state = .out ∧ (s.arm a).state ≠ .out) := fun h =>
      (hout.mp h.1).elim h.2 fun hne => hne hdue
    rw [if_neg hkept, Option.elim_none, judgedEnd, hjudged, judged_since]
  | some x =>
    have hstill : (s.arm a).state ≠ .out := fun h => nomatch (dueExclusion_of_out h).symm.trans hdue
    obtain ⟨hgone, hkind⟩ := hexcluded x.1 x.2 hdue
    rw [if_pos ⟨hgone, hstill⟩, hkind]
    rfl

/-- The waiting orders after the step (R71, R85). -/
theorem armStep_waiting (s : State) (a : Arm) :
    ((armStep s).arm a).waiting = (s.arm a).waiting.filter fun w => (armWaitEnd s (armStep s) a w).isNone := by
  simp only [armWaitEnd_eq]
  rw [armStep_arm, published_waiting]
  cases s.dueExclusion a with
  | none => rfl
  | some x => cases (s.arm a).waiting <;> rfl

/-- One open order answers one arm at most. -/
theorem armTarget_injective {a b : Arm} (h : armTarget a = armTarget b) : a = b := by
  cases a <;> cases b <;> first | rfl | exact nomatch h

/-- The first answer of the three arms. -/
theorem findSome_arms {α : Type} (f : Arm → Option α) :
    [Arm.left, .right, .main].findSome? f = (f .left).or ((f .right).or (f .main)) := by
  simp only [List.findSome?_cons, List.findSome?_nil]
  cases f .left <;> cases f .right <;> cases f .main <;> rfl

/-- How the step ends an open order of an arm (R71, R85). -/
theorem armEntryEnd_of_target {s : State} {e : Entry} {a : Arm} (h : e.target = armTarget a) :
    armEntryEnd s (armStep s) e = (excludedEnd s a e).or (judgedEntryEnd s.judged a e) := by
  have hother {b : Arm} (hb : b ≠ a) : e.target ≠ armTarget b := fun heq => hb (armTarget_injective (heq.symm.trans h))
  have hone : armEntryEnd s (armStep s) e = (s.arm a).waiting.bind fun w =>
      if w.slot = e.slot ∧ w.takeTime = e.takeTime then armWaitEnd s (armStep s) a w else none := by
    rw [armEntryEnd, findSome_arms]
    cases a
    · rw [if_pos h, if_neg (hother (b := .right) (by decide)), if_neg (hother (b := .main) (by decide)), Option.or_none, Option.or_none]
    · rw [if_neg (hother (b := .left) (by decide)), if_pos h, if_neg (hother (b := .main) (by decide)), Option.none_or, Option.or_none]
    · rw [if_neg (hother (b := .left) (by decide)), if_neg (hother (b := .right) (by decide)), if_pos h, Option.none_or, Option.none_or]
  simp only [hone, armWaitEnd_eq, excludedEnd, judgedEntryEnd, judged_arm, published_waiting, if_pos h]
  cases s.dueExclusion a with
  | none => cases (s.arm a).waiting <;> simp
  | some x => cases (s.arm a).waiting <;> simp

/-- How the step ends an open order, stage by stage. -/
theorem armEntryEnd_eq (s : State) (e : Entry) : armEntryEnd s (armStep s) e =
    (((excludedEnd s .left e).or (excludedEnd s .right e)).or (excludedEnd s .main e)).or
      (((judgedEntryEnd s.judged .left e).or (judgedEntryEnd s.judged .right e)).or (judgedEntryEnd s.judged .main e)) := by
  have hexcluded {a : Arm} (h : e.target ≠ armTarget a) : excludedEnd s a e = none := if_neg h
  have hjudged {a : Arm} (h : e.target ≠ armTarget a) : judgedEntryEnd s.judged a e = none := if_neg h
  have hother {a b : Arm} (h : e.target = armTarget a) (hb : b ≠ a) : e.target ≠ armTarget b :=
    fun heq => hb (armTarget_injective (heq.symm.trans h))
  by_cases h : ∃ a, e.target = armTarget a
  · obtain ⟨a, ha⟩ := h
    rw [armEntryEnd_of_target ha]
    cases a
    · simp [hexcluded (hother ha (b := .right) (by decide)), hexcluded (hother ha (b := .main) (by decide)),
        hjudged (hother ha (b := .right) (by decide)), hjudged (hother ha (b := .main) (by decide))]
    · simp [hexcluded (hother ha (b := .left) (by decide)), hexcluded (hother ha (b := .main) (by decide)),
        hjudged (hother ha (b := .left) (by decide)), hjudged (hother ha (b := .main) (by decide))]
    · simp [hexcluded (hother ha (b := .left) (by decide)), hexcluded (hother ha (b := .right) (by decide)),
        hjudged (hother ha (b := .left) (by decide)), hjudged (hother ha (b := .right) (by decide))]
  · have hnone (a : Arm) : e.target ≠ armTarget a := fun ha => h ⟨a, ha⟩
    simp [armEntryEnd, hexcluded (hnone _), hjudged (hnone _), hnone]

/-- The orders after the step (R71, R85, R149). -/
theorem armStep_ends {s : State} (hinv : s.ordersInv) (hwf : s.xmemWf) :
    Ends (armEntryEnd s (armStep s)) faultWord s (armStep s) := by
  obtain ⟨-, -, -, -, -, -, -, -, -, hstage, -⟩ := handed_reach s
  have hbase : faultBase = 1792 := rfl
  have hfault (a : Nat) (h : faultWord a) : 512 ≤ a := by
    unfold faultWord at h
    omega
  have hhanded := hstage hinv hwf
  have hjudged := hhanded.comp (judged_reach s).2.ends hinv (fun a h => h.elim) hfault
  have hwaits := (armWaitings_judge s.judged).2.2.2.2.1 (hjudged.ordersInv hinv) (hjudged.wf hwf)
  rw [← armStep_eq] at hwaits
  have hends := armEntryEnd_eq s
  generalize armStep s = t at *
  refine ((hjudged.comp hwaits hinv (fun a h => h.elim False.elim (hfault a)) fun a h => h.elim).mono fun a h => ?_).congr fun e _ => ?_
  · exact h.elim (fun h => h.elim False.elim id) False.elim
  · rw [hends, Option.or_none]

/-- The reach of the step (R63, R135). -/
theorem armStep_frame (s : State) : SameBut [.xmem, .port, .orders, .armc, .faults, .tma] s (armStep s) ∧ OutputsOnly s (armStep s) ∧
    (armStep s).tma = s.handed.tma ∧ (armStep s).faults = s.judged.faults ∧ (armStep s).widthFollows := by
  obtain ⟨harms, hwidth, -, -, -, -, honly, hframe, -, -, -⟩ := handed_reach s
  have hjudged := (judged_reach s).1
  obtain ⟨hrecords, hW, htma, -, -, -, hwaits⟩ := armWaitings_judge s.judged
  rw [← armStep_eq] at hrecords hW htma hwaits
  have hfaults : (armStep s).faults = s.judged.faults := hwaits.same .faults (by decide)
  have hkept : (armStep s).tma = s.handed.tma := htma.trans (judged_tma s)
  generalize armStep s = t at *
  have harmc : s.judged.armc = s.handed.armc := hjudged.same .armc (by decide)
  have hjarm := State.arm_congr harmc
  refine ⟨((hframe.mono (by simp)).trans (hjudged.mono (by simp))).trans (hwaits.mono (by simp)), honly.trans (.of_same hkept), hkept,
    hfaults, hwidth.of_arms (hW.trans (congrArg (fun m : ArmControl => m.width) harmc)) (fun b => ?_) fun b => ?_⟩
  · rw [hrecords b, hjarm]
  · rw [hrecords b, hjarm]

end Sys2Proof.Machine

namespace Sys2Proof.Machine

/-! ### The arm step: its faults and the causes it raises (R82, R83, R121, R125) -/

/-- The exclusions after the step (R125). -/
theorem armStep_exclusions (s : State) :
    (∀ a, (armStep s).faults.exclusions.arm a = true ↔ s.faults.exclusions.arm a = true ∨ s.dueExclusion a ≠ none) ∧
    (∀ a, s.dueExclusion a = none → (armStep s).faults.exclusions.arm a = s.faults.exclusions.arm a) ∧
    (armStep s).faults.exclusions.water = s.faults.exclusions.water := by
  obtain ⟨hlatched, hwater⟩ := judged_exclusions s
  rw [(armStep_frame s).2.2.2.1]
  refine ⟨hlatched, fun a hdue => Bool.eq_iff_iff.mpr ((hlatched a).trans ?_), hwater⟩
  simp [hdue]

/-- The kinds present after the step (R82, R83). -/
theorem armStep_isActive (s : State) (k : FaultKind) :
    (excludesArm k → ((armStep s).isActive k = true ↔ (s.isActive k = true ∨ ∃ a d, FirstExclusion s a k d) ∧
      ∃ a, ((armStep s).arm a).cause = some k ∧ ((armStep s).arm a).causePresent = true)) ∧
    (¬excludesArm k → (armStep s).isActive k = s.isActive k) := by
  obtain ⟨hexcludes, hother⟩ := judged_isActive s k
  have hcause (a : Arm) : ((armStep s).arm a).cause = (s.judged.arm a).cause ∧
      ((armStep s).arm a).causePresent = (s.judged.arm a).causePresent := by
    rw [armStep_arm, judged_arm]
    exact ⟨rfl, rfl⟩
  rw [State.isActive_congr (armStep_frame s).2.2.2.1]
  simp only [dueExclusion_iff] at hexcludes
  simp only [hcause]
  exact ⟨hexcludes, hother⟩

/-- With no order waiting at an arm, stage 6 ends none. -/
theorem armStep_of_unwaited {s : State} (h : ∀ a, (s.arm a).waiting = none) : armStep s = s.judged ∧
    SameBut [.armc, .tma] s s.handed := by
  obtain ⟨-, -, -, -, -, -, -, -, -, -, hcalm⟩ := handed_reach s
  refine ⟨?_, hcalm fun a => .inr (h a)⟩
  rw [armStep_eq]
  refine (armWaitings_judge s.judged).2.2.2.2.2.1 fun a => ?_
  rw [judged_arm, published_waiting, h]
  split <;> rfl

/-- With no order waiting at an arm the orders stand, and of exchange memory every word but those of the faults (R82, R121). -/
theorem armStep_unwaited {s : State} (h : ∀ a, (s.arm a).waiting = none) :
    (armStep s).orders = s.orders ∧ WordsKept faultBase 35 s (armStep s) := by
  obtain ⟨heq, hframe⟩ := armStep_of_unwaited h
  have harea := (judged_reach s).2
  have horders : s.handed.orders = s.orders := hframe.same .orders (by decide)
  rw [heq]
  exact ⟨harea.orders.trans horders, (WordsKept.of_xmem (hframe.same .xmem (by decide))).trans harea.words⟩

/-- With no exclusion test met the fault unit but for its active set stands, and of the causes all but ORDER_DONE; with no order waiting
either, the port and every word but that of the active set (R83, R121). -/
theorem armStep_unexcluded {s : State} (h : ∀ a, s.dueExclusion a = none) :
    (armStep s).faults = { s.faults with active := (armStep s).faults.active } ∧ CausesKept false s (armStep s) ∧
    (armStep s).port = { s.port with pendingSet := (armStep s).port.pendingSet } ∧
    ((∀ a, (s.arm a).waiting = none) → (armStep s).port = s.port ∧ WordsKept (faultBase + 33) 1 s (armStep s)) := by
  obtain ⟨-, -, -, -, -, -, -, hframe, hhanded, -, -⟩ := handed_reach s
  obtain ⟨hport, hactive, hwords⟩ := judged_unreported h
  have hfaults : s.handed.faults = s.faults := hframe.same .faults (by decide)
  have hwaits := (armWaitings_judge s.judged).2.2.2.1
  rw [← armStep_eq] at hwaits
  obtain ⟨b, hb⟩ : PortDone s (armStep s) := (hhanded.trans (.of_same hport)).trans hwaits
  refine ⟨?_, fun i hi => ?_, ?_, fun hnone => ?_⟩
  · rw [(armStep_frame s).2.2.2.1, hactive, hfaults]
  · rw [hb, HostPort.notifyDone_other b s.port hi, Bool.false_and, Bool.or_false]
  · rw [hb]
    exact HostPort.notifyDone_eq b s.port
  · obtain ⟨heq, hcalm⟩ := armStep_of_unwaited hnone
    have hkept : s.handed.port = s.port := hcalm.same .port (by decide)
    rw [heq]
    exact ⟨hport.trans hkept, (WordsKept.of_xmem (hcalm.same .xmem (by decide))).trans hwords⟩

/-! ### The arm step: the outputs that it hands (R29, R73 to R77) -/

/-- A raise valve is open in LIFTING and RAISING, and in OUT for 4 s (R71, R73). -/
theorem raiseValve_iff (r : ArmRecord) :
    raiseValve r = true ↔ r.state = .lifting ∨ r.state = .raising ∨ (r.state = .out ∧ r.stateTimer < 4000) := by
  unfold raiseValve
  cases r.state <;> simp

/-- The trim of a record after the step (R77). -/
theorem armStep_trim {s : State} {a : Arm} {r : ArmRecord} (h : r = (armStep s).arm a) :
    r.trim = if rotates r = true ∧ 1500 ≤ r.spinUp ∧ s.valid (brushChannel a) = true then
      clampInt (-150) 150 ((s.arm a).trim + roundDiv (((r.target : Int) - r.measured) * s.kBrush) 256) else 0 := by
  obtain ⟨hstate, -, -, -, -, -, -, hmeasured, htarget, hspin, -⟩ := (armStep_drives s a).fields
  rw [← h] at hstate hmeasured htarget hspin
  have hrotates : rotates r = rotates (s.turned a) := by rw [rotates, hstate, rotates]
  have htrim : r.trim = s.nextBrushTrim a (s.turned a) := by
    rw [h, armStep_arm]
    rfl
  rw [htrim, hrotates, hmeasured, htarget, hspin, State.nextBrushTrim]
  by_cases hcond : rotates (s.turned a) = true ∧ 1500 ≤ (s.turned a).spinUp ∧ s.valid (brushChannel a) = true
  · rw [if_pos hcond]
    obtain ⟨hturns, hfull, hvalid⟩ := hcond
    rw [if_neg (by simp [hturns]), if_neg (by simp [hfull, hvalid]), turned_trim hturns hfull]
  · rw [if_neg hcond]
    by_cases hturns : rotates (s.turned a) = true
    · have hsilent : (s.turned a).spinUp < 1500 ∨ ¬s.valid (brushChannel a) := by
        by_contra hno
        obtain ⟨hfull, hvalid⟩ := not_or.mp hno
        exact hcond ⟨hturns, Nat.not_lt.mp hfull, not_not.mp hvalid⟩
      rw [if_neg (by simp [hturns]), if_pos hsilent]
    · rw [if_pos (by simpa using hturns)]

/-- The readings, the target and the pressure of a record after the step (R63, R74, R75). -/
theorem armStep_reads (s : State) (a : Arm) :
    ((armStep s).arm a).target = s.modc.profile.brushSpeed a * s.loadm.scale / 1000 ∧
    ((armStep s).arm a).measured = s.brushSpeed a ∧ ((armStep s).arm a).swing = (s.readArm a).swing ∧
    ((armStep s).arm a).press =
      if ((armStep s).arm a).state = .working then s.evalAt pressureCurveBase (s.modc.profile.downPressure a) else 0 := by
  rw [armStep_arm]
  obtain ⟨htarget, hmeasured, hswing⟩ := turned_reads s a
  exact ⟨htarget, hmeasured, hswing, rfl⟩

/-- The reach of a side arm after the step (R29, R81). -/
theorem armStep_reach (s : State) (side : Side) : ((armStep s).arm side.arm).reach =
    if ((armStep s).arm side.arm).state = .working ∨ ((armStep s).arm side.arm).state = .deflected then
      s.evalAt (reachTableBase side) ((armStep s).arm side.arm).swing else 0 := by
  have hreach (r : ArmRecord) : s.reachOf side.arm r =
      if r.state = .working ∨ r.state = .deflected then s.evalAt (reachTableBase side) r.swing else 0 := by
    rw [State.reachOf, armSide_arm]
  rw [armStep_arm]
  exact hreach (s.turned side.arm)

/-- The swing angle of a side arm as a step reads it (R63). -/
theorem readArm_swing (s : State) (side : Side) : (s.readArm side.arm).swing =
    if s.valid (swingChannel side) then (s.channel (swingChannel side)).2 - 50 else (s.arm side.arm).swing := by
  have hnext : (s.readArm side.arm).swing = s.nextSwing side.arm (s.arm side.arm).swing := rfl
  rw [hnext, State.nextSwing, armSide_arm]
  rfl

/-- The outputs of an arm after the step (R73, R74, R77, R135). -/
theorem armStep_outputs (s : State) (a : Arm) :
    (armStep s).tma.outputs.lower a = decide (((armStep s).arm a).state = .lowering) ∧
    ((armStep s).tma.outputs.raise a = true ↔ ((armStep s).arm a).state = .lifting ∨ ((armStep s).arm a).state = .raising ∨
      (((armStep s).arm a).state = .out ∧ ((armStep s).arm a).stateTimer < 4000)) ∧
    ((armStep s).tma.outputs.get (pressOutput a)).held = ((armStep s).arm a).press ∧
    ((armStep s).tma.outputs.get (pressOutput a)).applied = (s.tma.outputs.get (pressOutput a)).applied ∧
    (((armStep s).tma.outputs.get (motorOutput a)).held : Int) =
      if rotates ((armStep s).arm a) then
        clampInt 0 1000 ((s.evalAt (brushCurveBase a) ((armStep s).arm a).target : Int) + ((armStep s).arm a).trim) else 0 := by
  obtain ⟨-, -, houts, -⟩ := handed_reach s
  obtain ⟨hhanded, happlied⟩ := houts a
  rw [armStep_arm, (armStep_frame s).2.2.1]
  have hfields (r : ArmRecord) (m : Nat) (h : s.handed.armOuts a = r.outs m) : s.handed.tma.outputs.lower a = lowerValve r ∧
      s.handed.tma.outputs.raise a = raiseValve r ∧ (s.handed.tma.outputs.get (pressOutput a)).held = r.press ∧
      (s.handed.tma.outputs.get (motorOutput a)).held = m := by
    injection h with h1 h2 h3 h4
    exact ⟨h1, h2, h3, h4⟩
  obtain ⟨hlower, hraise, hpress, hmotor⟩ := hfields _ _ hhanded
  rw [hlower, hraise, hpress, hmotor, happlied, raiseValve_iff]
  generalize s.published a = r
  refine ⟨rfl, Iff.rfl, rfl, rfl, ?_⟩
  have hrotates (w : Option ArmWait) : rotates { r with waiting := w } = rotates r := rfl
  rw [hrotates, State.motorDuty]
  split
  next => exact Int.toNat_of_nonneg (le_max_left _ _)
  next => rfl

end Sys2Proof.Machine

namespace Sys2Proof.Machine

/-! ### Which arms meet no exclusion test (R64, R82) -/

theorem timerDue_of_short {limit v : Nat} {x : Timer} (h : ∀ v', x = some v' → v' < v) (hv : v + 10 ≤ limit) :
    timerDue limit 10 x = false := by
  cases x with
  | none => simp [timerDue, timerReached, timerFollow, timerAt]; omega
  | some w =>
    have hw := h w rfl
    simp [timerDue, timerReached, timerFollow, timerAt]
    omega

/-- A record whose timers are short of their limits meets no exclusion test (R82). -/
theorem shortOfExclusion.meets_none {s : State} {a : Arm} (h : shortOfExclusion (s.arm a)) (k : FaultKind) (d : Nat) :
    ¬ExclusionMet s a k d := by
  obtain ⟨hstuck, hangle, hdeflection, hstall, hsilence⟩ := h
  have hlost : timerDue 200 10 (s.arm a).angleLoss = false := timerDue_of_short hangle (by decide)
  have hstalled : timerDue 500 10 (s.arm a).stall = false := timerDue_of_short hstall (by decide)
  have hsilent : timerDue 1000 10 (s.arm a).silence = false := timerDue_of_short hsilence (by decide)
  intro hmet
  cases k
  case armStuck => exact absurd hmet.1 (by have := hmet.2.1; omega)
  case armAngleLost =>
    obtain ⟨side, -, -, -, hdue, -⟩ := hmet
    exact nomatch hlost.symm.trans hdue
  case armDeflectLong => exact absurd hmet.2.1 (by omega)
  case brushStall =>
    obtain ⟨-, -, -, ⟨-, -, hdue, -⟩ | ⟨-, hdue, -⟩⟩ := hmet
    · exact nomatch hstalled.symm.trans hdue
    · exact nomatch hsilent.symm.trans hdue
  all_goals exact hmet

/-- An arm at rest in STOWED, or one that RAISING has brought to its UP input, meets none (R70, R82). -/
theorem ExclusionMet.of_resting {s : State} {a : Arm}
    (h : (s.arm a).state = .stowed ∨ ((s.arm a).state = .raising ∧ s.input (upInput a) = true)) (k : FaultKind) (d : Nat) :
    ¬ExclusionMet s a k d := by
  intro hmet
  obtain hstate | ⟨hstate, hup⟩ := h
  · cases k <;> simp [ExclusionMet, judgesSwing, rotates, hstate] at hmet
  · cases k <;> simp [ExclusionMet, judgesSwing, rotates, hstate, hup] at hmet

/-- ARM_STUCK is the first of the tests in rank order (R82). -/
theorem ExclusionMet.armStuck_first {s : State} {a : Arm} {d : Nat} (h : ExclusionMet s a .armStuck d) :
    FirstExclusion s a .armStuck d := by
  refine ⟨h, fun k d' hmet => ?_⟩
  cases k
  case armStuck => exact le_rfl
  case armAngleLost | armDeflectLong | brushStall => decide
  all_goals exact hmet.elim

/-! ### The one move of R64 -/

/-- A record that has made the move of R64 with its timers. -/
def MadeMove (s : State) (a : Arm) (r : ArmRecord) : Prop := (∀ st, NextArmState s a st → r.state = st) ∧ ArmTimersFollow s a r

/-- An arm that is not in OUT and meets no test makes its move at the step (R64). -/
theorem armStep_madeMove {s : State} {a : Arm} (hstate : (s.arm a).state ≠ .out) (h : ∀ k d, ¬ExclusionMet s a k d) :
    MadeMove s a ((armStep s).arm a) := by
  have hdue := (dueExclusion_none_iff s a).mpr h
  have hdrives := armStep_drives s a
  exact ⟨(moved_keeps hstate hdue hdrives).1, armTimersFollow_of_moved hstate hdue hdrives⟩

section Moves

variable {s : State} {a : Arm} {r : ArmRecord}

/-- A move to another state clears the timers of motion (R64). -/
theorem MadeMove.left (h : MadeMove s a r) {st : ArmState} (hnext : NextArmState s a st) (hne : st ≠ (s.arm a).state) :
    r.state = st ∧ r.stateTimer = 0 ∧ r.deflection = 0 ∧ r.ret = none := by
  obtain ⟨hstate, htimer, -, -, -, hcleared, -⟩ := h
  have hst := hstate st hnext
  have hmoved : r.state ≠ (s.arm a).state := hst ▸ hne
  obtain ⟨-, hret, hdeflection⟩ := hcleared hmoved
  rw [if_neg hmoved] at htimer
  exact ⟨hst, htimer, hdeflection, hret⟩

/-- A motor that stops, or starts from rest, begins its spin-up anew (R76). -/
theorem MadeMove.spunDown (h : MadeMove s a r) {st : ArmState} (hnext : NextArmState s a st) (hturns : motorTurns (s.arm a).state st) :
    r.spinUp = 0 := by
  obtain ⟨hstate, -, hstops, -⟩ := h
  exact (hstops ((hstate st hnext).symm ▸ hturns)).1

/-- A rotating arm asked to stow rises (R64). -/
theorem NextArmState.of_stow (hrotates : rotates (s.arm a) = true) (hreq : (s.arm a).req = .stowed) :
    NextArmState s a .raising := by
  unfold NextArmState
  rw [if_pos ⟨hrotates, hreq⟩]

/-- A side arm on the road is lifted in reverse (R53, R64). -/
theorem NextArmState.of_reverse (hside : a ≠ .main) (hstate : (s.arm a).state = .lowering ∨ (s.arm a).state = .working ∨
      (s.arm a).state = .deflected) (hreq : (s.arm a).req ≠ .stowed) (hreverse : s.reverseState = true) :
    NextArmState s a .lifting := by
  unfold NextArmState
  rw [if_neg fun h => hreq h.2, if_pos ⟨hside, hreverse, hstate⟩]

/-- An arm asked down lowers from STOWED, and from RAISING that has not reached its UP input (R65, R70). -/
theorem NextArmState.of_goesDown (hstate : (s.arm a).state = .stowed ∨ ((s.arm a).state = .raising ∧ s.input (upInput a) = false))
    (hdown : s.goesDown a) : NextArmState s a .lowering := by
  unfold NextArmState
  obtain hstate | ⟨hstate, hup⟩ := hstate
  · simp [hstate, rotates, hdown]
  · simp [hstate, rotates, hdown, hup]

/-- RAISING ends at the UP input (R70). -/
theorem NextArmState.of_raised (hstate : (s.arm a).state = .raising) (hup : s.input (upInput a) = true) : NextArmState s a .stowed := by
  unfold NextArmState
  simp [hstate, rotates, hup]

/-- LOWERING ends at the DOWN input (R66). -/
theorem NextArmState.of_lowered (hstate : (s.arm a).state = .lowering) (hdown : s.input (downInput a) = true)
    (hahead : a = .main ∨ s.reverseState = false) : ((s.arm a).req = .working → NextArmState s a .working) ∧
      ((s.arm a).req = .hover → a ≠ .main → NextArmState s a .lifting) := by
  have hnoReverse : ¬(a ≠ .main ∧ s.reverseState = true ∧ ((s.arm a).state = .lowering ∨ (s.arm a).state = .working ∨
      (s.arm a).state = .deflected)) := fun h => hahead.elim h.1 fun hno => Bool.false_ne_true (hno.symm.trans h.2.1)
  refine ⟨fun hreq => ?_, fun hreq hside => ?_⟩
  · unfold NextArmState
    rw [if_neg (by simp [hreq]), if_neg hnoReverse, hstate]
    simp [hdown, hreq]
  · unfold NextArmState
    rw [if_neg (by simp [hreq]), if_neg hnoReverse, hstate]
    simp [hdown, hreq, hside]

/-- WORKING goes on until the swing passes the threshold (R66, R67). -/
theorem NextArmState.of_working (hside : a ≠ .main) (hstate : (s.arm a).state = .working) (hreq : (s.arm a).req = .working)
    (hahead : s.reverseState = false) : (s.deflectThreshold < (s.readArm a).swing → NextArmState s a .deflected) ∧
      ((s.readArm a).swing ≤ s.deflectThreshold → NextArmState s a .working) := by
  unfold NextArmState
  generalize (s.readArm a).swing = angle
  refine ⟨fun hfar => ?_, fun hnear => ?_⟩
  · simp [hstate, hreq, hahead, hside, hfar]
  · simp [hstate, hreq, hahead, hside, Nat.not_lt.mpr hnear]

/-- An arm on the road asked to hover is lifted (R66, R67). -/
theorem NextArmState.of_hover (hside : a ≠ .main) (hstate : (s.arm a).state = .working ∨ (s.arm a).state = .deflected)
    (hreq : (s.arm a).req = .hover) (hahead : s.reverseState = false) : NextArmState s a .lifting := by
  unfold NextArmState
  obtain hstate | hstate := hstate <;> simp [hstate, hreq, hahead, hside]

/-- DEFLECTED returns once the swing has held below the release level for 300 ms (R67). -/
theorem NextArmState.of_deflected (hstate : (s.arm a).state = .deflected) (hreq : (s.arm a).req = .working)
    (hahead : s.reverseState = false) : NextArmState s a
      (if s.belowRelease (s.readArm a) = true ∧ (timerDue 300 10 (s.arm a).ret || timerAt 300 (s.arm a).ret) = true then .working
       else .deflected) := by
  have hnext (P : Prop) [Decidable P] : if P then (if P then ArmState.working else .deflected) = .working
      else (if P then ArmState.working else .deflected) = .deflected := by
    split <;> rfl
  have hstays : ¬(rotates (s.arm a) = true ∧ (s.arm a).req = .stowed) := by simp [hreq]
  have hnoReverse : ¬(a ≠ .main ∧ s.reverseState = true ∧ ((s.arm a).state = .lowering ∨ (s.arm a).state = .working ∨
      (s.arm a).state = .deflected)) := by simp [hahead]
  have hroad : (s.arm a).req ≠ .hover := by simp [hreq]
  unfold NextArmState
  rw [if_neg hstays, if_neg hnoReverse, hstate]
  dsimp only
  rw [if_neg hroad]
  exact hnext _

/-- LIFTING ends 300 ms after the DOWN input is left (R68). -/
theorem NextArmState.of_lifting (hstate : (s.arm a).state = .lifting) (hreq : (s.arm a).req ≠ .stowed) :
    (s.input (downInput a) = true ∨ (s.arm a).hover = none → NextArmState s a .lifting) ∧
      (s.input (downInput a) = false → timerDue 300 10 (s.arm a).hover = true → NextArmState s a .hover) := by
  unfold NextArmState
  refine ⟨fun hwaits => ?_, fun hup hdue => ?_⟩
  · obtain hdown | hnone := hwaits
    · simp [hstate, hreq, hdown]
    · simp [hstate, hreq, hnone, timerDue, timerReached, timerFollow, timerAt]
  · simp [hstate, hreq, hup, hdue]

/-- HOVER holds, and lowers again when asked to work (R69). -/
theorem NextArmState.of_hovering (hstate : (s.arm a).state = .hover) :
    ((s.arm a).req = .hover → NextArmState s a .hover) ∧
      ((s.arm a).req = .working → s.reverseState = false → s.modc.mode = .engaging ∨ s.modc.mode = .sweeping →
        NextArmState s a .lowering) := by
  unfold NextArmState
  refine ⟨fun hreq => ?_, fun hreq hahead hmode => ?_⟩
  · simp [hstate, hreq]
  · simp [hstate, hreq, hahead, hmode]

end Moves

end Sys2Proof.Machine

namespace Sys2Proof.Machine

/-! ### O51: the arm step -/

/-- A side arm is not MAIN. -/
theorem sideArm_ne_main (side : Side) : side.arm ≠ .main := by
  cases side <;> decide

/-- What DEFLECTED comes to, as the statement says it (R67). -/
theorem deflected_end {below : Bool} {due at' near : Prop} [Decidable due] [Decidable at'] [Decidable near]
    (hbelow : below = true ↔ near) :
    (if below = true ∧ (due ∨ at') then ArmState.working else .deflected) =
      if near ∧ due then .working else if at' ∧ near then .working else .deflected := by
  by_cases hnear : near
  · by_cases hdue : due <;> simp [hbelow, hnear, hdue]
  · simp [hbelow, hnear]

/-- The moves of the arms on the road, between their states of rotation (R66, R67). -/
theorem MadeMove.onRoad {s : State} {side : Side} {r : ArmRecord} (h : MadeMove s side.arm r) (hahead : s.reverseState = false)
    (hswing : r.swing = (s.readArm side.arm).swing) :
    ((s.arm side.arm).state = .working → (s.arm side.arm).req = .working →
      (s.deflectThreshold < r.swing → r.state = .deflected ∧ r.stateTimer = 0 ∧ r.deflection = 0 ∧ r.ret = none) ∧
      (r.swing ≤ s.deflectThreshold → r.state = .working)) ∧
    ((s.arm side.arm).state = .working ∨ (s.arm side.arm).state = .deflected → (s.arm side.arm).req = .hover →
      r.state = .lifting ∧ r.stateTimer = 0) ∧
    ((s.arm side.arm).state = .deflected → (s.arm side.arm).req = .working → r.state =
      if r.swing + s.deflectHysteresis ≤ s.deflectThreshold ∧ timerDue 300 10 (s.arm side.arm).ret = true then
        .working else if timerAt 300 (s.arm side.arm).ret = true ∧
          r.swing + s.deflectHysteresis ≤ s.deflectThreshold then .working else .deflected) := by
  have hside := sideArm_ne_main side
  rw [hswing]
  refine ⟨fun hstate hreq => ?_, fun hstate hreq => ?_, fun hstate hreq => ?_⟩
  · obtain ⟨hfar, hnear⟩ := NextArmState.of_working hside hstate hreq hahead
    exact ⟨fun hpast => h.left (hfar hpast) (by simp [hstate]), fun hshort => h.1 _ (hnear hshort)⟩
  · obtain ⟨hlifted, htimer, -⟩ := h.left (NextArmState.of_hover hside hstate hreq hahead) (by rcases hstate with h | h <;> simp [h])
    exact ⟨hlifted, htimer⟩
  · rw [h.1 _ (NextArmState.of_deflected hstate hreq hahead)]
    simp only [Bool.or_eq_true]
    exact deflected_end (by simp [State.belowRelease])

/-- The moves of a side arm off the road, LIFTING and HOVER (R68, R69). -/
theorem MadeMove.offRoad {s : State} {side : Side} {r : ArmRecord} (h : MadeMove s side.arm r) :
    ((s.arm side.arm).state = .lifting → (s.arm side.arm).req ≠ .stowed →
      ((s.input (downInput side.arm) = true ∨ (s.arm side.arm).hover = none) → r.state = .lifting) ∧
      (s.input (downInput side.arm) = false → timerDue 300 10 (s.arm side.arm).hover = true →
        r.state = .hover ∧ r.stateTimer = 0)) ∧
    ((s.arm side.arm).state = .hover → ((s.arm side.arm).req = .hover → r.state = .hover) ∧
      ((s.arm side.arm).req = .working → s.reverseState = false → s.modc.mode = .engaging ∨ s.modc.mode = .sweeping →
        r.state = .lowering ∧ r.stateTimer = 0 ∧ r.spinUp = min 1500 ((s.arm side.arm).spinUp + 10))) := by
  refine ⟨fun hstate hreq => ?_, fun hstate => ?_⟩
  · obtain ⟨hwaits, hends⟩ := NextArmState.of_lifting hstate hreq
    refine ⟨fun hwait => h.1 _ (hwaits hwait), fun hup hdue => ?_⟩
    obtain ⟨hhover, htimer, -⟩ := h.left (hends hup hdue) (by simp [hstate])
    exact ⟨hhover, htimer⟩
  · obtain ⟨hstays, hlowers⟩ := NextArmState.of_hovering hstate
    refine ⟨fun hreq => h.1 _ (hstays hreq), fun hreq hahead hmode => ?_⟩
    obtain ⟨hlowering, htimer, -⟩ := h.left (hlowers hreq hahead hmode) (by simp [hstate])
    obtain ⟨-, -, -, hruns, -⟩ := h
    have hrotates : rotates (s.arm side.arm) = true := by simp [rotates, hstate]
    have hspin := (hruns (by simp [motorTurns, hstate, hlowering])).1
    rw [if_pos hrotates] at hspin
    exact ⟨hlowering, htimer, hspin⟩

/-- Settles O51. -/
theorem armStepDrivesTheArms : Obligations.ArmStepDrivesTheArms := by
  intro s hrun
  have hmoved {a : Arm} := armStep_madeMove (s := s) (a := a)
  have hdrives := armStep_drives s
  have hreads := armStep_reads s
  have htrim (a : Arm) := armStep_trim (s := s) (a := a) rfl
  have hreach := armStep_reach s
  have houts := armStep_outputs s
  obtain ⟨hlatched, hstood, hwater⟩ := armStep_exclusions s
  have hactive := armStep_isActive s
  have hwaiting := armStep_waiting s
  have hends := armStep_ends (s := s)
  have hunwaited := armStep_unwaited (s := s)
  have hunexcluded := armStep_unexcluded (s := s)
  obtain ⟨hframe, honly, htma, -, hwidth⟩ := armStep_frame s
  obtain ⟨-, -, -, htravel, hpump, hnozzles, -⟩ := handed_reach s
  rw [← htma] at hpump hnozzles
  rw [← State.travelPwm_congr (s := s.handed) (t := armStep s) (by rw [htma])] at htravel
  refine ⟨armStep s, atStep_of_running (f := armStep) hrun, ?_⟩
  generalize armStep s = t at *
  have hshort {a : Arm} (hstate : (s.arm a).state ≠ .out) (h : shortOfExclusion (s.arm a)) : MadeMove s a (t.arm a) :=
    hmoved hstate h.meets_none
  have hside (side : Side) := sideArm_ne_main side
  have hfirst {a : Arm} {k : FaultKind} {d : Nat} (h : FirstExclusion s a k d) :=
    excluded_record ((dueExclusion_iff s a k d).mpr h) (hdrives a)
  have hlatches {a : Arm} {k : FaultKind} {d : Nat} (h : FirstExclusion s a k d) : t.faults.exclusions.arm a = true :=
    (hlatched a).mpr (.inr fun hnone => nomatch hnone.symm.trans ((dueExclusion_iff s a k d).mpr h))
  refine ⟨fun a => ?_, hreach, fun side => ?_, hwidth, fun a hrotates hreq hfar => ?_, fun side hstate hreq hback hfar => ?_,
    fun a hstate hreq hmode hahead => ?_, fun a hstate hdown hahead hfar => ?_, fun side hstate hreq hahead hfar => ?_,
    fun side hstate hreq hahead hfar => ?_, fun side hstate hreq hahead hfar => ?_, fun side hstate hreq hfar => ?_,
    fun side hstate hfar => ?_, fun a hstate hup => ?_, fun a d hmet => ?_, fun a k d hmet => ?_, fun a hout => ?_,
    fun a hstate hnone => ?_, fun a hnone => hstood a ((dueExclusion_none_iff s a).mpr hnone), hwater, fun k => (hactive k).1,
    fun k => (hactive k).2, hwaiting, fun hinv hwf => ?_, hunwaited,
    fun hnone => hunexcluded fun a => (dueExclusion_none_iff s a).mpr (hnone a), congrArg Prod.fst htravel, congrArg Prod.snd htravel,
    hpump, hnozzles, hframe, honly⟩
  · obtain ⟨htarget, hmeasured, -, hpress⟩ := hreads a
    exact ⟨htarget, hmeasured, hpress, htrim a, houts a⟩
  · exact (hreads side.arm).2.2.1.trans (readArm_swing s side)
  · have hstate : (s.arm a).state ≠ .out := fun h => by simp [rotates, h] at hrotates
    have hnext := NextArmState.of_stow hrotates hreq
    have hne : ArmState.raising ≠ (s.arm a).state := fun h => by simp [rotates, ← h] at hrotates
    have hmove := hshort hstate hfar
    obtain ⟨hraising, htimer, -⟩ := hmove.left hnext hne
    exact ⟨hraising, htimer, hmove.spunDown hnext (.inl ⟨rfl, hne.symm⟩)⟩
  · have hreverse : s.reverseState = true := by simpa [State.reverseState] using hback
    have hnext := NextArmState.of_reverse (hside side) hstate hreq hreverse
    have hmove := hshort (by rcases hstate with h | h | h <;> simp [h]) hfar
    obtain ⟨hlifting, htimer, -⟩ := hmove.left hnext (by rcases hstate with h | h | h <;> simp [h])
    exact ⟨hlifting, htimer⟩
  · have hmove : MadeMove s a (t.arm a) := by
      obtain hstowed | ⟨hraising, -, hfar⟩ := hstate
      · exact hmoved (by simp [hstowed]) (ExclusionMet.of_resting (.inl hstowed))
      · exact hshort (by simp [hraising]) hfar
    have hfrom : (s.arm a).state = .stowed ∨ (s.arm a).state = .raising := hstate.imp_right And.left
    have hnext := NextArmState.of_goesDown (hstate.imp_right fun h => ⟨h.1, h.2.1⟩) ⟨hreq, hmode, hahead⟩
    obtain ⟨hlowering, htimer, -⟩ := hmove.left hnext (by rcases hfrom with h | h <;> simp [h])
    exact ⟨hlowering, htimer, hmove.spunDown hnext (.inr ⟨rfl, hfrom⟩)⟩
  · have hmove := hshort (by simp [hstate]) hfar
    obtain ⟨hworking, hlifting⟩ := NextArmState.of_lowered hstate hdown hahead
    refine ⟨fun hreq => ?_, fun hreq hne => ?_⟩
    · obtain ⟨hst, htimer, -⟩ := hmove.left (hworking hreq) (by simp [hstate])
      exact ⟨hst, htimer⟩
    · obtain ⟨hst, htimer, -⟩ := hmove.left (hlifting hreq hne) (by simp [hstate])
      exact ⟨hst, htimer⟩
  · exact ((hshort (by simp [hstate]) hfar).onRoad hahead (hreads side.arm).2.2.1).1 hstate hreq
  · exact ((hshort (by rcases hstate with h | h <;> simp [h]) hfar).onRoad hahead (hreads side.arm).2.2.1).2.1 hstate hreq
  · exact ((hshort (by simp [hstate]) hfar).onRoad hahead (hreads side.arm).2.2.1).2.2 hstate hreq
  · exact (hshort (by simp [hstate]) hfar).offRoad.1 hstate hreq
  · exact (hshort (by simp [hstate]) hfar).offRoad.2 hstate
  · have hmove := hmoved (by simp [hstate]) (ExclusionMet.of_resting (.inr ⟨hstate, hup⟩))
    obtain ⟨hstowed, htimer, -⟩ := hmove.left (NextArmState.of_raised hstate hup) (by simp [hstate])
    exact ⟨hstowed, htimer⟩
  · obtain ⟨hout, -, hcause, hpresent, -⟩ := hfirst hmet.armStuck_first
    exact ⟨hout, hcause, hpresent, hlatches hmet.armStuck_first⟩
  · obtain ⟨hout, htimer, hcause, hpresent, hreq, hspin, hstall, hsilence, hangle⟩ := hfirst hmet
    exact ⟨hout, htimer, hcause, hpresent, hreq, hspin, hstall, hsilence, hangle, hlatches hmet⟩
  · exact out_record hout (hdrives a)
  · obtain ⟨hnext, hreq, hcause, hpresent⟩ := moved_keeps hstate ((dueExclusion_none_iff s a).mpr hnone) (hdrives a)
    exact ⟨hnext, (hmoved hstate hnone).2, hreq, hcause, hpresent⟩
  · have hended := hends hinv hwf
    exact ⟨endedTogether_of_ends hended, fun b hkept hb => hended.words b hkept (by unfold faultWord; omega)⟩

end Sys2Proof.Machine
